-- ==== Sys2Proof/Word.lean ====
section
/-! DEFINITION. The word types of the RN-240: bytes on the wire, 16-bit words and station addresses,
32-bit counters, and the timers of the part. -/

namespace Sys2Proof

/-- One byte of a frame or of a line message. -/
abbrev Byte := BitVec 8

/-- A two-byte number as it travels on the wire, high byte first (R72). -/
abbrev Word := BitVec 16

/-- A station address (R1). -/
abbrev Addr := BitVec 16

/-- A counter: an unsigned 32-bit quantity that wraps to 0 (R199). -/
abbrev Counter := BitVec 32

/-- A timer of the part: stopped, or running with the moment (in milliseconds of the model's clock) at
which it expires (R2; assumption 1). -/
abbrev Timer := Option Nat

end Sys2Proof
end

