-- ==== Sys2Proof/Syntax.lean ====
section
/-! DEFINITION. The commands that reach the RN-240: one constructor of `Instr` for each row of
spec/opcode_table.json, with the operands the row's event or request carries. -/

namespace Sys2Proof

/-- The three ports of the node (chapter Roadline Frames and Forwarding). -/
inductive Port where
  | outbye | inbye | radio
  deriving DecidableEq, Repr

/-- The two backbone ports, the only ones with a link state (R90). -/
inductive Backbone where
  | outbye | inbye
  deriving DecidableEq, Repr

/-- The backbone port as one of the three ports. -/
def Backbone.port : Backbone → Port
  | .outbye => .outbye
  | .inbye => .inbye

/-- The four routable outputs (R153, R154). -/
inductive Output where
  | siren | strobe | faultLine | aux
  deriving DecidableEq, Repr

/-- Who sent a management request, with which tag, and on which port it arrived: what the RESPONSE needs
(R190). -/
structure Request where
  tag    : Byte
  source : Addr
  port   : Port
  deriving DecidableEq, Repr

/-- The four fields of a grade entry in a channel record, as words (R177). -/
structure EntryFields where
  enabled : Word
  level   : Word
  band    : Word
  hold    : Word
  deriving DecidableEq, Repr

/-- The twenty fields of a channel record in canonical order, as words (R177). -/
structure ChannelFields where
  enabled     : Word
  scope       : Word
  gas         : Word
  offset      : Word
  gain        : Word
  shift       : Word
  alert       : EntryFields
  alarm       : EntryFields
  trip        : EntryFields
  faultAction : Word
  stale       : Word
  deriving DecidableEq, Repr

/-- The fields of a poll record, in the order of the table of section 2.1 (R192). -/
structure PollFields where
  enabled  : Byte
  address  : Word
  kind     : Byte
  interval : Byte
  deriving DecidableEq, Repr

/-- The fields of a pin window (R177). -/
structure PinFields where
  valid : Word
  base  : Word
  mask  : Word
  deriving DecidableEq, Repr

/-- The fields of a watch entry, in the order of the table of section 3.6 (R192). -/
structure WatchFields where
  enabled : Byte
  address : Word
  deriving DecidableEq, Repr

/-- The fields of a permit range (R177). -/
structure PermitFields where
  low     : Word
  high    : Word
  miner   : Word
  vehicle : Word
  deriving DecidableEq, Repr

/-- The four patterns of a route record (R177). -/
structure RouteFields where
  siren     : Word
  strobe    : Word
  faultLine : Word
  aux       : Word
  deriving DecidableEq, Repr

/-- The fields of a shed entry (R177). -/
structure ShedFields where
  enabled : Word
  input   : Word
  gate    : Word
  level   : Word
  deriving DecidableEq, Repr

/-- The fields of the PARAMETERS record in the order of R193; the masks are bit strings (R195). -/
structure ParameterFields where
  control    : Word
  presence   : Byte
  route      : Byte
  setup      : Byte
  lease      : Byte
  airReport  : Byte
  status     : Byte
  isolation  : Byte
  repeatTime : Byte
  door       : Byte
  trigger    : Byte
  follow     : Byte
  airMask    : BitVec 56
  callMask   : Byte
  truckMask  : Byte
  refugeMask : Byte
  nodeMask   : Byte
  deriving DecidableEq, Repr

/-- The commands of spec/opcode_table.json: the events that reach the part and the management requests the
surface makes of it. A request row carries the request as the management unit takes it (R189); its index
and arguments are the numbers on the wire, so that a value outside its list can be named too. -/
inductive Instr where
  /-- COLD_START: the strap pins and the link states the line interfaces report (R6, R93). -/
  | coldStart (straps : Byte) (outbyeUp inbyeUp : Bool)
  /-- FRAME_RECEIVED: a port controller receives a run of bytes (R78). -/
  | frameReceived (port : Port) (bytes : List Byte)
  /-- FRAME_SENT: the port has finished sending its frame (R162). -/
  | frameSent (port : Port)
  /-- LINK_DOWN: loss of signal on a backbone port (R90). -/
  | linkDown (port : Backbone)
  /-- LINK_UP: signal restored on a backbone port (R90). -/
  | linkUp (port : Backbone)
  /-- LINE_MESSAGE_RECEIVED: a message from the field line (R42). -/
  | lineMessageReceived (bytes : List Byte)
  | replyTimerExpiry
  | recordDue
  | staleTimerExpiry (channel : Fin 16)
  | airReportTimerExpiry
  | ageTick
  | relayAgeTick
  | setupTimerExpiry (leg : Fin 8)
  | leaseTimerExpiry
  | repeatTimerExpiry
  | doorTick
  /-- SUPPLY_SAMPLE: the readings of the three supply inputs, before clamping (R168). -/
  | supplySample (mainsPresent : Bool) (battery : Nat) (temperature : Int)
  | scanStep
  | suspensionTimerExpiry
  | isolationTimerExpiry
  | statusTimerExpiry
  | outputCadenceToggle (output : Output)
  | readRecordChannel (rq : Request) (index : Word)
  | readRecordPoll (rq : Request) (index : Word)
  | readRecordPoller (rq : Request) (index : Word)
  | readRecordStation (rq : Request) (index : Word)
  | readRecordStationSummary (rq : Request) (index : Word)
  | readRecordPin (rq : Request) (index : Word)
  | readRecordWatch (rq : Request) (index : Word)
  | readRecordPort (rq : Request) (index : Word)
  | readRecordLeg (rq : Request) (index : Word)
  | readRecordCalls (rq : Request) (index : Word)
  | readRecordPermit (rq : Request) (index : Word)
  | readRecordSegment (rq : Request) (index : Word)
  | readRecordPanel (rq : Request) (index : Word)
  | readRecordEvacuation (rq : Request) (index : Word)
  | readRecordRoute (rq : Request) (index : Word)
  | readRecordOutputs (rq : Request) (index : Word)
  | readRecordPlan (rq : Request) (index : Word)
  | readRecordEgress (rq : Request) (index : Word)
  | readRecordShed (rq : Request) (index : Word)
  | readRecordSupply (rq : Request) (index : Word)
  | readRecordIntegrity (rq : Request) (index : Word)
  | readRecordParameters (rq : Request) (index : Word)
  | readRecordFlags (rq : Request) (index : Word)
  | readRecordManagement (rq : Request) (index : Word)
  | loadRecordChannel (rq : Request) (index : Word) (fields : ChannelFields)
  | loadRecordPoll (rq : Request) (index : Word) (fields : PollFields)
  | loadRecordPin (rq : Request) (index : Word) (fields : PinFields)
  | loadRecordWatch (rq : Request) (index : Word) (fields : WatchFields)
  | loadRecordPermit (rq : Request) (index : Word) (fields : PermitFields)
  | loadRecordRoute (rq : Request) (index : Word) (fields : RouteFields)
  | loadRecordPlan (rq : Request) (index : Word) (value : Byte)
  | loadRecordShed (rq : Request) (index : Word) (fields : ShedFields)
  | loadRecordParameters (rq : Request) (index : Word) (fields : ParameterFields)
  | setCheck (rq : Request) (value : Word)
  | selectPlan (rq : Request) (bank : Byte)
  | resetTrip (rq : Request) (channel : Byte)
  | testChannel (rq : Request) (channel : Byte) (value : Word) (count : Byte)
  | evacuate (rq : Request)
  | standDown (rq : Request)
  | closeSegment (rq : Request)
  | openSegment (rq : Request)
  | releaseSegment (rq : Request)
  | cancelSos (rq : Request) (unit : Word)
  | clearFlags (rq : Request) (group : Byte) (flags : BitVec 56)
  | ackAttention (rq : Request) (group : Byte)
  | clearCounters (rq : Request)
  | restart (rq : Request)
  deriving DecidableEq, Repr

end Sys2Proof
end

