-- ==== Sys2Proof/Decode.lean ====
section
/-! DEFINITION. The decoder of the opcode table. No row of spec/opcode_table.json gives bits: a command of
the RN-240 is an event or a request, and requests travel inside frames, whose bytes `FRAME_RECEIVED` carries
(Machine/Wire.lean and Machine/Walk.lean read them). So no word spells a command by the table's bits. -/

namespace Sys2Proof

/-- The command a word spells by the table's bits: none, for no row has bits. -/
def decodeTableWord (_nbits _w : Nat) : Option Instr := none

end Sys2Proof
end

