-- ==== Sys2Proof/Config.lean ====
section
/-! DEFINITION. What the manual leaves to the outside: constants without a body, so that no proof can see
their values. -/

namespace Sys2Proof

/-- The n-th reading of the three supply inputs that the machine takes of itself on the sample tick of its
own clock: mains present, battery millivolts, die temperature (R168; assumption 3). -/
opaque Config.supplyReading : Nat → Bool × Nat × Int

/-- The via node byte of a radio frame sent by a node whose strap pins give it no address: R73 asks for the
node's own address, and it has none (R91; assumption 8). -/
opaque Config.viaWithoutAddress : BitVec 8

end Sys2Proof
end

