-- ==== Sys2Proof/Machine/Types.lean ====
section
/-! DEFINITION. The data of the RN-240's twelve blocks: the named values, the tables' records and the state
each block owns (chapter About this manual, section Inside the RN-240). -/

namespace Sys2Proof.Machine

/-! ### Named values -/

/-- The kinds of station (R1). -/
inductive StationKind where
  | node | fieldDevice | miner | vehicle | surface
  deriving DecidableEq, Repr

/-- The units of a timer setting (R2). -/
inductive TimeUnit where
  | ms10 | ms100 | s1 | s10
  deriving DecidableEq, Repr

/-- A timer setting: a unit and a count from 0 to 31 (R2). -/
structure TimerSetting where
  unit  : TimeUnit
  count : Fin 32
  deriving DecidableEq, Repr

/-- Air grades, NORMAL < ALERT < ALARM < TRIP (R3). -/
inductive Grade where
  | normal | alert | alarm | trip
  deriving DecidableEq, Repr

/-- Output patterns, OFF < SLOW < FAST < STEADY (R4). -/
inductive Pattern where
  | off | slow | fast | steady
  deriving DecidableEq, Repr

/-- Call priorities, ROUTINE < URGENT < EMERGENCY (R5). -/
inductive Priority where
  | routine | urgent | emergency
  deriving DecidableEq, Repr

/-- Traffic classes in code order (R76). -/
inductive TrafficClass where
  | alarm | voice | signal | air | telem | mgmt
  deriving DecidableEq, Repr

/-- The message kinds of R76. -/
inductive FrameKind where
  | zoneGrade | sos | sosCancel | evacuateOrder | standDownOrder | refugeBreach | refugeAir
  | voice
  | announce | callSetup | callAlerting | callAnswer | callClear | entryRequest | exitNotice | grant
  | wait | refuseEntry | withdraw | proximity | evacNotice | evacAck | musterReport
  | airReport
  | vehicleTelemetry | unitTelemetry
  | request | response | nodeStatus | beacon | locateReport
  deriving DecidableEq, Repr

/-- Which grade a channel feeds (section 1.1). -/
inductive Scope where
  | zone | refuge
  deriving DecidableEq, Repr

/-- Gas kinds (R8). -/
inductive Gas where
  | ch4 | co | o2 | airv
  deriving DecidableEq, Repr

/-- Grading directions (R8). -/
inductive Direction where
  | rising | falling
  deriving DecidableEq, Repr

/-- The grade a channel claims while in FAULT (section 1.1). -/
inductive FaultAction where
  | alert | alarm | trip
  deriving DecidableEq, Repr

/-- Status of a reading (R7, R77). -/
inductive ReadingStatus where
  | ok | fault | warmup
  deriving DecidableEq, Repr

/-- Channel states (R18). -/
inductive ChannelState where
  | off | warming | live | fault
  deriving DecidableEq, Repr

/-- Kinds of field device (section 2.1). -/
inductive DeviceKind where
  | gasHead | refugePanel
  deriving DecidableEq, Repr

/-- States of a poll record (section 2.1). -/
inductive PollState where
  | idleUnseen | responding | silent
  deriving DecidableEq, Repr

/-- Station locations (R51). -/
inductive Location where
  | radioHere | fieldHere | viaOutbye | viaInbye | unknown
  deriving DecidableEq, Repr

/-- Muster marks of miner entries (R51, R146). -/
inductive Muster where
  | none | notified | inRefuge
  deriving DecidableEq, Repr

/-- States of a call leg (R94). -/
inductive LegState where
  | idle | originating | ringing | active | clearing
  deriving DecidableEq, Repr

/-- Direction of a call leg (R94). -/
inductive LegDirection where
  | orig | term
  deriving DecidableEq, Repr

/-- Clear causes in coding order (R95). -/
inductive ClearCause where
  | normal | noAnswer | notPermitted | restricted | nodeBusy | idInUse | preempted | glare | moved | shed
  | evacuating
  deriving DecidableEq, Repr

/-- Segment states in coding order (R119). -/
inductive SegmentState where
  | free | held | draining | lost | closed
  deriving DecidableEq, Repr

/-- Travel directions in coding order (R119). -/
inductive Heading where
  | inbye | outbye
  deriving DecidableEq, Repr

/-- Causes of a REFUSE ENTRY in coding order (R122). -/
inductive EntryRefusal where
  | closed | queueFull
  deriving DecidableEq, Repr

/-- The evacuation state (R138). -/
inductive EvacState where
  | quiet | evacuate
  deriving DecidableEq, Repr

/-- A refuge chamber's door (R77, R148). -/
inductive Door where
  | closed | opened
  deriving DecidableEq, Repr

/-- A refuge panel's supply (R77, R148). -/
inductive PanelSupply where
  | mains | battery
  deriving DecidableEq, Repr

/-- The eleven sources of the output router in index order (R153). -/
inductive Source where
  | zoneAlert | zoneAlarm | zoneTrip | evacuate | sosActive | refugeBreach | refugeAir | proximity
  | sensorFault | integrityFault | isolated
  deriving DecidableEq, Repr

/-- The two plan banks (section 8.3). -/
inductive Bank where
  | zero | one
  deriving DecidableEq, Repr

/-- A plan entry: a class other than ALARM, or END (section 8.3). -/
inductive PlanEntry where
  | voice | signal | air | telem | mgmt | stop
  deriving DecidableEq, Repr

/-- Which reading a shed entry watches (section 8.6). -/
inductive ShedInput where
  | battery | temperature
  deriving DecidableEq, Repr

/-- The integrity state in coding order (R183). -/
inductive IntegrityState where
  | checking | suspended | fault
  deriving DecidableEq, Repr

/-- The five groups of attention flags in code order (R195). -/
inductive Group where
  | air | call | truck | refuge | node
  deriving DecidableEq, Repr

/-- Causes of a RESPONSE in coding order (R190); a DONE response carries NONE. -/
inductive Cause where
  | none | badTable | badIndex | badValue | badBand | badOrder | tripLatched | activeBank | stillBeyond | busy
  | notLost | gradeHigh | evacuating | flagsSet
  deriving DecidableEq, Repr

/-- Outcome of a channel test (R33). -/
inductive TestOutcome where
  | complete | aborted
  deriving DecidableEq, Repr

/-! ### Roadline frames and the ports -/

/-- A roadline frame without its framing: what the walk and the queues carry (R72, R73). The kind is the raw
code, since a frame of an unknown kind is forwarded unchanged (R76). -/
structure Frame where
  cls     : TrafficClass
  kind    : BitVec 5
  hop     : BitVec 5
  dest    : Addr
  src     : Addr
  seq     : Byte
  payload : List Byte
  deriving DecidableEq, Repr

/-- A message a local block originates, before it is given its header (R91). -/
structure Message where
  kind    : FrameKind
  dest    : Addr
  payload : List Byte
  deriving DecidableEq, Repr

/-- The frame in transmission on a port: the frame, its bytes on the line, and whether it is the response to
an accepted RESTART (R159, R200). -/
structure Transmission where
  frame   : Frame
  wire    : List Byte
  restart : Bool
  deriving DecidableEq, Repr

/-- One counter per traffic class (R159). -/
structure ClassCounters where
  alarm  : Counter := 0
  voice  : Counter := 0
  signal : Counter := 0
  air    : Counter := 0
  telem  : Counter := 0
  mgmt   : Counter := 0
  deriving DecidableEq, Repr

/-- The six class queues of a port, each oldest first (R159). -/
structure Queues where
  alarm  : List Frame := []
  voice  : List Frame := []
  signal : List Frame := []
  air    : List Frame := []
  telem  : List Frame := []
  mgmt   : List Frame := []
  deriving DecidableEq, Repr

/-- The egress counters of a port (R167). -/
structure EgressCounters where
  drops        : ClassCounters := {}
  replacements : Counter := 0
  flushed      : Counter := 0
  deriving DecidableEq, Repr

/-- The egress side of a port: queues, the frame in transmission, the RESTART response that goes ahead of the
queues, and the port's place in its plan (R159 to R164, R200). -/
structure Egress where
  queues      : Queues := {}
  sending     : Option Transmission := none
  ahead       : Option Frame := none
  active      : Bank := .zero
  position    : Fin 32 := 0
  pendingBank : Option Bank := none
  counters    : EgressCounters := {}
  deriving DecidableEq, Repr

/-- The counters of a port (R92). -/
structure PortCounters where
  framesReceived  : Counter := 0
  lengthErrors    : Counter := 0
  checkErrors     : Counter := 0
  classErrors     : Counter := 0
  addressErrors   : Counter := 0
  framesAccepted  : Counter := 0
  hopExpired      : Counter := 0
  duplicateAlarms : Counter := 0
  ownReturns      : Counter := 0
  hairpins        : Counter := 0
  noRoute         : Counter := 0
  fieldDiscards   : Counter := 0
  unknownKinds    : Counter := 0
  payloadErrors   : Counter := 0
  noOwner         : Counter := 0
  downDrops       : Counter := 0
  linkChanges     : Counter := 0
  framesSent      : Counter := 0
  deriving DecidableEq, Repr

/-- A port: its link state (RADIO is always up, R90), its counters and its egress side. -/
structure PortState where
  up       : Bool
  counters : PortCounters := {}
  egress   : Egress := {}
  deriving DecidableEq, Repr

/-- An entry of the alarm relay list (section 4.3). -/
structure RelayEntry where
  origin : Addr
  seq    : Byte
  age    : Nat
  deriving DecidableEq, Repr

/-- The two plan banks, 32 entries each (section 8.3). -/
structure Banks where
  zero : Vector PlanEntry 32
  one  : Vector PlanEntry 32
  deriving DecidableEq, Repr

/-- The port controllers, the forwarding engine and the egress scheduler: the strap pins as read at cold
start, the three ports, the relay list (oldest first) with its tick, the sequence counters and the plan banks
(R93, section 4.3, R91, section 8.3). -/
structure Net where
  straps    : Byte
  outbye    : PortState
  inbye     : PortState
  radio     : PortState
  relay     : List RelayEntry
  relayTick : Nat
  alarmSeq  : Byte
  frameSeq  : Byte
  banks     : Banks
  deriving DecidableEq, Repr

/-! ### Field poller -/

/-- A poll record's loaded fields (section 2.1). -/
structure PollConfig where
  enabled  : Bool
  address  : Addr
  kind     : DeviceKind
  interval : TimerSetting
  deriving DecidableEq, Repr

/-- A poll record with its dynamic state: state, miss count, due time (section 2.1). -/
structure PollRecord where
  config : PollConfig
  state  : PollState
  misses : Nat
  due    : Option Nat
  deriving DecidableEq, Repr

/-- The poll in flight: record, device, sequence, and the POLL's bytes on the line (R41, R77). -/
structure InFlight where
  index   : Fin 8
  address : Addr
  seq     : Byte
  wire    : List Byte
  deriving DecidableEq, Repr

/-- The poller's counters (R48). -/
structure PollerCounters where
  pollsSent           : Counter := 0
  repliesTaken        : Counter := 0
  pollMisses          : Counter := 0
  lateReplies         : Counter := 0
  misaddressedReplies : Counter := 0
  badReplies          : Counter := 0
  deriving DecidableEq, Repr

/-- The field poller. The line is POLLING exactly while a poll is in flight. -/
structure Poller where
  records    : Vector PollRecord 8
  inFlight   : Option InFlight
  replyTimer : Timer
  sequence   : Byte
  counters   : PollerCounters
  deriving DecidableEq, Repr

/-- One reading as a field device sends it (R77). -/
structure Reading where
  raw    : Word
  status : ReadingStatus
  deriving DecidableEq, Repr

/-- The panel contents of a PANEL REPLY (R46). -/
structure PanelContents where
  door      : Door
  occupancy : Nat
  tags      : List Addr
  supply    : PanelSupply
  deriving DecidableEq, Repr

/-- A well-formed reply on the field line (R77). -/
structure Reply where
  address : Addr
  seq     : Byte
  first   : Reading
  second  : Reading
  panel   : Option PanelContents
  deriving DecidableEq, Repr

/-! ### Air evaluator -/

/-- A grade entry's loaded fields (section 1.1). -/
structure EntryConfig where
  enabled : Bool
  level   : Nat
  band    : Nat
  hold    : Nat
  deriving DecidableEq, Repr

/-- A grade entry's dynamic state: SET or CLEAR, and the run count (R15). -/
structure EntryState where
  set : Bool
  run : Nat
  deriving DecidableEq, Repr

/-- A channel record's loaded fields (section 1.1). -/
structure ChannelRecord where
  enabled     : Bool
  scope       : Scope
  gas         : Gas
  offset      : Nat
  gain        : Nat
  shift       : Nat
  alert       : EntryConfig
  alarm       : EntryConfig
  trip        : EntryConfig
  faultAction : FaultAction
  stale       : TimerSetting
  deriving DecidableEq, Repr

/-- A channel test: the shadow copy, what was asked, how many samples were fed, and the request to answer
(R32, R33, R190). -/
structure ChannelTest where
  request : Request
  value   : Nat
  count   : Nat
  fed     : Nat
  average : Option Nat
  alert   : EntryState
  alarm   : EntryState
  trip    : EntryState
  deriving DecidableEq, Repr

/-- A channel: its record and its dynamic state. The average is `none` while unseeded (R13). -/
structure Channel where
  record     : ChannelRecord
  state      : ChannelState
  lastStatus : Option ReadingStatus
  staleMark  : Bool
  staleTimer : Timer
  value      : Nat
  average    : Option Nat
  alert      : EntryState
  alarm      : EntryState
  trip       : EntryState
  effective  : Grade
  test       : Option ChannelTest
  deriving DecidableEq, Repr

/-- The air evaluator: 16 channels, the two grades, the trip output and the air report timer. -/
structure Air where
  channels    : Vector Channel 16
  zone        : Grade
  refuge      : Grade
  tripOutput  : Bool
  reportTimer : Timer
  deriving DecidableEq, Repr

/-! ### Station table -/

/-- A station entry. Its kind follows from its address (R51). -/
structure Entry where
  address  : Addr
  location : Location
  age      : Nat
  pinned   : Bool
  mark     : Muster
  attach   : Option Addr
  deriving DecidableEq, Repr

/-- A pin window (section 3.4). -/
structure PinWindow where
  valid : Bool
  base  : Word
  mask  : Word
  deriving DecidableEq, Repr

/-- A watch entry (section 3.6). -/
structure Watch where
  enabled : Bool
  address : Addr
  deriving DecidableEq, Repr

/-- The station table's counters (R69). -/
structure TableCounters where
  stationsLearned : Counter := 0
  evictions       : Counter := 0
  agedOut         : Counter := 0
  learnFailures   : Counter := 0
  locateReports   : Counter := 0
  deriving DecidableEq, Repr

/-- The station table: entries in ascending address order, pin windows, watch entries, the age tick and the
counters. -/
structure Table where
  entries  : List Entry
  pins     : Vector PinWindow 4
  watches  : Vector Watch 4
  ageTick  : Nat
  counters : TableCounters
  deriving DecidableEq, Repr

/-! ### Leg table -/

/-- A call id: originating node and serial (R95). -/
structure CallId where
  node   : Byte
  serial : Byte
  deriving DecidableEq, Repr

/-- A call leg (R94); `partner` is the other leg of a call between two units of this node (R103). -/
structure Leg where
  state        : LegState
  callId       : CallId
  direction    : LegDirection
  localParty   : Addr
  remoteParty  : Addr
  priority     : Priority
  setupTimer   : Timer
  lastVoice    : Option Byte
  voiceIn      : Counter
  voiceOut     : Counter
  voiceDropped : Counter
  lastCause    : Option ClearCause
  partner      : Option (Fin 8)
  deriving DecidableEq, Repr

/-- A permit range (section 5.3). -/
structure PermitRange where
  low     : Addr
  high    : Addr
  miner   : Bool
  vehicle : Bool
  deriving DecidableEq, Repr

/-- The leg table's counters (R116). -/
structure CallCounters where
  setupsTaken   : Counter := 0
  setupsRefused : Counter := 0
  preemptions   : Counter := 0
  limitClears   : Counter := 0
  setupTimeouts : Counter := 0
  straySignals  : Counter := 0
  voiceStrays   : Counter := 0
  deriving DecidableEq, Repr

/-- The leg table: 8 legs, the start list (oldest first), 4 permit ranges, counters. -/
structure Calls where
  legs      : Vector Leg 8
  startList : List (Fin 8)
  permits   : Vector PermitRange 4
  counters  : CallCounters
  deriving DecidableEq, Repr

/-! ### Segment arbiter -/

/-- The set of closure causes (R120). -/
structure Causes where
  air     : Bool
  surface : Bool
  startup : Bool
  deriving DecidableEq, Repr

/-- A vehicle with its direction: the holder, or an entry of the wait queue (section 6.1). -/
structure Truck where
  vehicle   : Addr
  direction : Heading
  deriving DecidableEq, Repr

/-- The segment arbiter's counters (R135). -/
structure SegmentCounters where
  grantsSent       : Counter := 0
  waitsSent        : Counter := 0
  entryRefusals    : Counter := 0
  withdrawsSent    : Counter := 0
  leaseLosses      : Counter := 0
  strayExits       : Counter := 0
  badEntryFrames   : Counter := 0
  proximityNotices : Counter := 0
  deriving DecidableEq, Repr

/-- The segment arbiter: the segment record (section 6.1), the lease timer, and what it follows of the local
population: the miner count and whether the holder is at RADIO_HERE (R133). -/
structure Segment where
  state      : SegmentState
  holder     : Option Truck
  causes     : Causes
  queue      : List Truck
  lease      : Timer
  minerCount : Nat
  holderHere : Bool
  counters   : SegmentCounters
  deriving DecidableEq, Repr

/-! ### Evacuation controller and output router -/

/-- A refuge panel record; `filled` is false for an empty record (R148). -/
structure Panel where
  filled    : Bool
  door      : Door
  occupancy : Nat
  tags      : List Addr
  supply    : PanelSupply
  doorAge   : Nat
  breach    : Bool
  deriving DecidableEq, Repr

/-- A route record: a pattern for each routable output (R154). -/
structure Route where
  siren     : Pattern
  strobe    : Pattern
  faultLine : Pattern
  aux       : Pattern
  deriving DecidableEq, Repr

/-- A routable output line: the pattern it shows, whether the line is asserted, and the end of the current
half-period of SLOW or FAST (R155). -/
structure Line where
  pattern  : Pattern
  asserted : Bool
  cadence  : Timer
  deriving DecidableEq, Repr

/-- The four routable output lines. -/
structure Lines where
  siren     : Line
  strobe    : Line
  faultLine : Line
  aux       : Line
  deriving DecidableEq, Repr

/-- The evacuation controller's counters (R156). -/
structure EvacCounters where
  evacEntries       : Counter := 0
  noticesSent       : Counter := 0
  acksTaken         : Counter := 0
  strayAcks         : Counter := 0
  musterReports     : Counter := 0
  ordersDiscarded   : Counter := 0
  standDownsRefused : Counter := 0
  breaches          : Counter := 0
  sosTaken          : Counter := 0
  sosOverflows      : Counter := 0
  deriving DecidableEq, Repr

/-- The evacuation controller and the output router. -/
structure Evacuation where
  state       : EvacState
  repeatTimer : Timer
  panels      : Vector Panel 8
  sos         : List Addr
  routes      : Vector Route 11
  lines       : Lines
  doorTick    : Nat
  counters    : EvacCounters
  deriving DecidableEq, Repr

/-- The muster tally (R147). -/
structure Tally where
  present  : Nat
  notified : Nat
  inRefuge : Nat
  deriving DecidableEq, Repr

/-! ### Supply monitor -/

/-- A supply sample: mains, battery in mV, temperature in degrees (R168). -/
structure Sample where
  mains       : Bool
  battery     : Nat
  temperature : Int
  deriving DecidableEq, Repr

/-- A shed entry's loaded fields (section 8.6). -/
structure ShedConfig where
  enabled : Bool
  input   : ShedInput
  gate    : Int
  level   : Nat
  deriving DecidableEq, Repr

/-- A shed entry with its matching (section 8.6). -/
structure ShedEntry where
  config   : ShedConfig
  matching : Bool
  deriving DecidableEq, Repr

/-- The supply monitor's counters (R173). -/
structure SupplyCounters where
  shedChanges : Counter := 0
  mainsLosses : Counter := 0
  deriving DecidableEq, Repr

/-- The supply monitor. -/
structure Supply where
  sample     : Sample
  entries    : Vector ShedEntry 4
  shedLevel  : Nat
  sampleTick : Nat
  counters   : SupplyCounters
  deriving DecidableEq, Repr

/-! ### Integrity scanner -/

/-- The counters that READ RECORD INTEGRITY returns (R184). -/
structure IntegrityCounters where
  scansCompleted     : Counter := 0
  mismatches         : Counter := 0
  suspensions        : Counter := 0
  suspensionExpiries : Counter := 0
  isolations         : Counter := 0
  deriving DecidableEq, Repr

/-- The integrity scanner (section 9.3). -/
structure Integrity where
  state           : IntegrityState
  storedCheck     : Word
  lastCheck       : Option Word
  position        : Nat
  runningCrc      : Word
  scanTimer       : Timer
  suspensionTimer : Timer
  counters        : IntegrityCounters
  deriving DecidableEq, Repr

/-! ### Management unit -/

/-- The masks of the five groups (R195). -/
structure Masks where
  air    : BitVec 56
  call   : BitVec 56
  truck  : BitVec 56
  refuge : BitVec 56
  node   : BitVec 56
  deriving DecidableEq, Repr

/-- PARAMETERS (R193). -/
structure Parameters where
  control    : Addr
  presence   : TimerSetting
  route      : TimerSetting
  setup      : TimerSetting
  lease      : TimerSetting
  airReport  : TimerSetting
  status     : TimerSetting
  isolation  : TimerSetting
  repeatTime : TimerSetting
  door       : TimerSetting
  trigger    : Grade
  follow     : Nat
  masks      : Masks
  deriving DecidableEq, Repr

/-- The detailed flags of a group, flag n in bit n, and the group's summary (R195). -/
structure FlagGroup where
  flags   : BitVec 56 := 0
  summary : Bool := false
  deriving DecidableEq, Repr

/-- The attention flags (R195). -/
structure Attention where
  air    : FlagGroup := {}
  call   : FlagGroup := {}
  truck  : FlagGroup := {}
  refuge : FlagGroup := {}
  node   : FlagGroup := {}
  deriving DecidableEq, Repr

/-- The management unit's counters (R199). -/
structure MgmtCounters where
  requestsTaken     : Counter := 0
  requestsRefused   : Counter := 0
  foreignMgmt       : Counter := 0
  beacons           : Counter := 0
  statusReports     : Counter := 0
  restartsAbandoned : Counter := 0
  deriving DecidableEq, Repr

/-- The management unit: PARAMETERS, attention flags, the status timer, isolation, the pending restart mark
and its counters. The tag, source and port of an outstanding TEST CHANNEL stand in the channel's test. -/
structure Mgmt where
  parameters     : Parameters
  attention      : Attention
  statusTimer    : Timer
  isolated       : Bool
  isolationTimer : Timer
  restartPending : Bool
  counters       : MgmtCounters
  deriving DecidableEq, Repr

/-! ### The model's own bookkeeping -/

/-- Marks that live within one event: whether a MUSTER REPORT has been sent in it (R147) and which vehicles
have been sent a WITHDRAW in it (R130). -/
structure Scratch where
  mustered  : Bool := false
  withdrawn : List Addr := []
  deriving DecidableEq, Repr

end Sys2Proof.Machine
end

