-- ==== Sys2Proof/Machine/Codes.lean ====
section
/-! DEFINITION. Orders and codings of the named values (R1 to R5, R75 to R77, R177), and the index lists the
blocks walk. -/

namespace Sys2Proof.Machine

/-! ### Fixed-size tables -/

/-- The legs in index order (R94). -/
def legIndices : List (Fin 8) := [0, 1, 2, 3, 4, 5, 6, 7]

/-- The poll records, and the refuge panel records, in index order. -/
def pollIndices : List (Fin 8) := [0, 1, 2, 3, 4, 5, 6, 7]

/-- The channels in index order (R7). -/
def channelIndices : List (Fin 16) := [0, 1, 2, 3, 4, 5, 6, 7, 8, 9, 10, 11, 12, 13, 14, 15]

/-- The shed entries in index order. -/
def shedIndices : List (Fin 4) := [0, 1, 2, 3]

/-- A fixed-size table with `f` applied to every element. -/
def mapTable {α β : Type} {n : Nat} (f : α → β) (v : Vector α n) : Vector β n :=
  ⟨⟨v.toList.map f⟩, by simp⟩

/-! ### Station addresses (R1) -/

/-- The broadcast address. -/
def broadcast : Addr := 0xFFFF

/-- The kind of station an address names; none for an invalid address and for broadcast (R1). -/
def stationKind (a : Addr) : Option StationKind :=
  let n := a.toNat
  if n = 0 then none
  else if n ≤ 0x00FA then some .node
  else if n ≤ 0x0FFF then none
  else if n ≤ 0x1FFF then some .fieldDevice
  else if n ≤ 0x7FFF then some .miner
  else if n ≤ 0x8FFF then some .vehicle
  else if n ≤ 0xFFEF then none
  else if n ≤ 0xFFFE then some .surface
  else none

/-- The address is a miner unit's. -/
def isMiner (a : Addr) : Bool := stationKind a == some .miner

/-- The address is a vehicle unit's. -/
def isVehicle (a : Addr) : Bool := stationKind a == some .vehicle

/-- The address is a surface station's. -/
def isSurface (a : Addr) : Bool := stationKind a == some .surface

/-- The address is a roadway node's. -/
def isNode (a : Addr) : Bool := stationKind a == some .node

/-- The address is a miner or vehicle unit's. -/
def isUnit (a : Addr) : Bool := isMiner a || isVehicle a

/-- The kind of an entry follows from its address (R51). -/
def Entry.kind (e : Entry) : Option StationKind := stationKind e.address

/-! ### Timer settings (R2, R75) -/

/-- A unit in milliseconds. -/
def TimeUnit.ms : TimeUnit → Nat
  | .ms10 => 10
  | .ms100 => 100
  | .s1 => 1000
  | .s10 => 10000

/-- The duration of a setting in milliseconds: unit times count (R2). -/
def TimerSetting.ms (t : TimerSetting) : Nat := t.unit.ms * t.count.val

/-- The two-bit code of a unit (R75). -/
def TimeUnit.code : TimeUnit → BitVec 2
  | .ms10 => 0
  | .ms100 => 1
  | .s1 => 2
  | .s10 => 3

/-- The unit of a two-bit code (R75). -/
def TimeUnit.ofCode (c : BitVec 2) : TimeUnit :=
  if c = 0 then .ms10 else if c = 1 then .ms100 else if c = 2 then .s1 else .s10

/-- A setting as one byte: the unit in the upper 2 bits, the count in the lower 5 (R75); bit 5 is sent
as zero. -/
def TimerSetting.byte (t : TimerSetting) : Byte :=
  t.unit.code ++ (0 : BitVec 1) ++ BitVec.ofNat 5 t.count.val

/-- The setting a byte carries (R75): bit 5 is not read. -/
def TimerSetting.ofByte (b : Byte) : TimerSetting :=
  ⟨TimeUnit.ofCode (b.extractLsb' 6 2), (b.extractLsb' 0 5).toFin⟩

/-! ### Grades, patterns, priorities (R3, R4, R5) -/

/-- Grade codes in order (R75). -/
def Grade.code : Grade → Nat
  | .normal => 0
  | .alert => 1
  | .alarm => 2
  | .trip => 3

/-- The grade of a code. -/
def Grade.ofCode (n : Nat) : Option Grade :=
  if n = 0 then some .normal else if n = 1 then some .alert
  else if n = 2 then some .alarm else if n = 3 then some .trip else none

/-- The grade is at least `b` (R3). -/
def Grade.atLeast (a b : Grade) : Bool := decide (b.code ≤ a.code)

/-- The higher of two grades (R3). -/
def Grade.higher (a b : Grade) : Grade := if a.code ≤ b.code then b else a

/-- The maximum of a collection, NORMAL when it is empty (R3). -/
def Grade.maximum (l : List Grade) : Grade := l.foldr Grade.higher .normal

/-- Pattern codes in order of strength (R4, R177). -/
def Pattern.code : Pattern → Nat
  | .off => 0
  | .slow => 1
  | .fast => 2
  | .steady => 3

/-- The pattern of a code. -/
def Pattern.ofCode (n : Nat) : Option Pattern :=
  if n = 0 then some .off else if n = 1 then some .slow
  else if n = 2 then some .fast else if n = 3 then some .steady else none

/-- The stronger of two patterns (R4). -/
def Pattern.stronger (a b : Pattern) : Pattern := if a.code ≤ b.code then b else a

/-- Priority codes in order (R5, R75). -/
def Priority.code : Priority → Nat
  | .routine => 0
  | .urgent => 1
  | .emergency => 2

/-- The priority of a code. -/
def Priority.ofCode (n : Nat) : Option Priority :=
  if n = 0 then some .routine else if n = 1 then some .urgent
  else if n = 2 then some .emergency else none

/-! ### Traffic classes and message kinds (R76) -/

/-- Class codes (R76). -/
def TrafficClass.code : TrafficClass → BitVec 3
  | .alarm => 0
  | .voice => 1
  | .signal => 2
  | .air => 3
  | .telem => 4
  | .mgmt => 5

/-- The class of a code; 6 and 7 name none (R78). -/
def TrafficClass.ofCode (c : BitVec 3) : Option TrafficClass :=
  if c = 0 then some .alarm else if c = 1 then some .voice else if c = 2 then some .signal
  else if c = 3 then some .air else if c = 4 then some .telem else if c = 5 then some .mgmt
  else none

/-- The class and kind code of each kind (R76). -/
def FrameKind.codes : FrameKind → TrafficClass × BitVec 5
  | .zoneGrade => (.alarm, 1)
  | .sos => (.alarm, 2)
  | .sosCancel => (.alarm, 3)
  | .evacuateOrder => (.alarm, 4)
  | .standDownOrder => (.alarm, 5)
  | .refugeBreach => (.alarm, 6)
  | .refugeAir => (.alarm, 7)
  | .voice => (.voice, 1)
  | .announce => (.signal, 1)
  | .callSetup => (.signal, 2)
  | .callAlerting => (.signal, 3)
  | .callAnswer => (.signal, 4)
  | .callClear => (.signal, 5)
  | .entryRequest => (.signal, 6)
  | .exitNotice => (.signal, 7)
  | .grant => (.signal, 8)
  | .wait => (.signal, 9)
  | .refuseEntry => (.signal, 10)
  | .withdraw => (.signal, 11)
  | .proximity => (.signal, 12)
  | .evacNotice => (.signal, 13)
  | .evacAck => (.signal, 14)
  | .musterReport => (.signal, 15)
  | .airReport => (.air, 1)
  | .vehicleTelemetry => (.telem, 1)
  | .unitTelemetry => (.telem, 2)
  | .request => (.mgmt, 1)
  | .response => (.mgmt, 2)
  | .nodeStatus => (.mgmt, 3)
  | .beacon => (.mgmt, 4)
  | .locateReport => (.mgmt, 5)

/-- All message kinds, in the order of the table of R76. -/
def FrameKind.all : List FrameKind :=
  [.zoneGrade, .sos, .sosCancel, .evacuateOrder, .standDownOrder, .refugeBreach, .refugeAir, .voice,
   .announce, .callSetup, .callAlerting, .callAnswer, .callClear, .entryRequest, .exitNotice, .grant,
   .wait, .refuseEntry, .withdraw, .proximity, .evacNotice, .evacAck, .musterReport, .airReport,
   .vehicleTelemetry, .unitTelemetry, .request, .response, .nodeStatus, .beacon, .locateReport]

/-- The kind that a class and a kind code name; none for a code that is not in the class's table (R76). -/
def FrameKind.ofCodes (c : TrafficClass) (k : BitVec 5) : Option FrameKind :=
  FrameKind.all.find? (fun x => x.codes == (c, k))

/-- The kind of a frame, if its code is known. -/
def Frame.kind? (f : Frame) : Option FrameKind := FrameKind.ofCodes f.cls f.kind

/-- The frame is of kind `k`. -/
def Frame.isKind (f : Frame) (k : FrameKind) : Bool := f.kind? == some k

/-! ### Codes of the records' named values (R75, R177) -/

/-- Scope codes. -/
def Scope.code : Scope → Nat
  | .zone => 0
  | .refuge => 1

/-- Gas kind codes. -/
def Gas.code : Gas → Nat
  | .ch4 => 0
  | .co => 1
  | .o2 => 2
  | .airv => 3

/-- Fault action codes: its own list begins at ALERT (R177). -/
def FaultAction.code : FaultAction → Nat
  | .alert => 0
  | .alarm => 1
  | .trip => 2

/-- The grade a fault action claims (R23). -/
def FaultAction.grade : FaultAction → Grade
  | .alert => .alert
  | .alarm => .alarm
  | .trip => .trip

/-- Channel state codes, in the order of section 1.6. -/
def ChannelState.code : ChannelState → Nat
  | .off => 0
  | .warming => 1
  | .live => 2
  | .fault => 3

/-- Device kind codes. -/
def DeviceKind.code : DeviceKind → Nat
  | .gasHead => 0
  | .refugePanel => 1

/-- Poll record state codes. -/
def PollState.code : PollState → Nat
  | .idleUnseen => 0
  | .responding => 1
  | .silent => 2

/-- Location codes (R76). -/
def Location.code : Location → Nat
  | .radioHere => 0
  | .fieldHere => 1
  | .viaOutbye => 2
  | .viaInbye => 3
  | .unknown => 4

/-- The code of a previous location, NONE being 5 (R76). -/
def previousLocationCode : Option Location → Nat
  | some l => l.code
  | none => 5

/-- Station kind codes, in the order R51 lists them. -/
def StationKind.code : StationKind → Nat
  | .node => 0
  | .fieldDevice => 1
  | .miner => 2
  | .vehicle => 3
  | .surface => 4

/-- Muster mark codes. -/
def Muster.code : Muster → Nat
  | .none => 0
  | .notified => 1
  | .inRefuge => 2

/-- Leg state codes (R94). -/
def LegState.code : LegState → Nat
  | .idle => 0
  | .originating => 1
  | .ringing => 2
  | .active => 3
  | .clearing => 4

/-- Leg direction codes (R94). -/
def LegDirection.code : LegDirection → Nat
  | .orig => 0
  | .term => 1

/-- Clear cause codes (R95). -/
def ClearCause.code : ClearCause → Nat
  | .normal => 0
  | .noAnswer => 1
  | .notPermitted => 2
  | .restricted => 3
  | .nodeBusy => 4
  | .idInUse => 5
  | .preempted => 6
  | .glare => 7
  | .moved => 8
  | .shed => 9
  | .evacuating => 10

/-- The clear cause of a code. -/
def ClearCause.ofCode (n : Nat) : Option ClearCause :=
  [ClearCause.normal, .noAnswer, .notPermitted, .restricted, .nodeBusy, .idInUse, .preempted, .glare,
   .moved, .shed, .evacuating][n]?

/-- Segment state codes (R119). -/
def SegmentState.code : SegmentState → Nat
  | .free => 0
  | .held => 1
  | .draining => 2
  | .lost => 3
  | .closed => 4

/-- Direction codes (R119). -/
def Heading.code : Heading → Nat
  | .inbye => 0
  | .outbye => 1

/-- The direction of a code (R119). -/
def Heading.ofCode (n : Nat) : Option Heading :=
  if n = 0 then some .inbye else if n = 1 then some .outbye else none

/-- Codes of a REFUSE ENTRY's cause (R122). -/
def EntryRefusal.code : EntryRefusal → Nat
  | .closed => 0
  | .queueFull => 1

/-- Evacuation state codes (R138). -/
def EvacState.code : EvacState → Nat
  | .quiet => 0
  | .evacuate => 1

/-- Door codes (R77). -/
def Door.code : Door → Nat
  | .closed => 0
  | .opened => 1

/-- Panel supply codes (R77). -/
def PanelSupply.code : PanelSupply → Nat
  | .mains => 0
  | .battery => 1

/-- Source indices (R153). -/
def Source.index : Source → Fin 11
  | .zoneAlert => 0
  | .zoneAlarm => 1
  | .zoneTrip => 2
  | .evacuate => 3
  | .sosActive => 4
  | .refugeBreach => 5
  | .refugeAir => 6
  | .proximity => 7
  | .sensorFault => 8
  | .integrityFault => 9
  | .isolated => 10

/-- The sources in index order (R153). -/
def Source.all : List Source :=
  [.zoneAlert, .zoneAlarm, .zoneTrip, .evacuate, .sosActive, .refugeBreach, .refugeAir, .proximity,
   .sensorFault, .integrityFault, .isolated]

/-- Bank numbers (section 8.3). -/
def Bank.code : Bank → Nat
  | .zero => 0
  | .one => 1

/-- The bank of a number (R165). -/
def Bank.ofCode (n : Nat) : Option Bank :=
  if n = 0 then some .zero else if n = 1 then some .one else none

/-- The class a plan entry serves; END serves none. -/
def PlanEntry.serves : PlanEntry → Option TrafficClass
  | .voice => some .voice
  | .signal => some .signal
  | .air => some .air
  | .telem => some .telem
  | .mgmt => some .mgmt
  | .stop => none

/-- Plan entry codes: the class codes, and END after them (assumption 12). -/
def PlanEntry.code : PlanEntry → Nat
  | .voice => 1
  | .signal => 2
  | .air => 3
  | .telem => 4
  | .mgmt => 5
  | .stop => 6

/-- The plan entry of a code; ALARM (0) is none (R166). -/
def PlanEntry.ofCode (n : Nat) : Option PlanEntry :=
  if n = 1 then some .voice else if n = 2 then some .signal else if n = 3 then some .air
  else if n = 4 then some .telem else if n = 5 then some .mgmt else if n = 6 then some .stop
  else none

/-- Shed input codes (R177). -/
def ShedInput.code : ShedInput → Nat
  | .battery => 0
  | .temperature => 1

/-- Integrity state codes (R183). -/
def IntegrityState.code : IntegrityState → Nat
  | .checking => 0
  | .suspended => 1
  | .fault => 2

/-- The group of a code (R191). -/
def Group.ofCode (n : Nat) : Option Group :=
  if n = 0 then some .air else if n = 1 then some .call else if n = 2 then some .truck
  else if n = 3 then some .refuge else if n = 4 then some .node else none

/-- Number of flags in a group (R195). -/
def Group.count : Group → Nat
  | .air => 49
  | .call => 3
  | .truck => 4
  | .refuge => 5
  | .node => 7

/-- Bytes of a group's flag set on the wire (R195). -/
def Group.bytes : Group → Nat
  | .air => 7
  | .call => 1
  | .truck => 1
  | .refuge => 1
  | .node => 1

/-- Response cause codes (R190). -/
def Cause.code : Cause → Nat
  | .none => 0
  | .badTable => 1
  | .badIndex => 2
  | .badValue => 3
  | .badBand => 4
  | .badOrder => 5
  | .tripLatched => 6
  | .activeBank => 7
  | .stillBeyond => 8
  | .busy => 9
  | .notLost => 10
  | .gradeHigh => 11
  | .evacuating => 12
  | .flagsSet => 13

/-- Test outcome codes, in the order of R33. -/
def TestOutcome.code : TestOutcome → Nat
  | .complete => 0
  | .aborted => 1

/-- A port of a port code: OUTBYE 0, INBYE 1, RADIO 2 (R191). -/
def portOfCode (n : Nat) : Option Port :=
  if n = 0 then some .outbye else if n = 1 then some .inbye else if n = 2 then some .radio else none

/-- The location an arrival on a port teaches (R52). -/
def learntLocation : Port → Location
  | .outbye => .viaOutbye
  | .inbye => .viaInbye
  | .radio => .radioHere

end Sys2Proof.Machine
end

