-- ==== Sys2Proof/Machine/Wire.lean ====
section
/-! DEFINITION. Bytes on the lines: the check (R74), frame layouts on the backbone and the radio (R72, R73),
line messages (R77), and which payloads fit their kind (R76). -/

namespace Sys2Proof.Machine

/-! ### Numbers and the check -/

/-- A number in one byte. -/
def byteOf (n : Nat) : Byte := BitVec.ofNat 8 n

/-- A yes/no value in one byte, 1 for yes (R192). -/
def yesByte (b : Bool) : Byte := if b then 1 else 0

/-- A yes/no value in one word, 1 for yes (R177). -/
def yesWord (b : Bool) : Word := if b then 1 else 0

/-- A two-byte number, high byte first (R72). -/
def wordBytes (w : Word) : List Byte := [w.extractLsb' 8 8, w.extractLsb' 0 8]

/-- A number below 65536 in two bytes, high byte first. -/
def natBytes (n : Nat) : List Byte := wordBytes (BitVec.ofNat 16 n)

/-- A counter in four bytes, high byte first (section 10.2). -/
def counterBytes (c : Counter) : List Byte :=
  [c.extractLsb' 24 8, c.extractLsb' 16 8, c.extractLsb' 8 8, c.extractLsb' 0 8]

/-- The number two bytes carry, high byte first. -/
def wordOf (hi lo : Byte) : Word := hi ++ lo

/-- One bit of the check's division by x^16 + x^12 + x^5 + 1 (R74). -/
def crcShift (c : Word) : Word := if c.msb then (c <<< 1) ^^^ 0x1021 else c <<< 1

/-- The check over one more byte, most significant bit first (R74). -/
def crcByte (c : Word) (b : Byte) : Word :=
  crcShift (crcShift (crcShift (crcShift (crcShift (crcShift (crcShift (crcShift
    (c ^^^ (b ++ (0 : Byte))))))))))

/-- The check continued from a running value. -/
def crcFrom (c : Word) (bytes : List Byte) : Word := bytes.foldl crcByte c

/-- The check of a run of bytes, from the initial value 0xFFFF (R74). -/
def crc (bytes : List Byte) : Word := crcFrom 0xFFFF bytes

/-- A run of bytes closed by its check (R74). -/
def withCheck (bytes : List Byte) : List Byte := bytes ++ wordBytes (crc bytes)

/-- The last two bytes are the check of the bytes before them (R74). -/
def checkGood (bytes : List Byte) : Bool :=
  decide (2 ≤ bytes.length) &&
    (bytes.drop (bytes.length - 2) == wordBytes (crc (bytes.take (bytes.length - 2))))

/-- A run of addresses, two bytes each. -/
def addressBytes (l : List Addr) : List Byte := l.flatMap wordBytes

/-- The addresses a run of bytes carries, two bytes each; a last odd byte is not read. -/
def addressesOf : List Byte → List Addr
  | hi :: lo :: rest => wordOf hi lo :: addressesOf rest
  | _ => []

/-! ### Roadline frames (R72, R73) -/

/-- Bytes before the payload: 8 on the backbone, 9 on the radio (R72, R73). -/
def headerLength : Port → Nat
  | .radio => 9
  | _ => 8

/-- The bytes of a frame on a port, its check computed afresh. On the radio the hop count is 0 and the via
node is this node (R73); `via` is that byte. -/
def Frame.wire (f : Frame) (p : Port) (via : Byte) : List Byte :=
  let first : Byte := f.cls.code ++ f.kind
  let hop : Byte := (if p = .radio then (0 : BitVec 5) else f.hop) ++ (0 : BitVec 3)
  let viaByte : List Byte := if p = .radio then [via] else []
  withCheck ([first, hop] ++ wordBytes f.dest ++ wordBytes f.src ++ viaByte
    ++ [f.seq, byteOf f.payload.length] ++ f.payload)

/-- What the arrival checks of R78 find. -/
inductive Arrival where
  | lengthError
  | checkError
  | classError
  | addressError
  | accepted (via : Byte) (f : Frame)
  deriving DecidableEq, Repr

/-- A source must be a valid station address, not broadcast (R78). -/
def sourceValid (a : Addr) : Bool := (stationKind a).isSome

/-- A destination must be broadcast or a valid station address (R78). -/
def destValid (a : Addr) : Bool := a == broadcast || (stationKind a).isSome

/-- The length check of R78. -/
def lengthGood (p : Port) (bytes : List Byte) : Bool :=
  let h := headerLength p
  let n := (bytes.getD (h - 1) 0).toNat
  decide (h + 2 ≤ bytes.length) && decide (n ≤ 120) && decide (bytes.length = h + n + 2)

/-- The frame a run of bytes of good length carries, if its class code names a class (R72, R73). -/
def frameOf (p : Port) (bytes : List Byte) : Option Frame :=
  let h := headerLength p
  let at' (i : Nat) : Byte := bytes.getD i 0
  match TrafficClass.ofCode ((at' 0).extractLsb' 5 3) with
  | none => none
  | some c => some
      { cls := c
        kind := (at' 0).extractLsb' 0 5
        hop := (at' 1).extractLsb' 3 5
        dest := wordOf (at' 2) (at' 3)
        src := wordOf (at' 4) (at' 5)
        seq := at' (h - 2)
        payload := (bytes.drop h).take (at' (h - 1)).toNat }

/-- The arrival checks in order: length, check, class, address (R78). -/
def arrivalCheck (p : Port) (bytes : List Byte) : Arrival :=
  if lengthGood p bytes then
    if checkGood bytes then
      match frameOf p bytes with
      | none => .classError
      | some f =>
        if sourceValid f.src && destValid f.dest then .accepted (bytes.getD 6 0) f
        else .addressError
    else .checkError
  else .lengthError

/-! ### Which payloads fit their kind (R76) -/

/-- A payload of exactly `n` bytes whose bytes at the given places carry codes below the given bounds. -/
def fitsFixed (n : Nat) (named : List (Nat × Nat)) (payload : List Byte) : Bool :=
  (payload.length == n) && named.all (fun x => decide ((payload.getD x.1 0).toNat < x.2))

/-- A payload with a list count at place `i`, then that many items of `size` bytes. -/
def fitsList (i size : Nat) (payload : List Byte) : Bool :=
  decide (i < payload.length) &&
    decide (payload.length = i + 1 + size * (payload.getD i 0).toNat)

/-- The entries of an AIR REPORT: seven bytes each, the effective grade at place 5 and the channel state at
place 6. -/
def airEntriesFit : List Byte → Bool
  | _ :: _ :: _ :: _ :: _ :: g :: st :: rest =>
      decide (g.toNat < 4) && decide (st.toNat < 4) && airEntriesFit rest
  | _ => true

/-- The payload fits its kind: its length, its list count and its named values (R76). The yes/no byte of a NODE
STATUS is judged as a named value, 0 or 1 (DESIGN CHOICE, assumption 16). -/
def payloadFits (k : FrameKind) (p : List Byte) : Bool :=
  match k with
  | .zoneGrade => fitsFixed 4 [(2, 4)] p
  | .sos => fitsFixed 2 [] p
  | .sosCancel => fitsFixed 2 [] p
  | .evacuateOrder => fitsList 2 2 p
  | .standDownOrder => fitsList 2 2 p
  | .refugeBreach => fitsFixed 3 [] p
  | .refugeAir => fitsFixed 3 [(2, 4)] p
  | .voice => decide (3 ≤ p.length) && decide (p.length ≤ 67)
  | .announce => fitsFixed 4 [] p
  | .callSetup => fitsFixed 7 [(6, 3)] p
  | .callAlerting => fitsFixed 2 [] p
  | .callAnswer => fitsFixed 2 [] p
  | .callClear => fitsFixed 3 [(2, 11)] p
  | .entryRequest => fitsFixed 3 [(2, 2)] p
  | .exitNotice => fitsFixed 2 [] p
  | .grant => fitsFixed 3 [] p
  | .wait => fitsFixed 3 [] p
  | .refuseEntry => fitsFixed 3 [(2, 2)] p
  | .withdraw => fitsFixed 2 [] p
  | .proximity => fitsFixed 1 [] p
  | .evacNotice => fitsFixed 2 [] p
  | .evacAck => fitsFixed 4 [] p
  | .musterReport => fitsList 5 2 p
  | .airReport =>
      fitsList 2 7 p && fitsFixed p.length [(0, 4), (1, 4)] p && airEntriesFit (p.drop 3)
  | .vehicleTelemetry => fitsFixed 5 [] p
  | .unitTelemetry => fitsFixed 2 [] p
  | .request =>
      decide (2 ≤ p.length) && decide (p.length ≤ 120) &&
        decide (1 ≤ (p.getD 1 0).toNat) && decide ((p.getD 1 0).toNat ≤ 16)
  | .response =>
      decide (3 ≤ p.length) && decide (p.length ≤ 120) &&
        fitsFixed p.length [(1, 2), (2, 14)] p
  | .nodeStatus => fitsFixed 20 [(0, 4), (1, 4), (2, 2), (7, 2), (11, 5), (14, 3), (15, 2)] p
  | .beacon => fitsFixed 0 [] p
  | .locateReport => fitsFixed 7 [(4, 6)] p

/-- A frame's local copy passes the checks of local delivery: its kind is in the table of its class and its payload
fits it (R76, R87). -/
def Frame.fits (f : Frame) : Bool :=
  match f.kind? with
  | some k => payloadFits k f.payload
  | none => false

/-! ### Line messages (R77) -/

/-- The bytes of a POLL (R77). -/
def pollWire (address : Addr) (seq : Byte) : List Byte :=
  withCheck ([1] ++ wordBytes address ++ [seq])

/-- Status codes: any value other than 0 and 2 is read as FAULT (R77). -/
def readingStatus (b : Byte) : ReadingStatus :=
  if b = 0 then .ok else if b = 2 then .warmup else .fault

/-- Door codes: OPEN for any value but 0 (R77). -/
def doorOf (b : Byte) : Door := if b = 0 then .closed else .opened

/-- Panel supply codes: BATTERY for any value but 0 (R77). -/
def panelSupplyOf (b : Byte) : PanelSupply := if b = 0 then .mains else .battery

/-- The reply that a line message of good check carries: a GAS REPLY or PANEL REPLY whose length fits, with
an occupancy of at most 63 and at most 16 tags (R42, R77); none for any other. -/
def replyOf (bytes : List Byte) : Option Reply :=
  let at' (i : Nat) : Byte := bytes.getD i 0
  let reading (i : Nat) : Reading := ⟨wordOf (at' i) (at' (i + 1)), readingStatus (at' (i + 2))⟩
  if at' 0 = 2 ∧ bytes.length = 12 then
    some { address := wordOf (at' 1) (at' 2), seq := at' 3, first := reading 4, second := reading 7,
           panel := none }
  else if at' 0 = 3 ∧ bytes.length = 16 + 2 * (at' 6).toNat ∧ (at' 6).toNat ≤ 16
      ∧ (at' 5).toNat ≤ 63 then
    let r := 7 + 2 * (at' 6).toNat
    some { address := wordOf (at' 1) (at' 2), seq := at' 3, first := reading r, second := reading (r + 3),
           panel := some
             { door := doorOf (at' 4)
               occupancy := (at' 5).toNat
               tags := addressesOf ((bytes.drop 7).take (2 * (at' 6).toNat))
               supply := panelSupplyOf (at' (r + 6)) } }
  else none

end Sys2Proof.Machine
end

