-- ==== Sys2Proof/Machine/Factory.lean ====
section
/-! DEFINITION. The factory records, the canonical bytes of the protected tables (R177) and each block's
state after COLD START (R35, R49, R70, R93, R117, R136, R157, R174, R187, R202). `now` is the moment of the
cold start on the model's clock. -/

namespace Sys2Proof.Machine

/-! ### Timers -/

/-- Starting a timer of a given length. -/
def startTimer (now length : Nat) : Timer := some (now + length)

/-- Starting a timer whose count 0 means that it does not run (R31, R185, R198). -/
def startOrStop (now : Nat) (t : TimerSetting) (length : Nat) : Timer :=
  if t.count = 0 then none else some (now + length)

/-! ### Canonical fields of the protected records (R177) -/

/-- A grade entry's four words. -/
def EntryConfig.words (e : EntryConfig) : List Word :=
  [yesWord e.enabled, BitVec.ofNat 16 e.level, BitVec.ofNat 16 e.band, BitVec.ofNat 16 e.hold]

/-- A channel record's twenty words. -/
def ChannelRecord.words (r : ChannelRecord) : List Word :=
  [yesWord r.enabled, BitVec.ofNat 16 r.scope.code, BitVec.ofNat 16 r.gas.code,
   BitVec.ofNat 16 r.offset, BitVec.ofNat 16 r.gain, BitVec.ofNat 16 r.shift]
  ++ r.alert.words ++ r.alarm.words ++ r.trip.words
  ++ [BitVec.ofNat 16 r.faultAction.code, (0 : Byte) ++ r.stale.byte]

/-- A route record's four words. -/
def Route.words (r : Route) : List Word :=
  [BitVec.ofNat 16 r.siren.code, BitVec.ofNat 16 r.strobe.code, BitVec.ofNat 16 r.faultLine.code,
   BitVec.ofNat 16 r.aux.code]

/-- A shed entry's four words, a temperature gate in two's complement. -/
def ShedConfig.words (e : ShedConfig) : List Word :=
  [yesWord e.enabled, BitVec.ofNat 16 e.input.code, BitVec.ofInt 16 e.gate, BitVec.ofNat 16 e.level]

/-- A pin window's three words. -/
def PinWindow.words (w : PinWindow) : List Word := [yesWord w.valid, w.base, w.mask]

/-- A permit range's four words. -/
def PermitRange.words (r : PermitRange) : List Word :=
  [r.low, r.high, yesWord r.miner, yesWord r.vehicle]

/-- A record's bytes, each word high byte first (R177). -/
def recordBytes (l : List Word) : List Byte := l.flatMap wordBytes

/-! ### Factory records -/

/-- A grade entry of the factory record (R35). -/
def EntryConfig.factory : EntryConfig := ⟨false, 1, 0, 1⟩

/-- A grade entry in CLEAR with run count 0. -/
def EntryState.clear : EntryState := ⟨false, 0⟩

/-- The factory channel record (R35). -/
def ChannelRecord.factory : ChannelRecord :=
  { enabled := false, scope := .zone, gas := .ch4, offset := 0, gain := 1024, shift := 0,
    alert := .factory, alarm := .factory, trip := .factory, faultAction := .alarm,
    stale := ⟨.s1, 30⟩ }

/-- A channel after COLD START (R35). -/
def Channel.cold : Channel :=
  { record := .factory, state := .off, lastStatus := none, staleMark := false, staleTimer := none,
    value := 0, average := none, alert := .clear, alarm := .clear, trip := .clear,
    effective := .normal, test := none }

/-- The factory poll record after COLD START (R49). -/
def PollRecord.cold : PollRecord :=
  { config := ⟨false, 0x1000, .gasHead, ⟨.s1, 1⟩⟩, state := .idleUnseen, misses := 0, due := none }

/-- The factory pin window (R70). -/
def PinWindow.factory : PinWindow := ⟨false, 0x0000, 0xFFFF⟩

/-- The factory watch entry (R70). -/
def Watch.factory : Watch := ⟨false, 0x0000⟩

/-- The factory permit range (R117). -/
def PermitRange.factory : PermitRange := ⟨0, 0, false, false⟩

/-- A leg after COLD START (R117). -/
def Leg.cold : Leg :=
  { state := .idle, callId := ⟨0, 0⟩, direction := .orig, localParty := 0, remoteParty := 0,
    priority := .routine, setupTimer := none, lastVoice := none, voiceIn := 0, voiceOut := 0,
    voiceDropped := 0, lastCause := none, partner := none }

/-- An empty refuge panel record (R148). -/
def Panel.empty : Panel :=
  { filled := false, door := .closed, occupancy := 0, tags := [], supply := .mains, doorAge := 0,
    breach := false }

/-- The factory route table (R154). -/
def factoryRoutes : Vector Route 11 :=
  #v[⟨.off, .slow, .off, .off⟩, ⟨.fast, .fast, .off, .off⟩, ⟨.steady, .steady, .off, .off⟩,
     ⟨.fast, .fast, .off, .off⟩, ⟨.off, .fast, .off, .off⟩, ⟨.fast, .off, .off, .off⟩,
     ⟨.off, .off, .off, .steady⟩, ⟨.off, .off, .off, .fast⟩, ⟨.off, .off, .steady, .off⟩,
     ⟨.off, .off, .steady, .off⟩, ⟨.off, .off, .slow, .off⟩]

/-- The factory shed table (R174). -/
def factoryShed : Vector ShedEntry 4 :=
  #v[⟨⟨true, .battery, 11000, 1⟩, false⟩, ⟨⟨true, .battery, 10400, 2⟩, false⟩,
     ⟨⟨true, .battery, 9800, 3⟩, false⟩, ⟨⟨true, .temperature, 85, 2⟩, false⟩]

/-- The factory plan (section 8.3). -/
def factoryPlan : Vector PlanEntry 32 :=
  #v[.voice, .signal, .voice, .air, .voice, .signal, .voice, .telem, .voice, .mgmt, .voice,
     .stop, .stop, .stop, .stop, .stop, .stop, .stop, .stop, .stop, .stop,
     .stop, .stop, .stop, .stop, .stop, .stop, .stop, .stop, .stop, .stop, .stop]

/-- The default PARAMETERS, with no flag masked (R193, R202). -/
def Parameters.default : Parameters :=
  { control := 0xFFF0, presence := ⟨.s1, 30⟩, route := ⟨.s10, 30⟩, setup := ⟨.s1, 30⟩,
    lease := ⟨.s1, 20⟩, airReport := ⟨.s1, 10⟩, status := ⟨.s1, 5⟩, isolation := ⟨.s1, 15⟩,
    repeatTime := ⟨.s1, 5⟩, door := ⟨.s1, 30⟩, trigger := .alarm, follow := 1,
    masks := ⟨0, 0, 0, 0, 0⟩ }

/-- The 816 bytes of the factory tables in canonical order (R177, R178). -/
def factoryBytes : List Byte :=
  (List.replicate 16 ChannelRecord.factory).flatMap (fun r => recordBytes r.words)
  ++ factoryRoutes.toList.flatMap (fun r => recordBytes r.words)
  ++ factoryShed.toList.flatMap (fun e => recordBytes e.config.words)
  ++ (List.replicate 4 PinWindow.factory).flatMap (fun w => recordBytes w.words)
  ++ (List.replicate 4 PermitRange.factory).flatMap (fun r => recordBytes r.words)

/-- The factory check: the check of the factory tables (R176, R178; Laws/Factory.lean proves that it is). -/
def factoryCheck : Word := 0x6C4E

/-! ### The blocks after COLD START -/

/-- Ports, forwarding engine and egress scheduler (R93, R174). -/
def Net.cold (now : Nat) (straps : Byte) (outbyeUp inbyeUp : Bool) : Net :=
  { straps := straps
    outbye := { up := outbyeUp }
    inbye := { up := inbyeUp }
    radio := { up := true }
    relay := []
    relayTick := now + 1000
    alarmSeq := 0
    frameSeq := 0
    banks := ⟨factoryPlan, factoryPlan⟩ }

/-- Field poller (R49). -/
def Poller.cold : Poller :=
  { records := Vector.replicate 8 PollRecord.cold, inFlight := none, replyTimer := none,
    sequence := 0, counters := {} }

/-- Air evaluator (R35). -/
def Air.cold (now : Nat) : Air :=
  { channels := Vector.replicate 16 Channel.cold, zone := .normal, refuge := .normal,
    tripOutput := false, reportTimer := startTimer now Parameters.default.airReport.ms }

/-- Station table (R70). -/
def Table.cold (now : Nat) : Table :=
  { entries := [], pins := Vector.replicate 4 PinWindow.factory,
    watches := Vector.replicate 4 Watch.factory, ageTick := now + 1000, counters := {} }

/-- Leg table (R117). -/
def Calls.cold : Calls :=
  { legs := Vector.replicate 8 Leg.cold, startList := [],
    permits := Vector.replicate 4 PermitRange.factory, counters := {} }

/-- Segment arbiter (R136). -/
def Segment.cold : Segment :=
  { state := .closed, holder := none, causes := ⟨false, false, true⟩, queue := [], lease := none,
    minerCount := 0, holderHere := false, counters := {} }

/-- A released output line. -/
def Line.released : Line := ⟨.off, false, none⟩

/-- Evacuation controller and output router (R157). -/
def Evacuation.cold (now : Nat) : Evacuation :=
  { state := .quiet, repeatTimer := none, panels := Vector.replicate 8 Panel.empty, sos := [],
    routes := factoryRoutes, lines := ⟨.released, .released, .released, .released⟩,
    doorTick := now + 1000, counters := {} }

/-- Supply monitor (R174). -/
def Supply.cold (now : Nat) : Supply :=
  { sample := ⟨false, 0, 0⟩, entries := factoryShed, shedLevel := 0, sampleTick := now + 1000,
    counters := {} }

/-- Integrity scanner (R187). -/
def Integrity.cold (now : Nat) : Integrity :=
  { state := .checking, storedCheck := factoryCheck, lastCheck := none, position := 0,
    runningCrc := 0xFFFF, scanTimer := startTimer now 10, suspensionTimer := none, counters := {} }

/-- Management unit (R187, R202): COLD_STARTED, flag 6 of NODE, is set and raises the NODE summary. -/
def Mgmt.cold (now : Nat) : Mgmt :=
  { parameters := .default
    attention := { node := ⟨BitVec.ofNat 56 (2 ^ 6), true⟩ }
    statusTimer := startTimer now Parameters.default.status.ms
    isolated := false
    isolationTimer := startTimer now Parameters.default.isolation.ms
    restartPending := false
    counters := {} }

end Sys2Proof.Machine
end

