-- ==== Sys2Proof/Machine/State.lean ====
section
/-! DEFINITION. The state of the RN-240: the state of its blocks, the queue of the commands that are waiting,
and the model's clock. -/

namespace Sys2Proof.Machine

/-- The state of the part. Everything but `pending`, `now`, `samples` and `scratch` is state the manual gives
a block. -/
structure State where
  /-- The commands that are waiting, first in, first out. -/
  pending : List Instr
  /-- The model's clock, in milliseconds (assumption 1). -/
  now     : Nat
  /-- How many supply samples the machine has taken of itself: the index of the next free reading
  (assumption 3). -/
  samples : Nat
  net     : Net
  poller  : Poller
  air     : Air
  table   : Table
  calls   : Calls
  seg     : Segment
  evac    : Evacuation
  supply  : Supply
  integ   : Integrity
  mgmt    : Mgmt
  /-- Marks that live within one event. -/
  scratch : Scratch
  deriving DecidableEq, Repr

/-- Why the machine stops with a fault: the manual describes no stop, so there is no reason. -/
inductive Fault where
  deriving DecidableEq, Repr

/-- Why a command has no meaning. -/
inductive Refusal where
  /-- The command is not modelled. No arm of `exec` raises it: every command has its meaning. Safe: the
  machine would stop where the part goes on. -/
  | notModelled (mnemonic : String)
  deriving DecidableEq, Repr

/-- The blocks after a COLD START at a given moment, with what the cold start reads: the strap pins and the
link states of the line interfaces (R6, R93). -/
def State.cold (pending : List Instr) (now samples : Nat) (straps : Byte) (outbyeUp inbyeUp : Bool) :
    State :=
  { pending := pending
    now := now
    samples := samples
    net := Net.cold now straps outbyeUp inbyeUp
    poller := Poller.cold
    air := Air.cold now
    table := Table.cold now
    calls := Calls.cold
    seg := Segment.cold
    evac := Evacuation.cold now
    supply := Supply.cold now
    integ := Integrity.cold now
    mgmt := Mgmt.cold now
    scratch := {} }

/-- The machine right after a COLD START with the straps at node 7 and both backbone links UP
(assumption 2). -/
def State.reset : State := State.cold [] 0 0 7 true true

end Sys2Proof.Machine
end

