-- ==== Sys2Proof/Machine/Ops.lean ====
section
/-! DEFINITION. The named operations over the state's tables: ports, station entries, channels, legs, panels,
and the counters of each block. -/

namespace Sys2Proof.Machine

/-! ### Ports -/

/-- The port of a name. -/
def Net.port (n : Net) : Port → PortState
  | .outbye => n.outbye
  | .inbye => n.inbye
  | .radio => n.radio

/-- The ports with one of them replaced. -/
def Net.setPort (n : Net) (p : Port) (x : PortState) : Net :=
  match p with
  | .outbye => { n with outbye := x }
  | .inbye => { n with inbye := x }
  | .radio => { n with radio := x }

/-- A change of a port's counters. -/
def Net.count (n : Net) (p : Port) (f : PortCounters → PortCounters) : Net :=
  n.setPort p { n.port p with counters := f (n.port p).counters }

/-- A change of the arrival port's counters; a frame the node originates has no arrival port and is not
counted (R86, R88). -/
def Net.countArrival (n : Net) (arrival : Option Port) (f : PortCounters → PortCounters) : Net :=
  match arrival with
  | some p => n.count p f
  | none => n

/-- The node's own address as the strap pins give it: 1 to 250, or none (R1, R91, R93). -/
def Net.nodeAddr? (n : Net) : Option Addr :=
  if 1 ≤ n.straps.toNat ∧ n.straps.toNat ≤ 250 then some (n.straps.setWidth 16) else none

/-- The node's own address, if the straps give one. -/
def State.nodeAddr? (s : State) : Option Addr := s.net.nodeAddr?

/-- The node's own address in a payload. Used only where the node has one. -/
def State.own (s : State) : Addr := s.net.straps.setWidth 16

/-- A change of a port's counters. -/
def State.countPort (s : State) (p : Port) (f : PortCounters → PortCounters) : State :=
  { s with net := s.net.count p f }

/-! ### Counters of the blocks -/

/-- A change of the poller's counters (R48). -/
def State.countPoller (s : State) (f : PollerCounters → PollerCounters) : State :=
  { s with poller := { s.poller with counters := f s.poller.counters } }

/-- A change of the station table's counters (R69). -/
def State.countTable (s : State) (f : TableCounters → TableCounters) : State :=
  { s with table := { s.table with counters := f s.table.counters } }

/-- A change of the leg table's counters (R116). -/
def State.countCalls (s : State) (f : CallCounters → CallCounters) : State :=
  { s with calls := { s.calls with counters := f s.calls.counters } }

/-- A change of the segment arbiter's counters (R135). -/
def State.countSeg (s : State) (f : SegmentCounters → SegmentCounters) : State :=
  { s with seg := { s.seg with counters := f s.seg.counters } }

/-- A change of the evacuation controller's counters (R156). -/
def State.countEvac (s : State) (f : EvacCounters → EvacCounters) : State :=
  { s with evac := { s.evac with counters := f s.evac.counters } }

/-- A change of the supply monitor's counters (R173). -/
def State.countSupply (s : State) (f : SupplyCounters → SupplyCounters) : State :=
  { s with supply := { s.supply with counters := f s.supply.counters } }

/-- A change of the counters READ RECORD INTEGRITY returns (R184). -/
def State.countInteg (s : State) (f : IntegrityCounters → IntegrityCounters) : State :=
  { s with integ := { s.integ with counters := f s.integ.counters } }

/-- A change of the management unit's counters (R199). -/
def State.countMgmt (s : State) (f : MgmtCounters → MgmtCounters) : State :=
  { s with mgmt := { s.mgmt with counters := f s.mgmt.counters } }

/-! ### The clock -/

/-- The clock has reached a moment: an event that stands for a moment's arrival never finds the clock before
it (assumption 1). -/
def State.reach (s : State) (t : Nat) : State := { s with now := max s.now t }

/-! ### Station entries (R51) -/

/-- The entry of an address. -/
def findEntry (l : List Entry) (a : Addr) : Option Entry := l.find? (fun e => e.address == a)

/-- The entries with a new one in its place in ascending address order. -/
def insertEntry (e : Entry) : List Entry → List Entry
  | [] => [e]
  | x :: l => if e.address.toNat < x.address.toNat then e :: x :: l else x :: insertEntry e l

/-- The entries without that of an address. -/
def removeEntry (a : Addr) (l : List Entry) : List Entry := l.filter (fun e => e.address != a)

/-- The entries with that of `e`'s address replaced by `e`. -/
def replaceEntry (e : Entry) (l : List Entry) : List Entry :=
  l.map (fun x => if x.address = e.address then e else x)

/-- The number of pinned entries. -/
def pinnedCount (l : List Entry) : Nat := l.countP (fun e => e.pinned)

/-- The entry of an address. -/
def State.entry? (s : State) (a : Addr) : Option Entry := findEntry s.table.entries a

/-- The station entries replaced. -/
def State.setEntries (s : State) (l : List Entry) : State :=
  { s with table := { s.table with entries := l } }

/-- The miner entries at RADIO_HERE, in ascending address order. -/
def State.minersHere (s : State) : List Entry :=
  s.table.entries.filter (fun e => isMiner e.address && e.location == .radioHere)

/-- A unit is attached here: its entry is at RADIO_HERE and its attach node is this node (R96, R151). -/
def State.attachedHere (s : State) (a : Addr) : Bool :=
  match s.entry? a, s.nodeAddr? with
  | some e, some own => e.location == .radioHere && e.attach == some own
  | _, _ => false

/-- An age in seconds reaches a timeout (R63). -/
def ageReaches (age : Nat) (t : TimerSetting) : Bool := decide (t.ms ≤ age * 1000)

/-- The timeout that governs an entry (R64). -/
def timeoutOf (p : Parameters) : Location → TimerSetting
  | .radioHere => p.presence
  | .fieldHere => p.presence
  | .viaOutbye => p.route
  | .viaInbye => p.route
  | .unknown => p.route

/-! ### Legs -/

/-- A leg of the leg table. -/
def State.leg (s : State) (i : Fin 8) : Leg := s.calls.legs[i]

/-- A leg replaced. -/
def State.setLeg (s : State) (i : Fin 8) (l : Leg) : State :=
  { s with calls := { s.calls with legs := s.calls.legs.set i l } }

/-- The start list replaced (R94). -/
def State.setStartList (s : State) (l : List (Fin 8)) : State :=
  { s with calls := { s.calls with startList := l } }

/-- An entry is referenced: a leg that is not IDLE names it as local party, or the segment names it as holder
or in its queue (R56). -/
def State.referenced (s : State) (a : Addr) : Bool :=
  legIndices.any (fun i => (s.leg i).state != .idle && (s.leg i).localParty == a)
    || (match s.seg.holder with
        | some t => t.vehicle == a
        | none => false)
    || s.seg.queue.any (fun t => t.vehicle == a)

/-- An entry is removable: not pinned, not referenced and, during EVACUATE, without a muster mark (R57). -/
def State.removable (s : State) (e : Entry) : Bool :=
  !e.pinned && !s.referenced e.address && !(s.evac.state == .evacuate && e.mark != .none)

/-! ### Channels, poll records and panels -/

/-- The poll record that feeds a channel (R7). -/
def pollOf (c : Fin 16) : Fin 8 := ⟨c.val / 2, by omega⟩

/-- The channel of a poll record's reading 0 (R7). -/
def firstChannel (i : Fin 8) : Fin 16 := ⟨2 * i.val, by omega⟩

/-- The channel of a poll record's reading 1 (R7). -/
def secondChannel (i : Fin 8) : Fin 16 := ⟨2 * i.val + 1, by omega⟩

/-- A channel. -/
def State.channel (s : State) (c : Fin 16) : Channel := s.air.channels[c]

/-- A channel replaced. -/
def State.setChannel (s : State) (c : Fin 16) (x : Channel) : State :=
  { s with air := { s.air with channels := s.air.channels.set c x } }

/-- A poll record. -/
def State.pollRecord (s : State) (i : Fin 8) : PollRecord := s.poller.records[i]

/-- A poll record replaced. -/
def State.setPollRecord (s : State) (i : Fin 8) (r : PollRecord) : State :=
  { s with poller := { s.poller with records := s.poller.records.set i r } }

/-- A channel's device is SILENT, as the poller holds it (R18, R22). -/
def State.deviceSilent (s : State) (c : Fin 16) : Bool := (s.pollRecord (pollOf c)).state == .silent

/-- A refuge panel record. -/
def State.panel (s : State) (i : Fin 8) : Panel := s.evac.panels[i]

/-- A refuge panel record replaced. -/
def State.setPanel (s : State) (i : Fin 8) (p : Panel) : State :=
  { s with evac := { s.evac with panels := s.evac.panels.set i p } }

/-! ### Readings of the state that several blocks share -/

/-- PARAMETERS. -/
def State.params (s : State) : Parameters := s.mgmt.parameters

/-- The muster tally over the miner entries (R147). -/
def tallyOf (l : List Entry) : Tally :=
  { present := l.countP (fun e =>
      isMiner e.address && (e.location == .radioHere || e.mark == .inRefuge))
    notified := l.countP (fun e =>
      isMiner e.address && (e.mark == .notified || e.mark == .inRefuge))
    inRefuge := l.countP (fun e => isMiner e.address && e.mark == .inRefuge) }

/-- The muster tally (R147). -/
def State.tally (s : State) : Tally := tallyOf s.table.entries

/-- A leg counts toward the ceiling: ORIGINATING, RINGING or ACTIVE (R94). -/
def Leg.counting (l : Leg) : Bool :=
  l.state == .originating || l.state == .ringing || l.state == .active

/-- The counting legs' number (R94). -/
def State.countingLegs (s : State) : Nat := legIndices.countP (fun i => (s.leg i).counting)

/-- A report interval's length at the shed level in force: four times as long at level 3 (R172). -/
def State.reportLength (s : State) (t : TimerSetting) : Nat :=
  if s.supply.shedLevel = 3 then 4 * t.ms else t.ms

end Sys2Proof.Machine
end

