-- ==== Sys2Proof/Machine/Flags.lean ====
section
/-! DEFINITION. Attention flags and summaries (R195 to R197, R201). -/

namespace Sys2Proof.Machine

/-- A flag of the part, by its group and its number in the group (R195). -/
structure Flag where
  group  : Group
  number : Nat
  deriving DecidableEq, Repr

namespace Flag

/-- GRADE_UP of a channel (R30). -/
def gradeUp (c : Fin 16) : Flag := ⟨.air, c.val⟩
/-- GRADE_DOWN of a channel (R30). -/
def gradeDown (c : Fin 16) : Flag := ⟨.air, 16 + c.val⟩
/-- FAULT of a channel (R30). -/
def channelFault (c : Fin 16) : Flag := ⟨.air, 32 + c.val⟩
/-- TEST_DONE (R30). -/
def testDone : Flag := ⟨.air, 48⟩
/-- REFUSED (R115). -/
def refused : Flag := ⟨.call, 0⟩
/-- PREEMPTED (R115). -/
def preempted : Flag := ⟨.call, 1⟩
/-- LIMIT_CLEAR (R115). -/
def limitClear : Flag := ⟨.call, 2⟩
/-- LEASE_LOST (R135). -/
def leaseLost : Flag := ⟨.truck, 0⟩
/-- QUEUE_FULL (R135). -/
def queueFull : Flag := ⟨.truck, 1⟩
/-- WITHDRAW (R135). -/
def withdraw : Flag := ⟨.truck, 2⟩
/-- RELEASED (R135). -/
def released : Flag := ⟨.truck, 3⟩
/-- EVAC_CHANGE (R156). -/
def evacChange : Flag := ⟨.refuge, 0⟩
/-- BREACH (R156). -/
def breach : Flag := ⟨.refuge, 1⟩
/-- SOS (R156). -/
def sos : Flag := ⟨.refuge, 2⟩
/-- SOS_OVERFLOW (R156). -/
def sosOverflow : Flag := ⟨.refuge, 3⟩
/-- PANEL_BATTERY (R156). -/
def panelBattery : Flag := ⟨.refuge, 4⟩
/-- LEARN_FAIL (R58). -/
def learnFail : Flag := ⟨.node, 0⟩
/-- LINK_CHANGE (R90). -/
def linkChange : Flag := ⟨.node, 1⟩
/-- SHED_CHANGE (R171). -/
def shedChange : Flag := ⟨.node, 2⟩
/-- INTEGRITY (R179, R182). -/
def integrity : Flag := ⟨.node, 3⟩
/-- ISOLATED (R186). -/
def isolated : Flag := ⟨.node, 4⟩
/-- RESTARTED (R203). -/
def restarted : Flag := ⟨.node, 5⟩
/-- COLD_STARTED (R202). -/
def coldStarted : Flag := ⟨.node, 6⟩

end Flag

/-- The flags and summary of a group. -/
def Attention.get (a : Attention) : Group → FlagGroup
  | .air => a.air
  | .call => a.call
  | .truck => a.truck
  | .refuge => a.refuge
  | .node => a.node

/-- The attention flags with one group replaced. -/
def Attention.set (a : Attention) (g : Group) (x : FlagGroup) : Attention :=
  match g with
  | .air => { a with air := x }
  | .call => { a with call := x }
  | .truck => { a with truck := x }
  | .refuge => { a with refuge := x }
  | .node => { a with node := x }

/-- The mask of a group. -/
def Masks.get (m : Masks) : Group → BitVec 56
  | .air => m.air
  | .call => m.call
  | .truck => m.truck
  | .refuge => m.refuge
  | .node => m.node

/-- The flag set with one bit for each flag of a group: bits beyond the last flag are ignored (R195). -/
def Group.keep (g : Group) (x : BitVec 56) : BitVec 56 := x &&& BitVec.ofNat 56 (2 ^ g.count - 1)

/-- The bit of flag n (R195). -/
def flagBit (n : Nat) : BitVec 56 := BitVec.ofNat 56 (2 ^ n)

/-- The flags and summary of a group. -/
def State.flags (s : State) (g : Group) : FlagGroup := s.mgmt.attention.get g

/-- A group's flags and summary replaced. -/
def State.setFlagGroup (s : State) (g : Group) (x : FlagGroup) : State :=
  { s with mgmt := { s.mgmt with attention := s.mgmt.attention.set g x } }

/-- The flag is set. -/
def State.flagSet (s : State) (f : Flag) : Bool := (s.flags f.group).flags &&& flagBit f.number != 0

/-- The flag is masked (R195). -/
def State.flagMasked (s : State) (f : Flag) : Bool :=
  s.params.masks.get f.group &&& flagBit f.number != 0

/-- A detailed flag is set: the summary is set with it when the flag becomes set and is not masked (R195). -/
def State.setFlag (s : State) (f : Flag) : State :=
  let g := s.flags f.group
  s.setFlagGroup f.group
    { flags := g.flags ||| flagBit f.number
      summary := g.summary || (!s.flagSet f && !s.flagMasked f) }

/-- The unmasked flags of a group that are set. -/
def State.unmasked (s : State) (g : Group) : BitVec 56 := (s.flags g).flags &&& ~~~ (s.params.masks.get g)

/-- After a PARAMETERS load a group's summary is set if an unmasked flag of the group is set (R195). -/
def State.refreshSummary (s : State) (g : Group) : State :=
  if s.unmasked g = 0 then s else s.setFlagGroup g { s.flags g with summary := true }

/-- The five group summaries, AIR in the lowest bit (R198). -/
def State.summaryByte (s : State) : Byte :=
  let bit (b : Bool) (n : Nat) : Byte := if b then BitVec.ofNat 8 (2 ^ n) else 0
  let a := s.mgmt.attention
  bit a.air.summary 0 ||| bit a.call.summary 1 ||| bit a.truck.summary 2 ||| bit a.refuge.summary 3
    ||| bit a.node.summary 4

/-- A flag set as a bit string: flag n is bit n mod 8 of byte n div 8 (R195). -/
def flagBytes (g : Group) (x : BitVec 56) : List Byte :=
  (List.range g.bytes).map (fun i => (x >>> (8 * i)).setWidth 8)

end Sys2Proof.Machine
end

