-- ==== Sys2Proof/Machine/Egress.lean ====
section
/-! DEFINITION. The egress scheduler: class queues and their overflow policies, the service choice, the plan
search and its wraps (R159 to R164). -/

namespace Sys2Proof.Machine

/-! ### Class queues (R159, R160) -/

/-- The queue of a class. -/
def Queues.get (q : Queues) : TrafficClass → List Frame
  | .alarm => q.alarm
  | .voice => q.voice
  | .signal => q.signal
  | .air => q.air
  | .telem => q.telem
  | .mgmt => q.mgmt

/-- The queues with that of a class replaced. -/
def Queues.set (q : Queues) (c : TrafficClass) (l : List Frame) : Queues :=
  match c with
  | .alarm => { q with alarm := l }
  | .voice => { q with voice := l }
  | .signal => { q with signal := l }
  | .air => { q with air := l }
  | .telem => { q with telem := l }
  | .mgmt => { q with mgmt := l }

/-- The number of frames queued on a port. -/
def Queues.total (q : Queues) : Nat :=
  q.alarm.length + q.voice.length + q.signal.length + q.air.length + q.telem.length + q.mgmt.length

/-- Capacity of a class queue (R159). -/
def queueCapacity : TrafficClass → Nat
  | .alarm => 8
  | .voice => 16
  | .signal => 8
  | .air => 8
  | .telem => 8
  | .mgmt => 4

/-- One more QUEUE DROP of a class. -/
def ClassCounters.bump (k : ClassCounters) : TrafficClass → ClassCounters
  | .alarm => { k with alarm := k.alarm + 1 }
  | .voice => { k with voice := k.voice + 1 }
  | .signal => { k with signal := k.signal + 1 }
  | .air => { k with air := k.air + 1 }
  | .telem => { k with telem := k.telem + 1 }
  | .mgmt => { k with mgmt := k.mgmt + 1 }

/-- The queue of a class replaced. -/
def Egress.setQueue (e : Egress) (c : TrafficClass) (l : List Frame) : Egress :=
  { e with queues := e.queues.set c l }

/-- One QUEUE DROP of a class (R159). -/
def Egress.drop (e : Egress) (c : TrafficClass) : Egress :=
  { e with counters := { e.counters with drops := e.counters.drops.bump c } }

/-- The policy of a class whose full queue gives up its oldest frame (R159). -/
def dropsOldest : TrafficClass → Bool
  | .alarm => true
  | .voice => true
  | .telem => true
  | .signal => false
  | .air => false
  | .mgmt => false

/-- A frame replaces the queued one of the same source in place (R160). -/
def replaceSameSource (f : Frame) : List Frame → List Frame
  | [] => []
  | x :: l => if x.src = f.src then f :: l else x :: replaceSameSource f l

/-- A frame that is offered joins its queue, by replacing the report of its source, by taking a place that is free
or by taking that of the oldest; otherwise it is dropped (R159, R160). -/
def Egress.takes (e : Egress) (f : Frame) : Bool :=
  let q := e.queues.get f.cls
  (f.cls == .air && q.any (fun x => x.src == f.src)) || decide (q.length < queueCapacity f.cls)
    || dropsOldest f.cls

/-- A frame is offered to the queue of its class (R159, R160). -/
def Egress.enqueue (e : Egress) (f : Frame) : Egress :=
  let q := e.queues.get f.cls
  if f.cls = .air ∧ q.any (fun x => x.src == f.src) then
    { e.setQueue .air (replaceSameSource f q) with
      counters := { e.counters with replacements := e.counters.replacements + 1 } }
  else if q.length < queueCapacity f.cls then e.setQueue f.cls (q ++ [f])
  else if dropsOldest f.cls then (e.setQueue f.cls (q.drop 1 ++ [f])).drop f.cls
  else e.drop f.cls

/-! ### Plan search (R163, R164) -/

/-- A port's place in its plan. -/
structure PlanPlace where
  active   : Bank
  position : Fin 32
  pending  : Option Bank
  deriving DecidableEq, Repr

/-- A wrap: position 0, and the pending bank, if any, becomes the active one (R164). -/
def PlanPlace.wrap (x : PlanPlace) : PlanPlace :=
  { active := x.pending.getD x.active, position := 0, pending := none }

/-- The place after an entry: the next index, or a wrap after index 31 (R163). -/
def PlanPlace.advance (x : PlanPlace) : PlanPlace :=
  if x.position.val = 31 then x.wrap else { x with position := x.position + 1 }

/-- The plan entry of a bank at an index. -/
def Banks.entry (b : Banks) (k : Bank) (i : Fin 32) : PlanEntry :=
  match k with
  | .zero => b.zero[i]
  | .one => b.one[i]

/-- A class is skipped at a shed level: TELEM from level 1 on (R172). -/
def skipped (shed : Nat) (c : TrafficClass) : Bool := c == .telem && decide (1 ≤ shed)

/-- The class an entry lets the port serve now: its queue is not empty and it is not skipped (R163). -/
def servable (shed : Nat) (q : Queues) (e : PlanEntry) : Option TrafficClass :=
  match e.serves with
  | some c => if (q.get c).isEmpty || skipped shed c then none else some c
  | none => none

/-- The search from a place, examining at most `fuel` entries; none when it is fruitless (R163). -/
def planSearch (banks : Banks) (shed : Nat) (q : Queues) : Nat → PlanPlace → Option (TrafficClass × PlanPlace)
  | 0, _ => none
  | fuel + 1, x =>
    let e := banks.entry x.active x.position
    match servable shed q e with
    | some c => some (c, x.advance)
    | none => planSearch banks shed q fuel (if e = .stop then x.wrap else x.advance)

/-! ### Service choice (R162) -/

/-- A frame starts going out. -/
def Egress.send (e : Egress) (p : Port) (via : Byte) (restart : Bool) (f : Frame) : Egress :=
  { e with sending := some ⟨f, f.wire p via, restart⟩ }

/-- The oldest frame of a class leaves its queue and starts going out. -/
def Egress.serve (e : Egress) (p : Port) (via : Byte) (c : TrafficClass) : Egress :=
  match e.queues.get c with
  | [] => e
  | f :: rest => (e.setQueue c rest).send p via false f

/-- The choice of a free port: the RESTART response first (R200), then ALARM, then the plan (R162). -/
def Egress.choose (e : Egress) (banks : Banks) (shed : Nat) (p : Port) (via : Byte) : Egress :=
  match e.sending with
  | some _ => e
  | none =>
    match e.ahead with
    | some f => { e with ahead := none }.send p via true f
    | none =>
      if e.queues.alarm.isEmpty then
        match planSearch banks shed e.queues 32 ⟨e.active, e.position, e.pendingBank⟩ with
        | some (c, x) =>
          { e with active := x.active, position := x.position, pendingBank := x.pending }.serve p via c
        | none => e
      else e.serve p via .alarm

/-- The via node byte of the node's radio frames: its own address (R73); free when the straps give none
(assumption 8). -/
def Net.viaByte (n : Net) : Byte :=
  match n.nodeAddr? with
  | some _ => n.straps
  | none => Config.viaWithoutAddress

/-- A port's egress side replaced. -/
def Net.setEgress (n : Net) (p : Port) (e : Egress) : Net := n.setPort p { n.port p with egress := e }

/-- A port makes its service choice; a DOWN port makes none (R162). -/
def Net.choose (n : Net) (shed : Nat) (p : Port) : Net :=
  if (n.port p).up then n.setEgress p ((n.port p).egress.choose n.banks shed p n.viaByte) else n

/-- All three ports make their service choice, as when the shed level changes (R171). -/
def Net.chooseAll (n : Net) (shed : Nat) : Net :=
  ((n.choose shed .outbye).choose shed .inbye).choose shed .radio

/-- A frame is offered to a port's queue for its class; a free port makes its choice when the frame is queued on it,
and none when the frame is dropped (R159, R162). A report that replaces a queued one is queued on the port (DEDUCED,
assumption 28). -/
def Net.offer (n : Net) (shed : Nat) (p : Port) (f : Frame) : Net :=
  let m := n.setEgress p ((n.port p).egress.enqueue f)
  if (n.port p).egress.takes f then m.choose shed p else m

/-- A frame is sent to one port: dropped and counted when the port is DOWN (R89). -/
def Net.sendTo (n : Net) (shed : Nat) (p : Port) (f : Frame) : Net :=
  if (n.port p).up then n.offer shed p f
  else n.count p (fun k => { k with downDrops := k.downDrops + 1 })

/-- A frame is put out of several ports, one copy each (R86). -/
def Net.offerAll (n : Net) (shed : Nat) (ports : List Port) (f : Frame) : Net :=
  ports.foldl (fun m p => m.offer shed p f) n

/-- A bank is in use: active or pending on some port (R164). -/
def Net.bankInUse (n : Net) (b : Bank) : Bool :=
  [n.outbye, n.inbye, n.radio].any (fun x => x.egress.active == b || x.egress.pendingBank == some b)

end Sys2Proof.Machine
end

