-- ==== Sys2Proof/Machine/Forward.lean ====
section
/-! DEFINITION. The forwarding engine's sending side: the destination decision (R86), flooding (R88), drops
(R89), the alarm relay list (R82, R83) and the frames the node originates (R91). -/

namespace Sys2Proof.Machine

/-! ### Alarm relay list (section 4.3) -/

/-- The key of an alarm is in the list (R82). -/
def relayHolds (l : List RelayEntry) (origin : Addr) (seq : Byte) : Bool :=
  l.any (fun e => e.origin == origin && e.seq == seq)

/-- A key is added at the young end with age 0, the oldest entry being removed first when the list holds 16;
a key already present leaves the list as it was (R82). -/
def relayAdd (l : List RelayEntry) (origin : Addr) (seq : Byte) : List RelayEntry :=
  if relayHolds l origin seq then l
  else (if 16 ≤ l.length then l.drop 1 else l) ++ [⟨origin, seq, 0⟩]

/-- The list after its age tick: every age one more, entries that reach 30 removed (R83). -/
def relayAged (l : List RelayEntry) : List RelayEntry :=
  (l.map (fun e => { e with age := e.age + 1 })).filter (fun e => decide (e.age < 30))

/-! ### Destination decision (R86) -/

/-- The backbone ports a flood or a broadcast goes out of: UP, and not the arrival port (R88). -/
def Net.floodPorts (n : Net) (arrival : Option Port) : List Port :=
  (if n.outbye.up && arrival != some .outbye then [Port.outbye] else [])
  ++ (if n.inbye.up && arrival != some .inbye then [Port.inbye] else [])

/-- A broadcast goes out on the radio too when it is an alarm or an EVAC NOTICE, except when it came from the
radio (R86). -/
def broadcastOnRadio (arrival : Option Port) (f : Frame) : Bool :=
  (f.cls == .alarm || f.isKind .evacNotice) && arrival != some .radio

/-- A frame for a station heard on one backbone port: a hairpin is dropped and counted, a DOWN port drops it
(R89). -/
def Net.sendVia (n : Net) (shed : Nat) (arrival : Option Port) (p : Port) (f : Frame) : Net :=
  if arrival = some p then n.count p (fun k => { k with hairpins := k.hairpins + 1 })
  else n.sendTo shed p f

/-- A frame for a station whose location is not known: flooded, or dropped and counted when no port is left
(R88). -/
def Net.flood (n : Net) (shed : Nat) (arrival : Option Port) (f : Frame) : Net :=
  let ports := n.floodPorts arrival
  if ports.isEmpty then n.countArrival arrival (fun k => { k with noRoute := k.noRoute + 1 })
  else n.offerAll shed ports f

/-- A broadcast goes out of its ports; with no port to go out of, one whose local copy is not delivered either,
since it fails the checks of R76, is dropped and counted (R87, R88). A local copy that no block owns counts in NO
OWNER alone (DEDUCED, assumption 24). -/
def Net.sendBroadcast (n : Net) (shed : Nat) (arrival : Option Port) (f : Frame) : Net :=
  let ports := n.floodPorts arrival ++ (if broadcastOnRadio arrival f then [Port.radio] else [])
  if ports.isEmpty && !f.fits then n.countArrival arrival (fun k => { k with noRoute := k.noRoute + 1 })
  else n.offerAll shed ports f

/-- The "out to" part of the destination decision (R86): which queues take the frame. A frame whose hop count
is 0 goes through it for local delivery only (R86). That one for a FIELD_HERE station is counted in FIELD DISCARDS with
hop count 0 too is the model's reading of R86's table and R92 (DEDUCED, assumption 31). -/
def Net.decide (n : Net) (entries : List Entry) (shed : Nat) (arrival : Option Port) (f : Frame) : Net :=
  if n.nodeAddr? = some f.dest then n
  else if f.dest = broadcast then
    if f.hop = 0 then n else n.sendBroadcast shed arrival f
  else
    match findEntry entries f.dest with
    | some e =>
      match e.location with
      | .fieldHere => n.countArrival arrival (fun k => { k with fieldDiscards := k.fieldDiscards + 1 })
      | .radioHere => if f.hop = 0 then n else n.offer shed .radio f
      | .viaOutbye => if f.hop = 0 then n else n.sendVia shed arrival .outbye f
      | .viaInbye => if f.hop = 0 then n else n.sendVia shed arrival .inbye f
      | .unknown => if f.hop = 0 then n else n.flood shed arrival f
    | none => if f.hop = 0 then n else n.flood shed arrival f

/-! ### Frames the node originates (R91) -/

/-- The node gives a message its header: the sequence of its class goes up by 1 and is used (R91). Returns
the frame and the engine after it; an alarm has entered the relay list (R83). -/
def Net.header (n : Net) (own : Addr) (m : Message) : Frame × Net :=
  let ck := m.kind.codes
  if ck.1 = .alarm then
    let q := n.alarmSeq + 1
    (⟨ck.1, ck.2, 31, m.dest, own, q, m.payload⟩,
      { n with alarmSeq := q, relay := relayAdd n.relay own q })
  else
    let q := n.frameSeq + 1
    (⟨ck.1, ck.2, 31, m.dest, own, q, m.payload⟩, { n with frameSeq := q })

/-- A local block's message is sent by the destination decision, as if it had arrived on no port. A node
without an address originates nothing (R91). -/
def Net.originate (n : Net) (entries : List Entry) (shed : Nat) (m : Message) : Net :=
  match n.nodeAddr? with
  | none => n
  | some own =>
    let x := n.header own m
    x.2.decide entries shed none x.1

/-- A local block's message is sent to a port the block names (R91). -/
def Net.originateTo (n : Net) (shed : Nat) (p : Port) (m : Message) : Net :=
  match n.nodeAddr? with
  | none => n
  | some own =>
    let x := n.header own m
    x.2.sendTo shed p x.1

/-- A local block's message is sent (R91). -/
def State.originate (s : State) (m : Message) : State :=
  { s with net := s.net.originate s.table.entries s.supply.shedLevel m }

/-- A local block's message is sent on a named port (R91). -/
def State.originateTo (s : State) (p : Port) (m : Message) : State :=
  { s with net := s.net.originateTo s.supply.shedLevel p m }

/-- A message that its block counts when it is sent: a node without an address sends none and counts none. -/
def State.originateCounted (s : State) (count : State → State) (m : Message) : State :=
  match s.nodeAddr? with
  | none => s
  | some _ => (count s).originate m

/-! ### The messages of the blocks (R76) -/

/-- ZONE GRADE: node, grade, cause channel (255 for NONE). -/
def msgZoneGrade (own : Addr) (g : Grade) (cause : Option (Fin 16)) : Message :=
  ⟨.zoneGrade, broadcast, wordBytes own ++ [byteOf g.code, match cause with
    | some c => byteOf c.val
    | none => 255]⟩

/-- REFUGE AIR: node, grade. -/
def msgRefugeAir (own : Addr) (g : Grade) : Message :=
  ⟨.refugeAir, broadcast, wordBytes own ++ [byteOf g.code]⟩

/-- REFUGE BREACH: node, panel poll index. -/
def msgRefugeBreach (own : Addr) (i : Fin 8) : Message :=
  ⟨.refugeBreach, broadcast, wordBytes own ++ [byteOf i.val]⟩

/-- The two bytes of a call id. -/
def CallId.bytes (c : CallId) : List Byte := [c.node, c.serial]

/-- CALL SETUP: call id, caller, callee, priority. -/
def msgCallSetup (c : CallId) (caller callee : Addr) (p : Priority) : Message :=
  ⟨.callSetup, callee, c.bytes ++ wordBytes caller ++ wordBytes callee ++ [byteOf p.code]⟩

/-- CALL ALERTING, to the caller. -/
def msgCallAlerting (dest : Addr) (c : CallId) : Message := ⟨.callAlerting, dest, c.bytes⟩

/-- CALL ANSWER. -/
def msgCallAnswer (dest : Addr) (c : CallId) : Message := ⟨.callAnswer, dest, c.bytes⟩

/-- CALL CLEAR with its cause. -/
def msgCallClear (dest : Addr) (c : CallId) (cause : ClearCause) : Message :=
  ⟨.callClear, dest, c.bytes ++ [byteOf cause.code]⟩

/-- GRANT: vehicle, lease duration. -/
def msgGrant (v : Addr) (lease : TimerSetting) : Message := ⟨.grant, v, wordBytes v ++ [lease.byte]⟩

/-- WAIT: vehicle, position. -/
def msgWait (v : Addr) (position : Nat) : Message := ⟨.wait, v, wordBytes v ++ [byteOf position]⟩

/-- REFUSE ENTRY: vehicle, cause. -/
def msgRefuseEntry (v : Addr) (c : EntryRefusal) : Message :=
  ⟨.refuseEntry, v, wordBytes v ++ [byteOf c.code]⟩

/-- WITHDRAW: vehicle. -/
def msgWithdraw (v : Addr) : Message := ⟨.withdraw, v, wordBytes v⟩

/-- PROXIMITY: miner count. -/
def msgProximity (dest : Addr) (count : Nat) : Message := ⟨.proximity, dest, [byteOf count]⟩

/-- EVAC NOTICE: node. -/
def msgEvacNotice (own unit : Addr) : Message := ⟨.evacNotice, unit, wordBytes own⟩

/-- MUSTER REPORT: node, the three counts, and the listed units. -/
def msgMusterReport (dest own : Addr) (t : Tally) (units : List Addr) : Message :=
  ⟨.musterReport, dest, wordBytes own
    ++ [byteOf t.present, byteOf t.notified, byteOf t.inRefuge, byteOf units.length]
    ++ addressBytes units⟩

/-- LOCATE REPORT: station, node, previous location, attach node. -/
def msgLocateReport (dest station own : Addr) (previous : Option Location) (attach : Option Addr) : Message :=
  ⟨.locateReport, dest, wordBytes station ++ wordBytes own ++ [byteOf (previousLocationCode previous)]
    ++ wordBytes (attach.getD 0)⟩

/-- RESPONSE: tag, outcome, cause, data. -/
def msgResponse (dest : Addr) (tag : Byte) (cause : Cause) (data : List Byte) : Message :=
  ⟨.response, dest, [tag, if cause = .none then 0 else 1, byteOf cause.code] ++ data⟩

end Sys2Proof.Machine
end

