-- ==== Sys2Proof/Machine/Calls.lean ====
section
/-! DEFINITION. The leg table (chapter Miners' Calls): limits, clearing, setups, answers, glare, moves and the
voice window. -/

namespace Sys2Proof.Machine

/-! ### Limits (R97) -/

/-- The leg ceiling at a shed level (R97). -/
def legCeiling (shed : Nat) : Nat := if shed ≤ 1 then 8 else if shed = 2 then 4 else 2

/-- The minimum priority at a shed level and an evacuation state (R97). -/
def minimumPriority (shed : Nat) (e : EvacState) : Priority :=
  if 3 ≤ shed then .emergency
  else if shed = 2 then .urgent
  else match e with
    | .quiet => .routine
    | .evacuate => .urgent

/-- The leg ceiling in force. -/
def State.ceiling (s : State) : Nat := legCeiling s.supply.shedLevel

/-- The minimum priority in force. -/
def State.minimum (s : State) : Priority := minimumPriority s.supply.shedLevel s.evac.state

/-! ### Small changes -/

/-- One more stray signal (R96, R100, R105 to R107). -/
def State.straySignal (s : State) : State :=
  s.countCalls (fun k => { k with straySignals := k.straySignals + 1 })

/-- A leg's state is entered without a setup timer. -/
def Leg.enter (l : Leg) (x : LegState) : Leg := { l with state := x, setupTimer := none }

/-- Entering ACTIVE stops the setup timer and leaves the last voice sequence unset (R107). -/
def Leg.activate (l : Leg) : Leg := { l with state := .active, setupTimer := none, lastVoice := none }

/-- A CALL CLEAR of a leg's call (R95). -/
def State.sendClear (s : State) (dest : Addr) (c : CallId) (cause : ClearCause) : State :=
  s.originate (msgCallClear dest c cause)

/-! ### Clearing (R108, R109) -/

/-- Where a clear came from: the node itself, the far side, or a unit's own CALL CLEAR. -/
inductive ClearFrom where
  | node
  | far
  | unit (a : Addr)
  deriving DecidableEq, Repr

/-- A leg enters CLEARING: its timer stops, it leaves the start list, its last cause is recorded (R109 step
1). -/
def State.enterClearing (s : State) (i : Fin 8) (c : ClearCause) : State :=
  (s.setLeg i { (s.leg i).enter .clearing with lastCause := some c }).setStartList
    (s.calls.startList.filter (fun j => j != i))

/-- A leg whose notices have been handed on becomes IDLE (R109 step 4). -/
def State.becomeIdle (s : State) (i : Fin 8) : State :=
  s.setLeg i { s.leg i with state := .idle, partner := none }

/-- The notices of a leg without a partner here (R109 step 2). -/
def State.clearNotices (s : State) (l : Leg) (c : ClearCause) (w : ClearFrom) : State :=
  let s := if w = .unit l.localParty then s else s.sendClear l.localParty l.callId c
  if w = .far ∨ c = .glare then s
  else s.sendClear l.remoteParty l.callId c

/-- The notices of a pair of legs: one to each unit that did not itself send the clear (R109 step 3), first to the
unit of the leg that is cleared, then to its partner's (DESIGN CHOICE, assumption 5). -/
def State.pairNotices (s : State) (l p : Leg) (c : ClearCause) (w : ClearFrom) : State :=
  let s := if w = .unit l.localParty then s else s.sendClear l.localParty l.callId c
  if w = .unit p.localParty then s else s.sendClear p.localParty l.callId c

/-- The partner of a leg, if it has one here that is not IDLE (R109). -/
def State.partnerOf (s : State) (i : Fin 8) : Option (Fin 8) :=
  match (s.leg i).partner with
  | some j => if (s.leg j).state = .idle then none else some j
  | none => none

/-- Clearing a leg, and its partner with it (R109). An IDLE leg has nothing to clear. -/
def State.clearLeg (s : State) (i : Fin 8) (c : ClearCause) (w : ClearFrom) : State :=
  if (s.leg i).state = .idle then s
  else
    match s.partnerOf i with
    | some j =>
      ((((s.enterClearing i c).enterClearing j c).pairNotices (s.leg i) (s.leg j) c w).becomeIdle
        i).becomeIdle j
    | none => ((s.enterClearing i c).clearNotices (s.leg i) c w).becomeIdle i

/-! ### Limit changes (R98) -/

/-- The newest counting leg that satisfies `p`: the last of the start list. -/
def State.newestLeg (s : State) (p : Leg → Bool) : Option (Fin 8) :=
  s.calls.startList.reverse.find? (fun i => p (s.leg i))

/-- The lowest priority among the counting legs. -/
def State.lowestPriority (s : State) : Nat :=
  s.calls.startList.foldr (fun i n => min (s.leg i).priority.code n) 2

/-- The newest of the counting legs with the lowest priority (R98, R102). -/
def State.weakestLeg (s : State) : Option (Fin 8) :=
  s.newestLeg (fun l => l.priority.code == s.lowestPriority)

/-- The leg that a limit change clears next: first those below the minimum, newest first; then, while the
counting legs exceed the ceiling, the newest of the lowest priority (R98). -/
def State.limitVictim (s : State) : Option (Fin 8) :=
  match s.newestLeg (fun l => decide (l.priority.code < s.minimum.code)) with
  | some i => some i
  | none => if s.ceiling < s.calls.startList.length then s.weakestLeg else none

/-- One leg cleared by a limit change is counted, its partner too (R98). -/
def State.clearForLimit (s : State) (c : ClearCause) (i : Fin 8) : State :=
  let n : Counter := match s.partnerOf i with
    | some _ => 2
    | none => 1
  (s.clearLeg i c .node).countCalls (fun k => { k with limitClears := k.limitClears + n })

/-- Legs are cleared until the limits hold; eight legs are the most there are. -/
def State.enforceLimits (c : ClearCause) : Nat → State → State
  | 0, s => s
  | fuel + 1, s =>
    match s.limitVictim with
    | some i => State.enforceLimits c fuel (s.clearForLimit c i)
    | none => s

/-- The leg table is handed a new shed level or evacuation state; `ceiling` and `minimum` are the limits
before it (R98). -/
def State.limitsChanged (s : State) (ceiling : Nat) (minimum : Priority) (c : ClearCause) : State :=
  if (s.ceiling < ceiling ∨ minimum.code < s.minimum.code) ∧ s.limitVictim.isSome then
    (State.enforceLimits c 8 s).setFlag Flag.limitClear
  else s

/-! ### Permit ranges (R99) -/

/-- A range permits a callee to a caller (R99). -/
def PermitRange.permits (r : PermitRange) (caller callee : Addr) : Bool :=
  decide (r.low.toNat ≤ callee.toNat) && decide (callee.toNat ≤ r.high.toNat)
    && ((isMiner caller && r.miner) || (isVehicle caller && r.vehicle))

/-- A callee is permitted to a caller (R99). -/
def State.permitted (s : State) (caller callee : Addr) : Bool :=
  s.calls.permits.toList.any (fun r => r.permits caller callee)

/-! ### Allocation (R102) -/

/-- The lowest-indexed IDLE leg. -/
def State.idleLeg (s : State) : Option (Fin 8) := legIndices.find? (fun i => (s.leg i).state == .idle)

/-- Allocation takes a leg for a setup at a priority, preempting a weaker leg when the ceiling is reached
(R102). -/
def State.allocate (s : State) (p : Priority) : State × Option (Fin 8) :=
  if s.countingLegs < s.ceiling then (s, s.idleLeg)
  else
    match s.weakestLeg with
    | some i =>
      if (s.leg i).priority.code < p.code then
        let t := ((s.clearLeg i .preempted .node).setFlag Flag.preempted).countCalls
          (fun k => { k with preemptions := k.preemptions + 1 })
        (t, t.idleLeg)
      else (s, none)
    | none => (s, none)

/-- A CALL SETUP's fields (R76). -/
structure Setup where
  callId   : CallId
  caller   : Addr
  callee   : Addr
  priority : Priority
  deriving DecidableEq, Repr

/-- The fields of a CALL SETUP whose payload fits (R76). -/
def setupOf (payload : List Byte) : Option Setup :=
  match payload with
  | [n, k, a, b, c, d, p] =>
    match Priority.ofCode p.toNat with
    | some q => some ⟨⟨n, k⟩, wordOf a b, wordOf c d, q⟩
    | none => none
  | _ => none

/-- A leg taken for a setup is filled, appended to the start list and counted; its counters, last voice
sequence and last cause start afresh (R94, R103, R105). -/
def State.takeLeg (s : State) (i : Fin 8) (x : LegState) (d : LegDirection) (c : Setup) : State :=
  let l : Leg :=
    { state := x
      callId := c.callId
      direction := d
      localParty := if d = .orig then c.caller else c.callee
      remoteParty := if d = .orig then c.callee else c.caller
      priority := c.priority
      setupTimer := if x = .active then none else startTimer s.now s.params.setup.ms
      lastVoice := none
      voiceIn := 0
      voiceOut := 0
      voiceDropped := 0
      lastCause := none
      partner := none }
  ((s.setLeg i l).setStartList (s.calls.startList ++ [i])).countCalls
    (fun k => { k with setupsTaken := k.setupsTaken + 1 })

/-- Two legs of one call become each other's partner (R103). -/
def State.pairLegs (s : State) (i j : Fin 8) : State :=
  let s := s.setLeg i { s.leg i with partner := some j }
  s.setLeg j { s.leg j with partner := some i }

/-- A refused setup: CALL CLEAR with the cause to the caller, flagged and counted (R104, R105). -/
def State.refuseSetup (s : State) (c : Setup) (cause : ClearCause) : State :=
  ((s.sendClear c.caller c.callId cause).setFlag Flag.refused).countCalls
    (fun k => { k with setupsRefused := k.setupsRefused + 1 })

/-- The minimum priority and allocation steps that terminating setups share (R105 steps 3 and 4): the leg, or
the refusal's cause. -/
def State.findRoom (s : State) (p : Priority) : State × (Fin 8 ⊕ ClearCause) :=
  if p.code < s.minimum.code then (s, .inr .restricted)
  else
    match s.allocate p with
    | (t, some i) => (t, .inl i)
    | (t, none) => (t, .inr .nodeBusy)

/-! ### Setting up a call (R100 to R105, R111, R112) -/

/-- An accepted originating setup fills its leg; when the callee is attached here too, its leg is taken in the
same event. `won` says that the caller has just won a glare, so that both legs of a call to a callee who is here are
made ACTIVE at once (R103, R112). The caller is sent its CALL ALERTING or CALL ANSWER before the callee is sent
its own frame (DESIGN CHOICE, assumption 5). -/
def State.acceptOriginating (s : State) (i : Fin 8) (c : Setup) (won : Bool) : State :=
  let s := s.takeLeg i .originating .orig c
  if isUnit c.callee && s.attachedHere c.callee then
    match s.findRoom c.priority with
    | (s, .inl j) =>
      let s := (s.takeLeg j .ringing .term c).pairLegs i j
      if won then
        let s := s.setLeg i (s.leg i).activate
        let s := s.setLeg j (s.leg j).activate
        (s.originate (msgCallAnswer c.caller c.callId)).originate (msgCallAnswer c.callee c.callId)
      else
        (s.originate (msgCallAlerting c.caller c.callId)).originate
          (msgCallSetup c.callId c.caller c.callee c.priority)
    | (s, .inr cause) => s.clearLeg i cause .node
  else s.originate (msgCallSetup c.callId c.caller c.callee c.priority)

/-- A callee that a unit may call: a miner unit, a vehicle unit or a surface station other than the caller
(R101). -/
def calleeGood (c : Setup) : Bool := (isUnit c.callee || isSurface c.callee) && c.callee != c.caller

/-- A setup at EMERGENCY whose callee is not a surface station is taken at URGENT (R101). -/
def Setup.clamped (c : Setup) : Setup :=
  if c.priority = .emergency ∧ isSurface c.callee = false then { c with priority := .urgent } else c

/-- The checks of an originating setup, in order (R101). -/
def State.originating (s : State) (asked : Setup) (won : Bool) : State :=
  let c := asked.clamped
  if !calleeGood c then s.refuseSetup c .notPermitted
  else if c.priority ≠ .emergency ∧ s.permitted c.caller c.callee = false then s.refuseSetup c .notPermitted
  else
    match s.findRoom c.priority with
    | (s, .inl i) => s.acceptOriginating i c won
    | (s, .inr cause) => s.refuseSetup c cause

/-- The first leg, by index, that is not IDLE and satisfies `p`. Where several legs of a unit qualify for a glare
with one remote party, R111 and R112 do not say which it settles: it settles the one of lowest index (DESIGN
CHOICE, assumption 27). -/
def State.findLeg (s : State) (p : Leg → Bool) : Option (Fin 8) :=
  legIndices.find? (fun i => (s.leg i).state != .idle && p (s.leg i))

/-- The answer of a glare: CALL ANSWER with the surviving call's id to both parties, the setup's callee first
(R111, R112; for the order, assumption 5). -/
def State.answerBoth (s : State) (a b : Addr) (c : CallId) : State :=
  (s.originate (msgCallAnswer a c)).originate (msgCallAnswer b c)

/-- A glare at the originating side: the caller has leg `i`, a RINGING TERM leg whose remote party is the
callee (R112). The setup is taken as if the unit had answered, and an answer on the radio matches both legs of a
call between two units of this node: a partner's ORIGINATING leg here becomes ACTIVE too, and one that is ACTIVE
already stays as it is (R107; DEDUCED, assumption 14). When the setup wins, a callee that is attached here makes both
legs ACTIVE as soon as they are taken, whether the cleared leg had a partner here or its setup came by the backbone
(R112). -/
def State.glareOriginating (s : State) (i : Fin 8) (c : Setup) : State :=
  if c.callee.toNat < c.caller.toNat then
    let l := s.leg i
    let t := s.setLeg i l.activate
    let t := match l.partner with
      | some j => if (s.leg j).state = LegState.originating then t.setLeg j (t.leg j).activate else t
      | none => t
    t.answerBoth c.callee c.caller l.callId
  else (s.clearLeg i .glare .node).originating c true

/-- An originating setup is compared with the legs already here, then checked (R100). -/
def State.setupFromRadio (s : State) (f : Frame) (c : Setup) : State :=
  if isUnit f.src && c.caller == f.src && s.nodeAddr? == some (c.callId.node.setWidth 16) then
    match s.findLeg (fun l => l.direction == .orig && l.callId == c.callId) with
    | some i =>
      if (s.leg i).localParty = c.caller then s.straySignal else s.refuseSetup c .idInUse
    | none =>
      match s.findLeg (fun l => l.direction == .term && l.state == .ringing
          && l.localParty == c.caller && l.remoteParty == c.callee) with
      | some i => s.glareOriginating i c
      | none => s.originating c false
  else s.straySignal

/-- A terminating setup from its minimum priority step on. `active` says that it has won a glare: its leg is
made ACTIVE at once, both parties are answered and nothing is passed (R105, R111). The second component is
PASS. -/
def State.terminating (s : State) (c : Setup) (active : Bool) : State × Bool :=
  match s.findRoom c.priority with
  | (s, .inr cause) => (s.refuseSetup c cause, false)
  | (s, .inl i) =>
    if active then ((s.takeLeg i .active .term c).answerBoth c.callee c.caller c.callId, false)
    else ((s.takeLeg i .ringing .term c).originate (msgCallAlerting c.caller c.callId), true)

/-- A glare at the terminating side: the callee has leg `i`, an ORIGINATING ORIG leg whose remote party is the
caller (R111). When it survives, that leg alone becomes ACTIVE: a partner of it here stays RINGING, since an
answer from the backbone would not match it; when it is cleared and has a partner here, both legs go and both their
units are told, as R109 step 3 has it (DEDUCED, assumption 14). -/
def State.glareTerminating (s : State) (i : Fin 8) (c : Setup) : State × Bool :=
  if c.callee.toNat < c.caller.toNat then
    let l := s.leg i
    ((s.setLeg i l.activate).answerBoth c.callee c.caller l.callId, false)
  else (s.clearLeg i .glare .node).terminating c true

/-- A CALL SETUP from the backbone (R105). One for a callee that is not attached here is passed and settles no glare,
whatever leg the callee has: R111 speaks of a terminating setup only (DEDUCED, assumption 30). The second component is
PASS. -/
def State.setupFromBackbone (s : State) (f : Frame) (c : Setup) : State × Bool :=
  if f.dest == c.callee && isUnit c.callee && s.attachedHere c.callee then
    match s.findLeg (fun l => l.direction == .term && l.callId == c.callId && l.localParty == c.callee) with
    | some _ => (s.straySignal, false)
    | none =>
      match s.findLeg (fun l => l.direction == .orig && l.state == .originating
          && l.localParty == c.callee && l.remoteParty == c.caller) with
      | some i => s.glareTerminating i c
      | none => s.terminating c false
  else (s, true)

/-! ### Frames on a leg (R106, R107, R110, R114) -/

/-- The frame comes from the leg's unit side: on the radio with the local party as its source (R96). -/
def unitSide (p : Port) (f : Frame) (l : Leg) : Bool := p == .radio && f.src == l.localParty

/-- A leg matches a call frame (R96). -/
def legMatches (p : Port) (f : Frame) (c : CallId) (l : Leg) : Bool :=
  l.state != .idle && l.callId == c && (f.dest == l.localParty || unitSide p f l)

/-- A CALL ALERTING on a matched leg (R106). One that is held on two matched legs counts twice (assumption 25). -/
def State.alertingOnLeg (s : State) (p : Port) (f : Frame) (i : Fin 8) : State × Bool :=
  let l := s.leg i
  if l.direction = .orig ∧ l.state = .originating ∧ unitSide p f l = false then (s, true)
  else (s.straySignal, false)

/-- A CALL ANSWER on a matched leg (R107). R107 counts a STRAY SIGNAL on each leg that holds the answer, R116 one
for each frame: the model follows R107, so that a second answer that matches both legs of a call here counts
twice (DESIGN CHOICE, assumption 25). -/
def State.answerOnLeg (s : State) (p : Port) (f : Frame) (i : Fin 8) : State × Bool :=
  let l := s.leg i
  if (l.direction = .orig ∧ l.state = .originating ∧ unitSide p f l = false)
      ∨ (l.direction = .term ∧ l.state = .ringing ∧ unitSide p f l = true) then
    (s.setLeg i l.activate, true)
  else (s.straySignal, false)

/-- A CALL CLEAR on a matched leg: it clears the leg and is held (R110). For a call between two units of this node
the frame's source is the unit that sent the clear, on whatever port it came (R109 step 3). -/
def State.clearOnLeg (s : State) (p : Port) (f : Frame) (cause : ClearCause) (i : Fin 8) : State × Bool :=
  (s.clearLeg i cause (if unitSide p f (s.leg i) ∨ (s.partnerOf i).isSome then .unit f.src else .far), false)

/-- A voice sequence is newer: the last is unset, or the difference modulo 256 is 1 to 128 (R114). -/
def voiceNewer (last : Option Byte) (x : Byte) : Bool :=
  match last with
  | none => true
  | some y => decide (1 ≤ (x - y).toNat) && decide ((x - y).toNat ≤ 128)

/-- A VOICE frame on a matched leg (R114). -/
def State.voiceOnLeg (s : State) (p : Port) (f : Frame) (x : Byte) (i : Fin 8) : State × Bool :=
  let l := s.leg i
  if l.state = .active then
    if unitSide p f l then (s.setLeg i { l with voiceIn := l.voiceIn + 1 }, true)
    else if voiceNewer l.lastVoice x then
      (s.setLeg i { l with lastVoice := some x, voiceOut := l.voiceOut + 1 }, true)
    else (s.setLeg i { l with voiceDropped := l.voiceDropped + 1 }, false)
  else (s.setLeg i { l with voiceDropped := l.voiceDropped + 1 }, false)

/-- A frame is handled on each leg it matched, in index order; a leg that an earlier one's handling has
cleared has nothing left to do. PASS when every handling passes it (R96). -/
def State.onLegs (h : State → Fin 8 → State × Bool) : State → List (Fin 8) → State × Bool
  | s, [] => (s, true)
  | s, i :: rest =>
    if (s.leg i).state = .idle then State.onLegs h s rest
    else
      let x := h s i
      let y := State.onLegs h x.1 rest
      (y.1, x.2 && y.2)

/-- A call frame other than a setup: on the legs it matches, or by the table of frames that match no leg
(R96). `stray` counts one that is held for a unit attached here. -/
def State.callFrame (s : State) (p : Port) (f : Frame) (c : CallId) (h : State → Fin 8 → State × Bool)
    (stray : Option (State → State)) : State × Bool :=
  let matched := legIndices.filter (fun i => legMatches p f c (s.leg i))
  if matched.isEmpty then
    match stray with
    | some k => if p ≠ .radio ∧ s.attachedHere f.dest then (k s, false) else (s, true)
    | none => (s, true)
  else s.onLegs h matched

/-- The leg table inspection: PASS is true, HOLD false (R85, R96). Frames whose payload does not fit, and
kinds that are no call frames, are passed. -/
def State.inspect (s : State) (p : Port) (f : Frame) : State × Bool :=
  match f.kind?, f.payload with
  | some .callSetup, payload =>
    match setupOf payload with
    | some c => if p = .radio then (s.setupFromRadio f c, false) else s.setupFromBackbone f c
    | none => (s, true)
  | some .callAlerting, [n, k] =>
    s.callFrame p f ⟨n, k⟩ (fun s i => s.alertingOnLeg p f i) (some State.straySignal)
  | some .callAnswer, [n, k] =>
    s.callFrame p f ⟨n, k⟩ (fun s i => s.answerOnLeg p f i) (some State.straySignal)
  | some .callClear, [n, k, c] =>
    match ClearCause.ofCode c.toNat with
    | some cause => s.callFrame p f ⟨n, k⟩ (fun s i => s.clearOnLeg p f cause i) none
    | none => (s, true)
  | some .voice, n :: k :: x :: coded =>
    if coded.length ≤ 64 then
      s.callFrame p f ⟨n, k⟩ (fun s i => s.voiceOnLeg p f x i)
        (some (fun s => s.countCalls (fun k => { k with voiceStrays := k.voiceStrays + 1 })))
    else (s, true)
  | _, _ => (s, true)

/-! ### Moves, timers, restart -/

/-- An ANNOUNCE that names another node clears the unit's legs with MOVED (R113). -/
def State.unitMoved (s : State) (unit : Addr) : State :=
  legIndices.foldl (fun s i => if (s.leg i).localParty = unit then s.clearLeg i .moved .node else s) s

/-- A leg's setup timer expires (R106). -/
def State.setupExpires (s : State) (i : Fin 8) : State :=
  (s.clearLeg i .noAnswer .node).countCalls (fun k => { k with setupTimeouts := k.setupTimeouts + 1 })

/-- The leg table at RESTART: every leg as at COLD START, the ranges kept (R118). -/
def State.restartCalls (s : State) : State :=
  { s with calls := { s.calls with legs := Vector.replicate 8 Leg.cold, startList := [] } }

end Sys2Proof.Machine
end

