-- ==== Sys2Proof/Machine/Segment.lean ====
section
/-! DEFINITION. The segment arbiter (chapter Haulage Segment Control): grants, the wait queue, leases,
closure and opening, release, proximity. -/

namespace Sys2Proof.Machine

/-! ### Small changes of the record -/

/-- The set of closure causes is not empty (R120). -/
def Causes.any (c : Causes) : Bool := c.air || c.surface || c.startup

/-- The segment's state replaced. -/
def State.setSegState (s : State) (x : SegmentState) : State := { s with seg := { s.seg with state := x } }

/-- The closure causes replaced. -/
def State.setCauses (s : State) (c : Causes) : State := { s with seg := { s.seg with causes := c } }

/-- The wait queue replaced. -/
def State.setSegQueue (s : State) (q : List Truck) : State := { s with seg := { s.seg with queue := q } }

/-- The lease timer is started or restarted: its length is taken now (R124). -/
def State.startLease (s : State) : State :=
  { s with seg := { s.seg with lease := startTimer s.now s.params.lease.ms } }

/-- The lease timer is stopped (R124). -/
def State.stopLease (s : State) : State := { s with seg := { s.seg with lease := none } }

/-- The holder recorded. -/
def State.setHolder (s : State) (t : Truck) : State := { s with seg := { s.seg with holder := some t } }

/-- The vehicle is the holder. -/
def Segment.heldBy (g : Segment) (v : Addr) : Bool :=
  match g.holder with
  | some t => t.vehicle == v
  | none => false

/-- The vehicle is in the wait queue. -/
def Segment.waits (g : Segment) (v : Addr) : Bool := g.queue.any (fun t => t.vehicle == v)

/-! ### Notices to vehicles -/

/-- A GRANT carries the lease duration in force and is counted (R122). -/
def State.sendGrant (s : State) (v : Addr) : State :=
  s.originateCounted (fun s => s.countSeg (fun k => { k with grantsSent := k.grantsSent + 1 }))
    (msgGrant v s.params.lease)

/-- A WAIT with a position (R123). -/
def State.sendWait (s : State) (v : Addr) (position : Nat) : State :=
  s.originateCounted (fun s => s.countSeg (fun k => { k with waitsSent := k.waitsSent + 1 }))
    (msgWait v position)

/-- A REFUSE ENTRY with its cause (R122). -/
def State.sendRefusal (s : State) (v : Addr) (c : EntryRefusal) : State :=
  s.originateCounted (fun s => s.countSeg (fun k => { k with entryRefusals := k.entryRefusals + 1 }))
    (msgRefuseEntry v c)

/-- A WITHDRAW: counted, flagged, and at most one to a vehicle in one event (R130). -/
def State.sendWithdraw (s : State) (v : Addr) : State :=
  if s.scratch.withdrawn.contains v then s
  else s.originateCounted
    (fun s => ({ s with scratch := { s.scratch with withdrawn := v :: s.scratch.withdrawn } }.setFlag
      Flag.withdraw).countSeg (fun k => { k with withdrawsSent := k.withdrawsSent + 1 }))
    (msgWithdraw v)

/-- Every queued vehicle from a place on is sent a WAIT with its position, oldest first; `done` vehicles stand
before them (R123). -/
def State.sendWaits (s : State) (done : Nat) : List Truck → State
  | [] => s
  | t :: rest => (s.sendWait t.vehicle (done + 1)).sendWaits (done + 1) rest

/-! ### Proximity (R133, R134) -/

/-- The proximity condition (R133). -/
def Segment.proximity (g : Segment) : Bool :=
  g.holder.isSome && g.holderHere && decide (1 ≤ g.minerCount)

/-- One PROXIMITY notice with the miner count (R134). -/
def State.sendProximity (s : State) (dest : Addr) : State :=
  s.originateCounted
    (fun s => s.countSeg (fun k => { k with proximityNotices := k.proximityNotices + 1 }))
    (msgProximity dest s.seg.minerCount)

/-- A PROXIMITY notice to the holder, if there is one. -/
def State.sendProximityHolder (s : State) : State :=
  match s.seg.holder with
  | some t => s.sendProximity t.vehicle
  | none => s

/-- The notices of a condition that starts: the holder, then every miner at RADIO_HERE in ascending address
order (R134). -/
def State.proximityStarts (s : State) : State :=
  s.minersHere.foldl (fun s e => s.sendProximity e.address) s.sendProximityHolder

/-- The notices after a change of the holder or of the holder's presence; `was` is the condition before it.
A condition that ends this way sends nothing (R134). -/
def State.proximityFollows (s : State) (was : Bool) : State :=
  if !was && s.seg.proximity then s.proximityStarts else s

/-- The holder's presence recorded. -/
def State.setHolderHere (s : State) (b : Bool) : State := { s with seg := { s.seg with holderHere := b } }

/-- The miner count recorded. -/
def State.setMinerCount (s : State) (n : Nat) : State := { s with seg := { s.seg with minerCount := n } }

/-- A miner unit arrives at RADIO_HERE (R133, R134). -/
def State.segMinerArrives (s : State) (unit : Addr) : State :=
  let was := s.seg.proximity
  let s' := s.setMinerCount (s.seg.minerCount + 1)
  if s'.seg.proximity then
    if was then s'.sendProximityHolder.sendProximity unit else s'.proximityStarts
  else s'

/-- A miner unit leaves RADIO_HERE: the holder hears the new count, 0 included (R133, R134). -/
def State.segMinerLeaves (s : State) : State :=
  let was := s.seg.proximity
  let s' := s.setMinerCount (s.seg.minerCount - 1)
  if was then s'.sendProximityHolder else s'

/-- A vehicle unit arrives at RADIO_HERE or leaves it: only the holder's presence is followed (R133). -/
def State.segVehicle (s : State) (v : Addr) (here : Bool) : State :=
  if s.seg.heldBy v then
    let was := s.seg.proximity
    (s.setHolderHere here).proximityFollows was
  else s

/-! ### Granting and leaving -/

/-- The vehicle's entry is at RADIO_HERE. -/
def State.isHere (s : State) (v : Addr) : Bool :=
  match s.entry? v with
  | some e => e.location == .radioHere
  | none => false

/-- A vehicle becomes holder in HELD: the lease is started, a GRANT is sent, and the vehicle's location is
taken from the station table (R122, R128, R133). The PROXIMITY notices of a condition that starts with the new
holder follow its GRANT (DESIGN CHOICE, assumption 5). -/
def State.grantTo (s : State) (t : Truck) : State :=
  let was := s.seg.proximity
  let s := ((s.setSegState .held).setHolder t).startLease
  ((s.sendGrant t.vehicle).setHolderHere (s.isHere t.vehicle)).proximityFollows was

/-- The holder is removed: the lease stops, and the proximity condition, if it held, ends without a notice
(R124, R127, R134). -/
def State.removeHolder (s : State) : State :=
  { s with seg := { s.seg with holder := none, holderHere := false, lease := none } }

/-- A segment that becomes FREE grants the head of its queue in the same event (R128). The WAITs of those that
move up follow the GRANT and its PROXIMITY notices (DESIGN CHOICE, assumption 5). -/
def State.becomeFree (s : State) : State :=
  match s.seg.queue with
  | [] => s.setSegState .free
  | t :: rest => (((s.setSegState .free).setSegQueue rest).grantTo t).sendWaits 0 rest

/-- The segment without a holder: FREE when no cause is present, CLOSED when one is (R127, R132). -/
def State.vacate (s : State) : State :=
  if s.seg.causes.any then s.removeHolder.setSegState .closed else s.removeHolder.becomeFree

/-! ### Closure causes (R120, R129, R131) -/

/-- Every queued vehicle is refused with CLOSED, oldest first (R129). -/
def State.refuseAll (s : State) (q : List Truck) : State :=
  q.foldl (fun s t => s.sendRefusal t.vehicle .closed) s

/-- The cause set went from empty to not empty (R129). -/
def State.segCloses (s : State) : State :=
  let s := match s.seg.state, s.seg.holder with
    | .free, _ => s.setSegState .closed
    | .held, some t => (s.setSegState .draining).sendWithdraw t.vehicle
    | _, _ => s
  (s.refuseAll s.seg.queue).setSegQueue []

/-- The cause set went from not empty to empty (R131). -/
def State.segOpens (s : State) : State :=
  match s.seg.state, s.seg.holder with
  | .closed, _ => s.becomeFree
  | .draining, some t => ((s.setSegState .held).startLease).sendGrant t.vehicle
  | _, _ => s

/-- The cause set is replaced, and the state moves when the set becomes or stops being empty (R120). -/
def State.changeCauses (s : State) (c : Causes) : State :=
  let s' := s.setCauses c
  if !s.seg.causes.any && c.any then s'.segCloses
  else if s.seg.causes.any && !c.any then s'.segOpens
  else s'

/-- The air evaluator hands on a new zone grade (R120, R130). -/
def State.segZone (s : State) (old new : Grade) : State :=
  let wasDraining := s.seg.state == .draining
  let s := s.changeCauses { s.seg.causes with air := new.atLeast .alarm }
  if new = .trip ∧ old ≠ .trip ∧ wasDraining ∧ s.seg.state = .draining then
    match s.seg.holder with
    | some t => s.sendWithdraw t.vehicle
    | none => s
  else s

/-! ### Frames heard and delivered -/

/-- A heard-from notice (R124, R126). -/
def State.heardFrom (s : State) (a : Addr) : State :=
  if s.seg.heldBy a then
    match s.seg.state with
    | .held => s.startLease
    | .draining => s.startLease
    | .lost =>
      if s.seg.causes.any then ((s.setSegState .draining).startLease).sendWithdraw a
      else ((s.setSegState .held).startLease).sendGrant a
    | .free => s
    | .closed => s
  else s

/-- The place of a vehicle in a queue, counting from 1. -/
def queuePlace (v : Addr) (q : List Truck) : Nat := q.findIdx (fun t => t.vehicle == v) + 1

/-- An ENTRY REQUEST reaches the wait queue (R123). -/
def State.joinQueue (s : State) (v : Addr) (d : Heading) : State :=
  if s.seg.waits v then
    (s.setSegQueue (s.seg.queue.map (fun t => if t.vehicle = v then ⟨v, d⟩ else t))).sendWait v
      (queuePlace v s.seg.queue)
  else if s.seg.queue.length < 4 then
    (s.setSegQueue (s.seg.queue ++ [⟨v, d⟩])).sendWait v (s.seg.queue.length + 1)
  else (s.sendRefusal v .queueFull).setFlag Flag.queueFull

/-- A taken ENTRY REQUEST (R122). A holder that asks in LOST has been returned by its heard-from notice
before, so that row is not reached. -/
def State.entryRequest (s : State) (v : Addr) (d : Heading) : State :=
  if s.seg.heldBy v then
    match s.seg.state with
    | .held => ((s.setHolder ⟨v, d⟩).startLease).sendGrant v
    | .draining => s.startLease.sendWithdraw v
    | .lost => s
    | .free => s
    | .closed => s
  else
    match s.seg.state with
    | .free => s.grantTo ⟨v, d⟩
    | .held => s.joinQueue v d
    | .lost => if s.seg.causes.any then s.sendRefusal v .closed else s.joinQueue v d
    | .draining => s.sendRefusal v .closed
    | .closed => s.sendRefusal v .closed

/-- A taken EXIT NOTICE (R127). -/
def State.exitNotice (s : State) (v : Addr) : State :=
  if s.seg.heldBy v then s.vacate
  else if s.seg.waits v then
    let i := s.seg.queue.findIdx (fun t => t.vehicle == v)
    let q := s.seg.queue.eraseIdx i
    (s.setSegQueue q).sendWaits i (q.drop i)
  else s.countSeg (fun k => { k with strayExits := k.strayExits + 1 })

/-- An ENTRY REQUEST or EXIT NOTICE that is not a vehicle's own is discarded and counted (R121). -/
def State.badEntryFrame (s : State) : State :=
  s.countSeg (fun k => { k with badEntryFrames := k.badEntryFrames + 1 })

/-- The lease timer expires (R125). -/
def State.leaseExpires (s : State) : State :=
  (((s.setSegState .lost).stopLease).setFlag Flag.leaseLost).countSeg
    (fun k => { k with leaseLosses := k.leaseLosses + 1 })

/-- An accepted RELEASE SEGMENT (R132): the WITHDRAW goes to the old holder, RELEASED is set, and the segment
is FREE or CLOSED. -/
def State.releaseHolder (s : State) : State :=
  match s.seg.holder with
  | some t => ((s.removeHolder.sendWithdraw t.vehicle).setFlag Flag.released).vacate
  | none => (s.setFlag Flag.released).vacate

/-- The arbiter at RESTART (R137): the queue is emptied, the lease restarted where there is one, the miner
count 0 and the proximity condition ended without a notice. -/
def State.restartSegment (s : State) : State :=
  let running := s.seg.state == .held || s.seg.state == .draining
  { s with seg := { s.seg with
      queue := []
      lease := if running then startTimer s.now s.params.lease.ms else none
      minerCount := 0
      holderHere := false } }

end Sys2Proof.Machine
end

