-- ==== Sys2Proof/Machine/Station.lean ====
section
/-! DEFINITION. The station table (chapter Station Table): learning and announcements, creation with eviction
or failure, pin windows, ageing, watches, and the hand-offs to the blocks that follow the local
population. -/

namespace Sys2Proof.Machine

/-! ### Hand-offs (R55) -/

/-- One EVAC NOTICE to a miner unit (R144). -/
def State.sendEvacNotice (s : State) (unit : Addr) : State :=
  s.originateCounted (fun s => s.countEvac (fun k => { k with noticesSent := k.noticesSent + 1 }))
    (msgEvacNotice s.own unit)

/-- An enabled watch entry names the address (R68). -/
def Table.watched (t : Table) (a : Addr) : Bool := t.watches.toList.any (fun w => w.enabled && w.address == a)

/-- A LOCATE REPORT to the control station, however many watches name the station (R68). -/
def State.locate (s : State) (e : Entry) (previous : Option Location) : State :=
  if s.table.watched e.address then
    s.originateCounted (fun s => s.countTable (fun k => { k with locateReports := k.locateReports + 1 }))
      (msgLocateReport s.params.control e.address s.own previous e.attach)
  else s

/-- The evacuation controller is told of a miner unit newly at RADIO_HERE (R144). -/
def State.evacMinerArrives (s : State) (e : Entry) : State :=
  if s.evac.state = .evacuate ∧ e.mark = .none then s.sendEvacNotice e.address else s

/-- An entry has come into RADIO_HERE: the evacuation controller, the segment arbiter and the watch check
(R55, R68). Their frames go out in this order: the EVAC NOTICE (R144), the PROXIMITY notices (R134), the LOCATE
REPORT (DESIGN CHOICE, assumption 5). -/
def State.arrives (s : State) (e : Entry) (previous : Option Location) : State :=
  let s :=
    if isMiner e.address then (s.evacMinerArrives e).segMinerArrives e.address
    else if isVehicle e.address then s.segVehicle e.address true
    else s
  s.locate e previous

/-- An entry has left RADIO_HERE (R55). The evacuation controller's tally is read from the table. -/
def State.departs (s : State) (a : Addr) : State :=
  if isMiner a then s.segMinerLeaves
  else if isVehicle a then s.segVehicle a false
  else s

/-! ### Changing an entry -/

/-- An entry rewritten, with the hand-offs of a change into or out of RADIO_HERE (R55). -/
def State.rewriteEntry (s : State) (old new : Entry) : State :=
  let s := s.setEntries (replaceEntry new s.table.entries)
  if old.location ≠ .radioHere ∧ new.location = .radioHere then s.arrives new (some old.location)
  else if old.location = .radioHere ∧ new.location ≠ .radioHere then s.departs old.address
  else s

/-- An entry removed, with the hand-off of R55 when it was at RADIO_HERE. -/
def State.dropEntry (s : State) (e : Entry) : State :=
  let s := s.setEntries (removeEntry e.address s.table.entries)
  if e.location = .radioHere then s.departs e.address else s

/-! ### Creation, eviction, failure (R57, R58, R61) -/

/-- An address matches a valid window (R60). -/
def PinWindow.matches (w : PinWindow) (a : Addr) : Bool :=
  w.valid && ((a &&& w.mask) == (w.base &&& w.mask))

/-- An address matches the window set (R60). -/
def Table.matches (t : Table) (a : Addr) : Bool := t.pins.toList.any (fun w => w.matches a)

/-- The removable entry with the greatest age, the lowest address among equals; `best` stands before the
list, which is in ascending address order (R57). -/
def victimFrom (p : Entry → Bool) (best : Option Entry) : List Entry → Option Entry
  | [] => best
  | e :: rest =>
    let better := match best with
      | some b => decide (b.age < e.age)
      | none => true
    victimFrom p (if p e && better then some e else best) rest

/-- The entry that gives way when the table is full (R57). -/
def State.victim (s : State) : Option Entry := victimFrom s.removable none s.table.entries

/-- The most entries the table holds (R51). -/
def tableCapacity : Nat := 128

/-- The most pinned entries the table holds (R51). -/
def pinCapacity : Nat := 104

/-- Room for one more entry: eviction from a full table, none when no entry is removable (R57, R58). -/
def State.makeRoom (s : State) : Option State :=
  if s.table.entries.length < tableCapacity then some s
  else
    match s.victim with
    | some e => some ((s.dropEntry e).countTable (fun k => { k with evictions := k.evictions + 1 }))
    | none => none

/-- A new entry is put in its place, pinned or not, counted and handed on (R52, R55, R61). -/
def State.insertNew (s : State) (a : Addr) (l : Location) (attach : Option Addr) : State :=
  let e : Entry :=
    { address := a, location := l, age := 0
      pinned := s.table.matches a && decide (pinnedCount s.table.entries < pinCapacity)
      mark := .none, attach := attach }
  let s := (s.setEntries (insertEntry e s.table.entries)).countTable
    (fun k => { k with stationsLearned := k.stationsLearned + 1 })
  if l = .radioHere then s.arrives e none else s

/-- A creation that fails (R58). -/
def State.learnFails (s : State) : State :=
  (s.countTable (fun k => { k with learnFailures := k.learnFailures + 1 })).setFlag Flag.learnFail

/-- An entry is created for an address that has none. The node's own address is ignored (R51). -/
def State.createEntry (s : State) (a : Addr) (l : Location) (attach : Option Addr) : State :=
  if s.nodeAddr? = some a then s
  else
    match s.makeRoom with
    | some t => t.insertNew a l attach
    | none => s.learnFails

/-- The evacuation controller asks for a miner unit named in a tag list; the entry, if there is one, is found
in the table afterwards (R59). -/
def State.createForMuster (s : State) (a : Addr) : State :=
  match s.entry? a with
  | some _ => s
  | none => s.createEntry a .fieldHere none

/-! ### Learning (R52, R53, R54) -/

/-- The fresh-local rule: a backbone arrival leaves a fresh RADIO_HERE entry as it was (R53). -/
def freshLocal (p : Parameters) (l : Location) (e : Entry) : Bool :=
  (l == .viaOutbye || l == .viaInbye) && e.location == .radioHere && !ageReaches e.age p.presence

/-- A learn request for a source heard at a location (R52, R53). -/
def State.learn (s : State) (a : Addr) (l : Location) : State :=
  match s.entry? a with
  | some e => if freshLocal s.params l e then s else s.rewriteEntry e { e with location := l, age := 0 }
  | none => s.createEntry a l none

/-- The attach node of an ANNOUNCE that the table takes: its payload fits, its unit is its source, a miner or
vehicle, and it names a node (R54). -/
def announced (f : Frame) : Option Addr :=
  if f.isKind .announce then
    match f.payload with
    | [a, b, c, d] =>
      if wordOf a b = f.src ∧ isUnit f.src = true ∧ isNode (wordOf c d) = true then some (wordOf c d)
      else none
    | _ => none
  else none

/-- A taken ANNOUNCE changes the entry: a different attach node overrides the fresh-local rule (R54). -/
def State.learnAnnounce (s : State) (a : Addr) (l : Location) (attach : Addr) : State :=
  match s.entry? a with
  | some e =>
    if e.attach = some attach then s.learn a l
    else s.rewriteEntry e { e with location := l, age := 0, attach := some attach }
  | none => s.createEntry a l (some attach)

/-- The learn step of the walk: an ANNOUNCE that the table takes, or an ordinary learn request; an ANNOUNCE
that names another node is handed to the leg table (R54, R80). What the change of the entry sends (R55) goes out before
the CALL CLEARs of that hand-off (DESIGN CHOICE, assumption 5). -/
def State.learnFrame (s : State) (p : Port) (f : Frame) : State :=
  match announced f with
  | some attach =>
    let s := s.learnAnnounce f.src (learntLocation p) attach
    if s.nodeAddr? = some attach then s else s.unitMoved f.src
  | none => s.learn f.src (learntLocation p)

/-! ### Pin windows (R62) -/

/-- The re-evaluation of the entries in ascending address order, with the running count of pinned ones
(R62). -/
def repin (t : Table) : Nat → List Entry → List Entry
  | _, [] => []
  | n, e :: rest =>
    let p := t.matches e.address && decide (n < pinCapacity)
    { e with pinned := p } :: repin t (if p then n + 1 else n) rest

/-- An accepted pin window load (R62). -/
def State.loadPinWindow (s : State) (i : Fin 4) (w : PinWindow) : State :=
  let s := { s with table := { s.table with pins := s.table.pins.set i w } }
  s.setEntries (repin s.table 0 s.table.entries)

/-! ### Ageing (R63, R64) -/

/-- An entry one second older, stopping at 65535 (R63). -/
def Entry.older (e : Entry) : Entry := { e with age := if e.age < 65535 then e.age + 1 else 65535 }

/-- An entry whose age has reached its timeout (R64). -/
def State.timeOut (s : State) (e : Entry) : State :=
  if s.removable e then
    (s.dropEntry e).countTable (fun k => { k with agedOut := k.agedOut + 1 })
  else s.rewriteEntry e { e with location := .unknown }

/-- One entry at the age tick, by its address (R64). -/
def State.ageEntry (s : State) (a : Addr) : State :=
  match s.entry? a with
  | some e => if ageReaches e.age (timeoutOf s.params e.location) then s.timeOut e else s
  | none => s

/-- The age tick: every age goes up, then every entry is looked at in ascending address order (R63, R64). -/
def State.ageTable (s : State) : State :=
  let s := s.setEntries (s.table.entries.map Entry.older)
  (s.table.entries.map (fun e => e.address)).foldl State.ageEntry s

/-! ### Links and resets (R66, R71) -/

/-- A backbone link goes DOWN: the entries heard there move to UNKNOWN (R66). -/
def State.forgetVia (s : State) (p : Backbone) : State :=
  s.setEntries (s.table.entries.map
    (fun e => if e.location = learntLocation p.port then { e with location := .unknown } else e))

/-- The station table at RESTART: emptied without hand-offs, windows and watches kept, the age tick restarted
(R71). -/
def State.restartTable (s : State) : State :=
  { s with table := { s.table with entries := [], ageTick := s.now + 1000 } }

end Sys2Proof.Machine
end

