-- ==== Sys2Proof/Machine/Evacuation.lean ====
section
/-! DEFINITION. The evacuation controller (chapter Evacuation, Refuge and Alarm Outputs): the evacuation
state, orders and following, notices, muster marks and reports, refuge panels and breaches, the SOS list. -/

namespace Sys2Proof.Machine

/-! ### Small changes -/

/-- The evacuation state replaced. -/
def State.setEvacState (s : State) (x : EvacState) : State := { s with evac := { s.evac with state := x } }

/-- The repeat timer is started or restarted: its length is taken now (R144). -/
def State.startRepeat (s : State) : State :=
  { s with evac := { s.evac with repeatTimer := startTimer s.now s.params.repeatTime.ms } }

/-- The repeat timer is stopped (R143). -/
def State.stopRepeat (s : State) : State := { s with evac := { s.evac with repeatTimer := none } }

/-- The SOS list replaced. -/
def State.setSos (s : State) (l : List Addr) : State := { s with evac := { s.evac with sos := l } }

/-- An order, ZONE GRADE, SOS or SOS CANCEL that is not taken (R140, R141, R151, R152). -/
def State.discardOrder (s : State) : State :=
  s.countEvac (fun k => { k with ordersDiscarded := k.ordersDiscarded + 1 })

/-! ### Notices and muster reports (R144, R147) -/

/-- The miner units at RADIO_HERE whose mark is NONE, in ascending address order. -/
def State.unmustered (s : State) : List Addr :=
  (s.minersHere.filter (fun e => e.mark == .none)).map (fun e => e.address)

/-- A notice round (R144). -/
def State.noticeRound (s : State) : State := s.unmustered.foldl State.sendEvacNotice s

/-- A MUSTER REPORT to the control station, which lists the first 16 of the unmustered (R147). -/
def State.musterReport (s : State) : State :=
  ({ s with scratch := { s.scratch with mustered := true } }).originateCounted
    (fun s => s.countEvac (fun k => { k with musterReports := k.musterReports + 1 }))
    (msgMusterReport s.params.control s.own s.tally (s.unmustered.take 16))

/-- The end of an event in EVACUATE that changed the tally: one MUSTER REPORT, if the event has sent none
(R147; assumption 6). `before` is the tally at the event's start. -/
def State.musterFollows (s : State) (before : Tally) : State :=
  if s.evac.state = .evacuate ∧ s.scratch.mustered = false ∧ s.tally ≠ before then s.musterReport else s

/-! ### Muster marks and tag lists (R146, R149) -/

/-- The mark of an entry, if there is one. -/
def State.setMark (s : State) (a : Addr) (m : Muster) : State :=
  match s.entry? a with
  | some e => s.setEntries (replaceEntry { e with mark := m } s.table.entries)
  | none => s

/-- A unit in a tag list: created for muster and marked IN_REFUGE (R149 step 1). -/
def State.tagUnit (s : State) (a : Addr) : State := (s.createForMuster a).setMark a .inRefuge

/-- A unit is in some panel record's tag list. -/
def State.inSomePanel (s : State) (a : Addr) : Bool :=
  pollIndices.any (fun i => (s.panel i).tags.contains a)

/-- A unit that has left a tag list and is in no other goes from IN_REFUGE to NOTIFIED (R149 step 2). -/
def State.untagUnit (s : State) (a : Addr) : State :=
  match s.entry? a with
  | some e => if e.mark = .inRefuge ∧ s.inSomePanel a = false then s.setMark a .notified else s
  | none => s

/-- A stored tag list is applied (R149 step 1). -/
def State.applyTags (s : State) (tags : List Addr) : State := tags.foldl State.tagUnit s

/-- The units of an old tag list that the panels no longer name (R149 step 2). -/
def State.releaseTags (s : State) (old : List Addr) : State := old.foldl State.untagUnit s

/-! ### Breach (R150) -/

/-- The breach test of one record (R150). -/
def State.breachDue (s : State) (i : Fin 8) : Bool :=
  let p := s.panel i
  !p.breach && p.door == .opened && ageReaches p.doorAge s.params.door && s.evac.state == .evacuate
    && s.air.zone.atLeast .alarm

/-- A breach is raised when its test passes (R150). -/
def State.testBreach (s : State) (i : Fin 8) : State :=
  if s.breachDue i then
    (((s.setPanel i { s.panel i with breach := true }).originate (msgRefugeBreach s.own i)).setFlag
      Flag.breach).countEvac (fun k => { k with breaches := k.breaches + 1 })
  else s

/-- The breach test of every record. -/
def State.testBreaches (s : State) : State := pollIndices.foldl State.testBreach s

/-! ### Entering and leaving EVACUATE (R142, R143) -/

/-- Entering EVACUATE, in the order of R142. -/
def State.enterEvacuate (s : State) : State :=
  let ceiling := s.ceiling
  let minimum := s.minimum
  let s := ((s.setEvacState .evacuate).countEvac (fun k => { k with evacEntries := k.evacEntries + 1 })).setFlag
    Flag.evacChange
  let s := s.limitsChanged ceiling minimum .evacuating
  let s := pollIndices.foldl (fun s i => s.applyTags (s.panel i).tags) s
  (s.noticeRound.startRepeat).testBreaches.musterReport

/-- Leaving EVACUATE, in the order of R143. The leg table's limits loosen, which clears nothing (R98). -/
def State.leaveEvacuate (s : State) : State :=
  let s := (s.setEvacState .quiet).setFlag Flag.evacChange
  let s := s.setEntries (s.table.entries.map (fun e => { e with mark := .none }))
  s.stopRepeat.musterReport

/-- The zone grade is at or above the trigger grade. -/
def State.triggered (s : State) : Bool := s.air.zone.atLeast s.params.trigger

/-- The node tests its own grade (R139). -/
def State.testOwnGrade (s : State) : State :=
  if s.evac.state = .quiet ∧ s.triggered = true then s.enterEvacuate else s

/-- The air evaluator hands the controller a zone grade (R139, R150). -/
def State.evacZone (s : State) : State := s.testOwnGrade.testBreaches

/-- An EVACUATE ORDER or request that names this node (R140). -/
def State.orderedOut (s : State) : State :=
  match s.evac.state with
  | .quiet => s.enterEvacuate
  | .evacuate => s.noticeRound.startRepeat

/-- A STAND DOWN ORDER or request that names this node (R143). The second component says that it is refused
for the grade. -/
def State.stoodDown (s : State) : State × Bool :=
  match s.evac.state with
  | .quiet => (s, false)
  | .evacuate =>
    if s.triggered then
      (s.countEvac (fun k => { k with standDownsRefused := k.standDownsRefused + 1 }), true)
    else (s.leaveEvacuate, false)

/-! ### Frames delivered to the controller (R140, R141, R145, R151, R152) -/

/-- The node list of an order that is taken: the issuer is the source and a surface station, and the scope
count is at most 8 (R140). -/
def orderScope (f : Frame) : Option (List Addr) :=
  match f.payload with
  | a :: b :: n :: rest =>
    if wordOf a b = f.src ∧ isSurface f.src = true ∧ n.toNat ≤ 8 then some (addressesOf rest) else none
  | _ => none

/-- A scope names this node: an empty one means all (R140). -/
def State.named (s : State) (scope : List Addr) : Bool :=
  scope.isEmpty || (match s.nodeAddr? with
    | some own => scope.contains own
    | none => false)

/-- An EVACUATE ORDER is delivered (R140). -/
def State.evacuateOrder (s : State) (f : Frame) : State :=
  match orderScope f with
  | some scope => if s.named scope then s.orderedOut else s
  | none => s.discardOrder

/-- A STAND DOWN ORDER is delivered (R143). -/
def State.standDownOrder (s : State) (f : Frame) : State :=
  match orderScope f with
  | some scope => if s.named scope then s.stoodDown.1 else s
  | none => s.discardOrder

/-- A notice's node is at most the follow distance away, which is not 0 (R141). A node without an address has
no distance to any. -/
def State.follows (s : State) (node : Addr) (g : Grade) : Bool :=
  match s.nodeAddr? with
  | some own =>
    s.params.follow != 0
      && decide (node.toNat - own.toNat + (own.toNat - node.toNat) ≤ s.params.follow)
      && g.atLeast s.params.trigger
  | none => false

/-- A ZONE GRADE notice is delivered (R141). -/
def State.zoneGradeNotice (s : State) (f : Frame) : State :=
  match f.payload with
  | [a, b, g, _] =>
    match Grade.ofCode g.toNat with
    | some g =>
      if wordOf a b = f.src then
        if s.evac.state = .quiet ∧ s.follows f.src g = true then s.enterEvacuate else s
      else s.discardOrder
    | none => s.discardOrder
  | _ => s.discardOrder

/-- An EVAC ACK is taken (R145). -/
def State.ackGood (s : State) (f : Frame) : Bool :=
  match f.payload with
  | [a, b, c, d] =>
    isMiner f.src && wordOf a b == f.src && s.nodeAddr? == some (wordOf c d)
      && s.evac.state == .evacuate && (s.entry? f.src).isSome
  | _ => false

/-- An EVAC ACK is delivered (R145). -/
def State.evacAck (s : State) (f : Frame) : State :=
  if s.ackGood f then
    let s := s.countEvac (fun k => { k with acksTaken := k.acksTaken + 1 })
    match s.entry? f.src with
    | some e => if e.mark = .none then s.setMark f.src .notified else s
    | none => s
  else s.countEvac (fun k => { k with strayAcks := k.strayAcks + 1 })

/-- An SOS or SOS CANCEL is taken: a miner's own (R151, R152). -/
def sosGood (f : Frame) : Bool :=
  match f.payload with
  | [a, b] => isMiner f.src && wordOf a b == f.src
  | _ => false

/-- The most origins the SOS list holds (R151). -/
def sosCapacity : Nat := 8

/-- A taken SOS is stored for a unit attached here (R151). -/
def State.storeSos (s : State) (a : Addr) : State :=
  if s.attachedHere a then
    if s.evac.sos.contains a then s
    else if s.evac.sos.length < sosCapacity then (s.setSos (s.evac.sos ++ [a])).setFlag Flag.sos
    else (s.setFlag Flag.sosOverflow).countEvac (fun k => { k with sosOverflows := k.sosOverflows + 1 })
  else s

/-- An SOS is delivered (R151). -/
def State.sosFrame (s : State) (f : Frame) : State :=
  if sosGood f then (s.countEvac (fun k => { k with sosTaken := k.sosTaken + 1 })).storeSos f.src
  else s.discardOrder

/-- An origin leaves the SOS list, and the entries behind it move up (R152). -/
def State.removeSos (s : State) (a : Addr) : State := s.setSos (s.evac.sos.filter (fun x => x != a))

/-- An SOS CANCEL is delivered (R152). -/
def State.sosCancel (s : State) (f : Frame) : State :=
  if sosGood f then s.removeSos f.src else s.discardOrder

/-! ### Refuge panels (R148, R149, R150) -/

/-- A record with new contents: its door-open age starts at 0 when the door was not stored OPEN before, and a
CLOSED door ends its breach (R148, R150). -/
def Panel.store (old : Panel) (c : PanelContents) : Panel :=
  { filled := true
    door := c.door
    occupancy := c.occupancy
    tags := c.tags
    supply := c.supply
    doorAge := if c.door = .opened ∧ old.door = .opened then old.doorAge else 0
    breach := old.breach && c.door == .opened }

/-- Panel contents are stored, with their tag list and breach handling (R148, R149, R150). The breach test that a
stored reply makes is that of its own record (DESIGN CHOICE, assumption 26), and comes after its tags have been
applied and released (DESIGN CHOICE, assumption 5). -/
def State.storePanel (s : State) (i : Fin 8) (c : PanelContents) : State :=
  let old := s.panel i
  let s := s.setPanel i (old.store c)
  let s := if c.supply = .battery ∧ (old.supply = .mains ∨ old.filled = false) then s.setFlag Flag.panelBattery
    else s
  let s := if s.evac.state = .evacuate then (s.applyTags c.tags).releaseTags old.tags else s
  s.testBreach i

/-- An accepted LOAD RECORD POLL empties the panel record of its index (R148). -/
def State.emptyPanel (s : State) (i : Fin 8) : State :=
  let old := (s.panel i).tags
  let s := s.setPanel i .empty
  if s.evac.state = .evacuate then s.releaseTags old else s

/-- A record's door-open age at the door tick (R150). -/
def Panel.older (p : Panel) : Panel :=
  if p.door = .opened then { p with doorAge := if p.doorAge < 65535 then p.doorAge + 1 else 65535 } else p

/-- The door tick: the ages go up, then every record is tested (R150). -/
def State.ageDoors (s : State) : State :=
  ({ s with evac := { s.evac with panels := mapTable Panel.older s.evac.panels } }).testBreaches

/-- The repeat timer expires: in EVACUATE a round is sent and the timer restarted (R144). -/
def State.repeatExpires (s : State) : State :=
  match s.evac.state with
  | .evacuate => s.noticeRound.startRepeat
  | .quiet => s.stopRepeat

/-- The controller at RESTART, in QUIET (R158). -/
def State.restartEvac (s : State) : State :=
  { s with evac := { s.evac with
      sos := [], panels := Vector.replicate 8 Panel.empty, doorTick := s.now + 1000 } }

end Sys2Proof.Machine
end

