-- ==== Sys2Proof/Machine/Air.lean ====
section
/-! DEFINITION. The air evaluator (chapter Air Readings and Grading): conversion, smoothing, grading, channel
states, effective, zone and refuge grades, notices, RESET TRIP and channel tests. -/

namespace Sys2Proof.Machine

/-! ### Stages of a sample (R8, R12 to R17) -/

/-- Full scale of a gas kind (R8). -/
def Gas.fullScale : Gas → Nat
  | .ch4 => 10000
  | .co => 2000
  | .o2 => 2500
  | .airv => 2000

/-- Grading direction of a gas kind (R8). -/
def Gas.direction : Gas → Direction
  | .ch4 => .rising
  | .co => .rising
  | .o2 => .falling
  | .airv => .falling

/-- Conversion of a raw count with an offset, a gain and a full scale (R12). -/
def convert (offset gain full raw : Nat) : Nat :=
  if raw ≤ offset then 0 else min full (((raw - offset) * gain + 512) / 1024)

/-- The size of a smoothing step for a distance and a shift from 1 on (R14). -/
def stepSize (shift distance : Nat) : Nat := (distance + 2 ^ (shift - 1)) / 2 ^ shift

/-- The average after an evaluated sample: seeded by the first, moved by the others (R13, R14). -/
def smooth (shift : Nat) (average : Option Nat) (v : Nat) : Nat :=
  match average with
  | none => v
  | some a =>
    if shift = 0 then v
    else if a ≤ v then a + stepSize shift (v - a)
    else a - stepSize shift (a - v)

/-- An average is beyond an entry's level (R15). -/
def EntryConfig.beyond (e : EntryConfig) (d : Direction) (a : Nat) : Bool :=
  match d with
  | .rising => decide (e.level ≤ a)
  | .falling => decide (a ≤ e.level)

/-- An average meets an entry's clear condition (R15). -/
def EntryConfig.clears (e : EntryConfig) (d : Direction) (a : Nat) : Bool :=
  match d with
  | .rising => decide (a + e.band < e.level)
  | .falling => decide (e.level + e.band < a)

/-- One more sample of a run toward the other state, which the hold count completes (R15, R16). -/
def EntryState.advance (x : EntryState) (hold : Nat) : EntryState :=
  if hold ≤ x.run + 1 then ⟨!x.set, 0⟩ else ⟨x.set, x.run + 1⟩

/-- An entry is judged on a new average; `latches` is for the TRIP entry, which samples never clear
(R15 to R17). -/
def EntryConfig.judge (e : EntryConfig) (d : Direction) (latches : Bool) (a : Nat) (x : EntryState) :
    EntryState :=
  if !e.enabled then .clear
  else if !x.set then (if e.beyond d a then x.advance e.hold else ⟨false, 0⟩)
  else if latches then ⟨true, 0⟩
  else if e.clears d a then x.advance e.hold
  else ⟨true, 0⟩

/-- The highest of ALERT, ALARM and TRIP whose entry is SET (R23). -/
def highestSet (alert alarm trip : EntryState) : Grade :=
  if trip.set then .trip else if alarm.set then .alarm else if alert.set then .alert else .normal

/-! ### Channel state and effective grade (R18, R23) -/

/-- The state of a channel from its causes, in order (R18). No sample has been evaluated since the channel
started exactly while its average is unseeded (R13). -/
def Channel.stateNow (x : Channel) (silent : Bool) : ChannelState :=
  if !x.record.enabled then .off
  else if x.lastStatus = some .fault ∨ x.staleMark = true ∨ silent = true then .fault
  else if x.average = none ∨ x.lastStatus = some .warmup then .warming
  else .live

/-- The effective grade of a channel (R23). -/
def Channel.effectiveNow (x : Channel) : Grade :=
  let high := highestSet x.alert x.alarm x.trip
  match x.state with
  | .off => .normal
  | .warming => Grade.higher .alert high
  | .live => high
  | .fault => Grade.higher x.record.faultAction.grade high

/-- State and effective grade recomputed. -/
def Channel.refresh (x : Channel) (silent : Bool) : Channel :=
  let y := { x with state := x.stateNow silent }
  { y with effective := y.effectiveNow }

/-- A channel is rewritten: its state and effective grade are recomputed, and its flags follow (R18, R23,
R30). -/
def State.updateChannel (s : State) (c : Fin 16) (x : Channel) : State :=
  let old := s.channel c
  let new := x.refresh (s.deviceSilent c)
  let s := s.setChannel c new
  let s := if new.state = .fault ∧ old.state ≠ .fault then s.setFlag (Flag.channelFault c) else s
  let s := if old.effective.code < new.effective.code then s.setFlag (Flag.gradeUp c) else s
  if new.effective.code < old.effective.code then s.setFlag (Flag.gradeDown c) else s

/-! ### Zone and refuge grades (R24, R25, R29, R31) -/

/-- The enabled channels of a scope, in index order. -/
def State.scoped (s : State) (x : Scope) : List (Fin 16) :=
  channelIndices.filter (fun c => (s.channel c).record.enabled && (s.channel c).record.scope == x)

/-- The maximum effective grade over the enabled channels of a scope (R24, R25). -/
def State.scopeGrade (s : State) (x : Scope) : Grade :=
  Grade.maximum ((s.scoped x).map (fun c => (s.channel c).effective))

/-- The integrity floor (R24). -/
def integrityFloor (x : IntegrityState) : Grade :=
  match x with
  | .fault => .alarm
  | .checking => .normal
  | .suspended => .normal

/-- The zone grade as the channels and the floor give it (R24). -/
def State.zoneNow (s : State) : Grade := Grade.higher (s.scopeGrade .zone) (integrityFloor s.integ.state)

/-- The refuge grade as the channels give it (R25). -/
def State.refugeNow (s : State) : Grade := s.scopeGrade .refuge

/-- The cause channel of a ZONE GRADE (R29). -/
def State.causeChannel (s : State) : Option (Fin 16) :=
  (s.scoped .zone).find? (fun c => (s.channel c).effective == s.air.zone)

/-- An AIR REPORT's entry for a channel (R31). -/
def Channel.report (c : Fin 16) (x : Channel) : List Byte :=
  [byteOf c.val] ++ natBytes x.value ++ natBytes (x.average.getD 0)
    ++ [byteOf x.effective.code, byteOf x.state.code]

/-- An AIR REPORT's payload (R31, R76). -/
def State.airReportPayload (s : State) : List Byte :=
  let enabled := channelIndices.filter (fun c => (s.channel c).record.enabled)
  [byteOf s.air.zone.code, byteOf s.air.refuge.code, byteOf enabled.length]
    ++ enabled.flatMap (fun c => (s.channel c).report c)

/-- The air report timer is started, or left stopped by an interval of count 0 (R31). -/
def State.startReportTimer (s : State) : State :=
  { s with air := { s.air with
      reportTimer := startOrStop s.now s.params.airReport (s.reportLength s.params.airReport) } }

/-- An AIR REPORT to the control station, which restarts the timer (R31). -/
def State.airReport (s : State) : State :=
  (s.originate ⟨.airReport, s.params.control, s.airReportPayload⟩).startReportTimer

/-- The two grades replaced. -/
def State.setGrades (s : State) (zone refuge : Grade) : State :=
  { s with air := { s.air with zone := zone, refuge := refuge } }

/-- The notices of a grade change, in order (R29). -/
def State.gradeNotices (s : State) (zone refuge : Bool) : State :=
  let s := if zone then s.originate (msgZoneGrade s.own s.air.zone s.causeChannel) else s
  let s := if refuge then s.originate (msgRefugeAir s.own s.air.refuge) else s
  if zone then s.airReport else s

/-- The zone and refuge grades are recomputed; a change sends its notices and a new zone grade is handed to
the segment arbiter and the evacuation controller (R24, R25, R29; assumption 5). -/
def State.regrade (s : State) : State :=
  let oldZone := s.air.zone
  let zone := s.zoneNow
  let refuge := s.refugeNow
  let s' := (s.setGrades zone refuge).gradeNotices (zone != oldZone) (refuge != s.air.refuge)
  if zone = oldZone then s' else (s'.segZone oldZone zone).evacZone

/-! ### Readings (R7, R19, R20) -/

/-- A channel's stale timer restarted and its stale mark cleared (R19, R20). -/
def Channel.heard (x : Channel) (now : Nat) (status : ReadingStatus) : Channel :=
  { x with staleTimer := startTimer now x.record.stale.ms, staleMark := false, lastStatus := some status }

/-- An evaluated sample: converted, smoothed and graded (R19). -/
def Channel.evaluate (x : Channel) (raw : Nat) : Channel :=
  let r := x.record
  let v := convert r.offset r.gain r.gas.fullScale raw
  let a := smooth r.shift x.average v
  let d := r.gas.direction
  { x with
    value := v
    average := some a
    alert := r.alert.judge d false a x.alert
    alarm := r.alarm.judge d false a x.alarm
    trip := r.trip.judge d true a x.trip }

/-- The status a reading counts as: a raw count above 4095 is a FAULT (R12). -/
def Reading.effectiveStatus (r : Reading) : ReadingStatus :=
  if 4095 < r.raw.toNat then .fault else r.status

/-- A reading on an enabled channel: an OK reading is evaluated, another freezes the values (R19, R20). -/
def Channel.take (x : Channel) (now : Nat) (r : Reading) : Channel :=
  let y := x.heard now r.effectiveStatus
  if r.effectiveStatus = .ok then y.evaluate r.raw.toNat else y

/-- A reading arrives at a channel; a disabled channel discards it (R7). -/
def State.takeReading (s : State) (c : Fin 16) (r : Reading) : State :=
  if (s.channel c).record.enabled then s.updateChannel c ((s.channel c).take s.now r) else s

/-- Both readings of a reply, then the grades once (R7). -/
def State.takeReadings (s : State) (i : Fin 8) (first second : Reading) : State :=
  ((s.takeReading (firstChannel i) first).takeReading (secondChannel i) second).regrade

/-- A channel whose causes have changed outside it, as when its device becomes SILENT (R22). -/
def State.refreshChannel (s : State) (c : Fin 16) : State := s.updateChannel c (s.channel c)

/-- The field poller has put a device into SILENT (R22). -/
def State.deviceGone (s : State) (i : Fin 8) : State :=
  ((s.refreshChannel (firstChannel i)).refreshChannel (secondChannel i)).regrade

/-- A channel's stale timer expires (R21). -/
def State.staleExpires (s : State) (c : Fin 16) : State :=
  (s.updateChannel c { s.channel c with staleMark := true, staleTimer := none }).regrade

/-- The air report timer expires (R31). -/
def State.airReportExpires (s : State) : State := s.airReport

/-! ### Answering on a port (R190) -/

/-- A request is answered on the port it arrived on: DONE with data when the cause is NONE, else REFUSED and
counted (R190). -/
def State.respond (s : State) (rq : Request) (cause : Cause) (data : List Byte) : State :=
  let s := if cause = .none then s
    else s.countMgmt (fun k => { k with requestsRefused := k.requestsRefused + 1 })
  s.originateTo rq.port (msgResponse rq.source rq.tag cause data)

/-! ### Channel tests (R32 to R34) -/

/-- The data of a test's RESPONSE (R33): outcome, samples fed, shadow average, the three entries' states (CLEAR 0,
SET 1: DESIGN CHOICE, assumption 9), the shadow effective grade. -/
def ChannelTest.result (t : ChannelTest) (o : TestOutcome) : List Byte :=
  [byteOf o.code, byteOf t.fed] ++ natBytes (t.average.getD 0)
    ++ [yesByte t.alert.set, yesByte t.alarm.set, yesByte t.trip.set,
        byteOf (highestSet t.alert t.alarm t.trip).code]

/-- A test ends, if there is one: TEST_DONE is set and the request answered (R33). -/
def State.endTest (s : State) (c : Fin 16) (o : TestOutcome) : State :=
  match (s.channel c).test with
  | some t =>
    ((s.setChannel c { s.channel c with test := none }).setFlag Flag.testDone).respond t.request .none
      (t.result o)
  | none => s

/-- One test sample is smoothed and graded on the shadow copy (R33, R34). -/
def ChannelTest.feed (t : ChannelTest) (r : ChannelRecord) : ChannelTest :=
  let a := smooth r.shift t.average t.value
  let d := r.gas.direction
  { t with
    fed := t.fed + 1
    average := some a
    alert := r.alert.judge d false a t.alert
    alarm := r.alarm.judge d false a t.alarm
    trip := r.trip.judge d true a t.trip }

/-- A poll of the channel's device has ended: a test on the channel is fed a sample, which may complete it
(R33). -/
def State.feedTest (s : State) (c : Fin 16) : State :=
  match (s.channel c).test with
  | some t =>
    let t' := t.feed (s.channel c).record
    let s := s.setChannel c { s.channel c with test := some t' }
    if t'.count ≤ t'.fed then s.endTest c .complete else s
  | none => s

/-- Both channels of a poll record are fed. -/
def State.feedTests (s : State) (i : Fin 8) : State :=
  (s.feedTest (firstChannel i)).feedTest (secondChannel i)

/-- Both channels' tests are aborted, as an accepted LOAD RECORD POLL does (R33, R38). -/
def State.abortTests (s : State) (i : Fin 8) : State :=
  (s.endTest (firstChannel i) .aborted).endTest (secondChannel i) .aborted

/-- The shadow copy of an accepted TEST CHANNEL: its average is the live one, as R32 and the worked test case
have it; R13's words, by which a shadow copy starts unseeded, are not followed (DESIGN CHOICE, assumption
23). -/
def Channel.beginTest (x : Channel) (rq : Request) (value count : Nat) : Channel :=
  { x with
    test := some
      { request := rq, value := value, count := count, fed := 0, average := x.average
        alert := ⟨x.alert.set, 0⟩, alarm := ⟨x.alarm.set, 0⟩, trip := ⟨x.trip.set, 0⟩ } }

/-! ### Loads, resets (R10, R28, R36) -/

/-- A channel restarted by an accepted load (R10). -/
def Channel.load (x : Channel) (now : Nat) (r : ChannelRecord) : Channel :=
  { x with
    record := r
    lastStatus := none
    staleMark := false
    staleTimer := if r.enabled then startTimer now r.stale.ms else none
    value := 0
    average := none
    alert := .clear
    alarm := .clear
    trip := .clear }

/-- An accepted LOAD RECORD CHANNEL restarts its channel (R10). The grades are recomputed once in the event, after
the load's protected write (R29). -/
def State.loadChannelRecord (s : State) (c : Fin 16) (r : ChannelRecord) : State :=
  let s := s.endTest c .aborted
  s.updateChannel c ((s.channel c).load s.now r)

/-- The latch of a channel's TRIP entry may be released: its average meets the clear condition (R28). -/
def Channel.tripClears (x : Channel) : Bool :=
  match x.average with
  | some a => x.record.trip.clears x.record.gas.direction a
  | none => false

/-- The latch is released (R28). -/
def State.releaseTrip (s : State) (c : Fin 16) : State :=
  (s.updateChannel c { s.channel c with trip := .clear }).regrade

/-- A channel at RESTART (R36). -/
def Channel.restart (x : Channel) (now : Nat) : Channel :=
  if x.record.enabled then
    { x with
      lastStatus := none
      staleMark := false
      staleTimer := startTimer now x.record.stale.ms
      value := 0
      average := none
      alert := .clear
      alarm := .clear
      trip := ⟨x.trip.set, 0⟩
      test := none }
  else { x with test := none }

/-- The air evaluator at RESTART: every channel starts again, then the air report timer and the grades
(R36). -/
def State.restartAir (s : State) : State :=
  (channelIndices.foldl (fun s c => s.updateChannel c ((s.channel c).restart s.now)) s).regrade.startReportTimer

end Sys2Proof.Machine
end

