-- ==== Sys2Proof/Machine/Integrity.lean ====
section
/-! DEFINITION. The integrity scanner (R176 to R184, R188) and the surface silence watch (R185, R186). -/

namespace Sys2Proof.Machine

/-! ### The protected records (R177, R178) -/

/-- The number of protected records. -/
def protectedCount : Nat := 39

/-- The bytes of the protected record at a scan position (R177): channels, routes, shed entries, pin windows,
permit ranges. -/
def State.protectedBytes (s : State) (n : Nat) : List Byte :=
  if n < 16 then recordBytes ((s.air.channels.toList.getD n Channel.cold).record.words)
  else if n < 27 then recordBytes ((s.evac.routes.toList.getD (n - 16) ⟨.off, .off, .off, .off⟩).words)
  else if n < 31 then
    recordBytes ((s.supply.entries.toList.getD (n - 27) ⟨⟨false, .battery, 0, 0⟩, false⟩).config.words)
  else if n < 35 then recordBytes ((s.table.pins.toList.getD (n - 31) PinWindow.factory).words)
  else recordBytes ((s.calls.permits.toList.getD (n - 35) PermitRange.factory).words)

/-! ### State changes (R183) -/

/-- A scan begins from position 0; its first step is 10 ms later (R179). -/
def State.beginScan (s : State) : State :=
  { s with integ := { s.integ with position := 0, runningCrc := 0xFFFF, scanTimer := startTimer s.now 10 } }

/-- The integrity state replaced: the air evaluator recomputes the zone grade (R183). -/
def State.setIntegrity (s : State) (x : IntegrityState) : State :=
  if s.integ.state = x then s else ({ s with integ := { s.integ with state := x } }).regrade

/-- What a protected write does to the scanner (R180): in SUSPENDED nothing; otherwise the scan is abandoned and
the suspension timer started. -/
def State.suspendScan (s : State) : State :=
  match s.integ.state with
  | .suspended => s
  | _ =>
    ({ s with integ := { s.integ with
      state := .suspended, position := 0, runningCrc := 0xFFFF, scanTimer := none
      suspensionTimer := startTimer s.now 60000 } }).countInteg
        (fun k => { k with suspensions := k.suspensions + 1 })

/-- A protected write: the scanner is suspended, and where that changes its state the grades are recomputed
(R180, R183). -/
def State.protectedWrite (s : State) : State :=
  match s.integ.state with
  | .suspended => s
  | _ => s.suspendScan.regrade

/-- SET CHECK (R181). -/
def State.setStoredCheck (s : State) (value : Word) : State :=
  let s := { s with integ := { s.integ with storedCheck := value, suspensionTimer := none } }
  s.beginScan.setIntegrity .checking

/-- The comparison at the end of a scan (R179). -/
def State.compare (s : State) (check : Word) : State :=
  let s := ({ s with integ := { s.integ with lastCheck := some check } }).countInteg
    (fun k => { k with scansCompleted := k.scansCompleted + 1 })
  if check = s.integ.storedCheck then s.setIntegrity .checking
  else
    let s := s.countInteg (fun k => { k with mismatches := k.mismatches + 1 })
    let s := if s.integ.state = .checking then s.setFlag Flag.integrity else s
    s.setIntegrity .fault

/-- One step of the scan: the record at the position is fed into the running CRC; the 39th step makes the
comparison and begins a new scan (R179). -/
def State.scanStep (s : State) : State :=
  let c := crcFrom s.integ.runningCrc (s.protectedBytes s.integ.position)
  if s.integ.position + 1 < protectedCount then
    { s with integ := { s.integ with
        position := s.integ.position + 1, runningCrc := c, scanTimer := startTimer s.now 10 } }
  else (s.beginScan).compare c

/-- The suspension timer expires in SUSPENDED (R182). -/
def State.suspensionExpires (s : State) : State :=
  let s := ({ s with integ := { s.integ with suspensionTimer := none } }).setFlag Flag.integrity
  let s := s.countInteg (fun k => { k with suspensionExpiries := k.suspensionExpiries + 1 })
  s.beginScan.setIntegrity .fault

/-- The scanner at RESTART (R188). The air evaluator recomputes the grades in its own restart. -/
def State.restartIntegrity (s : State) : State :=
  ({ s with integ := { s.integ with
      state := if s.integ.state = IntegrityState.suspended then IntegrityState.checking else s.integ.state
      lastCheck := none, suspensionTimer := none } }).beginScan

/-! ### Surface silence (R185, R186) -/

/-- The isolation timer is started with the isolation time in force, or left stopped by a count of 0
(R185). -/
def State.startIsolation (s : State) : State :=
  { s with mgmt := { s.mgmt with
      isolationTimer := startOrStop s.now s.params.isolation s.params.isolation.ms } }

/-- A surface frame restarts the isolation timer and ends isolation (R185, R186). -/
def State.surfaceHeard (s : State) : State :=
  ({ s with mgmt := { s.mgmt with isolated := false } }).startIsolation

/-- The isolation timer expires (R186). -/
def State.isolationExpires (s : State) : State :=
  (({ s with mgmt := { s.mgmt with isolated := true, isolationTimer := none } }).setFlag
    Flag.isolated).countInteg (fun k => { k with isolations := k.isolations + 1 })

/-- The isolation at RESTART (R188). -/
def State.restartIsolation (s : State) : State := s.surfaceHeard

end Sys2Proof.Machine
end

