-- ==== Sys2Proof/Machine/Operands.lean ====
section
/-! DEFINITION. The operands of the management requests: indices, the checks that turn the fields of a LOAD
RECORD into a record (R9, R11, R37, R67, R99, R154, R166, R169, R193), and the reading of a REQUEST's payload
as a command (R189 to R193). -/

namespace Sys2Proof.Machine

/-! ### Indices and field values -/

/-- An index below `n` (R191). -/
def indexBelow (n : Nat) (w : Word) : Option (Fin n) :=
  if h : w.toNat < n then some ⟨w.toNat, h⟩ else none

/-- A yes/no value: 1 for yes, 0 for no, and no other (R189, R192; assumption 10). -/
def yesNo (n : Nat) : Option Bool := if n = 0 then some false else if n = 1 then some true else none

/-- A number no greater than a bound. -/
def upTo (bound n : Nat) : Option Nat := if n ≤ bound then some n else none

/-- A number in a range. -/
def between (low high n : Nat) : Option Nat := if low ≤ n ∧ n ≤ high then some n else none

/-- A timer setting whose count may be 0. -/
def anySetting (b : Byte) : Option TimerSetting := some (TimerSetting.ofByte b)

/-- A timer setting whose count must not be 0. -/
def runningSetting (b : Byte) : Option TimerSetting :=
  let t := TimerSetting.ofByte b
  if t.count = 0 then none else some t

/-- The scope of a code. -/
def Scope.ofCode (n : Nat) : Option Scope :=
  if n = 0 then some .zone else if n = 1 then some .refuge else none

/-- The gas kind of a code. -/
def Gas.ofCode (n : Nat) : Option Gas :=
  if n = 0 then some .ch4 else if n = 1 then some .co else if n = 2 then some .o2
  else if n = 3 then some .airv else none

/-- The fault action of a code (R177). -/
def FaultAction.ofCode (n : Nat) : Option FaultAction :=
  if n = 0 then some .alert else if n = 1 then some .alarm else if n = 2 then some .trip else none

/-- The device kind of a code. -/
def DeviceKind.ofCode (n : Nat) : Option DeviceKind :=
  if n = 0 then some .gasHead else if n = 1 then some .refugePanel else none

/-- The shed input of a code. -/
def ShedInput.ofCode (n : Nat) : Option ShedInput :=
  if n = 0 then some .battery else if n = 1 then some .temperature else none

/-! ### CHANNEL (R9, R11) -/

/-- A grade entry within the ranges of R9 for a full scale. -/
def parseEntry (f : EntryFields) (full : Nat) : Option EntryConfig := do
  let enabled ← yesNo f.enabled.toNat
  let level ← upTo full f.level.toNat
  let band ← upTo full f.band.toNat
  let hold ← between 1 16 f.hold.toNat
  return ⟨enabled, level, band, hold⟩

/-- A stale timeout as a canonical word: the setting in the low byte, 0 in the high byte, count not 0 (R9,
R177). -/
def staleSetting (w : Word) : Option TimerSetting :=
  if w.extractLsb' 8 8 = 0 then runningSetting (w.extractLsb' 0 8) else none

/-- A channel record whose every field is within its range, or none, which is BAD_VALUE (R9 step 3). -/
def parseChannel (f : ChannelFields) : Option ChannelRecord := do
  let enabled ← yesNo f.enabled.toNat
  let scope ← Scope.ofCode f.scope.toNat
  let gas ← Gas.ofCode f.gas.toNat
  let offset ← upTo 4095 f.offset.toNat
  let gain ← between 1 65535 f.gain.toNat
  let shift ← upTo 4 f.shift.toNat
  let alert ← parseEntry f.alert gas.fullScale
  let alarm ← parseEntry f.alarm gas.fullScale
  let trip ← parseEntry f.trip gas.fullScale
  let faultAction ← FaultAction.ofCode f.faultAction.toNat
  let stale ← staleSetting f.stale
  return ⟨enabled, scope, gas, offset, gain, shift, alert, alarm, trip, faultAction, stale⟩

/-- An enabled entry's band check; an entry that is not enabled is not checked (R11). -/
def EntryConfig.bandGood (e : EntryConfig) (d : Direction) (full : Nat) : Bool :=
  !e.enabled ||
    (match d with
     | .rising => decide (1 ≤ e.level) && decide (e.level ≤ full) && decide (e.band < e.level)
     | .falling => decide (e.level < full) && decide (e.level + e.band < full))

/-- Every enabled entry passes its band check (R11). -/
def ChannelRecord.bandsGood (r : ChannelRecord) : Bool :=
  [r.alert, r.alarm, r.trip].all (fun e => e.bandGood r.gas.direction r.gas.fullScale)

/-- Two levels are in order along the direction of danger (R11). -/
def levelsInOrder (d : Direction) (a b : Nat) : Bool :=
  match d with
  | .rising => decide (a ≤ b)
  | .falling => decide (b ≤ a)

/-- Two entries are in order: their levels are, or one of them is not enabled (R11). -/
def entriesInOrder (d : Direction) (x y : EntryConfig) : Bool :=
  !x.enabled || !y.enabled || levelsInOrder d x.level y.level

/-- The enabled levels are in order (R11). -/
def ChannelRecord.orderGood (r : ChannelRecord) : Bool :=
  entriesInOrder r.gas.direction r.alert r.alarm && entriesInOrder r.gas.direction r.alarm r.trip
    && entriesInOrder r.gas.direction r.alert r.trip

/-! ### The other records -/

/-- POLL: the ranges of R37 step 2. -/
def parsePoll (f : PollFields) : Option PollConfig := do
  let enabled ← yesNo f.enabled.toNat
  let address ← if stationKind f.address = some .fieldDevice then some f.address else none
  let kind ← DeviceKind.ofCode f.kind.toNat
  let interval ← runningSetting f.interval
  return ⟨enabled, address, kind, interval⟩

/-- PIN: every combination is accepted (R60). -/
def parsePin (f : PinFields) : Option PinWindow := do
  let valid ← yesNo f.valid.toNat
  return ⟨valid, f.base, f.mask⟩

/-- WATCH: an enabled entry's address must be a station's other than this node's (R67). -/
def parseWatch (f : WatchFields) (own : Option Addr) : Option Watch := do
  let enabled ← yesNo f.enabled.toNat
  if enabled = true ∧ ((stationKind f.address).isNone = true ∨ own = some f.address) then none
  else return ⟨enabled, f.address⟩

/-- PERMIT: low is not above high (R99). -/
def parsePermit (f : PermitFields) : Option PermitRange := do
  let miner ← yesNo f.miner.toNat
  let vehicle ← yesNo f.vehicle.toNat
  if f.low.toNat ≤ f.high.toNat then return ⟨f.low, f.high, miner, vehicle⟩ else none

/-- ROUTE: four patterns (R154). -/
def parseRoute (f : RouteFields) : Option Route := do
  let siren ← Pattern.ofCode f.siren.toNat
  let strobe ← Pattern.ofCode f.strobe.toNat
  let faultLine ← Pattern.ofCode f.faultLine.toNat
  let aux ← Pattern.ofCode f.aux.toNat
  return ⟨siren, strobe, faultLine, aux⟩

/-- A shed gate as the entry's input reads it: millivolts, or degrees in two's complement (R169, R177). -/
def shedGate (x : ShedInput) (w : Word) : Option Int :=
  match x with
  | .battery => if 1 ≤ w.toNat ∧ w.toNat ≤ 16183 then some w.toNat else none
  | .temperature => if -37 ≤ w.toInt ∧ w.toInt ≤ 124 then some w.toInt else none

/-- SHED: input, gate and level in their ranges (R169). -/
def parseShed (f : ShedFields) : Option ShedConfig := do
  let enabled ← yesNo f.enabled.toNat
  let input ← ShedInput.ofCode f.input.toNat
  let gate ← shedGate input f.gate
  let level ← between 1 3 f.level.toNat
  return ⟨enabled, input, gate, level⟩

/-- A trigger grade: ALARM or TRIP, coded as a grade (R138; assumption 11). -/
def triggerOf (b : Byte) : Option Grade :=
  if b = 2 then some .alarm else if b = 3 then some .trip else none

/-- PARAMETERS: every field within its values (R193). Bits beyond a group's last flag are ignored (R195). -/
def parseParameters (f : ParameterFields) : Option Parameters := do
  let control ← if isSurface f.control then some f.control else none
  let presence ← runningSetting f.presence
  let route ← runningSetting f.route
  let setup ← runningSetting f.setup
  let lease ← runningSetting f.lease
  let airReport ← anySetting f.airReport
  let status ← anySetting f.status
  let isolation ← anySetting f.isolation
  let repeatTime ← runningSetting f.repeatTime
  let door ← runningSetting f.door
  let trigger ← triggerOf f.trigger
  let follow ← upTo 7 f.follow.toNat
  return { control := control, presence := presence, route := route, setup := setup, lease := lease
           airReport := airReport, status := status, isolation := isolation
           repeatTime := repeatTime, door := door, trigger := trigger, follow := follow
           masks :=
             { air := Group.air.keep f.airMask
               call := Group.call.keep (f.callMask.setWidth 56)
               truck := Group.truck.keep (f.truckMask.setWidth 56)
               refuge := Group.refuge.keep (f.refugeMask.setWidth 56)
               node := Group.node.keep (f.nodeMask.setWidth 56) } }

/-! ### Reading a REQUEST's arguments (R189 to R193) -/

/-- Byte `i` of a run of bytes. -/
def byteAt (l : List Byte) (i : Nat) : Byte := l.getD i 0

/-- The word at place `i` of a run of bytes. -/
def wordAt (l : List Byte) (i : Nat) : Word := wordOf (byteAt l i) (byteAt l (i + 1))

/-- A bit string of seven bytes, the first byte lowest (R195). -/
def bits56At (l : List Byte) (i : Nat) : BitVec 56 :=
  byteAt l (i + 6) ++ byteAt l (i + 5) ++ byteAt l (i + 4) ++ byteAt l (i + 3) ++ byteAt l (i + 2)
    ++ byteAt l (i + 1) ++ byteAt l i

/-- A grade entry's fields at byte `i`. -/
def entryFieldsAt (l : List Byte) (i : Nat) : EntryFields :=
  ⟨wordAt l i, wordAt l (i + 2), wordAt l (i + 4), wordAt l (i + 6)⟩

/-- The fields of a CHANNEL load. -/
def channelFieldsOf (l : List Byte) : ChannelFields :=
  { enabled := wordAt l 0, scope := wordAt l 2, gas := wordAt l 4, offset := wordAt l 6
    gain := wordAt l 8, shift := wordAt l 10, alert := entryFieldsAt l 12
    alarm := entryFieldsAt l 20, trip := entryFieldsAt l 28, faultAction := wordAt l 36
    stale := wordAt l 38 }

/-- The fields of a PARAMETERS load. -/
def parameterFieldsOf (l : List Byte) : ParameterFields :=
  { control := wordAt l 0, presence := byteAt l 2, route := byteAt l 3, setup := byteAt l 4
    lease := byteAt l 5, airReport := byteAt l 6, status := byteAt l 7, isolation := byteAt l 8
    repeatTime := byteAt l 9, door := byteAt l 10, trigger := byteAt l 11, follow := byteAt l 12
    airMask := bits56At l 13, callMask := byteAt l 20, truckMask := byteAt l 21
    refugeMask := byteAt l 22, nodeMask := byteAt l 23 }

/-- A REQUEST read from its payload: a command, or the cause of its refusal (R190 to R193). -/
inductive Asked where
  | command (i : Instr)
  | refused (c : Cause)
  deriving DecidableEq, Repr

/-- A command whose arguments have the right length, or BAD_VALUE (section 10.2). -/
def withLength (n : Nat) (args : List Byte) (i : Instr) : Asked :=
  if args.length = n then .command i else .refused .badValue

/-- READ RECORD: the table, then the index (R191). -/
def readRequest (rq : Request) (args : List Byte) : Asked :=
  let x := wordAt args 1
  let t := (byteAt args 0).toNat
  if args.length ≠ 3 then .refused .badValue
  else
    match [Instr.readRecordChannel rq x, .readRecordPoll rq x, .readRecordPoller rq x, .readRecordStation rq x,
      .readRecordStationSummary rq x, .readRecordPin rq x, .readRecordWatch rq x, .readRecordPort rq x,
      .readRecordLeg rq x, .readRecordCalls rq x, .readRecordPermit rq x, .readRecordSegment rq x,
      .readRecordPanel rq x, .readRecordEvacuation rq x, .readRecordRoute rq x, .readRecordOutputs rq x,
      .readRecordPlan rq x, .readRecordEgress rq x, .readRecordShed rq x, .readRecordSupply rq x,
      .readRecordIntegrity rq x, .readRecordParameters rq x, .readRecordFlags rq x,
      .readRecordManagement rq x][t]? with
    | some i => .command i
    | none => .refused .badTable

/-- A plan index names a bank in its high byte and an entry in its low byte (R166, R191). -/
def planIndex (w : Word) : Option (Bank × Fin 32) :=
  match Bank.ofCode (w.extractLsb' 8 8).toNat, indexBelow 32 ((w.extractLsb' 0 8).setWidth 16) with
  | some b, some i => some (b, i)
  | _, _ => none

/-- The number of field bytes of a loadable table's record, and whether an index is in the table's range
(R191, R193). -/
def loadShape (t : Nat) (x : Word) : Option (Nat × Bool) :=
  if t = 0 then some (40, decide (x.toNat < 16))
  else if t = 1 then some (5, decide (x.toNat < 8))
  else if t = 5 then some (6, decide (x.toNat < 4))
  else if t = 6 then some (3, decide (x.toNat < 4))
  else if t = 10 then some (8, decide (x.toNat < 4))
  else if t = 14 then some (8, decide (x.toNat < 11))
  else if t = 16 then some (1, (planIndex x).isSome)
  else if t = 18 then some (8, decide (x.toNat < 4))
  else if t = 21 then some (24, true)
  else none

/-- The command of a LOAD RECORD of a loadable table. -/
def loadCommand (rq : Request) (t : Nat) (x : Word) (l : List Byte) : Instr :=
  if t = 0 then .loadRecordChannel rq x (channelFieldsOf l)
  else if t = 1 then .loadRecordPoll rq x ⟨byteAt l 0, wordAt l 1, byteAt l 3, byteAt l 4⟩
  else if t = 5 then .loadRecordPin rq x ⟨wordAt l 0, wordAt l 2, wordAt l 4⟩
  else if t = 6 then .loadRecordWatch rq x ⟨byteAt l 0, wordAt l 1⟩
  else if t = 10 then .loadRecordPermit rq x ⟨wordAt l 0, wordAt l 2, wordAt l 4, wordAt l 6⟩
  else if t = 14 then .loadRecordRoute rq x ⟨wordAt l 0, wordAt l 2, wordAt l 4, wordAt l 6⟩
  else if t = 16 then .loadRecordPlan rq x (byteAt l 0)
  else if t = 18 then .loadRecordShed rq x ⟨wordAt l 0, wordAt l 2, wordAt l 4, wordAt l 6⟩
  else .loadRecordParameters rq x (parameterFieldsOf l)

/-- LOAD RECORD: arguments too short to name a table and an index are BAD_VALUE; then the table is judged before the
index, and both before the record's length and the owner's checks (R191; the places of the two length checks are
DESIGN CHOICE, assumption 10). -/
def loadRequest (rq : Request) (args : List Byte) : Asked :=
  let t := (byteAt args 0).toNat
  let x := wordAt args 1
  if args.length < 3 then .refused .badValue
  else
    match loadShape t x with
    | none => .refused .badTable
    | some (n, inRange) =>
      if inRange = false then .refused .badIndex
      else withLength (3 + n) args (loadCommand rq t x (args.drop 3))

/-- CLEAR FLAGS: the group decides how long its flag set is; an unknown group is BAD_INDEX (R196). -/
def clearFlagsRequest (rq : Request) (args : List Byte) : Asked :=
  match Group.ofCode (byteAt args 0).toNat with
  | some g =>
    withLength (1 + g.bytes) args (.clearFlags rq (byteAt args 0)
      (if g = .air then bits56At args 1 else (byteAt args 1).setWidth 56))
  | none => if args.length = 0 then .refused .badValue else .refused .badIndex

/-- A REQUEST by its request code (section 10.2). The payload checks let through codes 1 to 16 only (R189). -/
def askedOf (rq : Request) (code : Nat) (args : List Byte) : Asked :=
  if code = 1 then readRequest rq args
  else if code = 2 then loadRequest rq args
  else if code = 3 then withLength 2 args (.setCheck rq (wordAt args 0))
  else if code = 4 then withLength 1 args (.selectPlan rq (byteAt args 0))
  else if code = 5 then withLength 1 args (.resetTrip rq (byteAt args 0))
  else if code = 6 then withLength 4 args (.testChannel rq (byteAt args 0) (wordAt args 1) (byteAt args 3))
  else if code = 7 then withLength 0 args (.evacuate rq)
  else if code = 8 then withLength 0 args (.standDown rq)
  else if code = 9 then withLength 0 args (.closeSegment rq)
  else if code = 10 then withLength 0 args (.openSegment rq)
  else if code = 11 then withLength 0 args (.releaseSegment rq)
  else if code = 12 then withLength 2 args (.cancelSos rq (wordAt args 0))
  else if code = 13 then clearFlagsRequest rq args
  else if code = 14 then withLength 1 args (.ackAttention rq (byteAt args 0))
  else if code = 15 then withLength 0 args (.clearCounters rq)
  else if code = 16 then withLength 0 args (.restart rq)
  else .refused .badValue

end Sys2Proof.Machine
end

