-- ==== Sys2Proof/Machine/Poller.lean ====
section
/-! DEFINITION. The field poller (chapter Field Line Polling): the choice of the next poll, sending it, the
classification of line messages, taken replies and misses. -/

namespace Sys2Proof.Machine

/-! ### Choosing and sending (R40, R41) -/

/-- The moment at which an enabled record wants the line; none while disabled. -/
def PollRecord.dueTime (r : PollRecord) : Option Nat := if r.config.enabled then r.due else none

/-- The record with the earliest due time, the lower index among equals; `best` stands before the list
(R40). -/
def earliestFrom (due : Fin 8 → Option Nat) (best : Option (Fin 8 × Nat)) : List (Fin 8) → Option (Fin 8 × Nat)
  | [] => best
  | i :: rest =>
    let next := match due i, best with
      | some t, some (_, u) => if t < u then some (i, t) else best
      | some t, none => some (i, t)
      | none, _ => best
    earliestFrom due next rest

/-- The enabled record with the earliest due time, and that time (R40). -/
def State.earliestDue (s : State) : Option (Fin 8 × Nat) :=
  earliestFrom (fun i => (s.pollRecord i).dueTime) none pollIndices

/-- A POLL is sent for a record: the sequence advances, the poll is in flight for 50 ms, and the record's next
due time is set (R40, R41). -/
def State.sendPoll (s : State) (i : Fin 8) : State :=
  let r := s.pollRecord i
  let q := s.poller.sequence + 1
  let s := s.setPollRecord i { r with due := some (s.now + r.config.interval.ms) }
  { s with poller := { s.poller with
      inFlight := some ⟨i, r.config.address, q, pollWire r.config.address q⟩
      replyTimer := startTimer s.now 50
      sequence := q
      counters := { s.poller.counters with pollsSent := s.poller.counters.pollsSent + 1 } } }

/-- A FREE line is given to the due record with the earliest due time, if one is due (R40). -/
def State.nextPoll (s : State) : State :=
  match s.poller.inFlight with
  | some _ => s
  | none =>
    match s.earliestDue with
    | some (i, t) => if t ≤ s.now then s.sendPoll i else s
    | none => s

/-- The line becomes FREE: no poll in flight, the reply timer stopped. -/
def State.freeLine (s : State) : State :=
  { s with poller := { s.poller with inFlight := none, replyTimer := none } }

/-! ### Replies (R42, R43, R46, R47) -/

/-- A line message discarded for its check, its form or its kind (R42). -/
def State.badReply (s : State) : State := s.countPoller (fun k => { k with badReplies := k.badReplies + 1 })

/-- A reply discarded as late (R42). -/
def State.lateReply (s : State) : State := s.countPoller (fun k => { k with lateReplies := k.lateReplies + 1 })

/-- A reply discarded for another device's address (R42). -/
def State.misaddressedReply (s : State) : State :=
  s.countPoller (fun k => { k with misaddressedReplies := k.misaddressedReplies + 1 })

/-- A tag list without addresses that are no miner unit's, and without repeats, in order (R46). -/
def cleanTags (tags : List Addr) : List Addr :=
  tags.foldl (fun l a => if isMiner a && !l.contains a then l ++ [a] else l) []

/-- The panel contents as they are handed on (R46). -/
def PanelContents.clean (p : PanelContents) : PanelContents := { p with tags := cleanTags p.tags }

/-- A reply is the kind a record's device gives (R42). -/
def Reply.fits (r : Reply) (k : DeviceKind) : Bool :=
  match k with
  | .gasHead => r.panel.isNone
  | .refugePanel => r.panel.isSome

/-- A record whose reply is taken is RESPONDING with miss count 0 (R43). -/
def PollRecord.replied (r : PollRecord) : PollRecord := { r with misses := 0, state := .responding }

/-- The panel contents of a reply, if any, go to the evacuation controller (R46). -/
def State.handPanel (s : State) (i : Fin 8) (p : Option PanelContents) : State :=
  match p with
  | some c => s.storePanel i c.clean
  | none => s

/-- A taken reply ends the poll in flight and is handed on, in the order of R43. -/
def State.takeReply (s : State) (i : Fin 8) (r : Reply) : State :=
  let s := s.freeLine.countPoller (fun k => { k with repliesTaken := k.repliesTaken + 1 })
  let s := s.setPollRecord i (s.pollRecord i).replied
  let s := s.learn r.address .fieldHere
  let s := s.takeReadings i r.first r.second
  ((s.handPanel i r.panel).feedTests i).nextPoll

/-- A well-formed reply is matched against the poll in flight (R42). -/
def State.matchReply (s : State) (r : Reply) : State :=
  match s.poller.inFlight with
  | none => s.lateReply
  | some f =>
    if r.address ≠ f.address then s.misaddressedReply
    else if r.seq ≠ f.seq then s.lateReply
    else if r.fits (s.pollRecord f.index).config.kind then s.takeReply f.index r
    else s.badReply

/-- A line message arrives (R42). -/
def State.lineMessage (s : State) (bytes : List Byte) : State :=
  if checkGood bytes then
    match replyOf bytes with
    | some r => s.matchReply r
    | none => s.badReply
  else s.badReply

/-! ### Misses (R44) -/

/-- A record after one more miss (R44). -/
def PollRecord.missed (r : PollRecord) : PollRecord :=
  let n := if r.misses < 255 then r.misses + 1 else 255
  { r with misses := n, state := if 3 ≤ n then .silent else r.state }

/-- The poll in flight ends in a miss (R44). -/
def State.missReply (s : State) (i : Fin 8) : State :=
  let old := (s.pollRecord i).state
  let s := s.freeLine
  let s := s.setPollRecord i (s.pollRecord i).missed
  let s := if (s.pollRecord i).state = .silent ∧ old ≠ .silent then s.deviceGone i else s
  let s := s.countPoller (fun k => { k with pollMisses := k.pollMisses + 1 })
  (s.feedTests i).nextPoll

/-! ### Loads and RESTART (R38, R50) -/

/-- A record after an accepted load: SILENT stays, any other state becomes IDLE_UNSEEN, and an enabled record
is due at once (R38). -/
def PollRecord.load (r : PollRecord) (now : Nat) (c : PollConfig) : PollRecord :=
  { config := c
    state := if r.state = .silent then .silent else .idleUnseen
    misses := 0
    due := if c.enabled then some now else none }

/-- The poll in flight is for the record. -/
def State.pollingFor (s : State) (i : Fin 8) : Bool :=
  match s.poller.inFlight with
  | some f => f.index == i
  | none => false

/-- An accepted LOAD RECORD POLL (R38), which also aborts tests (R33) and empties the panel record (R148). -/
def State.loadPollRecord (s : State) (i : Fin 8) (c : PollConfig) : State :=
  let s := if s.pollingFor i then s.freeLine else s
  let s := s.setPollRecord i ((s.pollRecord i).load s.now c)
  ((s.abortTests i).emptyPanel i).nextPoll

/-- A record at RESTART (R50). -/
def PollRecord.restart (r : PollRecord) (now : Nat) : PollRecord :=
  { r with state := .idleUnseen, misses := 0, due := if r.config.enabled then some now else none }

/-- The poller at RESTART, before it chooses the next poll (R50). -/
def State.restartPoller (s : State) : State :=
  { s with poller := { s.poller with
      records := mapTable (fun r => r.restart s.now) s.poller.records
      inFlight := none, replyTimer := none, sequence := 0 } }

end Sys2Proof.Machine
end

