-- ==== Sys2Proof/Machine/Router.lean ====
section
/-! DEFINITION. The output router (R153 to R155) and the trip output (R27): which sources are active, the
pattern of each output, the cadence of the lines. The outputs are driven once, at the end of each event, from
the state the event leaves (assumption 7). -/

namespace Sys2Proof.Machine

/-- Some enabled channel is in FAULT (R26). -/
def State.sensorFault (s : State) : Bool :=
  channelIndices.any (fun c => (s.channel c).record.enabled && (s.channel c).state == .fault)

/-- Some panel record's breach is RAISED (R150). -/
def State.breachRaised (s : State) : Bool := pollIndices.any (fun i => (s.panel i).breach)

/-- A source is active (R153). -/
def State.sourceActive (s : State) : Source → Bool
  | .zoneAlert => s.air.zone.atLeast .alert
  | .zoneAlarm => s.air.zone.atLeast .alarm
  | .zoneTrip => s.air.zone == .trip
  | .evacuate => s.evac.state == .evacuate
  | .sosActive => !s.evac.sos.isEmpty
  | .refugeBreach => s.breachRaised
  | .refugeAir => s.air.refuge.atLeast .alarm
  | .proximity => s.seg.proximity
  | .sensorFault => s.sensorFault
  | .integrityFault => s.integ.state == .fault
  | .isolated => s.mgmt.isolated

/-- The pattern a route record gives an output. -/
def Route.pattern (r : Route) : Output → Pattern
  | .siren => r.siren
  | .strobe => r.strobe
  | .faultLine => r.faultLine
  | .aux => r.aux

/-- A source's route record. -/
def State.route (s : State) (x : Source) : Route := s.evac.routes[x.index]

/-- The strongest pattern among the route records of the active sources for an output, OFF when there is none
(R155). -/
def State.wantedPattern (s : State) (o : Output) : Pattern :=
  (Source.all.filter s.sourceActive).foldr (fun x p => ((s.route x).pattern o).stronger p) .off

/-- How long a half of a pattern's cadence lasts, in milliseconds (R155). -/
def Pattern.half : Pattern → Option Nat
  | .off => none
  | .slow => some 1000
  | .fast => some 250
  | .steady => none

/-- A line starts a pattern: every pattern but OFF begins asserted (R155). -/
def Line.start (now : Nat) (p : Pattern) : Line :=
  ⟨p, p != .off, p.half.map (fun h => now + h)⟩

/-- A line shows a pattern; a pattern it already shows is not disturbed (R155). -/
def Line.show (l : Line) (now : Nat) (p : Pattern) : Line := if l.pattern = p then l else Line.start now p

/-- The line after a half-period: asserted becomes released, and the other way round (R155). -/
def Line.toggle (l : Line) (now : Nat) : Line :=
  match l.pattern.half with
  | some h => { l with asserted := !l.asserted, cadence := some (now + h) }
  | none => l

/-- A line of the four. -/
def Lines.get (x : Lines) : Output → Line
  | .siren => x.siren
  | .strobe => x.strobe
  | .faultLine => x.faultLine
  | .aux => x.aux

/-- The four lines with one of them replaced. -/
def Lines.set (x : Lines) (o : Output) (l : Line) : Lines :=
  match o with
  | .siren => { x with siren := l }
  | .strobe => { x with strobe := l }
  | .faultLine => { x with faultLine := l }
  | .aux => { x with aux := l }

/-- The lines as the sources leave them (R155). -/
def State.drivenLines (s : State) : Lines :=
  { siren := s.evac.lines.siren.show s.now (s.wantedPattern .siren)
    strobe := s.evac.lines.strobe.show s.now (s.wantedPattern .strobe)
    faultLine := s.evac.lines.faultLine.show s.now (s.wantedPattern .faultLine)
    aux := s.evac.lines.aux.show s.now (s.wantedPattern .aux) }

/-- The four routable outputs and the trip output are recomputed (R27, R155). -/
def State.drive (s : State) : State :=
  { s with
    evac := { s.evac with lines := s.drivenLines }
    air := { s.air with tripOutput := s.air.zone == .trip } }

/-- A line's half-period ends (R155). -/
def State.toggleLine (s : State) (o : Output) : State :=
  { s with evac := { s.evac with lines := s.evac.lines.set o ((s.evac.lines.get o).toggle s.now) } }

end Sys2Proof.Machine
end

