-- ==== Sys2Proof/Machine/Supply.lean ====
section
/-! DEFINITION. The supply monitor (R168 to R174): samples, the shed table, the shed level and what a change
of it does. -/

namespace Sys2Proof.Machine

/-- A reading of the supply inputs, clamped (R168). -/
def clampSample (mains : Bool) (battery : Nat) (temperature : Int) : Sample :=
  ⟨mains, min battery 16383, max (-40) (min temperature 125)⟩

/-- The start condition of an entry (R170). -/
def ShedConfig.starts (e : ShedConfig) (x : Sample) : Bool :=
  match e.input with
  | .battery => !x.mains && decide ((x.battery : Int) < e.gate)
  | .temperature => decide (e.gate < x.temperature)

/-- The stop condition of an entry (R170). -/
def ShedConfig.stops (e : ShedConfig) (x : Sample) : Bool :=
  match e.input with
  | .battery => x.mains || decide (e.gate + 200 ≤ (x.battery : Int))
  | .temperature => decide (x.temperature ≤ e.gate - 3)

/-- An entry's matching after a sample (R170). -/
def ShedEntry.judge (x : Sample) (e : ShedEntry) : ShedEntry :=
  { e with matching :=
      e.config.enabled && (if e.matching then !e.config.stops x else e.config.starts x) }

/-- The level an entry asks for (R171). -/
def ShedEntry.asks (e : ShedEntry) : Nat := if e.config.enabled && e.matching then e.config.level else 0

/-- The shed level the table gives: the highest level among the matching entries (R171). -/
def shedLevelOf (l : List ShedEntry) : Nat := l.foldr (fun e n => max e.asks n) 0

/-- The shed level is worked out; a change is flagged, counted and handed to the leg table and the scheduler
(R171). The report timers take their length when they start (R172). -/
def State.reshed (s : State) : State :=
  let new := shedLevelOf s.supply.entries.toList
  if new = s.supply.shedLevel then s
  else
    let ceiling := s.ceiling
    let minimum := s.minimum
    let s := (({ s with supply := { s.supply with shedLevel := new } }).setFlag Flag.shedChange).countSupply
      (fun k => { k with shedChanges := k.shedChanges + 1 })
    let s := s.limitsChanged ceiling minimum .shed
    { s with net := s.net.chooseAll s.supply.shedLevel }

/-- A sample replaces the last one, every entry is judged, and the shed level is worked out (R168, R170,
R171). -/
def State.takeSample (s : State) (x : Sample) : State :=
  let lost : Counter := if s.supply.sample.mains && !x.mains then 1 else 0
  let s := s.countSupply (fun k => { k with mainsLosses := k.mainsLosses + lost })
  let s := { s with supply := { s.supply with
    sample := x, entries := mapTable (ShedEntry.judge x) s.supply.entries } }
  s.reshed

/-- An accepted shed load: the matching is set afresh by the start condition alone (R169). -/
def State.loadShedEntry (s : State) (i : Fin 4) (c : ShedConfig) : State :=
  let e : ShedEntry := ⟨c, c.enabled && c.starts s.supply.sample⟩
  ({ s with supply := { s.supply with entries := s.supply.entries.set i e } }).reshed

end Sys2Proof.Machine
end

