-- ==== Sys2Proof/Machine/Reads.lean ====
section
/-! DEFINITION. READ RECORD (R191, R192): what each record returns, in the order the owning rules list its
fields (assumption 9), and the outcome of each read. -/

namespace Sys2Proof.Machine

/-- What becomes of a taken request (R190): answered DONE with data, refused with a cause, or answered
later. -/
inductive Verdict where
  | done (data : List Byte)
  | refused (c : Cause)
  | later
  deriving DecidableEq, Repr

/-! ### Codings -/

/-- A number in one byte, as a list. -/
def oneByte (n : Nat) : List Byte := [byteOf n]

/-- A yes/no field (R192). -/
def flagByte (b : Bool) : List Byte := [yesByte b]

/-- A list of counters. -/
def countersBytes (l : List Counter) : List Byte := l.flatMap counterBytes

/-- A set of named values as a bit string in `n` bytes, value i in bit i (R192). -/
def bitString (n : Nat) (values : List Bool) : List Byte :=
  let x : BitVec 32 := (values.zipIdx).foldl (fun w p => if p.1 then w ||| BitVec.ofNat 32 (2 ^ p.2) else w) 0
  (List.range n).map (fun i => (x >>> (8 * i)).setWidth 8)

/-- Mains codes: PRESENT 0, ABSENT 1 (R198). -/
def mainsCode (present : Bool) : Nat := if present then 0 else 1

/-! ### Records -/

/-- A grade entry's dynamic state: CLEAR 0 or SET 1 (DESIGN CHOICE, assumption 9), then its run. -/
def EntryState.bytes (x : EntryState) : List Byte := [yesByte x.set, byteOf x.run]

/-- CHANNEL: the canonical fields, then the dynamic state (R13, R177, R192; assumption 9). -/
def Channel.recordData (x : Channel) : List Byte :=
  recordBytes x.record.words ++ oneByte x.state.code ++ natBytes x.value ++ natBytes (x.average.getD 0)
    ++ x.alert.bytes ++ x.alarm.bytes ++ x.trip.bytes ++ oneByte x.effective.code ++ flagByte x.staleMark

/-- POLL: the loaded fields, state, miss count, whether its poll is in flight (R39). -/
def State.pollData (s : State) (i : Fin 8) : List Byte :=
  let r := s.pollRecord i
  flagByte r.config.enabled ++ wordBytes r.config.address ++ oneByte r.config.kind.code
    ++ [r.config.interval.byte] ++ oneByte r.state.code ++ oneByte r.misses ++ flagByte (s.pollingFor i)

/-- POLLER: line state (FREE 0, POLLING 1), record in flight, sequence, counters (R39, R48). -/
def State.pollerData (s : State) : List Byte :=
  let k := s.poller.counters
  flagByte s.poller.inFlight.isSome
    ++ oneByte (match s.poller.inFlight with
        | some f => f.index.val
        | none => 0)
    ++ [s.poller.sequence]
    ++ countersBytes [k.pollsSent, k.repliesTaken, k.pollMisses, k.lateReplies, k.misaddressedReplies,
        k.badReplies]

/-- STATION: an entry's fields in the order of R51. -/
def Entry.data (e : Entry) : List Byte :=
  wordBytes e.address ++ oneByte (match e.kind with
      | some k => k.code
      | none => 0)
    ++ oneByte e.location.code ++ natBytes e.age ++ flagByte e.pinned ++ oneByte e.mark.code
    ++ wordBytes (e.attach.getD 0)

/-- STATION SUMMARY (R69). -/
def State.summaryData (s : State) : List Byte :=
  let k := s.table.counters
  oneByte s.table.entries.length ++ oneByte (pinnedCount s.table.entries)
    ++ [s.params.presence.byte, s.params.route.byte]
    ++ countersBytes [k.stationsLearned, k.evictions, k.agedOut, k.learnFailures, k.locateReports]

/-- WATCH (R67). -/
def Watch.data (w : Watch) : List Byte := flagByte w.enabled ++ wordBytes w.address

/-- PORT: the counters in the order of R92, the link state (UP 0, DOWN 1), the two sequence counters. -/
def State.portData (s : State) (p : Port) : List Byte :=
  let x := s.net.port p
  let k := x.counters
  countersBytes [k.framesReceived, k.lengthErrors, k.checkErrors, k.classErrors, k.addressErrors,
      k.framesAccepted, k.hopExpired, k.duplicateAlarms, k.ownReturns, k.hairpins, k.noRoute,
      k.fieldDiscards, k.unknownKinds, k.payloadErrors, k.noOwner, k.downDrops, k.linkChanges,
      k.framesSent]
    ++ oneByte (if x.up then 0 else 1) ++ [s.net.alarmSeq, s.net.frameSeq]

/-- A leg's start order: its place in the start list from 1, 0 for a leg that is not in it (R94). -/
def State.startOrder (s : State) (i : Fin 8) : Nat :=
  if s.calls.startList.contains i then s.calls.startList.findIdx (fun j => j == i) + 1 else 0

/-- LEG: every field of R94 (R116). The setup timer is coded 1 while it runs and 0 while it is stopped (DESIGN
CHOICE, assumption 9). -/
def State.legData (s : State) (i : Fin 8) : List Byte :=
  let l := s.leg i
  oneByte l.state.code ++ l.callId.bytes ++ oneByte l.direction.code ++ wordBytes l.localParty
    ++ wordBytes l.remoteParty ++ oneByte l.priority.code ++ oneByte (s.startOrder i)
    ++ flagByte l.setupTimer.isSome ++ [l.lastVoice.getD 0]
    ++ countersBytes [l.voiceIn, l.voiceOut, l.voiceDropped]
    ++ oneByte (match l.lastCause with
        | some c => c.code
        | none => 0)

/-- CALLS: the limits of R97, the counting legs, the start list, the counters (R97, R116). -/
def State.callsData (s : State) : List Byte :=
  let k := s.calls.counters
  oneByte s.ceiling ++ oneByte s.minimum.code ++ oneByte s.countingLegs
    ++ oneByte s.calls.startList.length ++ s.calls.startList.map (fun i => byteOf i.val)
    ++ countersBytes [k.setupsTaken, k.setupsRefused, k.preemptions, k.limitClears, k.setupTimeouts,
        k.straySignals, k.voiceStrays]

/-- A queued vehicle with its direction. -/
def Truck.bytes (t : Truck) : List Byte := wordBytes t.vehicle ++ oneByte t.direction.code

/-- SEGMENT (R135). -/
def State.segmentData (s : State) : List Byte :=
  let g := s.seg
  let k := g.counters
  oneByte g.state.code
    ++ (match g.holder with
        | some t => t.bytes
        | none => [0, 0, 0])
    ++ bitString 1 [g.causes.air, g.causes.surface, g.causes.startup]
    ++ oneByte g.queue.length ++ g.queue.flatMap Truck.bytes
    ++ flagByte g.lease.isSome ++ flagByte g.proximity ++ oneByte g.minerCount
    ++ countersBytes [k.grantsSent, k.waitsSent, k.entryRefusals, k.withdrawsSent, k.leaseLosses,
        k.strayExits, k.badEntryFrames, k.proximityNotices]

/-- PANEL: the record's fields and whether it is empty (R148). -/
def Panel.data (p : Panel) : List Byte :=
  oneByte p.door.code ++ oneByte p.occupancy ++ oneByte p.tags.length ++ addressBytes p.tags
    ++ oneByte p.supply.code ++ natBytes p.doorAge ++ flagByte p.breach ++ flagByte (!p.filled)

/-- EVACUATION (R156). -/
def State.evacuationData (s : State) : List Byte :=
  let k := s.evac.counters
  oneByte s.evac.state.code ++ oneByte s.tally.present ++ oneByte s.tally.notified
    ++ oneByte s.tally.inRefuge ++ flagByte s.evac.repeatTimer.isSome
    ++ oneByte s.evac.sos.length ++ addressBytes s.evac.sos
    ++ oneByte s.params.trigger.code ++ oneByte s.params.follow
    ++ [s.params.repeatTime.byte, s.params.door.byte]
    ++ countersBytes [k.evacEntries, k.noticesSent, k.acksTaken, k.strayAcks, k.musterReports,
        k.ordersDiscarded, k.standDownsRefused, k.breaches, k.sosTaken, k.sosOverflows]

/-- OUTPUTS: the active sources, and the pattern each output shows once the router has followed the event's
changes (R155; assumption 7). -/
def State.outputsData (s : State) : List Byte :=
  bitString 2 (Source.all.map s.sourceActive)
    ++ [Output.siren, .strobe, .faultLine, .aux].map (fun o => byteOf (s.wantedPattern o).code)

/-- EGRESS (R167). -/
def State.egressData (s : State) (p : Port) : List Byte :=
  let e := (s.net.port p).egress
  let k := e.counters
  [e.queues.alarm, e.queues.voice, e.queues.signal, e.queues.air, e.queues.telem, e.queues.mgmt].map
      (fun l => byteOf l.length)
    ++ oneByte e.active.code ++ oneByte e.position.val
    ++ oneByte (match e.pendingBank with
        | some b => b.code
        | none => 0)
    ++ countersBytes [k.drops.alarm, k.drops.voice, k.drops.signal, k.drops.air, k.drops.telem, k.drops.mgmt,
        k.replacements, k.flushed]

/-- A sample's fields (R173, R198). -/
def Sample.bytes (x : Sample) : List Byte :=
  oneByte (mainsCode x.mains) ++ natBytes x.battery ++ [BitVec.ofInt 8 x.temperature]

/-- SUPPLY (R173). -/
def State.supplyData (s : State) : List Byte :=
  let k := s.supply.counters
  s.supply.sample.bytes ++ s.supply.entries.toList.flatMap (fun e => flagByte e.matching)
    ++ oneByte s.supply.shedLevel ++ countersBytes [k.shedChanges, k.mainsLosses]

/-- INTEGRITY (R184). -/
def State.integrityData (s : State) : List Byte :=
  let x := s.integ
  let k := x.counters
  oneByte x.state.code ++ wordBytes x.storedCheck ++ wordBytes (x.lastCheck.getD 0) ++ oneByte x.position
    ++ flagByte x.suspensionTimer.isSome ++ flagByte s.mgmt.isolated ++ flagByte s.mgmt.isolationTimer.isSome
    ++ countersBytes [k.scansCompleted, k.mismatches, k.suspensions, k.suspensionExpiries, k.isolations]

/-- PARAMETERS in the order of R193, each mask as its group's bit string (R192). -/
def Parameters.data (p : Parameters) : List Byte :=
  wordBytes p.control
    ++ [p.presence.byte, p.route.byte, p.setup.byte, p.lease.byte, p.airReport.byte, p.status.byte,
        p.isolation.byte, p.repeatTime.byte, p.door.byte, byteOf p.trigger.code, byteOf p.follow]
    ++ flagBytes .air p.masks.air ++ flagBytes .call p.masks.call ++ flagBytes .truck p.masks.truck
    ++ flagBytes .refuge p.masks.refuge ++ flagBytes .node p.masks.node

/-- FLAGS: the detailed flags, the mask and the summary of a group (R201). -/
def State.flagsData (s : State) (g : Group) : List Byte :=
  flagBytes g (s.flags g).flags ++ flagBytes g (s.params.masks.get g) ++ flagByte (s.flags g).summary

/-- MANAGEMENT: the counters, whether a restart is pending, the channels under test (R199). -/
def State.managementData (s : State) : List Byte :=
  let k := s.mgmt.counters
  countersBytes [k.requestsTaken, k.requestsRefused, k.foreignMgmt, k.beacons, k.statusReports,
      k.restartsAbandoned]
    ++ flagByte s.mgmt.restartPending
    ++ bitString 2 (channelIndices.map (fun c => (s.channel c).test.isSome))

/-! ### Outcomes of the reads (R191, R192) -/

/-- A record's data: the table code, the index, the fields (R192). -/
def readDone (table : Nat) (index : Word) (fields : List Byte) : Verdict :=
  .done (oneByte table ++ wordBytes index ++ fields)

/-- A read of an index below `n`; any other index is BAD_INDEX. -/
def readIndexed {n : Nat} (table : Nat) (index : Word) (fields : Fin n → List Byte) : Verdict :=
  match indexBelow n index with
  | some i => readDone table index (fields i)
  | none => .refused .badIndex

/-- The entry with the lowest address at or above the one named (R69). -/
def firstFrom (l : List Entry) (a : Addr) : Option Entry := l.find? (fun e => decide (a.toNat ≤ e.address.toNat))

/-- READ RECORD CHANNEL. -/
def State.readChannel (s : State) (x : Word) : Verdict :=
  readIndexed 0 x (fun c : Fin 16 => (s.channel c).recordData)

/-- READ RECORD POLL (R39). -/
def State.readPoll (s : State) (x : Word) : Verdict := readIndexed 1 x s.pollData

/-- READ RECORD POLLER (R39, R48). -/
def State.readPoller (s : State) (x : Word) : Verdict := readDone 2 x s.pollerData

/-- READ RECORD STATION (R69). -/
def State.readStation (s : State) (x : Word) : Verdict :=
  match firstFrom s.table.entries x with
  | some e => readDone 3 x e.data
  | none => .refused .badIndex

/-- READ RECORD STATION SUMMARY (R69). -/
def State.readStationSummary (s : State) (x : Word) : Verdict := readDone 4 x s.summaryData

/-- READ RECORD PIN (R69). -/
def State.readPin (s : State) (x : Word) : Verdict :=
  readIndexed 5 x (fun i : Fin 4 => recordBytes s.table.pins[i].words)

/-- READ RECORD WATCH (R69). -/
def State.readWatch (s : State) (x : Word) : Verdict :=
  readIndexed 6 x (fun i : Fin 4 => s.table.watches[i].data)

/-- READ RECORD PORT (R92). -/
def State.readPort (s : State) (x : Word) : Verdict :=
  match portOfCode x.toNat with
  | some p => readDone 7 x (s.portData p)
  | none => .refused .badIndex

/-- READ RECORD LEG (R116). -/
def State.readLeg (s : State) (x : Word) : Verdict := readIndexed 8 x s.legData

/-- READ RECORD CALLS (R97, R116). -/
def State.readCalls (s : State) (x : Word) : Verdict := readDone 9 x s.callsData

/-- READ RECORD PERMIT (R99). -/
def State.readPermit (s : State) (x : Word) : Verdict :=
  readIndexed 10 x (fun i : Fin 4 => recordBytes s.calls.permits[i].words)

/-- READ RECORD SEGMENT (R135). -/
def State.readSegment (s : State) (x : Word) : Verdict := readDone 11 x s.segmentData

/-- READ RECORD PANEL (R148). -/
def State.readPanel (s : State) (x : Word) : Verdict :=
  readIndexed 12 x (fun i : Fin 8 => (s.panel i).data)

/-- READ RECORD EVACUATION (R156). -/
def State.readEvacuation (s : State) (x : Word) : Verdict := readDone 13 x s.evacuationData

/-- READ RECORD ROUTE (R154). -/
def State.readRoute (s : State) (x : Word) : Verdict :=
  readIndexed 14 x (fun i : Fin 11 => recordBytes s.evac.routes[i].words)

/-- READ RECORD OUTPUTS (R155). -/
def State.readOutputs (s : State) (x : Word) : Verdict := readDone 15 x s.outputsData

/-- READ RECORD PLAN (R166). -/
def State.readPlan (s : State) (x : Word) : Verdict :=
  match planIndex x with
  | some (b, i) => readDone 16 x (oneByte (s.net.banks.entry b i).code)
  | none => .refused .badIndex

/-- READ RECORD EGRESS (R167). -/
def State.readEgress (s : State) (x : Word) : Verdict :=
  match portOfCode x.toNat with
  | some p => readDone 17 x (s.egressData p)
  | none => .refused .badIndex

/-- READ RECORD SHED (R169). -/
def State.readShed (s : State) (x : Word) : Verdict :=
  readIndexed 18 x (fun i : Fin 4 => recordBytes s.supply.entries[i].config.words)

/-- READ RECORD SUPPLY (R173). -/
def State.readSupply (s : State) (x : Word) : Verdict := readDone 19 x s.supplyData

/-- READ RECORD INTEGRITY (R184). -/
def State.readIntegrity (s : State) (x : Word) : Verdict := readDone 20 x s.integrityData

/-- READ RECORD PARAMETERS (R192). -/
def State.readParameters (s : State) (x : Word) : Verdict := readDone 21 x s.params.data

/-- READ RECORD FLAGS (R201). -/
def State.readFlags (s : State) (x : Word) : Verdict :=
  match Group.ofCode x.toNat with
  | some g => readDone 22 x (s.flagsData g)
  | none => .refused .badIndex

/-- READ RECORD MANAGEMENT (R199). -/
def State.readManagement (s : State) (x : Word) : Verdict := readDone 23 x s.managementData

end Sys2Proof.Machine
end

