-- ==== Sys2Proof/Machine/Restart.lean ====
section
/-! DEFINITION. RESTART (R200, R203 and each chapter's restart rule), CLEAR COUNTERS (R199), NODE STATUS
(R198), the sent frame (R162) and the links going DOWN and UP (R90, R161). -/

namespace Sys2Proof.Machine

/-! ### Counters (R199) -/

/-- A port with its counters at 0. -/
def PortState.zeroed (x : PortState) : PortState :=
  { x with counters := {}, egress := { x.egress with counters := {} } }

/-- A leg with its counters at 0. -/
def Leg.zeroed (l : Leg) : Leg := { l with voiceIn := 0, voiceOut := 0, voiceDropped := 0 }

/-- Every counter of the part is set to 0 (R199). -/
def State.zeroCounters (s : State) : State :=
  { s with
    net := { s.net with
      outbye := s.net.outbye.zeroed, inbye := s.net.inbye.zeroed, radio := s.net.radio.zeroed }
    poller := { s.poller with counters := {} }
    table := { s.table with counters := {} }
    calls := { s.calls with legs := mapTable Leg.zeroed s.calls.legs, counters := {} }
    seg := { s.seg with counters := {} }
    evac := { s.evac with counters := {} }
    supply := { s.supply with counters := {} }
    integ := { s.integ with counters := {} }
    mgmt := { s.mgmt with counters := {} } }

/-! ### NODE STATUS (R198) -/

/-- The status timer is started with the status interval at the shed level in force, or left stopped by a
count of 0 (R198). -/
def State.startStatus (s : State) : State :=
  { s with mgmt := { s.mgmt with
      statusTimer := startOrStop s.now s.params.status (s.reportLength s.params.status) } }

/-- A NODE STATUS payload, with the report count as it stands (R76, R198). -/
def State.statusPayload (s : State) : List Byte :=
  [byteOf s.air.zone.code, byteOf s.air.refuge.code, byteOf s.evac.state.code, byteOf s.tally.present,
    byteOf s.tally.notified, byteOf s.tally.inRefuge, byteOf s.supply.shedLevel,
    if s.supply.sample.mains then 0 else 1]
  ++ natBytes s.supply.sample.battery ++ [BitVec.ofInt 8 s.supply.sample.temperature,
    byteOf s.seg.state.code, byteOf s.countingLegs, s.summaryByte, byteOf s.integ.state.code,
    yesByte s.mgmt.isolated]
  ++ counterBytes s.mgmt.counters.statusReports

/-- A NODE STATUS is counted, built and sent to the control station (R198). -/
def State.sendStatus (s : State) : State :=
  match s.nodeAddr? with
  | none => s
  | some _ =>
    let s := s.countMgmt (fun k => { k with statusReports := k.statusReports + 1 })
    s.originate ⟨.nodeStatus, s.params.control, s.statusPayload⟩

/-- The status timer expires (R198). -/
def State.statusExpires (s : State) : State := s.sendStatus.startStatus

/-! ### RESTART -/

/-- A port's egress side at RESTART: everything queued or going out is lost without a count, the position is 0
on the active bank, no bank is pending (R175). -/
def PortState.restart (x : PortState) : PortState :=
  { x with egress := { x.egress with
      queues := {}, sending := none, ahead := none, position := 0, pendingBank := none } }

/-- Ports and forwarding engine at RESTART: the relay list is emptied and its tick restarted; link states and
sequences are kept (R93, R175). -/
def State.restartNet (s : State) : State :=
  { s with net := { s.net with
      outbye := s.net.outbye.restart, inbye := s.net.inbye.restart, radio := s.net.radio.restart
      relay := [], relayTick := s.now + 1000 } }

/-- The management unit at RESTART: flags and summaries cleared, then RESTARTED set; the pending mark cleared;
the status timer restarted (R203). -/
def State.restartMgmt (s : State) : State :=
  (({ s with mgmt := { s.mgmt with attention := {}, restartPending := false } }).setFlag
    Flag.restarted).startStatus

/-- The restart, block by block: counters, management unit, egress and forwarding, station table, legs,
segment, evacuation, poller, scanner, isolation, then the air evaluator, whose grades may send notices, and
the poller's next choice. -/
def State.restart (s : State) : State :=
  let s := s.zeroCounters.restartMgmt.restartNet.restartTable.restartCalls.restartSegment.restartEvac
  s.restartPoller.restartIntegrity.restartIsolation.restartAir.nextPoll

/-- The restart falls due: it is carried out, or abandoned in EVACUATE (R200). -/
def State.restartDue (s : State) : State :=
  match s.evac.state with
  | .quiet => s.restart
  | .evacuate =>
    ({ s with mgmt := { s.mgmt with restartPending := false } }).countMgmt
      (fun k => { k with restartsAbandoned := k.restartsAbandoned + 1 })

/-- An accepted RESTART's response goes ahead of the port's queues; on a DOWN port it is dropped and counted,
and the restart falls due at once (R200). -/
def State.sendRestartResponse (s : State) (rq : Request) : State :=
  let s := { s with mgmt := { s.mgmt with restartPending := true } }
  let x := s.net.header s.own (msgResponse rq.source rq.tag .none [])
  if (x.2.port rq.port).up then
    let n := x.2.setEgress rq.port { (x.2.port rq.port).egress with ahead := some x.1 }
    { s with net := n.choose s.supply.shedLevel rq.port }
  else
    ({ s with net := x.2.count rq.port (fun k => { k with downDrops := k.downDrops + 1 }) }).restartDue

/-! ### A frame has been sent (R162, R200) -/

/-- A port's choice, when it is free (R162). -/
def State.choosePort (s : State) (p : Port) : State :=
  { s with net := s.net.choose s.supply.shedLevel p }

/-- The frame in transmission leaves the port. -/
def State.clearSending (s : State) (p : Port) : State :=
  { s with net := s.net.setEgress p { (s.net.port p).egress with sending := none } }

/-- A port finishes sending its frame: it is counted, a restart response brings the restart, and the free port
makes its next choice (R92, R162, R200). -/
def State.frameGone (s : State) (p : Port) : State :=
  match (s.net.port p).egress.sending with
  | none => s
  | some t =>
    let s := (s.clearSending p).countPort p (fun k => { k with framesSent := k.framesSent + 1 })
    let s := if t.restart then s.restartDue else s
    s.choosePort p

/-! ### Links (R90, R161, R164) -/

/-- The queued frames and the frame in transmission are discarded and counted, and the port wraps (R161). The
RESTART response that waits ahead of the queues is in neither. -/
def Egress.flush (e : Egress) : Egress :=
  let n := e.queues.total + (if e.sending.isSome then 1 else 0)
  let place := (⟨e.active, e.position, e.pendingBank⟩ : PlanPlace).wrap
  { e with
    queues := {}, sending := none, ahead := none
    active := place.active, position := place.position, pendingBank := place.pending
    counters := { e.counters with flushed := e.counters.flushed + BitVec.ofNat 32 n } }

/-- The response to an accepted RESTART has not been sent yet (R200). -/
def Egress.holdsRestart (e : Egress) : Bool :=
  e.ahead.isSome || (match e.sending with
    | some t => t.restart
    | none => false)

/-- A change of link state is flagged and counted (R90). -/
def State.linkChanged (s : State) (p : Backbone) (up : Bool) : State :=
  let s := { s with net := s.net.setPort p.port { s.net.port p.port with up := up } }
  (s.setFlag Flag.linkChange).countPort p.port (fun k => { k with linkChanges := k.linkChanges + 1 })

/-- Loss of signal on a backbone port: flush, VIA_ entries to UNKNOWN, and the restart when its response was
still to be sent there (R66, R90, R161, R200; assumption 15). -/
def State.goDown (s : State) (p : Backbone) : State :=
  if (s.net.port p.port).up then
    let e := (s.net.port p.port).egress
    let s := { s with net := s.net.setEgress p.port e.flush }
    let s := (s.linkChanged p false).forgetVia p
    if e.holdsRestart then
      (s.countPort p.port (fun k => { k with downDrops := k.downDrops + 1 })).restartDue
    else s
  else s

/-- Signal restored on a backbone port: it makes its service choice (R90, R162). -/
def State.goUp (s : State) (p : Backbone) : State :=
  if (s.net.port p.port).up then s else (s.linkChanged p true).choosePort p.port

end Sys2Proof.Machine
end

