-- ==== Sys2Proof/Machine/Requests.lean ====
section
/-! DEFINITION. The management requests (chapter Management Requests and Reporting): what each does, and how a
REQUEST is taken and answered. -/

namespace Sys2Proof.Machine

/-! ### LOAD RECORD (R193) -/

/-- A load is done: no data. -/
def loaded (s : State) : State × Verdict := (s, .done [])

/-- LOAD RECORD CHANNEL (R9, R10, R11, R176). A load taken in FAULT moves both a channel and the floor: the grades
are recomputed once, from both, so that the event sends its notices once (R29). -/
def State.loadChannel (s : State) (x : Word) (f : ChannelFields) : State × Verdict :=
  match indexBelow 16 x with
  | none => (s, .refused .badIndex)
  | some c =>
    if (s.channel c).trip.set then (s, .refused .tripLatched)
    else
      match parseChannel f with
      | none => (s, .refused .badValue)
      | some r =>
        if r.bandsGood = false then (s, .refused .badBand)
        else if r.orderGood = false then (s, .refused .badOrder)
        else loaded (s.loadChannelRecord c r).suspendScan.regrade

/-- Another enabled record has the device address (R37). -/
def State.addressTaken (s : State) (i : Fin 8) (c : PollConfig) : Bool :=
  c.enabled && pollIndices.any (fun j =>
    j != i && (s.pollRecord j).config.enabled && (s.pollRecord j).config.address == c.address)

/-- LOAD RECORD POLL (R37, R38). -/
def State.loadPoll (s : State) (x : Word) (f : PollFields) : State × Verdict :=
  match indexBelow 8 x with
  | none => (s, .refused .badIndex)
  | some i =>
    match parsePoll f with
    | none => (s, .refused .badValue)
    | some c => if s.addressTaken i c then (s, .refused .badValue) else loaded (s.loadPollRecord i c)

/-- LOAD RECORD PIN (R60, R62, R176). -/
def State.loadPin (s : State) (x : Word) (f : PinFields) : State × Verdict :=
  match indexBelow 4 x with
  | none => (s, .refused .badIndex)
  | some i =>
    match parsePin f with
    | none => (s, .refused .badValue)
    | some w => loaded (s.loadPinWindow i w).protectedWrite

/-- LOAD RECORD WATCH (R67). -/
def State.loadWatch (s : State) (x : Word) (f : WatchFields) : State × Verdict :=
  match indexBelow 4 x with
  | none => (s, .refused .badIndex)
  | some i =>
    match parseWatch f s.nodeAddr? with
    | none => (s, .refused .badValue)
    | some w => loaded { s with table := { s.table with watches := s.table.watches.set i w } }

/-- LOAD RECORD PERMIT (R99, R176). -/
def State.loadPermit (s : State) (x : Word) (f : PermitFields) : State × Verdict :=
  match indexBelow 4 x with
  | none => (s, .refused .badIndex)
  | some i =>
    match parsePermit f with
    | none => (s, .refused .badValue)
    | some r =>
      loaded ({ s with calls := { s.calls with permits := s.calls.permits.set i r } }).protectedWrite

/-- LOAD RECORD ROUTE (R154, R176). -/
def State.loadRoute (s : State) (x : Word) (f : RouteFields) : State × Verdict :=
  match indexBelow 11 x with
  | none => (s, .refused .badIndex)
  | some i =>
    match parseRoute f with
    | none => (s, .refused .badValue)
    | some r => loaded ({ s with evac := { s.evac with routes := s.evac.routes.set i r } }).protectedWrite

/-- A plan bank with one entry written. -/
def Banks.write (b : Banks) (k : Bank) (i : Fin 32) (e : PlanEntry) : Banks :=
  match k with
  | .zero => { b with zero := b.zero.set i e }
  | .one => { b with one := b.one.set i e }

/-- LOAD RECORD PLAN (R166). -/
def State.loadPlan (s : State) (x : Word) (value : Byte) : State × Verdict :=
  match planIndex x with
  | none => (s, .refused .badIndex)
  | some (b, i) =>
    match PlanEntry.ofCode value.toNat with
    | none => (s, .refused .badValue)
    | some e =>
      if s.net.bankInUse b then (s, .refused .activeBank)
      else loaded { s with net := { s.net with banks := s.net.banks.write b i e } }

/-- LOAD RECORD SHED (R169, R176). A change of the shed level has its effects before the protected write has its
own (DESIGN CHOICE, assumption 5). -/
def State.loadShed (s : State) (x : Word) (f : ShedFields) : State × Verdict :=
  match indexBelow 4 x with
  | none => (s, .refused .badIndex)
  | some i =>
    match parseShed f with
    | none => (s, .refused .badValue)
    | some c => loaded (s.loadShedEntry i c).protectedWrite

/-- The five groups in code order. -/
def Group.all : List Group := [.air, .call, .truck, .refuge, .node]

/-- Accepted PARAMETERS: stored, the report timers and the isolation timer restarted, the summaries of groups
with an unmasked flag set, and the own-grade test made (R185, R194, R195). -/
def State.takeParameters (s : State) (p : Parameters) : State :=
  let s := { s with mgmt := { s.mgmt with parameters := p } }
  (Group.all.foldl State.refreshSummary s.startReportTimer.startStatus.startIsolation).testOwnGrade

/-- LOAD RECORD PARAMETERS (R193, R194). -/
def State.loadParameters (s : State) (f : ParameterFields) : State × Verdict :=
  match parseParameters f with
  | none => (s, .refused .badValue)
  | some p => loaded (s.takeParameters p)

/-! ### The other requests -/

/-- SET CHECK (R181). -/
def State.setCheck (s : State) (value : Word) : State × Verdict := loaded (s.setStoredCheck value)

/-- A port takes a SELECT PLAN: nothing is pending on a port whose active bank it is (R165). -/
def PortState.select (x : PortState) (b : Bank) : PortState :=
  { x with egress := { x.egress with pendingBank := if x.egress.active = b then none else some b } }

/-- SELECT PLAN (R165). -/
def State.selectPlan (s : State) (bank : Byte) : State × Verdict :=
  match Bank.ofCode bank.toNat with
  | none => (s, .refused .badIndex)
  | some b =>
    loaded { s with net := { s.net with
      outbye := s.net.outbye.select b, inbye := s.net.inbye.select b, radio := s.net.radio.select b } }

/-- RESET TRIP (R28). -/
def State.resetTrip (s : State) (channel : Byte) : State × Verdict :=
  match indexBelow 16 (channel.setWidth 16) with
  | none => (s, .refused .badIndex)
  | some c =>
    if (s.channel c).trip.set = false then loaded s
    else if (s.channel c).tripClears then loaded (s.releaseTrip c)
    else (s, .refused .stillBeyond)

/-- TEST CHANNEL: answered when the test ends (R32, R33). -/
def State.testChannel (s : State) (rq : Request) (channel : Byte) (value : Word) (count : Byte) :
    State × Verdict :=
  match indexBelow 16 (channel.setWidth 16) with
  | none => (s, .refused .badIndex)
  | some c =>
    let x := s.channel c
    if x.test.isSome then (s, .refused .busy)
    else if x.record.enabled = false ∨ x.record.gas.fullScale < value.toNat
        ∨ count.toNat < 1 ∨ 32 < count.toNat then (s, .refused .badValue)
    else (s.setChannel c (x.beginTest rq value.toNat count.toNat), .later)

/-- EVACUATE (R140). -/
def State.evacuateRequest (s : State) : State × Verdict := loaded s.orderedOut

/-- STAND DOWN (R143). -/
def State.standDownRequest (s : State) : State × Verdict :=
  match s.stoodDown with
  | (s, true) => (s, .refused .gradeHigh)
  | (s, false) => loaded s

/-- CLOSE SEGMENT (R132). -/
def State.closeSegment (s : State) : State × Verdict :=
  loaded (s.changeCauses { s.seg.causes with surface := true })

/-- OPEN SEGMENT (R132). -/
def State.openSegment (s : State) : State × Verdict :=
  loaded (s.changeCauses { s.seg.causes with surface := false, startup := false })

/-- RELEASE SEGMENT (R132). -/
def State.releaseSegment (s : State) : State × Verdict :=
  if s.seg.state = .lost then loaded s.releaseHolder else (s, .refused .notLost)

/-- CANCEL SOS: the data says whether the unit was removed (R152, R190). -/
def State.cancelSos (s : State) (unit : Word) : State × Verdict :=
  if isMiner unit then (s.removeSos unit, .done (flagByte (s.evac.sos.contains unit)))
  else (s, .refused .badValue)

/-- CLEAR FLAGS: the data is the flags that stay (R196). -/
def State.clearFlags (s : State) (group : Byte) (flags : BitVec 56) : State × Verdict :=
  match Group.ofCode group.toNat with
  | none => (s, .refused .badIndex)
  | some g =>
    let x := (s.flags g).flags &&& ~~~ flags
    (s.setFlagGroup g { s.flags g with flags := x }, .done (flagBytes g x))

/-- ACK ATTENTION (R197). -/
def State.ackAttention (s : State) (group : Byte) : State × Verdict :=
  match Group.ofCode group.toNat with
  | none => (s, .refused .badIndex)
  | some g =>
    if s.unmasked g = 0 then loaded (s.setFlagGroup g { s.flags g with summary := false })
    else (s, .refused .flagsSet)

/-- CLEAR COUNTERS: the request is counted after the clearing (R199). -/
def State.clearCounters (s : State) : State × Verdict :=
  loaded (s.zeroCounters.countMgmt (fun k => { k with requestsTaken := 1 }))

/-- RESTART: refused in EVACUATE, then while one is pending; accepted, its response is sent ahead of the
queues (R200). -/
def State.restartRequest (s : State) (rq : Request) : State × Verdict :=
  if s.evac.state = .evacuate then (s, .refused .evacuating)
  else if s.mgmt.restartPending then (s, .refused .busy)
  else (s.sendRestartResponse rq, .later)

/-! ### Taking a request (R189, R190, R200) -/

/-- A request's handler: its effect on the node and what becomes of it. -/
abbrev Handler := State → State × Verdict

/-- A read changes nothing (R192). -/
def reading (v : State → Verdict) : Handler := fun s => (s, v s)

/-- The answer that a verdict calls for (R190). -/
def State.answer (s : State) (rq : Request) : Verdict → State
  | .done data => s.respond rq .none data
  | .refused c => s.respond rq c []
  | .later => s

/-- A REQUEST that is taken is counted, carried out and answered. While a restart is pending every request but
RESTART is refused with BUSY (R189, R190, R200). That a READ RECORD MANAGEMENT finds itself counted is DEDUCED from
the order in R189 (assumption 29). -/
def State.carryOut (s : State) (rq : Request) (isRestart : Bool) (h : Handler) : State :=
  let s := s.countMgmt (fun k => { k with requestsTaken := k.requestsTaken + 1 })
  if s.mgmt.restartPending && !isRestart then s.answer rq (.refused .busy)
  else
    let x := h s
    x.1.answer rq x.2

/-- A REQUEST reaches the management unit: one from no surface station is discarded and counted; a node
without an address discards it without a count (R91, R189). -/
def State.takeRequest (s : State) (rq : Request) (isRestart : Bool) (h : Handler) : State :=
  match s.nodeAddr? with
  | none => s
  | some _ =>
    if isSurface rq.source then s.carryOut rq isRestart h
    else s.countMgmt (fun k => { k with foreignMgmt := k.foreignMgmt + 1 })

/-- The handler of each request; an event row is no request. -/
def handlerOf : Instr → Handler
  | .readRecordChannel _ x => reading (fun s => s.readChannel x)
  | .readRecordPoll _ x => reading (fun s => s.readPoll x)
  | .readRecordPoller _ x => reading (fun s => s.readPoller x)
  | .readRecordStation _ x => reading (fun s => s.readStation x)
  | .readRecordStationSummary _ x => reading (fun s => s.readStationSummary x)
  | .readRecordPin _ x => reading (fun s => s.readPin x)
  | .readRecordWatch _ x => reading (fun s => s.readWatch x)
  | .readRecordPort _ x => reading (fun s => s.readPort x)
  | .readRecordLeg _ x => reading (fun s => s.readLeg x)
  | .readRecordCalls _ x => reading (fun s => s.readCalls x)
  | .readRecordPermit _ x => reading (fun s => s.readPermit x)
  | .readRecordSegment _ x => reading (fun s => s.readSegment x)
  | .readRecordPanel _ x => reading (fun s => s.readPanel x)
  | .readRecordEvacuation _ x => reading (fun s => s.readEvacuation x)
  | .readRecordRoute _ x => reading (fun s => s.readRoute x)
  | .readRecordOutputs _ x => reading (fun s => s.readOutputs x)
  | .readRecordPlan _ x => reading (fun s => s.readPlan x)
  | .readRecordEgress _ x => reading (fun s => s.readEgress x)
  | .readRecordShed _ x => reading (fun s => s.readShed x)
  | .readRecordSupply _ x => reading (fun s => s.readSupply x)
  | .readRecordIntegrity _ x => reading (fun s => s.readIntegrity x)
  | .readRecordParameters _ x => reading (fun s => s.readParameters x)
  | .readRecordFlags _ x => reading (fun s => s.readFlags x)
  | .readRecordManagement _ x => reading (fun s => s.readManagement x)
  | .loadRecordChannel _ x f => fun s => s.loadChannel x f
  | .loadRecordPoll _ x f => fun s => s.loadPoll x f
  | .loadRecordPin _ x f => fun s => s.loadPin x f
  | .loadRecordWatch _ x f => fun s => s.loadWatch x f
  | .loadRecordPermit _ x f => fun s => s.loadPermit x f
  | .loadRecordRoute _ x f => fun s => s.loadRoute x f
  | .loadRecordPlan _ x v => fun s => s.loadPlan x v
  | .loadRecordShed _ x f => fun s => s.loadShed x f
  | .loadRecordParameters _ _ f => fun s => s.loadParameters f
  | .setCheck _ v => fun s => s.setCheck v
  | .selectPlan _ b => fun s => s.selectPlan b
  | .resetTrip _ c => fun s => s.resetTrip c
  | .testChannel rq c v n => fun s => s.testChannel rq c v n
  | .evacuate _ => fun s => s.evacuateRequest
  | .standDown _ => fun s => s.standDownRequest
  | .closeSegment _ => fun s => s.closeSegment
  | .openSegment _ => fun s => s.openSegment
  | .releaseSegment _ => fun s => s.releaseSegment
  | .cancelSos _ u => fun s => s.cancelSos u
  | .clearFlags _ g x => fun s => s.clearFlags g x
  | .ackAttention _ g => fun s => s.ackAttention g
  | .clearCounters _ => fun s => s.clearCounters
  | .restart rq => fun s => s.restartRequest rq
  | .coldStart _ _ _ => fun s => (s, .later)
  | .frameReceived _ _ => fun s => (s, .later)
  | .frameSent _ => fun s => (s, .later)
  | .linkDown _ => fun s => (s, .later)
  | .linkUp _ => fun s => (s, .later)
  | .lineMessageReceived _ => fun s => (s, .later)
  | .replyTimerExpiry => fun s => (s, .later)
  | .recordDue => fun s => (s, .later)
  | .staleTimerExpiry _ => fun s => (s, .later)
  | .airReportTimerExpiry => fun s => (s, .later)
  | .ageTick => fun s => (s, .later)
  | .relayAgeTick => fun s => (s, .later)
  | .setupTimerExpiry _ => fun s => (s, .later)
  | .leaseTimerExpiry => fun s => (s, .later)
  | .repeatTimerExpiry => fun s => (s, .later)
  | .doorTick => fun s => (s, .later)
  | .supplySample _ _ _ => fun s => (s, .later)
  | .scanStep => fun s => (s, .later)
  | .suspensionTimerExpiry => fun s => (s, .later)
  | .isolationTimerExpiry => fun s => (s, .later)
  | .statusTimerExpiry => fun s => (s, .later)
  | .outputCadenceToggle _ => fun s => (s, .later)

/-- A command is RESTART (R200). -/
def isRestartCommand : Instr → Bool
  | .restart _ => true
  | _ => false

/-- A REQUEST read from a frame: the command it spells, or the refusal of its arguments (R190). -/
def State.takeAsked (s : State) (rq : Request) : Asked → State
  | .command i => s.takeRequest rq (isRestartCommand i) (handlerOf i)
  | .refused c => s.takeRequest rq false (fun s => (s, .refused c))

end Sys2Proof.Machine
end

