-- ==== Sys2Proof/Machine/Walk.lean ====
section
/-! DEFINITION. The walk of a received frame (chapter Roadline Frames and Forwarding): arrival checks, via-node
filter, learning and heard-from notices, hop count, relay list, own returns, leg table inspection, local
delivery and forwarding. -/

namespace Sys2Proof.Machine

/-! ### Local delivery (R76, R87) -/

/-- A local copy that no block owns (R87). -/
def State.noOwner (s : State) (p : Port) : State := s.countPort p (fun k => { k with noOwner := k.noOwner + 1 })

/-- An ENTRY REQUEST is delivered: taken when it is a vehicle's own (R121). -/
def State.entryFrame (s : State) (f : Frame) : State :=
  match f.payload with
  | [a, b, d] =>
    match Heading.ofCode d.toNat with
    | some h =>
      if isVehicle f.src ∧ wordOf a b = f.src then s.entryRequest f.src h else s.badEntryFrame
    | none => s.badEntryFrame
  | _ => s.badEntryFrame

/-- An EXIT NOTICE is delivered: taken when it is a vehicle's own (R121). -/
def State.exitFrame (s : State) (f : Frame) : State :=
  match f.payload with
  | [a, b] => if isVehicle f.src ∧ wordOf a b = f.src then s.exitNotice f.src else s.badEntryFrame
  | _ => s.badEntryFrame

/-- A BEACON is delivered (R189). -/
def State.beacon (s : State) (f : Frame) : State :=
  if isSurface f.src then s.countMgmt (fun k => { k with beacons := k.beacons + 1 })
  else s.countMgmt (fun k => { k with foreignMgmt := k.foreignMgmt + 1 })

/-- A REQUEST is delivered: its tag, its request code and its arguments (R189, R190). -/
def State.requestFrame (s : State) (p : Port) (f : Frame) : State :=
  match f.payload with
  | tag :: code :: args =>
    let rq : Request := ⟨tag, f.src, p⟩
    s.takeAsked rq (askedOf rq code.toNat args)
  | _ => s

/-- A delivery that a node without an address discards without a count (R91). -/
def State.ifAddressed (s : State) (h : State → State) : State :=
  match s.nodeAddr? with
  | some _ => h s
  | none => s

/-- The block that owns a kind takes the frame (R87). -/
def State.hand (s : State) (p : Port) (f : Frame) : FrameKind → State
  | .zoneGrade => s.ifAddressed (fun s => s.zoneGradeNotice f)
  | .sos => s.sosFrame f
  | .sosCancel => s.sosCancel f
  | .evacuateOrder => s.ifAddressed (fun s => s.evacuateOrder f)
  | .standDownOrder => s.ifAddressed (fun s => s.standDownOrder f)
  | .refugeBreach => s.noOwner p
  | .refugeAir => s.noOwner p
  | .voice => s
  | .announce => s
  | .callSetup => s
  | .callAlerting => s
  | .callAnswer => s
  | .callClear => s
  | .entryRequest => s.ifAddressed (fun s => s.entryFrame f)
  | .exitNotice => s.ifAddressed (fun s => s.exitFrame f)
  | .grant => s.noOwner p
  | .wait => s.noOwner p
  | .refuseEntry => s.noOwner p
  | .withdraw => s.noOwner p
  | .proximity => s.noOwner p
  | .evacNotice => s.noOwner p
  | .evacAck => s.ifAddressed (fun s => s.evacAck f)
  | .musterReport => s.noOwner p
  | .airReport => s.noOwner p
  | .vehicleTelemetry => s.noOwner p
  | .unitTelemetry => s.noOwner p
  | .request => s.ifAddressed (fun s => s.requestFrame p f)
  | .response => s.noOwner p
  | .nodeStatus => s.noOwner p
  | .beacon => s.ifAddressed (fun s => s.beacon f)
  | .locateReport => s.noOwner p

/-- Local delivery: the kind and the payload are judged first (R76, R87). -/
def State.deliver (s : State) (p : Port) (f : Frame) : State :=
  match f.kind? with
  | none => s.countPort p (fun k => { k with unknownKinds := k.unknownKinds + 1 })
  | some k =>
    if payloadFits k f.payload then s.hand p f k
    else s.countPort p (fun k => { k with payloadErrors := k.payloadErrors + 1 })

/-- A frame is delivered locally when it is for this node or broadcast (R86). -/
def State.forHere (s : State) (f : Frame) : Bool := f.dest == broadcast || s.nodeAddr? == some f.dest

/-- The destination decision of a received frame: local delivery, then the queues it goes out to (R86;
assumption 5). -/
def State.dispose (s : State) (p : Port) (f : Frame) : State :=
  let s := if s.forHere f then s.deliver p f else s
  { s with net := s.net.decide s.table.entries s.supply.shedLevel (some p) f }

/-! ### The steps before it -/

/-- The leg table's inspection of an accepted frame; a frame it holds goes no further (R85). -/
def State.inspected (s : State) (p : Port) (f : Frame) : State :=
  match s.inspect p f with
  | (s, true) => s.dispose p f
  | (s, false) => s

/-- The own-return check (R84). -/
def State.ownReturn (s : State) (p : Port) (f : Frame) : State :=
  if s.nodeAddr? = some f.src then s.countPort p (fun k => { k with ownReturns := k.ownReturns + 1 })
  else s.inspected p f

/-- The alarm relay list: a duplicate is dropped, a new key of another source is added (R82). -/
def State.relayed (s : State) (p : Port) (f : Frame) : State :=
  if f.cls = .alarm then
    if relayHolds s.net.relay f.src f.seq then
      s.countPort p (fun k => { k with duplicateAlarms := k.duplicateAlarms + 1 })
    else if s.nodeAddr? = some f.src then s.ownReturn p f
    else ({ s with net := { s.net with relay := relayAdd s.net.relay f.src f.seq } }).ownReturn p f
  else s.ownReturn p f

/-- The hop count of a frame for the rest of the walk: 31 from the radio, one less from the backbone, where 0
stays 0 (R81). -/
def hopAfter (p : Port) (hop : BitVec 5) : BitVec 5 :=
  match p with
  | .radio => 31
  | _ => if hop = 0 then 0 else hop - 1

/-- The hop count is dealt with (R81). -/
def State.hopped (s : State) (p : Port) (f : Frame) : State :=
  let f := { f with hop := hopAfter p f.hop }
  let s := if f.hop = 0 then s.countPort p (fun k => { k with hopExpired := k.hopExpired + 1 }) else s
  s.relayed p f

/-- An accepted frame of a surface station's that shows the surface can be heard (R185). -/
def isSurfaceFrame (f : Frame) : Bool := isSurface f.src && (f.cls == .mgmt || f.cls == .alarm)

/-- The learn request, the heard-from notice and the surface frame notice (R80, R185). -/
def State.heard (s : State) (p : Port) (f : Frame) : State :=
  let s := (s.learnFrame p f).heardFrom f.src
  if isSurfaceFrame f then s.surfaceHeard else s

/-- The kinds that pass the via-node filter whatever their via node says (R79). -/
def passesFilter (f : Frame) : Bool := f.isKind .announce || f.isKind .sos || f.isKind .evacAck

/-- The via-node filter of the radio port (R79). -/
def State.viaGood (s : State) (p : Port) (via : Byte) (f : Frame) : Bool :=
  p != .radio || via == 0 || s.nodeAddr? == some (via.setWidth 16) || passesFilter f

/-- An accepted frame: through the filter, then the walk (R79 to R86). -/
def State.acceptFrame (s : State) (p : Port) (via : Byte) (f : Frame) : State :=
  if s.viaGood p via f then (s.heard p f).hopped p f else s

/-- A port receives a frame: it is counted and checked (R78). A DOWN port takes no arrivals (R90). -/
def State.frameArrives (s : State) (p : Port) (bytes : List Byte) : State :=
  if (s.net.port p).up then
    let s := s.countPort p (fun k => { k with framesReceived := k.framesReceived + 1 })
    match arrivalCheck p bytes with
    | .lengthError => s.countPort p (fun k => { k with lengthErrors := k.lengthErrors + 1 })
    | .checkError => s.countPort p (fun k => { k with checkErrors := k.checkErrors + 1 })
    | .classError => s.countPort p (fun k => { k with classErrors := k.classErrors + 1 })
    | .addressError => s.countPort p (fun k => { k with addressErrors := k.addressErrors + 1 })
    | .accepted via f =>
      (s.countPort p (fun k => { k with framesAccepted := k.framesAccepted + 1 })).acceptFrame p via f
  else s

end Sys2Proof.Machine
end

