-- ==== Sys2Proof/Machine/Clock.lean ====
section
/-! DEFINITION. The shape of an event, and the model's clock: which timer comes next, and what each timer's
expiry does. Two events never overlap: each is taken whole (chapter Operating Sequences; assumption 1). -/

namespace Sys2Proof.Machine

/-! ### An event -/

/-- An event: its marks are cleared, its work is done, a MUSTER REPORT follows a changed tally, and the
outputs follow the sources (R147, R155; assumptions 6 and 7). -/
def State.event (s : State) (work : State → State) : State :=
  let t := ((work { s with scratch := {} }).musterFollows s.tally).drive
  { t with scratch := {} }

/-! ### What an expiry or a tick does when its moment has come -/

/-- A timer's expiry: the clock has reached its moment, and the work is done; a stopped timer does not expire
(assumptions 1 and 17). -/
def State.expire (s : State) (t : Timer) (work : State → State) : State :=
  match t with
  | some d => work (s.reach d)
  | none => s

/-- The reply timer (R44). -/
def State.replyTimerExpires (s : State) : State :=
  match s.poller.inFlight with
  | some f => s.expire s.poller.replyTimer (fun s => s.missReply f.index)
  | none => s

/-- The earliest due time of an enabled record arrives while the line is FREE (R40). -/
def State.recordDueTime (s : State) : Timer :=
  match s.poller.inFlight with
  | some _ => none
  | none => s.earliestDue.map (fun x => x.2)

/-- A record is due: the clock has reached its due time, and it is polled (R40). -/
def State.recordComesDue (s : State) : State := s.expire s.recordDueTime State.nextPoll

/-- The age tick of the station table (R63). -/
def State.ageTicks (s : State) : State :=
  let s := s.reach s.table.ageTick
  ({ s with table := { s.table with ageTick := s.now + 1000 } }).ageTable

/-- The age tick of the relay list (R83). -/
def State.relayTicks (s : State) : State :=
  let s := s.reach s.net.relayTick
  { s with net := { s.net with relayTick := s.now + 1000, relay := relayAged s.net.relay } }

/-- The door tick (R150). -/
def State.doorTicks (s : State) : State :=
  let s := s.reach s.evac.doorTick
  ({ s with evac := { s.evac with doorTick := s.now + 1000 } }).ageDoors

/-- The sample tick (R168). -/
def State.sampleTicks (s : State) (x : Sample) : State :=
  let s := s.reach s.supply.sampleTick
  ({ s with supply := { s.supply with sampleTick := s.now + 1000 } }).takeSample x

/-! ### The next timer -/

/-- Every timer and tick of the part that can come next, with the command of its expiry; equal moments are
taken in this order (assumption 1). -/
def State.timers (s : State) : List (Timer × Instr) :=
  [(s.poller.replyTimer, .replyTimerExpiry), (s.recordDueTime, .recordDue)]
  ++ channelIndices.map (fun c => ((s.channel c).staleTimer, Instr.staleTimerExpiry c))
  ++ [(s.air.reportTimer, .airReportTimerExpiry), (some s.table.ageTick, .ageTick),
      (some s.net.relayTick, .relayAgeTick)]
  ++ legIndices.map (fun i => ((s.leg i).setupTimer, Instr.setupTimerExpiry i))
  ++ [(s.seg.lease, .leaseTimerExpiry), (s.evac.repeatTimer, .repeatTimerExpiry),
      (some s.evac.doorTick, .doorTick),
      (some s.supply.sampleTick,
        .supplySample (Config.supplyReading s.samples).1 (Config.supplyReading s.samples).2.1
          (Config.supplyReading s.samples).2.2),
      (s.integ.scanTimer, .scanStep), (s.integ.suspensionTimer, .suspensionTimerExpiry),
      (s.mgmt.isolationTimer, .isolationTimerExpiry), (s.mgmt.statusTimer, .statusTimerExpiry)]
  ++ [Output.siren, .strobe, .faultLine, .aux].map
      (fun o => ((s.evac.lines.get o).cadence, Instr.outputCadenceToggle o))

/-- The timer with the earliest moment, the first of the list among equals; `best` stands before the list. -/
def earliestTimer (best : Option (Nat × Instr)) : List (Timer × Instr) → Option (Nat × Instr)
  | [] => best
  | (none, _) :: rest => earliestTimer best rest
  | (some t, i) :: rest =>
    let sooner := match best with
      | some (u, _) => decide (t < u)
      | none => true
    earliestTimer (if sooner then some (t, i) else best) rest

/-- The command of the timer whose moment has come, if there is one (assumption 1). -/
def State.dueCommand (s : State) : Option Instr :=
  match earliestTimer none s.timers with
  | some (t, i) => if t ≤ s.now then some i else none
  | none => none

/-- A supply sample that the machine takes of itself uses up one free reading (assumption 3). -/
def State.sampleUsed (s : State) (i : Instr) : State :=
  match i with
  | .supplySample _ _ _ => { s with samples := s.samples + 1 }
  | _ => s

/-- One millisecond passes. -/
def State.idle (s : State) : State := { s with now := s.now + 1 }

end Sys2Proof.Machine
end

