-- ==== Sys2Proof/Machine/ReadCommands.lean ====
section
/-! DEFINITION. The meanings of the READ RECORD rows: a request as the management unit takes it (R189), which
changes nothing but what taking and answering a request changes (R192). -/

namespace Sys2Proof.Machine

/-- A request that reaches the management unit: its frame is a surface frame first (R185), then it is taken
(R189; assumption 4). -/
def State.requestEvent (s : State) (rq : Request) (isRestart : Bool) (h : Handler) :
    Host.Outcome State Fault Refusal :=
  .next (s.event (fun s =>
    (if isSurface rq.source then s.surfaceHeard else s).takeRequest rq isRestart h))

/-- READ_RECORD_CHANNEL (R192). -/
def execReadRecordChannel (rq : Request) (index : Word) (s : State) : Host.Outcome State Fault Refusal :=
  s.requestEvent rq false (reading (fun s => s.readChannel index))

/-- READ_RECORD_POLL (R39). -/
def execReadRecordPoll (rq : Request) (index : Word) (s : State) : Host.Outcome State Fault Refusal :=
  s.requestEvent rq false (reading (fun s => s.readPoll index))

/-- READ_RECORD_POLLER (R39, R48). -/
def execReadRecordPoller (rq : Request) (index : Word) (s : State) : Host.Outcome State Fault Refusal :=
  s.requestEvent rq false (reading (fun s => s.readPoller index))

/-- READ_RECORD_STATION (R69). -/
def execReadRecordStation (rq : Request) (index : Word) (s : State) : Host.Outcome State Fault Refusal :=
  s.requestEvent rq false (reading (fun s => s.readStation index))

/-- READ_RECORD_STATION_SUMMARY (R69). -/
def execReadRecordStationSummary (rq : Request) (index : Word) (s : State) : Host.Outcome State Fault Refusal :=
  s.requestEvent rq false (reading (fun s => s.readStationSummary index))

/-- READ_RECORD_PIN (R69). -/
def execReadRecordPin (rq : Request) (index : Word) (s : State) : Host.Outcome State Fault Refusal :=
  s.requestEvent rq false (reading (fun s => s.readPin index))

/-- READ_RECORD_WATCH (R69). -/
def execReadRecordWatch (rq : Request) (index : Word) (s : State) : Host.Outcome State Fault Refusal :=
  s.requestEvent rq false (reading (fun s => s.readWatch index))

/-- READ_RECORD_PORT (R92). -/
def execReadRecordPort (rq : Request) (index : Word) (s : State) : Host.Outcome State Fault Refusal :=
  s.requestEvent rq false (reading (fun s => s.readPort index))

/-- READ_RECORD_LEG (R116). -/
def execReadRecordLeg (rq : Request) (index : Word) (s : State) : Host.Outcome State Fault Refusal :=
  s.requestEvent rq false (reading (fun s => s.readLeg index))

/-- READ_RECORD_CALLS (R97, R116). -/
def execReadRecordCalls (rq : Request) (index : Word) (s : State) : Host.Outcome State Fault Refusal :=
  s.requestEvent rq false (reading (fun s => s.readCalls index))

/-- READ_RECORD_PERMIT (R99). -/
def execReadRecordPermit (rq : Request) (index : Word) (s : State) : Host.Outcome State Fault Refusal :=
  s.requestEvent rq false (reading (fun s => s.readPermit index))

/-- READ_RECORD_SEGMENT (R135). -/
def execReadRecordSegment (rq : Request) (index : Word) (s : State) : Host.Outcome State Fault Refusal :=
  s.requestEvent rq false (reading (fun s => s.readSegment index))

/-- READ_RECORD_PANEL (R148). -/
def execReadRecordPanel (rq : Request) (index : Word) (s : State) : Host.Outcome State Fault Refusal :=
  s.requestEvent rq false (reading (fun s => s.readPanel index))

/-- READ_RECORD_EVACUATION (R156). -/
def execReadRecordEvacuation (rq : Request) (index : Word) (s : State) : Host.Outcome State Fault Refusal :=
  s.requestEvent rq false (reading (fun s => s.readEvacuation index))

/-- READ_RECORD_ROUTE (R154). -/
def execReadRecordRoute (rq : Request) (index : Word) (s : State) : Host.Outcome State Fault Refusal :=
  s.requestEvent rq false (reading (fun s => s.readRoute index))

/-- READ_RECORD_OUTPUTS (R155). -/
def execReadRecordOutputs (rq : Request) (index : Word) (s : State) : Host.Outcome State Fault Refusal :=
  s.requestEvent rq false (reading (fun s => s.readOutputs index))

/-- READ_RECORD_PLAN (R166). -/
def execReadRecordPlan (rq : Request) (index : Word) (s : State) : Host.Outcome State Fault Refusal :=
  s.requestEvent rq false (reading (fun s => s.readPlan index))

/-- READ_RECORD_EGRESS (R167). -/
def execReadRecordEgress (rq : Request) (index : Word) (s : State) : Host.Outcome State Fault Refusal :=
  s.requestEvent rq false (reading (fun s => s.readEgress index))

/-- READ_RECORD_SHED (R169). -/
def execReadRecordShed (rq : Request) (index : Word) (s : State) : Host.Outcome State Fault Refusal :=
  s.requestEvent rq false (reading (fun s => s.readShed index))

/-- READ_RECORD_SUPPLY (R173). -/
def execReadRecordSupply (rq : Request) (index : Word) (s : State) : Host.Outcome State Fault Refusal :=
  s.requestEvent rq false (reading (fun s => s.readSupply index))

/-- READ_RECORD_INTEGRITY (R184). -/
def execReadRecordIntegrity (rq : Request) (index : Word) (s : State) : Host.Outcome State Fault Refusal :=
  s.requestEvent rq false (reading (fun s => s.readIntegrity index))

/-- READ_RECORD_PARAMETERS (R192). -/
def execReadRecordParameters (rq : Request) (index : Word) (s : State) : Host.Outcome State Fault Refusal :=
  s.requestEvent rq false (reading (fun s => s.readParameters index))

/-- READ_RECORD_FLAGS (R201). -/
def execReadRecordFlags (rq : Request) (index : Word) (s : State) : Host.Outcome State Fault Refusal :=
  s.requestEvent rq false (reading (fun s => s.readFlags index))

/-- READ_RECORD_MANAGEMENT (R199). -/
def execReadRecordManagement (rq : Request) (index : Word) (s : State) : Host.Outcome State Fault Refusal :=
  s.requestEvent rq false (reading (fun s => s.readManagement index))

end Sys2Proof.Machine
end

