-- ==== Sys2Proof/Machine/ControlCommands.lean ====
section
/-! DEFINITION. The meanings of the management requests that are neither reads nor loads (section 10.2). -/

namespace Sys2Proof.Machine

/-- SET_CHECK (R181). -/
def execSetCheck (rq : Request) (value : Word) (s : State) : Host.Outcome State Fault Refusal :=
  s.requestEvent rq false (fun s => s.setCheck value)

/-- SELECT_PLAN (R165). -/
def execSelectPlan (rq : Request) (bank : Byte) (s : State) : Host.Outcome State Fault Refusal :=
  s.requestEvent rq false (fun s => s.selectPlan bank)

/-- RESET_TRIP (R28). -/
def execResetTrip (rq : Request) (channel : Byte) (s : State) : Host.Outcome State Fault Refusal :=
  s.requestEvent rq false (fun s => s.resetTrip channel)

/-- TEST_CHANNEL (R32, R33). -/
def execTestChannel (rq : Request) (channel : Byte) (value : Word) (count : Byte) (s : State) : Host.Outcome State Fault Refusal :=
  s.requestEvent rq false (fun s => s.testChannel rq channel value count)

/-- EVACUATE (R140). -/
def execEvacuate (rq : Request) (s : State) : Host.Outcome State Fault Refusal :=
  s.requestEvent rq false (fun s => s.evacuateRequest)

/-- STAND_DOWN (R143). -/
def execStandDown (rq : Request) (s : State) : Host.Outcome State Fault Refusal :=
  s.requestEvent rq false (fun s => s.standDownRequest)

/-- CLOSE_SEGMENT (R132). -/
def execCloseSegment (rq : Request) (s : State) : Host.Outcome State Fault Refusal :=
  s.requestEvent rq false (fun s => s.closeSegment)

/-- OPEN_SEGMENT (R132). -/
def execOpenSegment (rq : Request) (s : State) : Host.Outcome State Fault Refusal :=
  s.requestEvent rq false (fun s => s.openSegment)

/-- RELEASE_SEGMENT (R132). -/
def execReleaseSegment (rq : Request) (s : State) : Host.Outcome State Fault Refusal :=
  s.requestEvent rq false (fun s => s.releaseSegment)

/-- CANCEL_SOS (R152). -/
def execCancelSos (rq : Request) (unit : Word) (s : State) : Host.Outcome State Fault Refusal :=
  s.requestEvent rq false (fun s => s.cancelSos unit)

/-- CLEAR_FLAGS (R196). -/
def execClearFlags (rq : Request) (group : Byte) (flags : BitVec 56) (s : State) : Host.Outcome State Fault Refusal :=
  s.requestEvent rq false (fun s => s.clearFlags group flags)

/-- ACK_ATTENTION (R197). -/
def execAckAttention (rq : Request) (group : Byte) (s : State) : Host.Outcome State Fault Refusal :=
  s.requestEvent rq false (fun s => s.ackAttention group)

/-- CLEAR_COUNTERS (R199). -/
def execClearCounters (rq : Request) (s : State) : Host.Outcome State Fault Refusal :=
  s.requestEvent rq false (fun s => s.clearCounters)

/-- RESTART (R200). -/
def execRestart (rq : Request) (s : State) : Host.Outcome State Fault Refusal :=
  s.requestEvent rq true (fun s => s.restartRequest rq)

end Sys2Proof.Machine
end

