-- ==== Sys2Proof/Machine/Events.lean ====
section
/-! DEFINITION. The meanings of the event rows: frames, links, line messages, timers, ticks and samples. -/

namespace Sys2Proof.Machine

/-- COLD_START: every block takes its cold start state (R6 and each chapter's cold start rule). The queue, the
clock and the count of samples are the model's and run on (assumption 18). -/
def execColdStart (straps : Byte) (outbyeUp inbyeUp : Bool) (s : State) : Host.Outcome State Fault Refusal :=
  .next (s.event (fun s => State.cold s.pending s.now s.samples straps outbyeUp inbyeUp))

/-- FRAME_RECEIVED (R78 to R89). -/
def execFrameReceived (port : Port) (bytes : List Byte) (s : State) : Host.Outcome State Fault Refusal :=
  .next (s.event (fun s => s.frameArrives port bytes))

/-- FRAME_SENT (R162). -/
def execFrameSent (port : Port) (s : State) : Host.Outcome State Fault Refusal :=
  .next (s.event (fun s => s.frameGone port))

/-- LINK_DOWN (R90, R161). -/
def execLinkDown (port : Backbone) (s : State) : Host.Outcome State Fault Refusal :=
  .next (s.event (fun s => s.goDown port))

/-- LINK_UP (R90, R162). -/
def execLinkUp (port : Backbone) (s : State) : Host.Outcome State Fault Refusal :=
  .next (s.event (fun s => s.goUp port))

/-- LINE_MESSAGE_RECEIVED (R42). -/
def execLineMessageReceived (bytes : List Byte) (s : State) : Host.Outcome State Fault Refusal :=
  .next (s.event (fun s => s.lineMessage bytes))

/-- REPLY_TIMER_EXPIRY (R44). -/
def execReplyTimerExpiry (s : State) : Host.Outcome State Fault Refusal :=
  .next (s.event State.replyTimerExpires)

/-- RECORD_DUE (R40, R41). -/
def execRecordDue (s : State) : Host.Outcome State Fault Refusal :=
  .next (s.event State.recordComesDue)

/-- STALE_TIMER_EXPIRY of a channel (R21). -/
def execStaleTimerExpiry (c : Fin 16) (s : State) : Host.Outcome State Fault Refusal :=
  .next (s.event (fun s => s.expire (s.channel c).staleTimer (fun s => s.staleExpires c)))

/-- AIR_REPORT_TIMER_EXPIRY (R31). -/
def execAirReportTimerExpiry (s : State) : Host.Outcome State Fault Refusal :=
  .next (s.event (fun s => s.expire s.air.reportTimer State.airReportExpires))

/-- AGE_TICK (R63, R64). -/
def execAgeTick (s : State) : Host.Outcome State Fault Refusal := .next (s.event State.ageTicks)

/-- RELAY_AGE_TICK (R83). -/
def execRelayAgeTick (s : State) : Host.Outcome State Fault Refusal := .next (s.event State.relayTicks)

/-- SETUP_TIMER_EXPIRY of a leg (R106). -/
def execSetupTimerExpiry (leg : Fin 8) (s : State) : Host.Outcome State Fault Refusal :=
  .next (s.event (fun s => s.expire (s.leg leg).setupTimer (fun s => s.setupExpires leg)))

/-- LEASE_TIMER_EXPIRY (R125). -/
def execLeaseTimerExpiry (s : State) : Host.Outcome State Fault Refusal :=
  .next (s.event (fun s => s.expire s.seg.lease State.leaseExpires))

/-- REPEAT_TIMER_EXPIRY (R144). -/
def execRepeatTimerExpiry (s : State) : Host.Outcome State Fault Refusal :=
  .next (s.event (fun s => s.expire s.evac.repeatTimer State.repeatExpires))

/-- DOOR_TICK (R150). -/
def execDoorTick (s : State) : Host.Outcome State Fault Refusal := .next (s.event State.doorTicks)

/-- SUPPLY_SAMPLE (R168 to R171). -/
def execSupplySample (mainsPresent : Bool) (battery : Nat) (temperature : Int) (s : State) :
    Host.Outcome State Fault Refusal :=
  .next (s.event (fun s => s.sampleTicks (clampSample mainsPresent battery temperature)))

/-- SCAN_STEP (R179). -/
def execScanStep (s : State) : Host.Outcome State Fault Refusal :=
  .next (s.event (fun s => s.expire s.integ.scanTimer State.scanStep))

/-- SUSPENSION_TIMER_EXPIRY (R182). -/
def execSuspensionTimerExpiry (s : State) : Host.Outcome State Fault Refusal :=
  .next (s.event (fun s => s.expire s.integ.suspensionTimer State.suspensionExpires))

/-- ISOLATION_TIMER_EXPIRY (R186). -/
def execIsolationTimerExpiry (s : State) : Host.Outcome State Fault Refusal :=
  .next (s.event (fun s => s.expire s.mgmt.isolationTimer State.isolationExpires))

/-- STATUS_TIMER_EXPIRY (R198). -/
def execStatusTimerExpiry (s : State) : Host.Outcome State Fault Refusal :=
  .next (s.event (fun s => s.expire s.mgmt.statusTimer State.statusExpires))

/-- OUTPUT_CADENCE_TOGGLE: a half-period of SLOW or FAST ends (R155). -/
def execOutputCadenceToggle (o : Output) (s : State) : Host.Outcome State Fault Refusal :=
  .next (s.event (fun s => s.expire (s.evac.lines.get o).cadence (fun s => s.toggleLine o)))

end Sys2Proof.Machine
end

