-- ==== Sys2Proof/Machine/LoadCommands.lean ====
section
/-! DEFINITION. The meanings of the LOAD RECORD rows (R193). -/

namespace Sys2Proof.Machine

/-- LOAD_RECORD_CHANNEL (R9, R10, R11). -/
def execLoadRecordChannel (rq : Request) (index : Word) (fields : ChannelFields) (s : State) :
    Host.Outcome State Fault Refusal :=
  s.requestEvent rq false (fun s => s.loadChannel index fields)

/-- LOAD_RECORD_POLL (R37, R38). -/
def execLoadRecordPoll (rq : Request) (index : Word) (fields : PollFields) (s : State) :
    Host.Outcome State Fault Refusal :=
  s.requestEvent rq false (fun s => s.loadPoll index fields)

/-- LOAD_RECORD_PIN (R60, R62). -/
def execLoadRecordPin (rq : Request) (index : Word) (fields : PinFields) (s : State) :
    Host.Outcome State Fault Refusal :=
  s.requestEvent rq false (fun s => s.loadPin index fields)

/-- LOAD_RECORD_WATCH (R67). -/
def execLoadRecordWatch (rq : Request) (index : Word) (fields : WatchFields) (s : State) :
    Host.Outcome State Fault Refusal :=
  s.requestEvent rq false (fun s => s.loadWatch index fields)

/-- LOAD_RECORD_PERMIT (R99). -/
def execLoadRecordPermit (rq : Request) (index : Word) (fields : PermitFields) (s : State) :
    Host.Outcome State Fault Refusal :=
  s.requestEvent rq false (fun s => s.loadPermit index fields)

/-- LOAD_RECORD_ROUTE (R154). -/
def execLoadRecordRoute (rq : Request) (index : Word) (fields : RouteFields) (s : State) :
    Host.Outcome State Fault Refusal :=
  s.requestEvent rq false (fun s => s.loadRoute index fields)

/-- LOAD_RECORD_SHED (R169). -/
def execLoadRecordShed (rq : Request) (index : Word) (fields : ShedFields) (s : State) :
    Host.Outcome State Fault Refusal :=
  s.requestEvent rq false (fun s => s.loadShed index fields)

/-- LOAD_RECORD_PLAN (R166). -/
def execLoadRecordPlan (rq : Request) (index : Word) (value : Byte) (s : State) :
    Host.Outcome State Fault Refusal :=
  s.requestEvent rq false (fun s => s.loadPlan index value)

/-- LOAD_RECORD_PARAMETERS: the index is ignored (R191, R193, R194). -/
def execLoadRecordParameters (rq : Request) (_index : Word) (fields : ParameterFields) (s : State) :
    Host.Outcome State Fault Refusal :=
  s.requestEvent rq false (fun s => s.loadParameters fields)

end Sys2Proof.Machine
end

