-- ==== Sys2Proof/Machine/Dispatch.lean ====
section
/-! DEFINITION. One arm for each command: a direct call of its meaning. -/

namespace Sys2Proof.Machine

def exec (i : Instr) (s : State) : Host.Outcome State Fault Refusal :=
  match i with
  | .coldStart straps outbyeUp inbyeUp => Sys2Proof.Machine.execColdStart straps outbyeUp inbyeUp s
  | .frameReceived port bytes => Sys2Proof.Machine.execFrameReceived port bytes s
  | .frameSent port => Sys2Proof.Machine.execFrameSent port s
  | .linkDown port => Sys2Proof.Machine.execLinkDown port s
  | .linkUp port => Sys2Proof.Machine.execLinkUp port s
  | .lineMessageReceived bytes => Sys2Proof.Machine.execLineMessageReceived bytes s
  | .replyTimerExpiry => Sys2Proof.Machine.execReplyTimerExpiry s
  | .recordDue => Sys2Proof.Machine.execRecordDue s
  | .staleTimerExpiry channel => Sys2Proof.Machine.execStaleTimerExpiry channel s
  | .airReportTimerExpiry => Sys2Proof.Machine.execAirReportTimerExpiry s
  | .ageTick => Sys2Proof.Machine.execAgeTick s
  | .relayAgeTick => Sys2Proof.Machine.execRelayAgeTick s
  | .setupTimerExpiry leg => Sys2Proof.Machine.execSetupTimerExpiry leg s
  | .leaseTimerExpiry => Sys2Proof.Machine.execLeaseTimerExpiry s
  | .repeatTimerExpiry => Sys2Proof.Machine.execRepeatTimerExpiry s
  | .doorTick => Sys2Proof.Machine.execDoorTick s
  | .supplySample mainsPresent battery temperature => Sys2Proof.Machine.execSupplySample mainsPresent battery temperature s
  | .scanStep => Sys2Proof.Machine.execScanStep s
  | .suspensionTimerExpiry => Sys2Proof.Machine.execSuspensionTimerExpiry s
  | .isolationTimerExpiry => Sys2Proof.Machine.execIsolationTimerExpiry s
  | .statusTimerExpiry => Sys2Proof.Machine.execStatusTimerExpiry s
  | .outputCadenceToggle output => Sys2Proof.Machine.execOutputCadenceToggle output s
  | .readRecordChannel rq index => Sys2Proof.Machine.execReadRecordChannel rq index s
  | .readRecordPoll rq index => Sys2Proof.Machine.execReadRecordPoll rq index s
  | .readRecordPoller rq index => Sys2Proof.Machine.execReadRecordPoller rq index s
  | .readRecordStation rq index => Sys2Proof.Machine.execReadRecordStation rq index s
  | .readRecordStationSummary rq index => Sys2Proof.Machine.execReadRecordStationSummary rq index s
  | .readRecordPin rq index => Sys2Proof.Machine.execReadRecordPin rq index s
  | .readRecordWatch rq index => Sys2Proof.Machine.execReadRecordWatch rq index s
  | .readRecordPort rq index => Sys2Proof.Machine.execReadRecordPort rq index s
  | .readRecordLeg rq index => Sys2Proof.Machine.execReadRecordLeg rq index s
  | .readRecordCalls rq index => Sys2Proof.Machine.execReadRecordCalls rq index s
  | .readRecordPermit rq index => Sys2Proof.Machine.execReadRecordPermit rq index s
  | .readRecordSegment rq index => Sys2Proof.Machine.execReadRecordSegment rq index s
  | .readRecordPanel rq index => Sys2Proof.Machine.execReadRecordPanel rq index s
  | .readRecordEvacuation rq index => Sys2Proof.Machine.execReadRecordEvacuation rq index s
  | .readRecordRoute rq index => Sys2Proof.Machine.execReadRecordRoute rq index s
  | .readRecordOutputs rq index => Sys2Proof.Machine.execReadRecordOutputs rq index s
  | .readRecordPlan rq index => Sys2Proof.Machine.execReadRecordPlan rq index s
  | .readRecordEgress rq index => Sys2Proof.Machine.execReadRecordEgress rq index s
  | .readRecordShed rq index => Sys2Proof.Machine.execReadRecordShed rq index s
  | .readRecordSupply rq index => Sys2Proof.Machine.execReadRecordSupply rq index s
  | .readRecordIntegrity rq index => Sys2Proof.Machine.execReadRecordIntegrity rq index s
  | .readRecordParameters rq index => Sys2Proof.Machine.execReadRecordParameters rq index s
  | .readRecordFlags rq index => Sys2Proof.Machine.execReadRecordFlags rq index s
  | .readRecordManagement rq index => Sys2Proof.Machine.execReadRecordManagement rq index s
  | .loadRecordChannel rq index fields => Sys2Proof.Machine.execLoadRecordChannel rq index fields s
  | .loadRecordPoll rq index fields => Sys2Proof.Machine.execLoadRecordPoll rq index fields s
  | .loadRecordPin rq index fields => Sys2Proof.Machine.execLoadRecordPin rq index fields s
  | .loadRecordWatch rq index fields => Sys2Proof.Machine.execLoadRecordWatch rq index fields s
  | .loadRecordPermit rq index fields => Sys2Proof.Machine.execLoadRecordPermit rq index fields s
  | .loadRecordRoute rq index fields => Sys2Proof.Machine.execLoadRecordRoute rq index fields s
  | .loadRecordPlan rq index value => Sys2Proof.Machine.execLoadRecordPlan rq index value s
  | .loadRecordShed rq index fields => Sys2Proof.Machine.execLoadRecordShed rq index fields s
  | .loadRecordParameters rq index fields => Sys2Proof.Machine.execLoadRecordParameters rq index fields s
  | .setCheck rq value => Sys2Proof.Machine.execSetCheck rq value s
  | .selectPlan rq bank => Sys2Proof.Machine.execSelectPlan rq bank s
  | .resetTrip rq channel => Sys2Proof.Machine.execResetTrip rq channel s
  | .testChannel rq channel value count => Sys2Proof.Machine.execTestChannel rq channel value count s
  | .evacuate rq => Sys2Proof.Machine.execEvacuate rq s
  | .standDown rq => Sys2Proof.Machine.execStandDown rq s
  | .closeSegment rq => Sys2Proof.Machine.execCloseSegment rq s
  | .openSegment rq => Sys2Proof.Machine.execOpenSegment rq s
  | .releaseSegment rq => Sys2Proof.Machine.execReleaseSegment rq s
  | .cancelSos rq unit => Sys2Proof.Machine.execCancelSos rq unit s
  | .clearFlags rq group flags => Sys2Proof.Machine.execClearFlags rq group flags s
  | .ackAttention rq group => Sys2Proof.Machine.execAckAttention rq group s
  | .clearCounters rq => Sys2Proof.Machine.execClearCounters rq s
  | .restart rq => Sys2Proof.Machine.execRestart rq s

end Sys2Proof.Machine
end

