-- ==== Sys2Proof/Machine/Step.lean ====
section
/-! DEFINITION. One step: the command at the front of the queue, and on an empty queue the part's own clock
(assumption 1). -/

namespace Sys2Proof.Machine

/-- The queue replaced. -/
def State.setPending (s : State) (l : List Instr) : State := { s with pending := l }

/-- The step on an empty queue: the command of the timer whose moment has come, or one millisecond passes
(assumption 1). -/
def State.idleStep (s : State) : Host.Outcome State Fault Refusal :=
  match s.dueCommand with
  | some i => exec i (s.sampleUsed i)
  | none => .next s.idle

/-- One step of the machine. -/
def step (s : State) : Host.Outcome State Fault Refusal :=
  match s.pending with
  | i :: rest => exec i (s.setPending rest)
  | [] => s.idleStep

/-- The state with the command that a table word spells at the front of its queue. No row of the table gives
bits, so no word spells one and the state is unchanged. -/
def State.withFetchWord (s : State) (nbits w : Nat) : State :=
  match Sys2Proof.decodeTableWord nbits w with
  | some i => s.setPending (i :: s.pending)
  | none => s

end Sys2Proof.Machine
end

