-- ==== Sys2Proof/Safety.lean ====
section
/-! DEFINITION. What a safe state of the part is: the promises the manual makes about the whole machine,
each a predicate that every step keeps; and the words in which the statements speak of a request that is
taken, the end of an event, a RESTART, a change of the grades, the end of a channel test, the bytes of frames and
requests, entering and leaving EVACUATE, the leg a setup takes, and what the station table, the segment arbiter and the
evacuation controller send in one event. -/

namespace Sys2Proof.Machine

/-! ### Words of the statements -/

/-- The management unit carries requests out: the node has an address (R91), the request comes from a surface
station (R189) and no restart is pending (R200). -/
abbrev State.Accepts (s : State) (rq : Request) : Prop :=
  s.nodeAddr?.isSome = true ∧ isSurface rq.source = true ∧ s.mgmt.restartPending = false

/-- A request from the surface has been taken and nothing else has happened yet: its frame has ended isolation
and restarted the isolation timer (R185), and it has been counted (R189). -/
def State.asTaken (s : State) : State :=
  { s with
    scratch := {}
    mgmt := { s.mgmt with
      isolated := false
      isolationTimer := if s.params.isolation.count = 0 then none else some (s.now + s.params.isolation.ms)
      counters := { s.mgmt.counters with requestsTaken := s.mgmt.counters.requestsTaken + 1 } } }

/-- The request's RESPONSE, DONE with data, is given to the port it arrived on (R190). -/
def State.answerDone (s : State) (rq : Request) (data : List Byte) : State :=
  s.originateTo rq.port ⟨.response, rq.source, [rq.tag, 0, 0] ++ data⟩

/-- The request's RESPONSE, REFUSED with a cause and no data, is counted and given to the port it arrived on
(R190). -/
def State.answerRefused (s : State) (rq : Request) (c : Cause) : State :=
  { s with mgmt := { s.mgmt with counters := { s.mgmt.counters with
      requestsRefused := s.mgmt.counters.requestsRefused + 1 } } }.originateTo rq.port
    ⟨.response, rq.source, [rq.tag, 1, byteOf c.code]⟩

/-- The end of an event that leaves the tally as it was: the outputs and the trip output are recomputed (R27,
R155), and the event's marks are gone. -/
def State.settled (s : State) : State := { s.drive with scratch := {} }

/-- The end of an event that began with a tally: in EVACUATE a changed tally sends its MUSTER REPORT (R147), the
outputs and the trip output are recomputed (R27, R155), and the event's marks are gone. -/
def State.concluded (s : State) (before : Tally) : State := { (s.musterFollows before).drive with scratch := {} }

/-- The start of an event whose timer or tick stands at a moment: the clock has reached it (assumption 1). -/
def State.at (s : State) (d : Nat) : State := { s with now := max s.now d, scratch := {} }

/-- The scanner after a protected write (R180): from CHECKING or FAULT it is SUSPENDED for one minute, its scan
abandoned; in SUSPENDED nothing changes. -/
def Integrity.afterProtectedWrite (x : Integrity) (now : Nat) : Integrity :=
  if x.state = .suspended then x
  else { x with state := .suspended, position := 0, runningCrc := 0xFFFF, scanTimer := none
                suspensionTimer := some (now + 60000)
                counters := { x.counters with suspensions := x.counters.suspensions + 1 } }

/-- The isolation timer after a surface frame: the isolation time from now, or stopped by a count of 0 (R185). -/
def State.isolationRestarted (s : State) : Timer :=
  if s.params.isolation.count = 0 then none else some (s.now + s.params.isolation.ms)

/-! ### Segment (R119, R120, R123, R124, R133) -/

/-- The segment's state, holder, closure causes, lease and wait queue agree. -/
abbrev State.SegmentSound (s : State) : Prop :=
  (s.seg.state = .free → s.seg.holder = none ∧ s.seg.causes.any = false ∧ s.seg.queue = [])
  ∧ (s.seg.state = .held → s.seg.holder.isSome = true ∧ s.seg.causes.any = false)
  ∧ (s.seg.state = .draining → s.seg.holder.isSome = true ∧ s.seg.causes.any = true ∧ s.seg.queue = [])
  ∧ (s.seg.state = .lost → s.seg.holder.isSome = true ∧ (s.seg.causes.any = true → s.seg.queue = []))
  ∧ (s.seg.state = .closed → s.seg.holder = none ∧ s.seg.causes.any = true ∧ s.seg.queue = [])
  ∧ (s.seg.lease.isSome = true ↔ s.seg.state = .held ∨ s.seg.state = .draining)
  ∧ s.seg.queue.length ≤ 4 ∧ (s.seg.queue.map (fun t => t.vehicle)).Nodup
  ∧ (∀ h ∈ s.seg.holder, h.vehicle ∉ s.seg.queue.map (fun t => t.vehicle))
  ∧ (s.seg.causes.air = true ↔ s.air.zone.atLeast .alarm = true)

/-! ### Leg table (R94, R97) -/

/-- No leg is CLEARING; the start list holds the counting legs, each once; they are at most the ceiling and
none is below the minimum priority; the setup timer runs in ORIGINATING and RINGING; partners name each
other and both count. -/
abbrev State.CallsSound (s : State) : Prop :=
  s.calls.startList.Nodup
  ∧ s.calls.startList.length ≤ s.ceiling
  ∧ ∀ i ∈ legIndices,
      (s.leg i).state ≠ .clearing
      ∧ (i ∈ s.calls.startList ↔ (s.leg i).counting = true)
      ∧ ((s.leg i).counting = true → s.minimum.code ≤ (s.leg i).priority.code)
      ∧ ((s.leg i).setupTimer.isSome = true ↔ (s.leg i).state = .originating ∨ (s.leg i).state = .ringing)
      ∧ ∀ j ∈ (s.leg i).partner, (s.leg i).counting = true ∧ (s.leg j).partner = some i ∧ j ≠ i

/-! ### RESTART (R36, R50, R71, R93, R118, R137, R158, R175, R188, R203) -/

/-- The length of a report timer started now, or stopped by a count of 0: four times the interval at shed level 3
(R31, R172, R198). -/
def State.reportStarted (s : State) (t : TimerSetting) : Timer :=
  if t.count = 0 then none else some (s.now + (if s.supply.shedLevel = 3 then 4 else 1) * t.ms)

/-- What a RESTART in QUIET leaves of ports, relay list and sequences (R93, R175). A notice of a changed grade is
all that may stand in a queue or in the relay list. -/
def State.NetRestarted (s u : State) : Prop :=
  let cleared (x : PortState) : PortState := { up := x.up, egress := { active := x.egress.active } }
  u.net.straps = s.net.straps ∧ u.net.banks = s.net.banks ∧ u.net.relayTick = s.now + 1000
  ∧ (∀ p, (u.net.port p).up = (s.net.port p).up ∧ (u.net.port p).counters = {}
      ∧ (u.net.port p).egress.active = (s.net.port p).egress.active
      ∧ (u.net.port p).egress.pendingBank = none ∧ (u.net.port p).egress.ahead = none
      ∧ (∀ c, ∀ f ∈ (u.net.port p).egress.queues.get c, s.nodeAddr? = some f.src)
      ∧ ∀ t ∈ (u.net.port p).egress.sending, s.nodeAddr? = some t.frame.src ∧ t.restart = false)
  ∧ (∀ e ∈ u.net.relay, s.nodeAddr? = some e.origin ∧ e.age = 0)
  ∧ (u.air.zone = s.air.zone → u.air.refuge = s.air.refuge →
      u.net = { s.net with
        outbye := cleared s.net.outbye, inbye := cleared s.net.inbye, radio := cleared s.net.radio
        relay := [], relayTick := s.now + 1000 })

/-- What a RESTART leaves of the segment (R137): state, holder, direction and causes, the queue emptied, the lease
of a HELD or DRAINING segment restarted, no miner counted. A changed zone grade moves AIR, and the state with it
(R120, R129, R131). -/
def State.SegmentRestarted (s u : State) : Prop :=
  u.seg.holder = s.seg.holder ∧ u.seg.queue = [] ∧ u.seg.minerCount = 0 ∧ u.seg.holderHere = false
  ∧ u.seg.causes = { s.seg.causes with air := u.seg.causes.air }
  ∧ (u.air.zone = s.air.zone → u.seg = { s.seg with
      queue := [], minerCount := 0, holderHere := false, counters := {}
      lease := if s.seg.state = .held ∨ s.seg.state = .draining then some (s.now + s.params.lease.ms)
        else none })
  ∧ (s.SegmentSound →
      (u.seg.causes.air = true ↔ u.air.zone.atLeast .alarm = true)
      ∧ u.seg.state = (if u.seg.causes.any then (match s.seg.state with
          | .free => .closed
          | .held => .draining
          | x => x)
        else match s.seg.state with
          | .closed => .free
          | .draining => .held
          | x => x)
      ∧ u.seg.lease = (if u.seg.state = .held ∨ u.seg.state = .draining then some (s.now + s.params.lease.ms)
          else none))

/-- What a RESTART leaves of the poller (R50): every record IDLE_UNSEEN with no miss, every enabled one due now;
the line is free and the sequence 0 at the restart, and the first poll, sequence 1, is of the lowest enabled
record. -/
def State.PollerRestarted (s u : State) : Prop :=
  (∀ i, u.pollRecord i = { s.pollRecord i with
      state := .idleUnseen, misses := 0, due := (u.pollRecord i).due })
  ∧ (∀ i, (s.pollRecord i).config.enabled = false → (u.pollRecord i).due = none)
  ∧ ((∀ i, (s.pollRecord i).config.enabled = false) →
      u.poller = { records := u.poller.records, inFlight := none, replyTimer := none, sequence := 0
                   counters := {} })
  ∧ ∀ i, (s.pollRecord i).config.enabled = true →
      (∀ j, j.val < i.val → (s.pollRecord j).config.enabled = false) →
      u.poller = { records := u.poller.records
                   inFlight := some ⟨i, (s.pollRecord i).config.address, 1,
                     withCheck ([1] ++ wordBytes (s.pollRecord i).config.address ++ [1])⟩
                   replyTimer := some (s.now + 50), sequence := 1, counters := { pollsSent := 1 } }
      ∧ (u.pollRecord i).due = some (s.now + (s.pollRecord i).config.interval.ms)
      ∧ ∀ j, j ≠ i → (s.pollRecord j).config.enabled = true → (u.pollRecord j).due = some s.now

/-- What a RESTART leaves of the channels and the two grades (R36), and the air report timer. -/
def State.AirRestarted (s u : State) : Prop :=
  (∀ c, (u.channel c).record = (s.channel c).record ∧ (u.channel c).test = none
      ∧ ((s.channel c).record.enabled = false → (u.channel c).state = .off)
      ∧ ((s.channel c).record.enabled = true →
          (u.channel c).state = .warming ∧ (u.channel c).average = none ∧ (u.channel c).value = 0
          ∧ (u.channel c).alert = ⟨false, 0⟩ ∧ (u.channel c).alarm = ⟨false, 0⟩
          ∧ (u.channel c).trip = ⟨(s.channel c).trip.set, 0⟩ ∧ (u.channel c).lastStatus = none
          ∧ (u.channel c).staleMark = false
          ∧ (u.channel c).staleTimer = some (s.now + (s.channel c).record.stale.ms)))
  ∧ u.air.zone = u.zoneNow ∧ u.air.refuge = u.refugeNow
  ∧ u.air.reportTimer = s.reportStarted s.params.airReport

/-- What a RESTART leaves of the evacuation controller (R158): the state stays QUIET unless the recomputed zone
grade, handed on, is at or above the trigger grade (R139). -/
def State.EvacuationRestarted (s u : State) : Prop :=
  u.evac.sos = [] ∧ (∀ i, u.panel i = Panel.empty) ∧ u.evac.routes = s.evac.routes
  ∧ u.evac.lines = s.evac.lines ∧ u.evac.doorTick = s.now + 1000
  ∧ (u.air.zone = s.air.zone →
      u.evac.state = s.evac.state ∧ u.evac.repeatTimer = s.evac.repeatTimer ∧ u.evac.counters = {}
      ∧ u.flags .truck = {} ∧ u.flags .refuge = {})
  ∧ (u.air.zone ≠ s.air.zone →
      (u.evac.state = .evacuate ↔ s.evac.state = .evacuate ∨ u.air.zone.atLeast s.params.trigger = true))

/-- What a RESTART leaves, whatever its grade changes bring with them (R36, R50, R71, R93, R118, R137, R158, R175,
R188, R203). -/
def State.RestartedFrom (s u : State) : Prop :=
  u.now = s.now ∧ s.NetRestarted u
  ∧ u.table = { s.table with entries := [], ageTick := s.now + 1000, counters := {} }
  ∧ (∀ i, u.leg i = Leg.cold) ∧ u.calls.startList = [] ∧ u.calls.permits = s.calls.permits
  ∧ u.calls.counters = {}
  ∧ s.SegmentRestarted u ∧ s.EvacuationRestarted u ∧ s.PollerRestarted u ∧ s.AirRestarted u
  ∧ u.supply = { s.supply with counters := {} }
  ∧ u.integ = { state := if s.integ.state = .suspended then .checking else s.integ.state
                storedCheck := s.integ.storedCheck, lastCheck := none, position := 0, runningCrc := 0xFFFF
                scanTimer := some (s.now + 10), suspensionTimer := none, counters := {} }
  ∧ u.mgmt = { s.mgmt with
      attention := u.mgmt.attention, statusTimer := s.reportStarted s.params.status, isolated := false
      isolationTimer := s.isolationRestarted, restartPending := false, counters := {} }
  ∧ u.flags .node = ⟨0x20, !(s.params.masks.node.getLsbD 5)⟩ ∧ u.flags .call = {}

/-! ### A channel changes, and with it the grades (R24, R25, R29 to R31, R120, R139) -/

/-- A channel has been rewritten, and its flags follow: FAULT where it enters FAULT, GRADE_UP where its effective
grade rises, GRADE_DOWN where it falls (R30). -/
def State.channelSet (s : State) (c : Fin 16) (x : Channel) : State :=
  let flagged (b : Bool) (f : Flag) (t : State) : State := if b then t.setFlag f else t
  flagged (x.effective.code < (s.channel c).effective.code) (Flag.gradeDown c)
    (flagged ((s.channel c).effective.code < x.effective.code) (Flag.gradeUp c)
      (flagged (x.state = .fault ∧ (s.channel c).state ≠ .fault) (Flag.channelFault c)
        { s with air := { s.air with channels := s.air.channels.set c x } }))

/-- The AIR REPORT of the moment: the two grades, then every enabled channel in index order (R31, layout of
R76). -/
def State.airReportNow (s : State) : Message :=
  let enabled := channelIndices.filter (fun c => (s.channel c).record.enabled)
  ⟨.airReport, s.params.control,
    [byteOf s.air.zone.code, byteOf s.air.refuge.code, byteOf enabled.length]
      ++ enabled.flatMap (fun c : Fin 16 =>
        [byteOf c.val] ++ natBytes (s.channel c).value ++ natBytes ((s.channel c).average.getD 0)
          ++ [byteOf (s.channel c).effective.code, byteOf (s.channel c).state.code])⟩

/-- The cause byte of a ZONE GRADE: the lowest enabled ZONE-scope channel whose effective grade is the zone grade,
255 for none (R29, R76). -/
def State.causeByte (s : State) : Byte :=
  match channelIndices.find? (fun c => (s.channel c).record.enabled && (s.channel c).record.scope == .zone
      && (s.channel c).effective == s.air.zone) with
  | some c => byteOf c.val
  | none => 255

/-- The zone grade and the refuge grade are what the channels and the floor now give, and their notices have been
sent in order: ZONE GRADE for a new zone grade, REFUGE AIR for a new refuge grade, and for a new zone grade an
AIR REPORT, which restarts its timer (R24, R25, R29, R31). -/
def State.gradesTold (s : State) : State :=
  let own : List Byte := wordBytes (s.nodeAddr?.getD 0)
  let t : State := { s with air := { s.air with zone := s.zoneNow, refuge := s.refugeNow } }
  let told : State := if t.air.zone = s.air.zone then t
    else t.originate ⟨.zoneGrade, broadcast, own ++ [byteOf t.air.zone.code, t.causeByte]⟩
  let told : State := if t.air.refuge = s.air.refuge then told
    else told.originate ⟨.refugeAir, broadcast, own ++ [byteOf t.air.refuge.code]⟩
  if t.air.zone = s.air.zone then told
  else
    let told := told.originate t.airReportNow
    { told with air := { told.air with reportTimer := told.reportStarted told.params.airReport } }

/-- The grades have been told, and a new zone grade has been handed to the segment arbiter, then to the evacuation
controller (R120, R139; the order is assumption 5). -/
def State.regraded (s : State) : State :=
  if s.zoneNow = s.air.zone then s.gradesTold
  else (s.gradesTold.segZone s.air.zone s.zoneNow).evacZone

/-! ### The end of a channel test (R33) -/

/-- A test has ended with an outcome, COMPLETE 0 or ABORTED 1: it is gone, TEST_DONE is set, and the TEST CHANNEL
is answered DONE with the outcome, the samples fed, the shadow average, the state of each shadow entry and the
shadow effective grade (R33, codings of R75 and R192; CLEAR 0 and SET 1 is assumption 9). -/
def State.testEnded (s : State) (c : Fin 16) (t : ChannelTest) (outcome : Byte) : State :=
  ({ s with air := { s.air with
    channels := s.air.channels.set c { s.channel c with test := none } } }.setFlag Flag.testDone).answerDone
      t.request ([outcome, byteOf t.fed] ++ natBytes (t.average.getD 0)
        ++ [yesByte t.alert.set, yesByte t.alarm.set, yesByte t.trip.set,
            byteOf (highestSet t.alert t.alarm t.trip).code])

/-- A channel's poll has ended: a test on it has been fed its value, smoothed and graded on the shadow copy, and
has ended COMPLETE with the last of its samples (R33). -/
def State.testFed (s : State) (c : Fin 16) : State :=
  match (s.channel c).test with
  | none => s
  | some t =>
    let r := (s.channel c).record
    let a := smooth r.shift t.average t.value
    let fed : ChannelTest := { t with
      fed := t.fed + 1, average := some a
      alert := r.alert.judge r.gas.direction false a t.alert
      alarm := r.alarm.judge r.gas.direction false a t.alarm
      trip := r.trip.judge r.gas.direction true a t.trip }
    if fed.fed < t.count then { s with air := { s.air with
      channels := s.air.channels.set c { s.channel c with test := some fed } } }
    else s.testEnded c fed 0

/-- A channel's test, if there is one, has been aborted (R33). -/
def State.testAborted (s : State) (c : Fin 16) : State :=
  match (s.channel c).test with
  | none => s
  | some t => s.testEnded c t 1

/-! ### The bytes of frames and requests (R76, R87, section 10.2) -/

/-- The kinds of a class in the order of their codes, which count from 1 (R76). -/
def kindsIn : TrafficClass → List FrameKind
  | .alarm => [.zoneGrade, .sos, .sosCancel, .evacuateOrder, .standDownOrder, .refugeBreach, .refugeAir]
  | .voice => [.voice]
  | .signal => [.announce, .callSetup, .callAlerting, .callAnswer, .callClear, .entryRequest, .exitNotice, .grant,
      .wait, .refuseEntry, .withdraw, .proximity, .evacNotice, .evacAck, .musterReport]
  | .air => [.airReport]
  | .telem => [.vehicleTelemetry, .unitTelemetry]
  | .mgmt => [.request, .response, .nodeStatus, .beacon, .locateReport]

/-- A payload has the length, the list count and the named values that the table of R76 gives its kind. What the
table leaves open (which counts and bytes are no named values, the yes/no byte) is assumption 16. -/
def FrameKind.takesPayload (k : FrameKind) (p : List Byte) : Prop :=
  let b (i : Nat) : Nat := (p.getD i 0).toNat
  match k with
  | .beacon => p = []
  | .proximity => p.length = 1
  | .sos | .sosCancel | .callAlerting | .callAnswer | .exitNotice | .withdraw | .evacNotice | .unitTelemetry =>
    p.length = 2
  | .refugeBreach | .grant | .wait => p.length = 3
  | .announce | .evacAck => p.length = 4
  | .vehicleTelemetry => p.length = 5
  | .zoneGrade => p.length = 4 ∧ b 2 < 4
  | .refugeAir => p.length = 3 ∧ b 2 < 4
  | .callSetup => p.length = 7 ∧ b 6 < 3
  | .callClear => p.length = 3 ∧ b 2 < 11
  | .entryRequest | .refuseEntry => p.length = 3 ∧ b 2 < 2
  | .locateReport => p.length = 7 ∧ b 4 < 6
  | .voice => 3 ≤ p.length ∧ p.length ≤ 67
  | .evacuateOrder | .standDownOrder => 3 ≤ p.length ∧ p.length = 3 + 2 * b 2
  | .musterReport => 6 ≤ p.length ∧ p.length = 6 + 2 * b 5
  | .airReport => 3 ≤ p.length ∧ p.length = 3 + 7 * b 2 ∧ b 0 < 4 ∧ b 1 < 4
      ∧ ∀ i < b 2, b (3 + 7 * i + 5) < 4 ∧ b (3 + 7 * i + 6) < 4
  | .request => 2 ≤ p.length ∧ p.length ≤ 120 ∧ 1 ≤ b 1 ∧ b 1 ≤ 16
  | .response => 3 ≤ p.length ∧ p.length ≤ 120 ∧ b 1 < 2 ∧ b 2 < 14
  | .nodeStatus => p.length = 20 ∧ b 0 < 4 ∧ b 1 < 4 ∧ b 2 < 2 ∧ b 7 < 2 ∧ b 11 < 5 ∧ b 14 < 3 ∧ b 15 < 2

/-- The first bytes of a bit string, flag n in bit n mod 8 of byte n div 8 (R195). -/
def maskBytes (n : Nat) (x : BitVec 56) : List Byte := (List.range n).map (fun i => (x >>> (8 * i)).setWidth 8)

/-- The four words of a grade entry in a channel record (R177). -/
def entryBytes (f : EntryFields) : List Byte := [f.enabled, f.level, f.band, f.hold].flatMap wordBytes

/-- CHANNEL's twenty words in canonical order (R177). -/
def channelBytes (f : ChannelFields) : List Byte :=
  [f.enabled, f.scope, f.gas, f.offset, f.gain, f.shift].flatMap wordBytes
    ++ entryBytes f.alert ++ entryBytes f.alarm ++ entryBytes f.trip ++ wordBytes f.faultAction ++ wordBytes f.stale

/-- PARAMETERS in the order of R193, with its masks as bit strings (R195). -/
def parameterBytes (f : ParameterFields) : List Byte :=
  wordBytes f.control ++ [f.presence, f.route, f.setup, f.lease, f.airReport, f.status, f.isolation, f.repeatTime,
    f.door, f.trigger, f.follow] ++ maskBytes 7 f.airMask ++ [f.callMask, f.truckMask, f.refugeMask, f.nodeMask]

/-- The request code and the arguments of a request (section 10.2), the tables with their codes (R191) and the loaded
fields in their order (R192, R193); nothing for an event. -/
def requestBytes : Instr → List Byte
  | .readRecordChannel _ x => [1, 0] ++ wordBytes x
  | .readRecordPoll _ x => [1, 1] ++ wordBytes x
  | .readRecordPoller _ x => [1, 2] ++ wordBytes x
  | .readRecordStation _ x => [1, 3] ++ wordBytes x
  | .readRecordStationSummary _ x => [1, 4] ++ wordBytes x
  | .readRecordPin _ x => [1, 5] ++ wordBytes x
  | .readRecordWatch _ x => [1, 6] ++ wordBytes x
  | .readRecordPort _ x => [1, 7] ++ wordBytes x
  | .readRecordLeg _ x => [1, 8] ++ wordBytes x
  | .readRecordCalls _ x => [1, 9] ++ wordBytes x
  | .readRecordPermit _ x => [1, 10] ++ wordBytes x
  | .readRecordSegment _ x => [1, 11] ++ wordBytes x
  | .readRecordPanel _ x => [1, 12] ++ wordBytes x
  | .readRecordEvacuation _ x => [1, 13] ++ wordBytes x
  | .readRecordRoute _ x => [1, 14] ++ wordBytes x
  | .readRecordOutputs _ x => [1, 15] ++ wordBytes x
  | .readRecordPlan _ x => [1, 16] ++ wordBytes x
  | .readRecordEgress _ x => [1, 17] ++ wordBytes x
  | .readRecordShed _ x => [1, 18] ++ wordBytes x
  | .readRecordSupply _ x => [1, 19] ++ wordBytes x
  | .readRecordIntegrity _ x => [1, 20] ++ wordBytes x
  | .readRecordParameters _ x => [1, 21] ++ wordBytes x
  | .readRecordFlags _ x => [1, 22] ++ wordBytes x
  | .readRecordManagement _ x => [1, 23] ++ wordBytes x
  | .loadRecordChannel _ x f => [2, 0] ++ wordBytes x ++ channelBytes f
  | .loadRecordPoll _ x f => [2, 1] ++ wordBytes x ++ [f.enabled] ++ wordBytes f.address ++ [f.kind, f.interval]
  | .loadRecordPin _ x f => [2, 5] ++ wordBytes x ++ [f.valid, f.base, f.mask].flatMap wordBytes
  | .loadRecordWatch _ x f => [2, 6] ++ wordBytes x ++ [f.enabled] ++ wordBytes f.address
  | .loadRecordPermit _ x f => [2, 10] ++ wordBytes x ++ [f.low, f.high, f.miner, f.vehicle].flatMap wordBytes
  | .loadRecordRoute _ x f => [2, 14] ++ wordBytes x ++ [f.siren, f.strobe, f.faultLine, f.aux].flatMap wordBytes
  | .loadRecordPlan _ x v => [2, 16] ++ wordBytes x ++ [v]
  | .loadRecordShed _ x f => [2, 18] ++ wordBytes x ++ [f.enabled, f.input, f.gate, f.level].flatMap wordBytes
  | .loadRecordParameters _ x f => [2, 21] ++ wordBytes x ++ parameterBytes f
  | .setCheck _ v => [3] ++ wordBytes v
  | .selectPlan _ b => [4, b]
  | .resetTrip _ c => [5, c]
  | .testChannel _ c v n => [6, c] ++ wordBytes v ++ [n]
  | .evacuate _ => [7]
  | .standDown _ => [8]
  | .closeSegment _ => [9]
  | .openSegment _ => [10]
  | .releaseSegment _ => [11]
  | .cancelSos _ u => [12] ++ wordBytes u
  | .clearFlags _ g x => [13, g] ++ maskBytes (if g = 0 then 7 else 1) x
  | .ackAttention _ g => [14, g]
  | .clearCounters _ => [15]
  | .restart _ => [16]
  | .coldStart _ _ _ => []
  | .frameReceived _ _ => []
  | .frameSent _ => []
  | .linkDown _ => []
  | .linkUp _ => []
  | .lineMessageReceived _ => []
  | .replyTimerExpiry => []
  | .recordDue => []
  | .staleTimerExpiry _ => []
  | .airReportTimerExpiry => []
  | .ageTick => []
  | .relayAgeTick => []
  | .setupTimerExpiry _ => []
  | .leaseTimerExpiry => []
  | .repeatTimerExpiry => []
  | .doorTick => []
  | .supplySample _ _ _ => []
  | .scanStep => []
  | .suspensionTimerExpiry => []
  | .isolationTimerExpiry => []
  | .statusTimerExpiry => []
  | .outputCadenceToggle _ => []

/-! ### Entering and leaving EVACUATE (R142, R143) -/

/-- The miner units at RADIO_HERE whose mark is NONE, in the order of the entries (R144, R147). -/
def unmusteredIn (l : List Entry) : List Addr :=
  (l.filter (fun e => isMiner e.address && e.location == .radioHere && e.mark == .none)).map
    (fun e => e.address)

/-- The MUSTER REPORT over a list of entries (R147, layout of R76). -/
def musterOver (control own : Addr) (l : List Entry) : Message :=
  ⟨.musterReport, control, wordBytes own
    ++ [byteOf (l.countP (fun e => isMiner e.address && (e.location == .radioHere || e.mark == .inRefuge))),
        byteOf (l.countP (fun e => isMiner e.address && (e.mark == .notified || e.mark == .inRefuge))),
        byteOf (l.countP (fun e => isMiner e.address && e.mark == .inRefuge)),
        byteOf ((unmusteredIn l).take 16).length]
    ++ ((unmusteredIn l).take 16).flatMap wordBytes⟩

/-- A notice round has been sent and the repeat timer restarted (R144). -/
def State.roundSent (s : State) (own : Addr) : State :=
  (unmusteredIn s.table.entries).foldl (fun t a => t.originate ⟨.evacNotice, a, wordBytes own⟩)
    { s with evac := { s.evac with
      repeatTimer := some (s.now + s.params.repeatTime.ms)
      counters := { s.evac.counters with
        noticesSent := s.evac.counters.noticesSent
          + BitVec.ofNat 32 (unmusteredIn s.table.entries).length } } }

/-- EVACUATE has been left (R143): every mark is NONE, the repeat timer is stopped, EVAC_CHANGE is set, and the
final MUSTER REPORT has been sent. Nothing else has changed. -/
def State.evacuationLeft (s : State) (own : Addr) : State :=
  let entries := s.table.entries.map (fun e => { e with mark := .none })
  ((({ s with
      scratch := { s.scratch with mustered := true }
      evac := { s.evac with
        state := .quiet, repeatTimer := none
        counters := { s.evac.counters with musterReports := s.evac.counters.musterReports + 1 } }
      table := { s.table with entries := entries } } : State).setFlag Flag.evacChange).originate
    (musterOver s.params.control own entries))

/-- The legs that fall when the minimum priority has a code: a counting leg below it, or whose partner is below it
(R98, R109). -/
def State.fallsBelow (s : State) (least : Nat) (i : Fin 8) : Bool :=
  (s.leg i).counting && (decide ((s.leg i).priority.code < least)
    || (match (s.leg i).partner with
        | some j => decide ((s.leg j).priority.code < least)
        | none => false))

/-- A leg as a clearing leaves it (R109). -/
def Leg.clearedWith (l : Leg) (c : ClearCause) : Leg :=
  { l with state := .idle, setupTimer := none, lastCause := some c, partner := none }

/-- What entering EVACUATE leaves at a node with an address (R142): the state, its flag, counters and timer; the
legs below the minimum priority of EVACUATE cleared with EVACUATING (R97, R98); the tagged miners marked
IN_REFUGE (R149); the breaches that are due raised (R150); and the MUSTER REPORT as the last frame (R147). -/
def State.EvacuatedFrom (s : State) (own : Addr) (u : State) : Prop :=
  let tagged (a : Addr) : Bool := pollIndices.any (fun i => (s.panel i).tags.contains a)
  let due (x : Panel) : Bool := !x.breach && x.door == .opened && decide (s.params.door.ms ≤ x.doorAge * 1000)
    && (s.air.zone == .alarm || s.air.zone == .trip)
  let least : Nat := if 3 ≤ s.supply.shedLevel then 2 else 1
  let entered : State := ({ s with
      scratch := { s.scratch with mustered := true }
      evac := { s.evac with
        state := .evacuate
        counters := { s.evac.counters with
          evacEntries := s.evac.counters.evacEntries + 1
          musterReports := s.evac.counters.musterReports + 1 } } } : State).setFlag Flag.evacChange
  u.evac = { s.evac with
      state := .evacuate, repeatTimer := some (s.now + s.params.repeatTime.ms), panels := u.evac.panels
      counters := { s.evac.counters with
        evacEntries := s.evac.counters.evacEntries + 1
        noticesSent := s.evac.counters.noticesSent
          + BitVec.ofNat 32 (unmusteredIn u.table.entries).length
        musterReports := s.evac.counters.musterReports + 1
        breaches := s.evac.counters.breaches
          + BitVec.ofNat 32 (pollIndices.countP (fun i => due (s.panel i))) } }
  ∧ (∀ i, u.panel i = { s.panel i with breach := (s.panel i).breach || due (s.panel i) })
  ∧ u.flagSet Flag.evacChange = true ∧ u.scratch.mustered = true
  ∧ ((∃ i, due (s.panel i) = true) → u.flagSet Flag.breach = true)
  ∧ (∃ n : Net, n.straps = s.net.straps ∧ n.banks = s.net.banks ∧ n.relayTick = s.net.relayTick
      ∧ (∀ p, (n.port p).up = (s.net.port p).up)
      ∧ u.net = n.originate u.table.entries s.supply.shedLevel
          (musterOver s.params.control own u.table.entries))
  ∧ (s.CallsSound → u.calls = { s.calls with
      legs := u.calls.legs, startList := s.calls.startList.filter (fun i => !s.fallsBelow least i)
      counters := { s.calls.counters with
        limitClears := s.calls.counters.limitClears
          + BitVec.ofNat 32 (legIndices.countP (fun i => s.fallsBelow least i)) } }
    ∧ (∀ i, u.leg i = if s.fallsBelow least i then (s.leg i).clearedWith .evacuating else s.leg i)
    ∧ ((∃ i, s.fallsBelow least i = true) → u.flagSet Flag.limitClear = true))
  ∧ (s.table.entries.Pairwise (fun a b => a.address.toNat < b.address.toNat) →
      ((∀ e ∈ s.table.entries, e.mark = .none) →
        ∀ e ∈ u.table.entries, e.mark = if tagged e.address then .inRefuge else .none)
      ∧ (s.table.entries.length + (pollIndices.map (fun i => (s.panel i).tags.length)).sum ≤ 128 →
        u.seg = s.seg
        ∧ (∀ a, tagged a = false → u.entry? a = s.entry? a)
        ∧ ∀ a, tagged a = true → s.nodeAddr? ≠ some a →
            (∀ e, s.entry? a = some e → u.entry? a = some { e with mark := .inRefuge })
            ∧ (s.entry? a = none → ∃ e, u.entry? a = some e ∧ e.location = .fieldHere ∧ e.age = 0
                ∧ e.mark = .inRefuge ∧ e.attach = none)))
  ∧ (s.CallsSound → (∀ i, s.fallsBelow least i = false) → (∀ i, (s.panel i).tags = []) →
      (∀ i, due (s.panel i) = false) →
      u = (entered.roundSent own).originate (musterOver s.params.control own s.table.entries))
  ∧ u.seg = { s.seg with minerCount := u.seg.minerCount, counters := u.seg.counters
                         holderHere := u.seg.holderHere }
  ∧ u.table = { s.table with entries := u.table.entries, counters := u.table.counters }
  ∧ u.mgmt = { s.mgmt with attention := u.mgmt.attention }
  ∧ u.now = s.now ∧ u.air = s.air ∧ u.poller = s.poller ∧ u.supply = s.supply ∧ u.integ = s.integ

/-! ### Legs taken and setups refused (R102 to R105) -/

/-- The leg a setup fills (R103, R105): the caller is the local party of an ORIG leg, the callee of a TERM leg. -/
def Setup.legFor (c : Setup) (d : LegDirection) (x : LegState) (timer : Timer) : Leg :=
  { state := x, callId := c.callId, direction := d
    localParty := (match d with
      | .orig => c.caller
      | .term => c.callee)
    remoteParty := (match d with
      | .orig => c.callee
      | .term => c.caller)
    priority := c.priority, setupTimer := timer, lastVoice := none, voiceIn := 0, voiceOut := 0
    voiceDropped := 0, lastCause := none, partner := none }

/-- A leg has been taken for a setup: filled, at the young end of the start list, counted (R94, R103, R105). -/
def State.withLegTaken (s : State) (i : Fin 8) (l : Leg) : State :=
  { s with calls := { s.calls with
    legs := s.calls.legs.set i l, startList := s.calls.startList ++ [i]
    counters := { s.calls.counters with setupsTaken := s.calls.counters.setupsTaken + 1 } } }

/-- A setup has been refused: CALL CLEAR with the cause to the caller, REFUSED set, counted (R104, R105). -/
def State.setupRefused (s : State) (c : Setup) (cause : ClearCause) : State :=
  ({ s with calls := { s.calls with counters := { s.calls.counters with
    setupsRefused := s.calls.counters.setupsRefused + 1 } } }.setFlag Flag.refused).originate
      ⟨.callClear, c.caller, c.callId.bytes ++ [byteOf cause.code]⟩

/-- Which outcome a setup at a priority finds at the minimum priority and allocation steps (R101 steps 4 and 5,
R102, R105 steps 3 and 4): refused with RESTRICTED or NODE_BUSY, or given the lowest IDLE leg, after the newest
of the weakest counting legs has been cleared with PREEMPTED when the ceiling is reached. -/
def State.FindsRoom (s : State) (p : Priority) (refused : ClearCause → State × Bool)
    (accepted : State → Fin 8 → State × Bool) (r : State × Bool) : Prop :=
  let lowest (t : State) (i : Fin 8) : Prop :=
    (t.leg i).state = .idle ∧ ∀ j, j.val < i.val → (t.leg j).state ≠ .idle
  (p.code < s.minimum.code → r = refused .restricted)
  ∧ (s.minimum.code ≤ p.code →
    (∀ i, s.countingLegs < s.ceiling → lowest s i → r = accepted s i)
    ∧ (s.ceiling ≤ s.countingLegs → (∀ i ∈ s.calls.startList, p.code ≤ (s.leg i).priority.code) →
        r = refused .nodeBusy)
    ∧ ∀ older v newer, s.ceiling ≤ s.countingLegs → s.calls.startList = older ++ v :: newer →
        (s.leg v).priority.code < p.code →
        (∀ j ∈ older, (s.leg v).priority.code ≤ (s.leg j).priority.code) →
        (∀ j ∈ newer, (s.leg v).priority.code < (s.leg j).priority.code) →
        let t : State := ((s.clearLeg v .preempted .node).setFlag Flag.preempted).countCalls
          (fun k => { k with preemptions := k.preemptions + 1 })
        ∀ i, lowest t i → r = accepted t i)

/-! ### What the arbiter sends (R122, R123, R129 to R131, R134) -/

/-- PROXIMITY notices with one count have been sent to stations, in order, and counted (R134). -/
def State.proximitySent (s : State) (stations : List Addr) (count : Nat) : State :=
  stations.foldl (fun t a => t.originate ⟨.proximity, a, [byteOf count]⟩)
    { s with seg := { s.seg with counters := { s.seg.counters with
      proximityNotices := s.seg.counters.proximityNotices + BitVec.ofNat 32 stations.length } } }

/-- The miner units at RADIO_HERE, in the order of the entries (R134). -/
def minersOnRadio (l : List Entry) : List Addr :=
  (l.filter (fun e => isMiner e.address && e.location == .radioHere)).map (fun e => e.address)

/-- Waiting vehicles have been told their positions, the first of them standing at `first`, and counted (R123). -/
def State.waitsSent (s : State) (first : Nat) (q : List Truck) : State :=
  q.zipIdx.foldl (fun t w => t.originate ⟨.wait, w.1.vehicle, wordBytes w.1.vehicle ++ [byteOf (first + w.2)]⟩)
    { s with seg := { s.seg with counters := { s.seg.counters with
      waitsSent := s.seg.counters.waitsSent + BitVec.ofNat 32 q.length } } }

/-- A vehicle has been told to withdraw, flagged and counted, unless this event has told it already (R130; the mark is
assumption 20). -/
def State.withdrawSent (s : State) (v : Addr) : State :=
  if v ∈ s.scratch.withdrawn then s
  else (({ s with
      scratch := { s.scratch with withdrawn := v :: s.scratch.withdrawn }
      seg := { s.seg with counters := { s.seg.counters with
        withdrawsSent := s.seg.counters.withdrawsSent + 1 } } } : State).setFlag Flag.withdraw).originate
          ⟨.withdraw, v, wordBytes v⟩

/-- The waiting vehicles have been refused with CLOSED, oldest first, and the queue is empty (R129). -/
def State.queueRefused (s : State) : State :=
  s.seg.queue.foldl (fun t w => t.originate ⟨.refuseEntry, w.vehicle, wordBytes w.vehicle ++ [0]⟩)
    { s with seg := { s.seg with
      queue := []
      counters := { s.seg.counters with
        entryRefusals := s.seg.counters.entryRefusals + BitVec.ofNat 32 s.seg.queue.length } } }

/-- The causes of a segment that had none are now `c` (R129): FREE becomes CLOSED, HELD becomes DRAINING with a
WITHDRAW to the holder, LOST stays, and the queue is refused. -/
def State.segmentClosedBy (s : State) (c : Causes) : State :=
  let moved (x : SegmentState) : State := { s with seg := { s.seg with causes := c, state := x } }
  match s.seg.state, s.seg.holder with
  | .free, _ => (moved .closed).queueRefused
  | .held, some h => ((moved .draining).withdrawSent h.vehicle).queueRefused
  | x, _ => (moved x).queueRefused

/-- The last cause of a sound segment has gone, which leaves `c` (R131): CLOSED becomes FREE, DRAINING becomes HELD with
the lease restarted and a GRANT to the holder, LOST stays. -/
def State.segmentOpenedBy (s : State) (c : Causes) : State :=
  let moved (x : SegmentState) : State := { s with seg := { s.seg with causes := c, state := x } }
  match s.seg.state, s.seg.holder with
  | .closed, _ => moved .free
  | .draining, some h => ({ s with seg := { s.seg with
      causes := c, state := .held, lease := some (s.now + s.params.lease.ms)
      counters := { s.seg.counters with grantsSent := s.seg.counters.grantsSent + 1 } } } : State).originate
        ⟨.grant, h.vehicle, wordBytes h.vehicle ++ [s.params.lease.byte]⟩
  | x, _ => moved x

/-- A segment without a holder has been granted to a vehicle (R122, R128): HELD, the lease started, the GRANT sent, its
place taken from the station table (R133), and where that starts the proximity condition, a PROXIMITY notice to it and
to each miner unit at RADIO_HERE (R134; that these follow the GRANT is assumption 5). -/
def State.grantedTo (s : State) (v : Truck) : State :=
  let here : Bool := match s.entry? v.vehicle with
    | some e => e.location == .radioHere
    | none => false
  let granted : State := ({ s with seg := { s.seg with
      state := .held, holder := some v, holderHere := here, lease := some (s.now + s.params.lease.ms)
      counters := { s.seg.counters with grantsSent := s.seg.counters.grantsSent + 1 } } } : State).originate
        ⟨.grant, v.vehicle, wordBytes v.vehicle ++ [s.params.lease.byte]⟩
  if here = true ∧ 1 ≤ s.seg.minerCount then
    granted.proximitySent (v.vehicle :: minersOnRadio s.table.entries) s.seg.minerCount
  else granted

/-! ### A station comes to the radio or leaves it (R55, R68, R133, R144) -/

/-- A station has come to RADIO_HERE from a location with a code, and the blocks have been told, in this order
(assumption 5): a miner unit without a mark is sent its EVAC NOTICE in EVACUATE (R144), the arbiter follows a miner or
a vehicle unit (R133), and a watched station has its LOCATE REPORT (R68). -/
def State.cameToRadio (s : State) (own : Addr) (e : Entry) (previous : Byte) : State :=
  let noticed : State :=
    if isMiner e.address = true ∧ s.evac.state = .evacuate ∧ e.mark = .none then
      ({ s with evac := { s.evac with counters := { s.evac.counters with
        noticesSent := s.evac.counters.noticesSent + 1 } } } : State).originate
          ⟨.evacNotice, e.address, wordBytes own⟩
    else s
  let followed : State :=
    if isMiner e.address then noticed.segMinerArrives e.address
    else if isVehicle e.address then noticed.segVehicle e.address true
    else noticed
  if ∃ i : Fin 4, s.table.watches[i].enabled = true ∧ s.table.watches[i].address = e.address then
    ({ followed with table := { followed.table with counters := { followed.table.counters with
      locateReports := followed.table.counters.locateReports + 1 } } } : State).originate
        ⟨.locateReport, s.params.control, wordBytes e.address ++ wordBytes own ++ [previous]
          ++ wordBytes (e.attach.getD 0)⟩
  else followed

/-- A station has left RADIO_HERE: the arbiter follows a miner or a vehicle unit (R55, R133). -/
def State.leftRadio (s : State) (a : Addr) : State :=
  if isMiner a then s.segMinerLeaves
  else if isVehicle a then s.segVehicle a false
  else s

/-! ### Marks and breaches (R149, R150) -/

/-- The station entry of an address, if there is one, has a mark (R146). -/
def State.marked (s : State) (a : Addr) (m : Muster) : State :=
  { s with table := { s.table with
    entries := s.table.entries.map (fun e => if e.address = a then { e with mark := m } else e) } }

/-- A unit of a tag list has been created for muster, where it had no entry, and marked IN_REFUGE where it has one now
(R149 step 1). -/
def State.taggedIn (s : State) (a : Addr) : State :=
  (if s.entry? a = none then s.createEntry a .fieldHere none else s).marked a .inRefuge

/-- A unit of an old tag list that no panel's list holds has gone from IN_REFUGE to NOTIFIED (R149 step 2). -/
def State.taggedOut (s : State) (a : Addr) : State :=
  { s with table := { s.table with entries := s.table.entries.map (fun e =>
    if e.address = a ∧ e.mark = .inRefuge ∧ ∀ i, a ∉ (s.panel i).tags then { e with mark := .notified } else e) } }

/-- The breach of a record has been raised if it was due: REFUGE BREACH broadcast, BREACH set, counted (R150). -/
def State.breachTested (s : State) (i : Fin 8) : State :=
  let x := s.panel i
  if x.breach = false ∧ x.door = .opened ∧ s.params.door.ms ≤ x.doorAge * 1000 ∧ s.evac.state = .evacuate
      ∧ (s.air.zone = .alarm ∨ s.air.zone = .trip) then
    (({ s with evac := { s.evac with
      panels := s.evac.panels.set i { x with breach := true }
      counters := { s.evac.counters with breaches := s.evac.counters.breaches + 1 } } } : State).setFlag
        Flag.breach).originate ⟨.refugeBreach, broadcast, wordBytes (s.nodeAddr?.getD 0) ++ [byteOf i.val]⟩
  else s

/-! ### The checks of a channel load, as R9 and R11 list them -/

/-- The full scale of a gas kind's code (R8). -/
def fullScaleOfCode (gas : Nat) : Nat := [10000, 2000, 2500, 2000].getD gas 0

/-- A gas kind's code names a RISING kind (R8). -/
abbrev risingCode (gas : Nat) : Prop := gas < 2

/-- A grade entry's hold count, level and band are in range (R9 step 3). -/
abbrev EntryInRange (f : EntryFields) (full : Nat) : Prop :=
  (1 ≤ f.hold.toNat ∧ f.hold.toNat ≤ 16) ∧ f.level.toNat ≤ full ∧ f.band.toNat ≤ full

/-- No field that R9 step 3 names is outside its range. -/
abbrev ChannelInRange (f : ChannelFields) : Prop :=
  f.scope.toNat < 2 ∧ f.gas.toNat < 4 ∧ f.faultAction.toNat < 3 ∧ f.gain.toNat ≠ 0 ∧ f.offset.toNat ≤ 4095
  ∧ f.shift.toNat ≤ 4
  ∧ EntryInRange f.alert (fullScaleOfCode f.gas.toNat) ∧ EntryInRange f.alarm (fullScaleOfCode f.gas.toNat)
  ∧ EntryInRange f.trip (fullScaleOfCode f.gas.toNat) ∧ f.stale.toNat % 32 ≠ 0

/-- The yes/no fields are 1 or 0, and the stale timeout's high byte is 0 (R177; assumption 10 for the rest). -/
abbrev ChannelPlain (f : ChannelFields) : Prop :=
  f.enabled.toNat < 2 ∧ f.alert.enabled.toNat < 2 ∧ f.alarm.enabled.toNat < 2 ∧ f.trip.enabled.toNat < 2
  ∧ f.stale.toNat < 256

/-- An enabled entry passes its band check (R11). -/
abbrev BandPasses (f : EntryFields) (gas : Nat) : Prop :=
  f.enabled.toNat = 1 →
    (risingCode gas → 1 ≤ f.level.toNat ∧ f.level.toNat ≤ fullScaleOfCode gas ∧ f.band.toNat < f.level.toNat)
    ∧ (¬ risingCode gas → f.level.toNat < fullScaleOfCode gas ∧ f.level.toNat + f.band.toNat < fullScaleOfCode gas)

/-- Every enabled entry passes its band check (R11). -/
abbrev BandsPass (f : ChannelFields) : Prop :=
  BandPasses f.alert f.gas.toNat ∧ BandPasses f.alarm f.gas.toNat ∧ BandPasses f.trip f.gas.toNat

/-- Two enabled entries are in order along the direction of danger; a disabled one is left out (R11). -/
abbrev OrderPasses (x y : EntryFields) (gas : Nat) : Prop :=
  x.enabled.toNat = 1 → y.enabled.toNat = 1 →
    (risingCode gas → x.level.toNat ≤ y.level.toNat) ∧ (¬ risingCode gas → y.level.toNat ≤ x.level.toNat)

/-- The enabled levels are in order (R11). -/
abbrev OrdersPass (f : ChannelFields) : Prop :=
  OrderPasses f.alert f.alarm f.gas.toNat ∧ OrderPasses f.alarm f.trip f.gas.toNat
  ∧ OrderPasses f.alert f.trip f.gas.toNat

/-! ### Outputs (R27, R155) -/

/-- A line's level and cadence fit the pattern it shows (R155). -/
abbrev Line.Fits (l : Line) : Prop :=
  (l.pattern = .off → l.asserted = false) ∧ (l.pattern = .steady → l.asserted = true)
    ∧ (l.cadence.isSome = true ↔ l.pattern = .slow ∨ l.pattern = .fast)

/-- Every routable output shows the strongest pattern among the active sources' routes, and the trip output is
asserted exactly while the zone grade is TRIP. -/
abbrev State.OutputsFollow (s : State) : Prop :=
  (∀ o ∈ [Output.siren, .strobe, .faultLine, .aux],
    (s.evac.lines.get o).pattern = s.wantedPattern o ∧ (s.evac.lines.get o).Fits)
  ∧ (s.air.tripOutput = true ↔ s.air.zone = .trip)

/-! ### Station table (R51, R63) -/

/-- At most 128 entries in ascending address order, one for an address, none for the node itself, at most 104
pinned, no age above 65535. -/
abbrev State.TableSound (s : State) : Prop :=
  s.table.entries.Pairwise (fun a b => a.address.toNat < b.address.toNat)
  ∧ s.table.entries.length ≤ 128
  ∧ pinnedCount s.table.entries ≤ 104
  ∧ (∀ e ∈ s.table.entries, s.nodeAddr? ≠ some e.address ∧ e.age ≤ 65535)

/-! ### Grades (R18, R23 to R25) -/

/-- Every channel's state and effective grade follow from its causes and entries, and the zone and refuge
grades from the channels and the integrity floor. -/
abbrev State.GradesFollow (s : State) : Prop :=
  (∀ c ∈ channelIndices,
    (s.channel c).state = (s.channel c).stateNow (s.deviceSilent c)
    ∧ (s.channel c).effective = (s.channel c).effectiveNow)
  ∧ s.air.zone = s.zoneNow ∧ s.air.refuge = s.refugeNow

/-! ### Channels (R13 to R17, R21, R32) -/

/-- An entry's run is below its hold count, and a disabled entry is CLEAR with run 0. -/
abbrev EntrySound (e : EntryConfig) (x : EntryState) : Prop :=
  x.run < e.hold ∧ (e.enabled = false → x.set = false ∧ x.run = 0)

/-- An average lies between 0 and full scale. -/
abbrev AverageWithin (full : Nat) (a : Option Nat) : Prop := ∀ n ∈ a, n ≤ full

/-- Values within full scale, entries sound, a latched TRIP with run 0, a stale timer exactly while the channel
is enabled and its stale mark is clear, and a test that has samples to go and values within full scale. -/
abbrev Channel.Sound (x : Channel) : Prop :=
  x.value ≤ x.record.gas.fullScale
  ∧ AverageWithin x.record.gas.fullScale x.average
  ∧ EntrySound x.record.alert x.alert ∧ EntrySound x.record.alarm x.alarm ∧ EntrySound x.record.trip x.trip
  ∧ (x.trip.set = true → x.trip.run = 0)
  ∧ (x.staleTimer.isSome = true ↔ x.record.enabled = true ∧ x.staleMark = false)
  ∧ (x.record.enabled = false → x.staleMark = false)
  ∧ ∀ t ∈ x.test, x.record.enabled = true ∧ t.fed < t.count ∧ t.count ≤ 32
      ∧ t.value ≤ x.record.gas.fullScale ∧ AverageWithin x.record.gas.fullScale t.average
      ∧ EntrySound x.record.alert t.alert ∧ EntrySound x.record.alarm t.alarm
      ∧ EntrySound x.record.trip t.trip

/-- Every channel is sound. -/
abbrev State.ChannelsSound (s : State) : Prop := ∀ c ∈ channelIndices, (s.channel c).Sound

/-! ### Evacuation (R138, R144, R146, R148, R150, R151) -/

/-- While QUIET the zone grade is below the trigger grade (R138). -/
abbrev State.QuietBelowTrigger (s : State) : Prop :=
  s.evac.state = .quiet → s.triggered = false

/-- The tag lists hold miner units; no entry has a muster mark in QUIET, and none but a miner's ever; the
repeat timer runs exactly in EVACUATE; a breach stands only at an open door, and a closed one has age 0. -/
abbrev State.MusterSound (s : State) : Prop :=
  (∀ e ∈ s.table.entries, e.mark ≠ .none → s.evac.state = .evacuate ∧ isMiner e.address = true)
  ∧ (s.evac.repeatTimer.isSome = true ↔ s.evac.state = .evacuate)
  ∧ (∀ i ∈ pollIndices, (s.panel i).tags.all isMiner = true
      ∧ ((s.panel i).door = .closed → (s.panel i).doorAge = 0 ∧ (s.panel i).breach = false)
      ∧ (s.panel i).doorAge ≤ 65535)

/-- The SOS list holds at most 8 origins, each once and each a miner unit; the relay list holds at most 16
keys, each once, each of age below 30. -/
abbrev State.AlarmListsSound (s : State) : Prop :=
  s.evac.sos.length ≤ 8 ∧ s.evac.sos.Nodup ∧ s.evac.sos.all isMiner = true
  ∧ s.net.relay.length ≤ 16 ∧ (s.net.relay.map (fun e => (e.origin, e.seq))).Nodup
  ∧ ∀ e ∈ s.net.relay, e.age < 30

/-! ### Local population (R133) -/

/-- What the arbiter follows of the local population is what the station table holds: the miner units at
RADIO_HERE, and whether the holder is there (R133). The holder and the queued are vehicle units (R121). -/
abbrev State.PopulationFollowed (s : State) : Prop :=
  s.table.entries.Pairwise (fun a b => a.address.toNat < b.address.toNat)
  ∧ s.seg.minerCount = s.minersHere.length
  ∧ s.seg.holderHere = (match s.seg.holder with
      | some h => s.isHere h.vehicle
      | none => false)
  ∧ (∀ h ∈ s.seg.holder, isVehicle h.vehicle = true) ∧ (∀ t ∈ s.seg.queue, isVehicle t.vehicle = true)

/-! ### Egress (R159 to R162) -/

/-- A port's queues are within their capacities, its AIR queue holds one report of a source, what goes out is
the frame's bytes; a port that is DOWN holds no frame; one that is UP and sends nothing has no alarm and no
RESTART response waiting. -/
abbrev PortState.Sound (x : PortState) (p : Port) (via : Byte) : Prop :=
  (∀ c ∈ [TrafficClass.alarm, .voice, .signal, .air, .telem, .mgmt],
    (x.egress.queues.get c).length ≤ queueCapacity c ∧ ∀ f ∈ x.egress.queues.get c, f.cls = c)
  ∧ (x.egress.queues.air.map (fun f => f.src)).Nodup
  ∧ (∀ t ∈ x.egress.sending, t.wire = t.frame.wire p via)
  ∧ (x.up = false → x.egress.queues = {} ∧ x.egress.sending = none ∧ x.egress.ahead = none)
  ∧ (x.up = true → x.egress.sending = none → x.egress.queues.alarm = [] ∧ x.egress.ahead = none)

/-- The three ports are sound, and RADIO is always UP (R90). -/
abbrev State.PortsSound (s : State) : Prop :=
  s.net.radio.up = true ∧ ∀ p ∈ [Port.outbye, .inbye, .radio], (s.net.port p).Sound p s.net.viaByte

/-! ### Poller (R37, R41, R44) -/

/-- The reply timer runs exactly while a poll is in flight; every record has a due time exactly while it is
enabled, a miss count of at most 255, and fewer than three misses unless it is SILENT; no two enabled records
have one address. -/
abbrev State.PollerSound (s : State) : Prop :=
  (s.poller.replyTimer.isSome = true ↔ s.poller.inFlight.isSome = true)
  ∧ (∀ i ∈ pollIndices,
      ((s.pollRecord i).due.isSome = true ↔ (s.pollRecord i).config.enabled = true)
      ∧ (s.pollRecord i).misses ≤ 255
      ∧ ((s.pollRecord i).state ≠ .silent → (s.pollRecord i).misses < 3)
      ∧ ∀ j ∈ pollIndices, i ≠ j → (s.pollRecord i).config.enabled = true →
          (s.pollRecord j).config.enabled = true →
          (s.pollRecord i).config.address ≠ (s.pollRecord j).config.address)
  ∧ ∀ f ∈ s.poller.inFlight, (s.pollRecord f.index).config.enabled = true
      ∧ f.address = (s.pollRecord f.index).config.address ∧ f.seq = s.poller.sequence
      ∧ f.wire = pollWire f.address f.seq

/-! ### Integrity (R179, R183) -/

/-- The bytes of the protected records before a scan position, in canonical order (R177). -/
def State.scannedBytes (s : State) (n : Nat) : List Byte := (List.range n).flatMap s.protectedBytes

/-- The suspension timer runs exactly in SUSPENDED and the scan in the other states; the position is below 39,
and 0 in SUSPENDED; the running value is the check of the protected records already fed, as they stand. -/
abbrev State.ScanSound (s : State) : Prop :=
  (s.integ.suspensionTimer.isSome = true ↔ s.integ.state = .suspended)
  ∧ (s.integ.scanTimer.isSome = true ↔ s.integ.state ≠ .suspended)
  ∧ s.integ.position < 39 ∧ (s.integ.state = .suspended → s.integ.position = 0)
  ∧ s.integ.runningCrc = crc (s.scannedBytes s.integ.position)

/-! ### All of them -/

/-- Every promise above. -/
abbrev State.Safe (s : State) : Prop :=
  s.OutputsFollow ∧ s.TableSound ∧ s.GradesFollow ∧ s.ChannelsSound ∧ s.QuietBelowTrigger ∧ s.MusterSound
  ∧ s.AlarmListsSound ∧ s.SegmentSound ∧ s.PopulationFollowed ∧ s.CallsSound ∧ s.PortsSound
  ∧ s.PollerSound ∧ s.ScanSound

end Sys2Proof.Machine
end

