-- ==== Sys2Proof/WellFormed.lean ====
section
/-! DEFINITION. What a command must be to be one the part can be given: a message has at least one byte,
and a management request comes from a surface station. `exec` gives every command a meaning, well-formed or
not. -/

namespace Sys2Proof

/-- The address is a surface station's (R1: 0xFFF0 to 0xFFFE). -/
def isSurfaceAddr (a : Addr) : Bool :=
  decide (0xFFF0 ≤ a.toNat) && decide (a.toNat ≤ 0xFFFE)

/-- The request of a request row; none for an event row. -/
def Instr.request? : Instr → Option Request
  | .coldStart _ _ _ => none
  | .frameReceived _ _ => none
  | .frameSent _ => none
  | .linkDown _ => none
  | .linkUp _ => none
  | .lineMessageReceived _ => none
  | .replyTimerExpiry => none
  | .recordDue => none
  | .staleTimerExpiry _ => none
  | .airReportTimerExpiry => none
  | .ageTick => none
  | .relayAgeTick => none
  | .setupTimerExpiry _ => none
  | .leaseTimerExpiry => none
  | .repeatTimerExpiry => none
  | .doorTick => none
  | .supplySample _ _ _ => none
  | .scanStep => none
  | .suspensionTimerExpiry => none
  | .isolationTimerExpiry => none
  | .statusTimerExpiry => none
  | .outputCadenceToggle _ => none
  | .readRecordChannel rq _ => some rq
  | .readRecordPoll rq _ => some rq
  | .readRecordPoller rq _ => some rq
  | .readRecordStation rq _ => some rq
  | .readRecordStationSummary rq _ => some rq
  | .readRecordPin rq _ => some rq
  | .readRecordWatch rq _ => some rq
  | .readRecordPort rq _ => some rq
  | .readRecordLeg rq _ => some rq
  | .readRecordCalls rq _ => some rq
  | .readRecordPermit rq _ => some rq
  | .readRecordSegment rq _ => some rq
  | .readRecordPanel rq _ => some rq
  | .readRecordEvacuation rq _ => some rq
  | .readRecordRoute rq _ => some rq
  | .readRecordOutputs rq _ => some rq
  | .readRecordPlan rq _ => some rq
  | .readRecordEgress rq _ => some rq
  | .readRecordShed rq _ => some rq
  | .readRecordSupply rq _ => some rq
  | .readRecordIntegrity rq _ => some rq
  | .readRecordParameters rq _ => some rq
  | .readRecordFlags rq _ => some rq
  | .readRecordManagement rq _ => some rq
  | .loadRecordChannel rq _ _ => some rq
  | .loadRecordPoll rq _ _ => some rq
  | .loadRecordPin rq _ _ => some rq
  | .loadRecordWatch rq _ _ => some rq
  | .loadRecordPermit rq _ _ => some rq
  | .loadRecordRoute rq _ _ => some rq
  | .loadRecordPlan rq _ _ => some rq
  | .loadRecordShed rq _ _ => some rq
  | .loadRecordParameters rq _ _ => some rq
  | .setCheck rq _ => some rq
  | .selectPlan rq _ => some rq
  | .resetTrip rq _ => some rq
  | .testChannel rq _ _ _ => some rq
  | .evacuate rq => some rq
  | .standDown rq => some rq
  | .closeSegment rq => some rq
  | .openSegment rq => some rq
  | .releaseSegment rq => some rq
  | .cancelSos rq _ => some rq
  | .clearFlags rq _ _ => some rq
  | .ackAttention rq _ => some rq
  | .clearCounters rq => some rq
  | .restart rq => some rq

/-- A received frame and a line message have at least one byte (R72, R77). -/
def Instr.messageNonempty : Instr → Bool
  | .frameReceived _ bytes => !bytes.isEmpty
  | .lineMessageReceived bytes => !bytes.isEmpty
  | _ => true

/-- A request that the management unit takes comes from a surface station (R189). -/
def Instr.requestFromSurface (i : Instr) : Bool :=
  match i.request? with
  | some rq => isSurfaceAddr rq.source
  | none => true

/-- A well-formed command. -/
def Instr.wellFormed (i : Instr) : Bool :=
  i.messageNonempty && i.requestFromSurface

end Sys2Proof
end

