-- ==== Sys2Proof/Certificates/Slice0/Obligations.lean ====
section
/-! DEFINITION. The statements for the provers. Each docstring names the rules or the sections it rests on; where
a clause rests on a choice of the model's, the docstring names the log entry. -/

open Sys2Proof Sys2Proof.Machine

/-! ### The machine -/

/-- One step with a command at the front of the queue is that command on the state with the queue's rest. -/
def Obligations.StepRunsFrontCommand : Prop :=
  ∀ (i : Instr) (rest : List Instr) (s : State),
    step { s with pending := i :: rest } = exec i { s with pending := rest }

/-- On an empty queue the part's clock runs (the model's choice, assumptions 1 and 3): one millisecond passes
while no timer's moment has come; otherwise a step is the command of a timer whose moment has come, and no
timer has an earlier moment. A supply sample the part takes of itself uses up one free reading. -/
def Obligations.EmptyQueueRunsEarliestTimer : Prop :=
  ∀ s : State, s.pending = [] →
    ((∀ d i, (some d, i) ∈ s.timers → s.now < d) → step s = .next { s with now := s.now + 1 })
    ∧ ((∃ d i, (some d, i) ∈ s.timers ∧ d ≤ s.now) →
        ∃ d i, (some d, i) ∈ s.timers ∧ d ≤ s.now ∧ (∀ e j, (some e, j) ∈ s.timers → d ≤ e)
          ∧ step s = exec i (s.sampleUsed i))

/-- Every promise of the manual about the whole machine that is stated below as kept by every step holds at
reset (a COLD START with the straps at node 7 and both links UP, assumption 2). -/
def Obligations.ResetIsSafe : Prop := State.reset.Safe

/-- The factory tables are 816 bytes in canonical order (R177), the protected records at reset are those
tables, and the stored check is their check (R178, R187).
What READ RECORD returns for a protected record after its code and index (section 10.2) is what the scanner feeds
into its CRC for that record; for a channel that is the first 40 bytes, and that its dynamic state follows them is
the model's choice (assumption 9). -/
def Obligations.ProtectedRecordsAreOneByteString : Prop :=
  (factoryBytes.length = 816 ∧ State.reset.scannedBytes 39 = factoryBytes
   ∧ State.reset.integ.storedCheck = crc factoryBytes)
  ∧ (∀ s : State,
     (∀ c : Fin 16, (s.channel c).recordData.take 40 = s.protectedBytes c.val)
     ∧ (∀ (x : Word) (i : Fin 11), x.toNat = i.val →
         s.readRoute x = .done ([14] ++ wordBytes x ++ s.protectedBytes (16 + i.val)))
     ∧ (∀ (x : Word) (i : Fin 4), x.toNat = i.val →
         s.readShed x = .done ([18] ++ wordBytes x ++ s.protectedBytes (27 + i.val))
         ∧ s.readPin x = .done ([5] ++ wordBytes x ++ s.protectedBytes (31 + i.val))
         ∧ s.readPermit x = .done ([10] ++ wordBytes x ++ s.protectedBytes (35 + i.val))))

/-! ### What every step keeps -/

/-- After every step each routable output shows the strongest pattern among the active sources' routes, and the
trip output is asserted exactly while the zone grade is TRIP (R155, R27). -/
def Obligations.OutputsFollowInEveryStep : Prop :=
  ∀ s t : State, s.OutputsFollow → step s = .next t → t.OutputsFollow

/-- The station table stays a map in ascending address order of at most 128 entries, at most 104 of them pinned,
none for the node itself, no age above 65535 (R51, R61 to R63). -/
def Obligations.TableSoundInEveryStep : Prop :=
  ∀ s t : State, s.TableSound → step s = .next t → t.TableSound

/-- Every channel's state and effective grade, the zone grade and the refuge grade go on following from their
causes (R18, R23 to R25). -/
def Obligations.GradesFollowInEveryStep : Prop :=
  ∀ s t : State, s.GradesFollow → step s = .next t → t.GradesFollow

/-- Values and averages stay within full scale, run counts below their hold counts, a latched TRIP at run 0,
a stale timer runs exactly while its enabled channel has no stale mark, and a test has samples to go
(R12 to R17, R21, R32, R33). -/
def Obligations.ChannelsSoundInEveryStep : Prop :=
  ∀ s t : State, s.ChannelsSound → step s = .next t → t.ChannelsSound

/-- While QUIET the zone grade stays below the trigger grade (R138, R139).
Muster marks stay on miner entries and only in EVACUATE, the repeat timer runs exactly in EVACUATE, tag
lists hold miner units, and a breach stands only at an open door (R46, R143, R144, R146, R148, R150). -/
def Obligations.EvacuationSoundInEveryStep : Prop :=
  (∀ s t : State, s.QuietBelowTrigger → step s = .next t → t.QuietBelowTrigger)
  ∧ (∀ s t : State, s.MusterSound → step s = .next t → t.MusterSound)

/-- The segment's state, holder, closure causes, lease and wait queue go on agreeing, and AIR is a cause exactly
while the zone grade is at least ALARM (R119, R120, R123, R124).
The arbiter's miner count and holder presence go on being what the station table holds (R55, R133). -/
def Obligations.SegmentSoundInEveryStep : Prop :=
  (∀ s t : State, s.SegmentSound → step s = .next t → t.SegmentSound)
  ∧ (∀ s t : State, s.PopulationFollowed → step s = .next t → t.PopulationFollowed)

/-- The start list stays the counting legs, each once, at most the ceiling and none below the minimum priority;
setup timers run exactly in ORIGINATING and RINGING; partners name each other (R94, R97, R98, R103). -/
def Obligations.CallsSoundInEveryStep : Prop :=
  ∀ s t : State, s.CallsSound → step s = .next t → t.CallsSound

/-- The queues stay within their capacities, an AIR queue holds one report of a source, a DOWN port holds no
frame, and an UP port that sends nothing has no alarm waiting (R159 to R162).
The SOS list keeps at most 8 distinct miner units, the relay list at most 16 distinct keys younger than 30
ticks (R82, R83, R151). -/
def Obligations.PortsAndAlarmListsSoundInEveryStep : Prop :=
  (∀ s t : State, s.PortsSound → step s = .next t → t.PortsSound)
  ∧ (∀ s t : State, s.AlarmListsSound → step s = .next t → t.AlarmListsSound)

/-- The reply timer runs exactly while a poll is in flight, three misses make a record SILENT, and no two
enabled records have one address (R37, R41, R44). -/
def Obligations.PollerSoundInEveryStep : Prop :=
  ∀ s t : State, s.PollerSound → step s = .next t → t.PollerSound

/-- The running CRC stays the check of the protected records already fed, as they stand: a change of a record
never leaves a scan half old (R179, R180). -/
def Obligations.ScanSoundInEveryStep : Prop :=
  ∀ s t : State, s.ScanSound → step s = .next t → t.ScanSound

/-- After every step the trip output is asserted exactly while the zone grade is TRIP, and the zone grade is
TRIP only while an enabled ZONE channel has its TRIP entry SET or is in FAULT with fault action TRIP (R27). -/
def Obligations.TripOutputFollowsZoneGrade : Prop :=
  ∀ s t : State, s.OutputsFollow → s.GradesFollow → step s = .next t →
    (t.air.tripOutput = true ↔ t.air.zone = .trip)
    ∧ (t.air.zone = .trip → ∃ c, (t.channel c).record.enabled = true ∧ (t.channel c).record.scope = .zone
        ∧ ((t.channel c).trip.set = true
          ∨ (t.channel c).state = .fault ∧ (t.channel c).record.faultAction = .trip))

/-! ### Air readings and grading -/

/-- The rule of smoothing (R14): the first sample seeds the average; with k = 0 the average becomes the value;
with k from 1 to 4 it moves by the rounded step toward the value, never past it, and rests exactly when the
distance is below half the divisor. A converted value is within full scale, and an average and a value within
full scale give an average within full scale. -/
def Obligations.SmoothingStepsTowardTheValue : Prop :=
  ∀ (k a v full : Nat), k ≤ 4 →
    smooth k none v = v
    ∧ (k = 0 → smooth k (some a) v = v)
    ∧ (1 ≤ k → ((smooth k (some a) v : Nat) : Int)
        = a + ((v : Int) - a).sign * ((((v : Int) - a).natAbs + 2 ^ (k - 1)) / 2 ^ k : Nat))
    ∧ (min a v ≤ smooth k (some a) v ∧ smooth k (some a) v ≤ max a v)
    ∧ (1 ≤ k → (smooth k (some a) v = a ↔ ((v : Int) - a).natAbs < 2 ^ (k - 1)))
    ∧ (∀ offset gain raw, convert offset gain full raw ≤ full)
    ∧ (a ≤ full → v ≤ full → smooth k (some a) v ≤ full)

/-- The rules of grading (R15, R16): which averages are beyond an entry's level and which meet its clear
condition; an entry that is not enabled is CLEAR with run 0; n consecutive samples toward the other state give
run n while n is below the hold count, and the hold count's sample changes the state with run 0; any other
sample gives run 0. A SET entry that latches stays SET with run 0 whatever the average does (R17's first two
sentences). -/
def Obligations.EntriesNeedTheirHoldCount : Prop :=
  (∀ (e : EntryConfig) (a : Nat),
    (e.beyond .rising a = true ↔ e.level ≤ a) ∧ (e.beyond .falling a = true ↔ a ≤ e.level)
    ∧ (e.clears .rising a = true ↔ (a : Int) < (e.level : Int) - e.band)
    ∧ (e.clears .falling a = true ↔ e.level + e.band < a))
  ∧ ∀ (e : EntryConfig) (d : Direction) (latches : Bool) (l : List Nat),
    (∀ (a : Nat) (x : EntryState), e.enabled = false → e.judge d latches a x = ⟨false, 0⟩)
    ∧ (e.enabled = true → 1 ≤ e.hold →
      ((∀ a ∈ l, e.beyond d a = true) →
        (l.length < e.hold → l.foldl (fun x a => e.judge d latches a x) ⟨false, 0⟩ = ⟨false, l.length⟩)
        ∧ (l.length = e.hold → l.foldl (fun x a => e.judge d latches a x) ⟨false, 0⟩ = ⟨true, 0⟩))
      ∧ (∀ a n, e.beyond d a = false → e.judge d latches a ⟨false, n⟩ = ⟨false, 0⟩)
      ∧ ((∀ a ∈ l, e.clears d a = true) →
        (l.length < e.hold → l.foldl (fun x a => e.judge d false a x) ⟨true, 0⟩ = ⟨true, l.length⟩)
        ∧ (l.length = e.hold → l.foldl (fun x a => e.judge d false a x) ⟨true, 0⟩ = ⟨false, 0⟩))
      ∧ (∀ a n, e.clears d a = false → e.judge d false a ⟨true, n⟩ = ⟨true, 0⟩)
      ∧ l.foldl (fun x a => e.judge d true a x) ⟨true, 0⟩ = ⟨true, 0⟩)

/-- LOAD RECORD CHANNEL, the refusals in order (R9, R11). The last two clauses are for the fields that are yes
or no and a stale timeout with high byte 0; the rest of their values is assumption 10. -/
def Obligations.LoadChannelRefusals : Prop :=
  ∀ (s : State) (rq : Request) (x : Word) (f : ChannelFields), s.Accepts rq →
    (16 ≤ x.toNat →
      exec (.loadRecordChannel rq x f) s = .next (s.asTaken.answerRefused rq .badIndex).settled)
    ∧ ∀ c : Fin 16, x.toNat = c.val →
      ((s.channel c).trip.set = true →
        exec (.loadRecordChannel rq x f) s = .next (s.asTaken.answerRefused rq .tripLatched).settled)
      ∧ ((s.channel c).trip.set = false →
        (¬ ChannelInRange f →
          exec (.loadRecordChannel rq x f) s = .next (s.asTaken.answerRefused rq .badValue).settled)
        ∧ (ChannelInRange f → ChannelPlain f →
          (¬ BandsPass f →
            exec (.loadRecordChannel rq x f) s = .next (s.asTaken.answerRefused rq .badBand).settled)
          ∧ (BandsPass f → ¬ OrdersPass f →
            exec (.loadRecordChannel rq x f) s = .next (s.asTaken.answerRefused rq .badOrder).settled)))

/-- LOAD RECORD CHANNEL, accepted (R10): the record is stored and the channel starts, WARMING, or FAULT where its
device is SILENT, or OFF; the other channels, the poll list, the supply monitor, the pin windows and PARAMETERS
are untouched; the load is a protected write (R180); a test on it is aborted and answered (R33), the channel's flags
follow (R30) and a change of the grades, worked out once, sends its notices (R29); the last thing sent but a MUSTER
REPORT is the RESPONSE. That bit 5 of the timer setting is not kept and how the states in an aborted test's RESPONSE
are coded are the model's choices (assumption 9), and so is that a new zone grade goes to the segment arbiter first (assumption 5). -/
def Obligations.LoadChannelRestartsChannel : Prop :=
  ∀ (s : State) (rq : Request) (x : Word) (f : ChannelFields) (c : Fin 16), s.Accepts rq → x.toNat = c.val →
    (s.channel c).trip.set = false → ChannelInRange f → ChannelPlain f → BandsPass f → OrdersPass f →
    ∃ u : State, exec (.loadRecordChannel rq x f) s = .next ((u.answerDone rq []).concluded s.tally)
      ∧ recordBytes (u.channel c).record.words
          = [f.enabled, f.scope, f.gas, f.offset, f.gain, f.shift,
             f.alert.enabled, f.alert.level, f.alert.band, f.alert.hold,
             f.alarm.enabled, f.alarm.level, f.alarm.band, f.alarm.hold,
             f.trip.enabled, f.trip.level, f.trip.band, f.trip.hold,
             f.faultAction, f.stale &&& 0x00DF].flatMap wordBytes
      ∧ (u.channel c).average = none ∧ (u.channel c).value = 0 ∧ (u.channel c).lastStatus = none
      ∧ (u.channel c).alert = ⟨false, 0⟩ ∧ (u.channel c).alarm = ⟨false, 0⟩ ∧ (u.channel c).trip = ⟨false, 0⟩
      ∧ (u.channel c).test = none ∧ (u.channel c).staleMark = false
      ∧ (f.enabled.toNat = 0 → (u.channel c).state = .off ∧ (u.channel c).staleTimer = none
          ∧ (u.channel c).effective = .normal)
      ∧ (f.enabled.toNat = 1 →
          (u.channel c).staleTimer = some (s.now + (u.channel c).record.stale.ms)
          ∧ (s.deviceSilent c = false → (u.channel c).state = .warming ∧ (u.channel c).effective = .alert)
          ∧ (s.deviceSilent c = true → (u.channel c).state = .fault
              ∧ (u.channel c).effective = (u.channel c).record.faultAction.grade))
      ∧ u.air.zone = u.zoneNow ∧ u.air.refuge = u.refugeNow
      ∧ u.integ = s.integ.afterProtectedWrite s.now
      ∧ u = ({ (s.asTaken.testAborted c).channelSet c (u.channel c) with integ := u.integ } : State).regraded
      ∧ (∀ d, d ≠ c → u.channel d = s.channel d)
      ∧ u.now = s.now ∧ u.poller = s.poller ∧ u.supply = s.supply ∧ u.table.pins = s.table.pins
      ∧ u.table.watches = s.table.watches ∧ u.calls.permits = s.calls.permits ∧ u.evac.routes = s.evac.routes
      ∧ u.net.banks = s.net.banks ∧ u.mgmt.parameters = s.mgmt.parameters

/-- RESET TRIP (R28): every row of its table. A released channel has its TRIP entry CLEAR with run 0, its
effective grade and the two grades recomputed, with the flags of R30 and the notices of R29 (a new zone grade goes to
the segment arbiter first, assumption 5); nothing else changes. -/
def Obligations.ResetTripReleasesLatch : Prop :=
  ∀ (s : State) (rq : Request) (x : Byte), s.Accepts rq →
    (16 ≤ x.toNat → exec (.resetTrip rq x) s = .next (s.asTaken.answerRefused rq .badIndex).settled)
    ∧ ∀ c : Fin 16, x.toNat = c.val →
      ((s.channel c).trip.set = false →
        exec (.resetTrip rq x) s = .next (s.asTaken.answerDone rq []).settled)
      ∧ ((s.channel c).trip.set = true → (s.channel c).average = none →
        exec (.resetTrip rq x) s = .next (s.asTaken.answerRefused rq .stillBeyond).settled)
      ∧ (∀ a, (s.channel c).trip.set = true → (s.channel c).average = some a →
        ((s.channel c).record.trip.clears (s.channel c).record.gas.direction a = false →
          exec (.resetTrip rq x) s = .next (s.asTaken.answerRefused rq .stillBeyond).settled)
        ∧ ((s.channel c).record.trip.clears (s.channel c).record.gas.direction a = true →
          ∃ u : State, exec (.resetTrip rq x) s = .next ((u.answerDone rq []).concluded s.tally)
            ∧ (u.channel c).trip = ⟨false, 0⟩
            ∧ u.channel c = { s.channel c with
                trip := ⟨false, 0⟩, state := (u.channel c).state, effective := (u.channel c).effective }
            ∧ (u.channel c).state = (u.channel c).stateNow (s.deviceSilent c)
            ∧ (u.channel c).effective = (u.channel c).effectiveNow
            ∧ u = (s.asTaken.channelSet c (u.channel c)).regraded
            ∧ (∀ d, d ≠ c → u.channel d = s.channel d)
            ∧ u.air.zone = u.zoneNow ∧ u.air.refuge = u.refugeNow
            ∧ u.poller = s.poller ∧ u.supply = s.supply ∧ u.integ = s.integ
            ∧ u.mgmt.parameters = s.mgmt.parameters))

/-- TEST CHANNEL (R32): its refusals in order, and the shadow copy of an accepted test, which is answered later.
Nothing else changes. That the shadow average is the live one, as R32 has it against R13, is the model's choice
(assumption 23). -/
def Obligations.TestChannelBuildsShadow : Prop :=
  ∀ (s : State) (rq : Request) (x n : Byte) (v : Word), s.Accepts rq →
    (16 ≤ x.toNat → exec (.testChannel rq x v n) s = .next (s.asTaken.answerRefused rq .badIndex).settled)
    ∧ ∀ c : Fin 16, x.toNat = c.val →
      ((s.channel c).test.isSome = true →
        exec (.testChannel rq x v n) s = .next (s.asTaken.answerRefused rq .busy).settled)
      ∧ ((s.channel c).test = none →
        ((s.channel c).record.enabled = false ∨ (s.channel c).record.gas.fullScale < v.toNat
            ∨ n.toNat < 1 ∨ 32 < n.toNat →
          exec (.testChannel rq x v n) s = .next (s.asTaken.answerRefused rq .badValue).settled)
        ∧ ((s.channel c).record.enabled = true → v.toNat ≤ (s.channel c).record.gas.fullScale →
            1 ≤ n.toNat → n.toNat ≤ 32 →
          exec (.testChannel rq x v n) s = .next (s.asTaken.setChannel c { s.channel c with
            test := some { request := rq, value := v.toNat, count := n.toNat, fed := 0
                           average := (s.channel c).average
                           alert := ⟨(s.channel c).alert.set, 0⟩
                           alarm := ⟨(s.channel c).alarm.set, 0⟩
                           trip := ⟨(s.channel c).trip.set, 0⟩ } }).settled))

/-- A stale timer's expiry (R21): the timer stops, the mark is set, the channel is in FAULT with the higher of
its fault action and its highest SET grade, with the flags of the change (R30); the grades are recomputed, and a
change sends its ZONE GRADE with the cause channel, its REFUGE AIR and its AIR REPORT (R29, R31). Nothing else
changes but what a new zone grade brings. A stopped timer does not expire (assumption 17); the clock stands at or
past the timer's moment (assumption 1); a new zone grade goes to the segment arbiter first (assumption 5). -/
def Obligations.StaleTimerPutsChannelInFault : Prop :=
  ∀ (s : State) (c : Fin 16),
    ((s.channel c).staleTimer = none →
      exec (.staleTimerExpiry c) s = .next { s with scratch := {} }.settled)
    ∧ ∀ d, (s.channel c).staleTimer = some d → (s.channel c).record.enabled = true →
      let x : Channel := { s.channel c with
        staleTimer := none, staleMark := true, state := .fault
        effective := Grade.higher (s.channel c).record.faultAction.grade
          (highestSet (s.channel c).alert (s.channel c).alarm (s.channel c).trip) }
      let u : State := ((s.at d).channelSet c x).regraded
      exec (.staleTimerExpiry c) s = .next (u.concluded s.tally)
        ∧ u.channel c = x
        ∧ ((s.channel c).state ≠ .fault → u.flagSet (Flag.channelFault c) = true)
        ∧ ((s.channel c).effective.code < x.effective.code → u.flagSet (Flag.gradeUp c) = true)
        ∧ (∀ e, e ≠ c → u.channel e = s.channel e)
        ∧ u.air.zone = u.zoneNow ∧ u.air.refuge = u.refugeNow
        ∧ u.now = max s.now d ∧ u.poller = s.poller ∧ u.supply = s.supply ∧ u.integ = s.integ
        ∧ u.mgmt.parameters = s.mgmt.parameters ∧ u.mgmt.counters = s.mgmt.counters

/-- The air report timer's expiry (R31, layout of R76): one AIR REPORT to the control station, with every
enabled channel in index order, and the timer restarted with the length of the moment, four times the interval
at shed level 3, or left stopped when the count is 0. Nothing else changes but what sending it does.
The isolation timer's and the status timer's expiries (R186, R198, layout of R76): the node is isolated,
flagged and counted, and the timer stays stopped; one NODE STATUS, counted before it is built, goes to the
control station, and the timer restarts with the length of the moment. Nothing else changes. -/
def Obligations.ReportTimersSendReports : Prop :=
  (∀ (s : State) (d : Nat), s.air.reportTimer = some d →
     exec .airReportTimerExpiry s = .next
       { (s.at d).originate s.airReportNow with
         air := { s.air with reportTimer := (s.at d).reportStarted s.params.airReport } }.settled)
  ∧ (∀ (s : State) (d : Nat),
     (s.mgmt.isolationTimer = some d →
       exec .isolationTimerExpiry s = .next (({ s.at d with
         mgmt := { s.mgmt with isolated := true, isolationTimer := none }
         integ := { s.integ with counters := { s.integ.counters with
           isolations := s.integ.counters.isolations + 1 } } } : State).setFlag Flag.isolated).settled)
     ∧ (s.mgmt.statusTimer = some d → s.nodeAddr?.isSome = true →
       let bit (b : Bool) (n : Nat) : Nat := if b then 2 ^ n else 0
       exec .statusTimerExpiry s = .next (({ s.at d with mgmt := { s.mgmt with
           statusTimer := if s.params.status.count = 0 then none
             else some (max s.now d + (if s.supply.shedLevel = 3 then 4 else 1) * s.params.status.ms)
           counters := { s.mgmt.counters with
             statusReports := s.mgmt.counters.statusReports + 1 } } } : State).originate
         ⟨.nodeStatus, s.params.control,
           [byteOf s.air.zone.code, byteOf s.air.refuge.code, byteOf s.evac.state.code,
            byteOf s.tally.present, byteOf s.tally.notified, byteOf s.tally.inRefuge,
            byteOf s.supply.shedLevel, byteOf (if s.supply.sample.mains then 0 else 1)]
           ++ natBytes s.supply.sample.battery
           ++ [BitVec.ofInt 8 s.supply.sample.temperature, byteOf s.seg.state.code, byteOf s.countingLegs,
               byteOf (bit s.mgmt.attention.air.summary 0 + bit s.mgmt.attention.call.summary 1
                 + bit s.mgmt.attention.truck.summary 2 + bit s.mgmt.attention.refuge.summary 3
                 + bit s.mgmt.attention.node.summary 4),
               byteOf s.integ.state.code, yesByte s.mgmt.isolated]
           ++ counterBytes (s.mgmt.counters.statusReports + 1)⟩).settled))

/-! ### Requests -/

/-- A request before it acts: a node without an address discards it without a count; one that comes from no
surface station is discarded and counted in FOREIGN MGMT; while a restart is pending every request but RESTART
is refused with BUSY (R91, R189, R200). A surface request has ended isolation before that (R185, assumption 4
for a request row's share of its frame's walk).
A REQUEST in a frame (section 10.2, R76, R87, R189 to R193): delivered with the bytes of a request, it is that
request, for every request; a request code that the catalogue does not have is a PAYLOAD ERROR; arguments of a
wrong length are refused with BAD_VALUE, an unknown or unloadable table with BAD_TABLE and an index outside its
table with BAD_INDEX, the table before the index and the index before the owning rule's checks. Where R191 and
section 10.2 leave the place of a length check open, a LOAD too short to name its table and index included, it is
the model's choice (assumption 10). -/
def Obligations.RequestsJudgedBeforeTheyAct : Prop :=
  (∀ (i : Instr) (rq : Request) (s : State), i.request? = some rq →
    (s.nodeAddr? = none → isSurface rq.source = false → exec i s = .next { s with scratch := {} }.settled)
    ∧ (s.nodeAddr? = none → isSurface rq.source = true →
        exec i s = .next { s with
          scratch := {}
          mgmt := { s.mgmt with isolated := false, isolationTimer := s.isolationRestarted } }.settled)
    ∧ (s.nodeAddr?.isSome = true → isSurface rq.source = false →
        exec i s = .next { s with
          scratch := {}
          mgmt := { s.mgmt with counters := { s.mgmt.counters with
            foreignMgmt := s.mgmt.counters.foreignMgmt + 1 } } }.settled)
    ∧ (s.nodeAddr?.isSome = true → isSurface rq.source = true → s.mgmt.restartPending = true →
        (∀ q, i ≠ .restart q) →
        exec i s = .next (({ s with
          scratch := {}
          mgmt := { s.mgmt with
            isolated := false, isolationTimer := s.isolationRestarted
            counters := { s.mgmt.counters with
              requestsTaken := s.mgmt.counters.requestsTaken + 1 } } } : State).answerRefused rq .busy).settled))
  ∧ (∀ (i : Instr) (rq : Request) (s : State) (f : Frame), i.request? = some rq →
    f.cls = .mgmt → f.kind = 1 → f.src = rq.source → f.payload = rq.tag :: requestBytes i →
    (∀ q g x, i = .clearFlags q g x → 1 ≤ g.toNat → g.toNat ≤ 4 → x.toNat < 256) →
    let heard : State := { s with
      scratch := {}
      mgmt := if isSurface rq.source then { s.mgmt with
          isolated := false, isolationTimer := s.isolationRestarted }
        else s.mgmt }
    exec i s = .next ((heard.deliver rq.port f).concluded s.tally))
  ∧ (∀ (s : State) (p : Port) (f : Frame) (tag code : Byte) (args : List Byte),
    f.cls = .mgmt → f.kind = 1 → f.payload = tag :: code :: args → args.length ≤ 118 →
    (code = 0 ∨ 16 < code.toNat →
      s.deliver p f = s.countPort p (fun k => { k with payloadErrors := k.payloadErrors + 1 }))
    ∧ (isSurface f.src = true → s.nodeAddr?.isSome = true → s.mgmt.restartPending = false →
      let refused (c : Cause) : Prop := s.deliver p f = ({ s with mgmt := { s.mgmt with
        counters := { s.mgmt.counters with requestsTaken := s.mgmt.counters.requestsTaken + 1 } } } :
          State).answerRefused ⟨tag, f.src, p⟩ c
      let loadable : List (Nat × Nat × Nat) :=
        [(0, 40, 16), (1, 5, 8), (5, 6, 4), (6, 3, 4), (10, 8, 4), (14, 8, 11), (18, 8, 4), (21, 24, 65536)]
      (code = 1 ∨ code = 2 → args.length < 3 → refused .badValue)
      ∧ (∀ (table a b : Byte) (rest : List Byte), args = table :: a :: b :: rest →
        let index := (wordOf a b).toNat
        (code = 1 → rest ≠ [] → refused .badValue)
        ∧ (code = 1 → rest = [] → 24 ≤ table.toNat → refused .badTable)
        ∧ (code = 2 → table ≠ 16 → (∀ e ∈ loadable, e.1 ≠ table.toNat) → refused .badTable)
        ∧ (∀ fields indices, code = 2 → (table.toNat, fields, indices) ∈ loadable →
          (indices ≤ index → refused .badIndex)
          ∧ (index < indices → rest.length ≠ fields → refused .badValue))
        ∧ (code = 2 → table = 16 →
          (¬ (a.toNat < 2 ∧ b.toNat < 32) → refused .badIndex)
          ∧ (a.toNat < 2 → b.toNat < 32 → rest.length ≠ 1 → refused .badValue)))
      ∧ (∀ n, (code.toNat, n) ∈ [(3, 2), (4, 1), (5, 1), (6, 4), (7, 0), (8, 0), (9, 0), (10, 0), (11, 0), (12, 2),
            (14, 1), (15, 0), (16, 0)] → args.length ≠ n → refused .badValue)
      ∧ (code = 13 →
        (args = [] → refused .badValue)
        ∧ ∀ g rest, args = g :: rest →
          (4 < g.toNat → refused .badIndex)
          ∧ (g.toNat ≤ 4 → rest.length ≠ (if g = 0 then 7 else 1) → refused .badValue))))

/-- The reads that take an index: each is answered with the table's code, the index and the record's fields byte by
byte, or refused with BAD_INDEX outside the table's range, and changes nothing else. Protected records are read in
the canonical order of R177, the others in the order of their own rules (R92, R94, R148, R167, R191, R192; the
layouts R192 leaves open are assumption 9). -/
def Obligations.IndexedReadsAnswerAndChangeNothing : Prop :=
  ∀ (s : State) (rq : Request) (x : Word), s.Accepts rq →
    (∀ c : Fin 16, x.toNat = c.val → exec (.readRecordChannel rq x) s
        = .next (s.asTaken.answerDone rq ([0] ++ wordBytes x ++ recordBytes (s.channel c).record.words
            ++ [byteOf (s.channel c).state.code] ++ natBytes (s.channel c).value
            ++ natBytes ((s.channel c).average.getD 0)
            ++ [yesByte (s.channel c).alert.set, byteOf (s.channel c).alert.run,
                yesByte (s.channel c).alarm.set, byteOf (s.channel c).alarm.run,
                yesByte (s.channel c).trip.set, byteOf (s.channel c).trip.run,
                byteOf (s.channel c).effective.code, yesByte (s.channel c).staleMark])).settled)
    ∧ (∀ i : Fin 8, x.toNat = i.val → exec (.readRecordPoll rq x) s
        = .next (s.asTaken.answerDone rq ([1] ++ wordBytes x
            ++ [yesByte (s.pollRecord i).config.enabled] ++ wordBytes (s.pollRecord i).config.address
            ++ [byteOf (s.pollRecord i).config.kind.code, (s.pollRecord i).config.interval.byte,
                byteOf (s.pollRecord i).state.code, byteOf (s.pollRecord i).misses,
                yesByte (s.pollingFor i)])).settled)
    ∧ (∀ i : Fin 4, x.toNat = i.val → exec (.readRecordPin rq x) s
        = .next (s.asTaken.answerDone rq ([5] ++ wordBytes x
            ++ [yesWord s.table.pins[i].valid, s.table.pins[i].base, s.table.pins[i].mask].flatMap
              wordBytes)).settled)
    ∧ (∀ i : Fin 4, x.toNat = i.val → exec (.readRecordWatch rq x) s
        = .next (s.asTaken.answerDone rq ([6] ++ wordBytes x ++ [yesByte s.table.watches[i].enabled]
            ++ wordBytes s.table.watches[i].address)).settled)
    ∧ (∀ p, portOfCode x.toNat = some p → exec (.readRecordPort rq x) s
        = .next (let k := (s.net.port p).counters
          s.asTaken.answerDone rq ([7] ++ wordBytes x
            ++ [k.framesReceived, k.lengthErrors, k.checkErrors, k.classErrors, k.addressErrors, k.framesAccepted,
                k.hopExpired, k.duplicateAlarms, k.ownReturns, k.hairpins, k.noRoute, k.fieldDiscards,
                k.unknownKinds, k.payloadErrors, k.noOwner, k.downDrops, k.linkChanges, k.framesSent].flatMap
              counterBytes
            ++ [if (s.net.port p).up then 0 else 1, s.net.alarmSeq, s.net.frameSeq])).settled)
    ∧ (∀ i : Fin 8, x.toNat = i.val → exec (.readRecordLeg rq x) s
        = .next (let l := s.leg i
          s.asTaken.answerDone rq ([8] ++ wordBytes x
            ++ [byteOf l.state.code, l.callId.node, l.callId.serial, byteOf l.direction.code]
            ++ wordBytes l.localParty ++ wordBytes l.remoteParty
            ++ [byteOf l.priority.code,
                byteOf (if i ∈ s.calls.startList then s.calls.startList.idxOf i + 1 else 0),
                yesByte l.setupTimer.isSome, l.lastVoice.getD 0]
            ++ [l.voiceIn, l.voiceOut, l.voiceDropped].flatMap counterBytes
            ++ [byteOf ((l.lastCause.map ClearCause.code).getD 0)])).settled)
    ∧ (∀ i : Fin 4, x.toNat = i.val → exec (.readRecordPermit rq x) s
        = .next (s.asTaken.answerDone rq ([10] ++ wordBytes x
            ++ [s.calls.permits[i].low, s.calls.permits[i].high, yesWord s.calls.permits[i].miner,
                yesWord s.calls.permits[i].vehicle].flatMap wordBytes)).settled)
    ∧ (∀ i : Fin 8, x.toNat = i.val → exec (.readRecordPanel rq x) s
        = .next (let q := s.panel i
          s.asTaken.answerDone rq ([12] ++ wordBytes x
            ++ [byteOf q.door.code, byteOf q.occupancy, byteOf q.tags.length] ++ q.tags.flatMap wordBytes
            ++ [byteOf q.supply.code] ++ natBytes q.doorAge ++ [yesByte q.breach, yesByte (!q.filled)])).settled)
    ∧ (∀ i : Fin 11, x.toNat = i.val → exec (.readRecordRoute rq x) s
        = .next (s.asTaken.answerDone rq ([14] ++ wordBytes x
            ++ [s.evac.routes[i].siren, s.evac.routes[i].strobe, s.evac.routes[i].faultLine,
                s.evac.routes[i].aux].flatMap (fun q => wordBytes (BitVec.ofNat 16 q.code)))).settled)
    ∧ (∀ (b : Bank) (i : Fin 32), x.toNat = 256 * b.code + i.val → exec (.readRecordPlan rq x) s
        = .next (s.asTaken.answerDone rq ([16] ++ wordBytes x
            ++ [byteOf (s.net.banks.entry b i).code])).settled)
    ∧ (∀ p, portOfCode x.toNat = some p → exec (.readRecordEgress rq x) s
        = .next (let e := (s.net.port p).egress
          s.asTaken.answerDone rq ([17] ++ wordBytes x
            ++ [byteOf e.queues.alarm.length, byteOf e.queues.voice.length, byteOf e.queues.signal.length,
                byteOf e.queues.air.length, byteOf e.queues.telem.length, byteOf e.queues.mgmt.length,
                byteOf e.active.code, byteOf e.position.val, byteOf ((e.pendingBank.map Bank.code).getD 0)]
            ++ [e.counters.drops.alarm, e.counters.drops.voice, e.counters.drops.signal, e.counters.drops.air,
                e.counters.drops.telem, e.counters.drops.mgmt, e.counters.replacements,
                e.counters.flushed].flatMap counterBytes)).settled)
    ∧ (∀ i : Fin 4, x.toNat = i.val → exec (.readRecordShed rq x) s
        = .next (s.asTaken.answerDone rq ([18] ++ wordBytes x
            ++ [yesWord s.supply.entries[i].config.enabled,
                BitVec.ofNat 16 s.supply.entries[i].config.input.code,
                BitVec.ofInt 16 s.supply.entries[i].config.gate,
                BitVec.ofNat 16 s.supply.entries[i].config.level].flatMap wordBytes)).settled)
    ∧ (∀ g, Group.ofCode x.toNat = some g → exec (.readRecordFlags rq x) s
        = .next (s.asTaken.answerDone rq ([22] ++ wordBytes x ++ flagBytes g (s.flags g).flags
            ++ flagBytes g (s.params.masks.get g) ++ [yesByte (s.flags g).summary])).settled)
    ∧ (let refused : State := (s.asTaken.answerRefused rq .badIndex).settled
       (16 ≤ x.toNat → exec (.readRecordChannel rq x) s = .next refused)
       ∧ (8 ≤ x.toNat → exec (.readRecordPoll rq x) s = .next refused
            ∧ exec (.readRecordLeg rq x) s = .next refused ∧ exec (.readRecordPanel rq x) s = .next refused)
       ∧ (4 ≤ x.toNat → exec (.readRecordPin rq x) s = .next refused
            ∧ exec (.readRecordWatch rq x) s = .next refused ∧ exec (.readRecordPermit rq x) s = .next refused
            ∧ exec (.readRecordShed rq x) s = .next refused)
       ∧ (3 ≤ x.toNat → exec (.readRecordPort rq x) s = .next refused
            ∧ exec (.readRecordEgress rq x) s = .next refused)
       ∧ (11 ≤ x.toNat → exec (.readRecordRoute rq x) s = .next refused)
       ∧ (512 ≤ x.toNat ∨ 32 ≤ x.toNat % 256 → exec (.readRecordPlan rq x) s = .next refused)
       ∧ (5 ≤ x.toNat → exec (.readRecordFlags rq x) s = .next refused))

/-- The reads whose table is one record, and READ RECORD STATION, which names an address and returns the entry
whose address is the lowest at or above it: each is answered with the table's code, the index and the record's
fields, byte by byte, as they stand when the request is taken, and changes nothing else (R39, R69, R97, R135, R155,
R156, R173, R184, R192, R193, R199; the layouts R192 leaves open are assumption 9, what an output shows within the
event is assumption 7, and that MANAGEMENT's REQUESTS TAKEN counts the read itself is assumption 29). -/
def Obligations.WholeReadsAnswerAndChangeNothing : Prop :=
  ∀ (s : State) (rq : Request) (x : Word), s.Accepts rq →
    let bits (l : List Bool) : Byte := byteOf (l.zipIdx.map (fun b => if b.1 then 2 ^ b.2 else 0)).sum
    let counters (l : List Counter) : List Byte := l.flatMap counterBytes
    let p := s.mgmt.parameters
    exec (.readRecordPoller rq x) s
        = .next (let k := s.poller.counters
          s.asTaken.answerDone rq ([2] ++ wordBytes x
            ++ [yesByte s.poller.inFlight.isSome,
                byteOf ((s.poller.inFlight.map (fun f => f.index.val)).getD 0), s.poller.sequence]
            ++ counters [k.pollsSent, k.repliesTaken, k.pollMisses, k.lateReplies, k.misaddressedReplies,
              k.badReplies])).settled
    ∧ exec (.readRecordStationSummary rq x) s
        = .next (let k := s.table.counters
          s.asTaken.answerDone rq ([4] ++ wordBytes x
            ++ [byteOf s.table.entries.length, byteOf (s.table.entries.countP (fun e => e.pinned)),
                p.presence.byte, p.route.byte]
            ++ counters [k.stationsLearned, k.evictions, k.agedOut, k.learnFailures, k.locateReports])).settled
    ∧ exec (.readRecordCalls rq x) s
        = .next (let k := s.calls.counters
          s.asTaken.answerDone rq ([9] ++ wordBytes x
            ++ [byteOf s.ceiling, byteOf s.minimum.code, byteOf s.countingLegs,
                byteOf s.calls.startList.length] ++ s.calls.startList.map (fun i => byteOf i.val)
            ++ counters [k.setupsTaken, k.setupsRefused, k.preemptions, k.limitClears, k.setupTimeouts,
              k.straySignals, k.voiceStrays])).settled
    ∧ exec (.readRecordSegment rq x) s
        = .next (let g := s.seg
          let k := g.counters
          let truck (t : Truck) : List Byte := wordBytes t.vehicle ++ [byteOf t.direction.code]
          s.asTaken.answerDone rq ([11] ++ wordBytes x
            ++ [byteOf g.state.code] ++ (g.holder.map truck).getD [0, 0, 0]
            ++ [bits [g.causes.air, g.causes.surface, g.causes.startup], byteOf g.queue.length]
            ++ g.queue.flatMap truck
            ++ [yesByte g.lease.isSome, yesByte (g.holder.isSome && g.holderHere && decide (1 ≤ g.minerCount)),
                byteOf g.minerCount]
            ++ counters [k.grantsSent, k.waitsSent, k.entryRefusals, k.withdrawsSent, k.leaseLosses, k.strayExits,
              k.badEntryFrames, k.proximityNotices])).settled
    ∧ exec (.readRecordEvacuation rq x) s
        = .next (let k := s.evac.counters
          s.asTaken.answerDone rq ([13] ++ wordBytes x
            ++ [byteOf s.evac.state.code, byteOf s.tally.present, byteOf s.tally.notified,
                byteOf s.tally.inRefuge, yesByte s.evac.repeatTimer.isSome, byteOf s.evac.sos.length]
            ++ s.evac.sos.flatMap wordBytes
            ++ [byteOf p.trigger.code, byteOf p.follow, p.repeatTime.byte, p.door.byte]
            ++ counters [k.evacEntries, k.noticesSent, k.acksTaken, k.strayAcks, k.musterReports,
              k.ordersDiscarded, k.standDownsRefused, k.breaches, k.sosTaken, k.sosOverflows])).settled
    ∧ (let active : List Bool :=
         [s.air.zone != .normal, s.air.zone == .alarm || s.air.zone == .trip, s.air.zone == .trip,
          s.evac.state == .evacuate, !s.evac.sos.isEmpty, pollIndices.any (fun i => (s.panel i).breach),
          s.air.refuge == .alarm || s.air.refuge == .trip,
          s.seg.holder.isSome && s.seg.holderHere && decide (1 ≤ s.seg.minerCount),
          channelIndices.any (fun c => (s.channel c).record.enabled && (s.channel c).state == .fault),
          s.integ.state == .fault, false]
       let source (i : Fin 11) (o : Output) : Pattern := match o with
         | .siren => s.evac.routes[i].siren
         | .strobe => s.evac.routes[i].strobe
         | .faultLine => s.evac.routes[i].faultLine
         | .aux => s.evac.routes[i].aux
       ∀ shown : Output → Pattern,
         (∀ o, (∀ i, active.getD i.val false = true → (source i o).code ≤ (shown o).code)
           ∧ (shown o = .off ∨ ∃ i, active.getD i.val false = true ∧ source i o = shown o)) →
         exec (.readRecordOutputs rq x) s
           = .next (s.asTaken.answerDone rq ([15] ++ wordBytes x
               ++ [bits (active.take 8), bits (active.drop 8),
                   byteOf (shown .siren).code, byteOf (shown .strobe).code, byteOf (shown .faultLine).code,
                   byteOf (shown .aux).code])).settled)
    ∧ exec (.readRecordSupply rq x) s
        = .next (s.asTaken.answerDone rq ([19] ++ wordBytes x
            ++ [byteOf (if s.supply.sample.mains then 0 else 1)] ++ natBytes s.supply.sample.battery
            ++ [BitVec.ofInt 8 s.supply.sample.temperature]
            ++ s.supply.entries.toList.map (fun e => yesByte e.matching) ++ [byteOf s.supply.shedLevel]
            ++ counterBytes s.supply.counters.shedChanges
            ++ counterBytes s.supply.counters.mainsLosses)).settled
    ∧ exec (.readRecordIntegrity rq x) s
        = .next (s.asTaken.answerDone rq ([20] ++ wordBytes x
            ++ [byteOf s.integ.state.code] ++ wordBytes s.integ.storedCheck
            ++ wordBytes (s.integ.lastCheck.getD 0)
            ++ [byteOf s.integ.position, yesByte s.integ.suspensionTimer.isSome, yesByte false,
                yesByte s.isolationRestarted.isSome]
            ++ [s.integ.counters.scansCompleted, s.integ.counters.mismatches, s.integ.counters.suspensions,
                s.integ.counters.suspensionExpiries, s.integ.counters.isolations].flatMap
              counterBytes)).settled
    ∧ exec (.readRecordParameters rq x) s
        = .next (s.asTaken.answerDone rq ([21] ++ wordBytes x ++ wordBytes p.control
            ++ [p.presence.byte, p.route.byte, p.setup.byte, p.lease.byte, p.airReport.byte, p.status.byte,
                p.isolation.byte, p.repeatTime.byte, p.door.byte, byteOf p.trigger.code, byteOf p.follow]
            ++ flagBytes .air p.masks.air ++ flagBytes .call p.masks.call ++ flagBytes .truck p.masks.truck
            ++ flagBytes .refuge p.masks.refuge ++ flagBytes .node p.masks.node)).settled
    ∧ exec (.readRecordManagement rq x) s
        = .next (let k := s.mgmt.counters
          s.asTaken.answerDone rq ([23] ++ wordBytes x
            ++ counters [k.requestsTaken + 1, k.requestsRefused, k.foreignMgmt, k.beacons, k.statusReports,
              k.restartsAbandoned]
            ++ [yesByte false,
                bits ((channelIndices.take 8).map (fun c => (s.channel c).test.isSome)),
                bits ((channelIndices.drop 8).map (fun c => (s.channel c).test.isSome))])).settled
    ∧ (s.table.entries.Pairwise (fun a b => a.address.toNat < b.address.toNat) →
        (∀ e ∈ s.table.entries, x.toNat ≤ e.address.toNat →
          (∀ d ∈ s.table.entries, x.toNat ≤ d.address.toNat → e.address.toNat ≤ d.address.toNat) →
          exec (.readRecordStation rq x) s
            = .next (s.asTaken.answerDone rq ([3] ++ wordBytes x ++ wordBytes e.address
                ++ [byteOf (((stationKind e.address).map StationKind.code).getD 0), byteOf e.location.code]
                ++ natBytes e.age ++ [yesByte e.pinned, byteOf e.mark.code]
                ++ wordBytes (e.attach.getD 0))).settled)
        ∧ ((∀ e ∈ s.table.entries, e.address.toNat < x.toNat) →
          exec (.readRecordStation rq x) s = .next (s.asTaken.answerRefused rq .badIndex).settled))

/-- LOAD RECORD POLL: the refusals in order (R37), and an accepted load (R38, section 2.1; for the tests R33, for
the panel record R148): the record and its channels' tests, the line when its poll was in flight, the panel record
of its index, and nothing of the other records or of the integrity scan. An aborted test is answered, with
TEST_DONE set, before the load is; nothing else is sent or flagged. The yes/no field's other values are
assumption 10, bit 5 of the interval and the coding of a test's RESPONSE are assumption 9: the model's choices. -/
def Obligations.LoadPollChecksAndRestartsRecord : Prop :=
  ∀ (s : State) (rq : Request) (x : Word) (f : PollFields), s.Accepts rq →
    (8 ≤ x.toNat → exec (.loadRecordPoll rq x f) s = .next (s.asTaken.answerRefused rq .badIndex).settled)
    ∧ ∀ i : Fin 8, x.toNat = i.val →
      ((f.address.toNat < 0x1000 ∨ 0x1FFF < f.address.toNat ∨ 2 ≤ f.kind.toNat ∨ f.interval.toNat % 32 = 0 →
        exec (.loadRecordPoll rq x f) s = .next (s.asTaken.answerRefused rq .badValue).settled)
      ∧ (f.enabled = 1 → (∃ j, j ≠ i ∧ (s.pollRecord j).config.enabled = true
            ∧ (s.pollRecord j).config.address = f.address) →
        exec (.loadRecordPoll rq x f) s = .next (s.asTaken.answerRefused rq .badValue).settled)
      ∧ (0x1000 ≤ f.address.toNat → f.address.toNat ≤ 0x1FFF → f.kind.toNat < 2 → f.interval.toNat % 32 ≠ 0 →
          f.enabled.toNat < 2 →
          (f.enabled = 1 → ∀ j, j ≠ i → (s.pollRecord j).config.enabled = true →
            (s.pollRecord j).config.address ≠ f.address) →
        ∃ u : State, exec (.loadRecordPoll rq x f) s = .next ((u.answerDone rq []).concluded s.tally)
          ∧ (u.pollRecord i).config.enabled = (f.enabled == 1) ∧ (u.pollRecord i).config.address = f.address
          ∧ (u.pollRecord i).config.kind.code = f.kind.toNat
          ∧ (u.pollRecord i).config.interval = TimerSetting.ofByte f.interval
          ∧ (u.pollRecord i).misses = 0
          ∧ (u.pollRecord i).state = (if (s.pollRecord i).state = .silent then .silent else .idleUnseen)
          ∧ (f.enabled = 0 → (u.pollRecord i).due = none)
          ∧ (f.enabled = 1 → (u.pollRecord i).due = some s.now
              ∨ (u.pollRecord i).due = some (s.now + (u.pollRecord i).config.interval.ms)
                ∧ u.pollingFor i = true)
          ∧ (s.pollingFor i = true → ∀ g, u.poller.inFlight = some g → g.seq = s.poller.sequence + 1)
          ∧ (s.pollingFor i = false → ∀ g, s.poller.inFlight = some g → u.poller.inFlight = some g)
          ∧ u.poller.counters.pollMisses = s.poller.counters.pollMisses
          ∧ (∀ j, j ≠ i → (u.pollRecord j).config = (s.pollRecord j).config
              ∧ (u.pollRecord j).state = (s.pollRecord j).state
              ∧ (u.pollRecord j).misses = (s.pollRecord j).misses)
          ∧ u.panel i = Panel.empty ∧ (∀ j, j ≠ i → u.panel j = s.panel j)
          ∧ (∀ c, u.channel c = if pollOf c = i then { s.channel c with test := none } else s.channel c)
          ∧ (let told : State := (s.asTaken.testAborted (firstChannel i)).testAborted (secondChannel i)
             u.net = told.net ∧ u.mgmt = told.mgmt)
          ∧ u.air.zone = s.air.zone ∧ u.air.refuge = s.air.refuge ∧ u.integ = s.integ
          ∧ u.supply = s.supply ∧ u.calls = s.calls ∧ u.seg = s.seg
          ∧ u.mgmt.parameters = s.mgmt.parameters))

/-- LOAD RECORD WATCH (R67): the refusals, and an accepted load, which replaces the entry and does nothing else
(the yes/no field's other values are assumption 10). -/
def Obligations.LoadWatchReplacesEntry : Prop :=
  ∀ (s : State) (rq : Request) (x : Word) (f : WatchFields), s.Accepts rq →
    (4 ≤ x.toNat → exec (.loadRecordWatch rq x f) s = .next (s.asTaken.answerRefused rq .badIndex).settled)
    ∧ ∀ i : Fin 4, x.toNat = i.val →
      (f.enabled = 1 → ((stationKind f.address).isNone = true ∨ s.nodeAddr? = some f.address) →
        exec (.loadRecordWatch rq x f) s = .next (s.asTaken.answerRefused rq .badValue).settled)
      ∧ ((f.enabled = 1 ∧ (stationKind f.address).isSome = true ∧ s.nodeAddr? ≠ some f.address)
            ∨ f.enabled = 0 →
        exec (.loadRecordWatch rq x f) s
          = .next (({ s.asTaken with table := { s.table with
              watches := s.table.watches.set i ⟨f.enabled == 1, f.address⟩ } } : State).answerDone rq
                []).settled)

/-- LOAD RECORD PIN, PERMIT and ROUTE: the refusals (R60, R99, R154), and an accepted load, which stores the record
and is a protected write (R180), which lifts the integrity floor and regrades (R24); channels, poller, supply and
PARAMETERS stay. With a scanner that is not in FAULT and grades that follow their channels, nothing else changes
but, for PIN, the pinned flags: an entry is pinned exactly when its address matches the
new window set and fewer than 104 entries of lower address do (R62). The yes/no fields' other values are
assumption 10. -/
def Obligations.LoadsOfProtectedRecords : Prop :=
  ∀ (s : State) (rq : Request) (x : Word), s.Accepts rq →
    (∀ f : PinFields,
      (4 ≤ x.toNat → exec (.loadRecordPin rq x f) s = .next (s.asTaken.answerRefused rq .badIndex).settled)
      ∧ ∀ i : Fin 4, x.toNat = i.val → f.valid.toNat < 2 →
        ∃ u : State, exec (.loadRecordPin rq x f) s = .next ((u.answerDone rq []).concluded s.tally)
          ∧ u.table.pins = s.table.pins.set i ⟨f.valid == 1, f.base, f.mask⟩
          ∧ u.integ = s.integ.afterProtectedWrite s.now
          ∧ (s.integ.state ≠ .suspended → u.air.zone = s.scopeGrade .zone ∧ u.air.zone = u.zoneNow
              ∧ u.air.refuge = u.refugeNow)
          ∧ u.air.channels = s.air.channels ∧ u.poller = s.poller ∧ u.supply = s.supply
          ∧ u.mgmt.parameters = s.mgmt.parameters
          ∧ (s.GradesFollow → s.integ.state ≠ .fault →
              u = { s.asTaken with
                integ := s.integ.afterProtectedWrite s.now
                table := { s.table with
                  pins := u.table.pins
                  entries := s.table.entries.zipIdx.map (fun e => { e.1 with
                    pinned := u.table.matches e.1.address
                      && decide ((s.table.entries.take e.2).countP (fun d => u.table.matches d.address)
                        < 104) }) } }))
    ∧ (∀ f : PermitFields,
      (4 ≤ x.toNat → exec (.loadRecordPermit rq x f) s = .next (s.asTaken.answerRefused rq .badIndex).settled)
      ∧ ∀ i : Fin 4, x.toNat = i.val → f.miner.toNat < 2 → f.vehicle.toNat < 2 →
        (f.high.toNat < f.low.toNat →
          exec (.loadRecordPermit rq x f) s = .next (s.asTaken.answerRefused rq .badValue).settled)
        ∧ (f.low.toNat ≤ f.high.toNat →
          ∃ u : State, exec (.loadRecordPermit rq x f) s = .next ((u.answerDone rq []).concluded s.tally)
            ∧ u.calls.permits = s.calls.permits.set i ⟨f.low, f.high, f.miner == 1, f.vehicle == 1⟩
            ∧ u.integ = s.integ.afterProtectedWrite s.now
            ∧ (s.integ.state ≠ .suspended → u.air.zone = s.scopeGrade .zone ∧ u.air.zone = u.zoneNow
                ∧ u.air.refuge = u.refugeNow)
            ∧ u.air.channels = s.air.channels ∧ u.poller = s.poller ∧ u.supply = s.supply
            ∧ u.mgmt.parameters = s.mgmt.parameters
            ∧ (s.GradesFollow → s.integ.state ≠ .fault →
                u = { s.asTaken with
                  integ := s.integ.afterProtectedWrite s.now
                  calls := { s.calls with permits := u.calls.permits } })))
    ∧ (∀ f : RouteFields,
      (11 ≤ x.toNat → exec (.loadRecordRoute rq x f) s = .next (s.asTaken.answerRefused rq .badIndex).settled)
      ∧ ∀ i : Fin 11, x.toNat = i.val →
        (4 ≤ f.siren.toNat ∨ 4 ≤ f.strobe.toNat ∨ 4 ≤ f.faultLine.toNat ∨ 4 ≤ f.aux.toNat →
          exec (.loadRecordRoute rq x f) s = .next (s.asTaken.answerRefused rq .badValue).settled)
        ∧ ∀ r : Route, r.siren.code = f.siren.toNat → r.strobe.code = f.strobe.toNat →
            r.faultLine.code = f.faultLine.toNat → r.aux.code = f.aux.toNat →
          ∃ u : State, exec (.loadRecordRoute rq x f) s = .next ((u.answerDone rq []).concluded s.tally)
            ∧ u.evac.routes = s.evac.routes.set i r
            ∧ u.integ = s.integ.afterProtectedWrite s.now
            ∧ (s.integ.state ≠ .suspended → u.air.zone = s.scopeGrade .zone ∧ u.air.zone = u.zoneNow
                ∧ u.air.refuge = u.refugeNow)
            ∧ u.air.channels = s.air.channels ∧ u.poller = s.poller ∧ u.supply = s.supply
            ∧ u.mgmt.parameters = s.mgmt.parameters
            ∧ (s.GradesFollow → s.integ.state ≠ .fault →
                u = { s.asTaken with
                  integ := s.integ.afterProtectedWrite s.now
                  evac := { s.evac with routes := u.evac.routes } }))

/-- LOAD RECORD SHED: the refusals in order (R169), and an accepted load: the entry matches exactly when it is
enabled and its start condition holds on the latest sample, the shed level is the highest level of the matching
entries, a change is counted and flagged, and the load is a protected write (R170, R171, R180). A new level clears the
legs that its limits shut out with SHED, and then each free UP port makes a choice under the new skipping (R98, R171);
that this comes before the protected write is assumption 5. The yes/no field's other values are assumption 10. -/
def Obligations.LoadShedJudgesAfresh : Prop :=
  ∀ (s : State) (rq : Request) (x : Word) (f : ShedFields), s.Accepts rq →
    (4 ≤ x.toNat → exec (.loadRecordShed rq x f) s = .next (s.asTaken.answerRefused rq .badIndex).settled)
    ∧ ∀ i : Fin 4, x.toNat = i.val →
      (2 ≤ f.input.toNat
          ∨ (f.input = 0 ∧ (f.gate.toNat < 1 ∨ 16183 < f.gate.toNat))
          ∨ (f.input = 1 ∧ (f.gate.toInt < -37 ∨ 124 < f.gate.toInt))
          ∨ f.level.toNat < 1 ∨ 3 < f.level.toNat →
        exec (.loadRecordShed rq x f) s = .next (s.asTaken.answerRefused rq .badValue).settled)
      ∧ ∀ (input : ShedInput) (gate : Int), f.enabled.toNat < 2 → 1 ≤ f.level.toNat → f.level.toNat ≤ 3 →
          (f.input = 0 ∧ input = .battery ∧ gate = f.gate.toNat ∧ 1 ≤ gate ∧ gate ≤ 16183
            ∨ f.input = 1 ∧ input = .temperature ∧ gate = f.gate.toInt ∧ -37 ≤ gate ∧ gate ≤ 124) →
        ∃ u : State, exec (.loadRecordShed rq x f) s = .next ((u.answerDone rq []).concluded s.tally)
          ∧ u.supply.entries = s.supply.entries.set i
              ⟨⟨f.enabled == 1, input, gate, f.level.toNat⟩,
                f.enabled == 1 && (match input with
                  | .battery => !s.supply.sample.mains && decide ((s.supply.sample.battery : Int) < gate)
                  | .temperature => decide (gate < s.supply.sample.temperature))⟩
          ∧ u.supply.shedLevel = shedLevelOf u.supply.entries.toList
          ∧ u.supply.sample = s.supply.sample
          ∧ u.supply.counters = { s.supply.counters with
              shedChanges := s.supply.counters.shedChanges
                + (if u.supply.shedLevel = s.supply.shedLevel then 0 else 1) }
          ∧ (u.supply.shedLevel ≠ s.supply.shedLevel → u.flagSet Flag.shedChange = true)
          ∧ u.integ = s.integ.afterProtectedWrite s.now
          ∧ (let set : State := ({ s.asTaken with supply := u.supply } : State).setFlag Flag.shedChange
             let told := set.limitsChanged s.ceiling s.minimum .shed
             let chosen (p : Port) : PortState :=
               if (told.net.port p).up then { told.net.port p with
                 egress := (told.net.port p).egress.choose told.net.banks u.supply.shedLevel p told.net.viaByte }
               else told.net.port p
             let shed : State :=
               if u.supply.shedLevel = s.supply.shedLevel then { s.asTaken with supply := u.supply }
               else { told with net := { told.net with
                 outbye := chosen .outbye, inbye := chosen .inbye, radio := chosen .radio } }
             u = if s.integ.state = .suspended then shed
               else ({ shed with integ := u.integ } : State).regraded)
          ∧ u.poller = s.poller ∧ u.air.channels = s.air.channels ∧ u.mgmt.parameters = s.mgmt.parameters
          ∧ u.table.pins = s.table.pins ∧ u.calls.permits = s.calls.permits ∧ u.evac.routes = s.evac.routes

/-- LOAD RECORD PARAMETERS: one field outside its values refuses the whole record (R193); an accepted record is
stored whole, the report timers and the isolation timer restart, the summaries of groups with an unmasked flag
set are set, and the node's own grade is tested against the new trigger, which in QUIET, where the zone grade is at it
or above, enters EVACUATE (R139, R142, R185, R194, R195). Bits beyond a
group's last flag are ignored (R195); bit 5 of a setting is not read (assumption 9); the trigger's codes are
assumption 11. -/
def Obligations.LoadParametersTakesEffect : Prop :=
  ∀ (s : State) (rq : Request) (x : Word) (f : ParameterFields), s.Accepts rq →
    (isSurface f.control = false ∨ f.presence.toNat % 32 = 0 ∨ f.route.toNat % 32 = 0 ∨ f.setup.toNat % 32 = 0
        ∨ f.lease.toNat % 32 = 0 ∨ f.repeatTime.toNat % 32 = 0 ∨ f.door.toNat % 32 = 0
        ∨ (f.trigger ≠ 2 ∧ f.trigger ≠ 3) ∨ 7 < f.follow.toNat →
      exec (.loadRecordParameters rq x f) s = .next (s.asTaken.answerRefused rq .badValue).settled)
    ∧ ∀ p : Parameters, isSurface f.control = true →
        f.presence.toNat % 32 ≠ 0 → f.route.toNat % 32 ≠ 0 → f.setup.toNat % 32 ≠ 0 →
        f.lease.toNat % 32 ≠ 0 → f.repeatTime.toNat % 32 ≠ 0 → f.door.toNat % 32 ≠ 0 →
        f.follow.toNat ≤ 7 → (f.trigger = 2 ∧ p.trigger = .alarm ∨ f.trigger = 3 ∧ p.trigger = .trip) →
        p = { control := f.control, presence := .ofByte f.presence, route := .ofByte f.route
              setup := .ofByte f.setup, lease := .ofByte f.lease, airReport := .ofByte f.airReport
              status := .ofByte f.status, isolation := .ofByte f.isolation
              repeatTime := .ofByte f.repeatTime, door := .ofByte f.door, trigger := p.trigger
              follow := f.follow.toNat
              masks := ⟨f.airMask &&& 0x1FFFFFFFFFFFF, (f.callMask.setWidth 56) &&& 0x7,
                (f.truckMask.setWidth 56) &&& 0xF, (f.refugeMask.setWidth 56) &&& 0x1F,
                (f.nodeMask.setWidth 56) &&& 0x7F⟩ } →
      ∃ u : State, exec (.loadRecordParameters rq x f) s = .next ((u.answerDone rq []).concluded s.tally)
        ∧ u.mgmt.parameters = p
        ∧ u.air.reportTimer = (if p.airReport.count = 0 then none
            else some (s.now + (if s.supply.shedLevel = 3 then 4 else 1) * p.airReport.ms))
        ∧ u.mgmt.statusTimer = (if p.status.count = 0 then none
            else some (s.now + (if s.supply.shedLevel = 3 then 4 else 1) * p.status.ms))
        ∧ u.mgmt.isolationTimer = (if p.isolation.count = 0 then none else some (s.now + p.isolation.ms))
        ∧ u.mgmt.isolated = false ∧ u.integ = s.integ ∧ u.poller = s.poller ∧ u.supply = s.supply
        ∧ u.air.channels = s.air.channels ∧ u.air.zone = s.air.zone
        ∧ (let stored (t : State) : Prop :=
             t = { s.asTaken with
               air := { s.air with reportTimer := u.air.reportTimer }
               mgmt := { s.asTaken.mgmt with
                 parameters := p, statusTimer := u.mgmt.statusTimer
                 isolationTimer := u.mgmt.isolationTimer, attention := t.mgmt.attention } }
             ∧ ∀ g, t.flags g = { s.flags g with
                 summary := (s.flags g).summary || (s.flags g).flags &&& ~~~ (p.masks.get g) != 0 }
           (s.evac.state = .quiet → s.air.zone.atLeast p.trigger = true → u.evac.state = .evacuate
             ∧ ∀ own, s.nodeAddr? = some own → ∃ t : State, stored t ∧ t.EvacuatedFrom own u)
           ∧ (s.evac.state = .evacuate ∨ s.air.zone.atLeast p.trigger = false → stored u))

/-- SET CHECK (R181): every value is accepted in every state; it becomes the stored check, the suspension timer
stops, a new scan begins from position 0, and the state becomes CHECKING, which lifts the integrity floor. -/
def Obligations.SetCheckRestartsScan : Prop :=
  ∀ (s : State) (rq : Request) (v : Word), s.Accepts rq →
    ∃ u : State, exec (.setCheck rq v) s = .next ((u.answerDone rq []).concluded s.tally)
      ∧ u.integ = { s.integ with
          storedCheck := v, suspensionTimer := none, position := 0, runningCrc := 0xFFFF
          scanTimer := some (s.now + 10), state := .checking }
      ∧ (s.integ.state ≠ .checking → u.air.zone = u.scopeGrade .zone)
      ∧ u.air.channels = s.air.channels ∧ u.poller = s.poller ∧ u.supply = s.supply
      ∧ u.mgmt.parameters = s.mgmt.parameters
      ∧ (s.GradesFollow → s.integ.state ≠ .fault →
          u = { s.asTaken with integ := u.integ })

/-- SELECT PLAN (section 8.3): a bank outside 0 and 1 is refused; an accepted one sets the pending bank of every port
whose active bank is the other one, clears that of every other port, and touches nothing else.
LOAD RECORD PLAN: the refusals in order, and an accepted load, which writes the one entry of a bank that is
active or pending on no port and does nothing else (section 8.3). The codes of the entries are the model's reading
(assumption 12). -/
def Obligations.PlansSelectedAndLoaded : Prop :=
  (∀ (s : State) (rq : Request) (v : Byte), s.Accepts rq →
     (2 ≤ v.toNat → exec (.selectPlan rq v) s = .next (s.asTaken.answerRefused rq .badIndex).settled)
     ∧ ∀ b : Bank, b.code = v.toNat →
       let select (n : Net) (p : Port) : Net := n.setPort p { n.port p with egress := { (n.port p).egress with
         pendingBank := if (n.port p).egress.active = b then none else some b } }
       exec (.selectPlan rq v) s
         = .next (({ s.asTaken with net := select (select (select s.net .outbye) .inbye) .radio } :
             State).answerDone rq []).settled)
  ∧ (∀ (s : State) (rq : Request) (x : Word) (v : Byte), s.Accepts rq →
     (512 ≤ x.toNat ∨ 32 ≤ x.toNat % 256 →
       exec (.loadRecordPlan rq x v) s = .next (s.asTaken.answerRefused rq .badIndex).settled)
     ∧ ∀ (b : Bank) (i : Fin 32), x.toNat = 256 * b.code + i.val →
       (v.toNat = 0 ∨ 6 < v.toNat →
         exec (.loadRecordPlan rq x v) s = .next (s.asTaken.answerRefused rq .badValue).settled)
       ∧ ∀ e : PlanEntry, e.code = v.toNat →
         ((∃ p, (s.net.port p).egress.active = b ∨ (s.net.port p).egress.pendingBank = some b) →
           exec (.loadRecordPlan rq x v) s = .next (s.asTaken.answerRefused rq .activeBank).settled)
         ∧ ((∀ p, (s.net.port p).egress.active ≠ b ∧ (s.net.port p).egress.pendingBank ≠ some b) →
           exec (.loadRecordPlan rq x v) s
             = .next (({ s.asTaken with net := { s.net with banks := (match b with
                 | .zero => ⟨s.net.banks.zero.set i e, s.net.banks.one⟩
                 | .one => ⟨s.net.banks.zero, s.net.banks.one.set i e⟩) } } : State).answerDone rq
                   []).settled))

/-- EVACUATE (R140, R142): in QUIET the node enters EVACUATE; in EVACUATE a notice round is sent and the repeat
timer restarted, and nothing else changes. Either is answered DONE.
STAND DOWN (R143): DONE with nothing changed in QUIET, refused with GRADE_HIGH and counted while the zone grade
is at or above the trigger grade, and otherwise the node leaves EVACUATE.
An EVACUATE ORDER and a STAND DOWN ORDER delivered here (R140, R143): discarded and counted when the issuer is not
the source, no surface station, or the scope has more than 8 nodes; else taken, and acting as the request does
where the scope is empty or names this node.
A ZONE GRADE notice delivered here (R141): discarded and counted when its node is not its source; followed, when
near and high enough, into EVACUATE; else without effect.
The node's own grade (R139, R150): handed a zone grade, a QUIET node at or above the trigger enters EVACUATE; in any
other case its state stays; then every record has its breach test.
The order of one event's effects and the one MUSTER REPORT of an event are the model's reading (assumptions 5
and 6), and so is that a ZONE GRADE with a cause byte from 16 to 254 is no PAYLOAD ERROR and is followed as any
other (assumption 16). -/
def Obligations.EvacuateAndStandDownRequests : Prop :=
  (∀ (s : State) (rq : Request) (own : Addr), s.Accepts rq → s.nodeAddr? = some own →
     (s.evac.state = .quiet →
       ∃ u : State, exec (.evacuate rq) s = .next ((u.answerDone rq []).concluded s.tally)
         ∧ s.asTaken.EvacuatedFrom own u)
     ∧ (s.evac.state = .evacuate →
       exec (.evacuate rq) s = .next ((s.asTaken.roundSent own).answerDone rq []).settled))
  ∧ (∀ (s : State) (rq : Request) (own : Addr), s.Accepts rq → s.nodeAddr? = some own →
     (s.evac.state = .quiet →
       exec (.standDown rq) s = .next (s.asTaken.answerDone rq []).settled)
     ∧ (s.evac.state = .evacuate → s.air.zone.atLeast s.params.trigger = true →
       exec (.standDown rq) s
         = .next (({ s.asTaken with evac := { s.evac with counters := { s.evac.counters with
             standDownsRefused := s.evac.counters.standDownsRefused + 1 } } } : State).answerRefused rq
               .gradeHigh).settled)
     ∧ (s.evac.state = .evacuate → s.air.zone.atLeast s.params.trigger = false →
       exec (.standDown rq) s = .next ((s.asTaken.evacuationLeft own).answerDone rq []).settled))
  ∧ (∀ (s : State) (p : Port) (f : Frame) (own issuer : Addr) (scope : List Addr), s.nodeAddr? = some own →
     scope.length < 256 →
     f.payload = wordBytes issuer ++ [byteOf scope.length] ++ scope.flatMap wordBytes →
     let taken : Prop := issuer = f.src ∧ isSurface f.src = true ∧ scope.length ≤ 8
     let names : Prop := scope = [] ∨ own ∈ scope
     let discarded : State := { s with evac := { s.evac with counters := { s.evac.counters with
       ordersDiscarded := s.evac.counters.ordersDiscarded + 1 } } }
     (f.kind? = some .evacuateOrder →
       (¬ taken → s.deliver p f = discarded)
       ∧ (taken → ¬ names → s.deliver p f = s)
       ∧ (taken → names → s.evac.state = .quiet → s.EvacuatedFrom own (s.deliver p f))
       ∧ (taken → names → s.evac.state = .evacuate → s.deliver p f = s.roundSent own))
     ∧ (f.kind? = some .standDownOrder →
       (¬ taken → s.deliver p f = discarded)
       ∧ (taken → ¬ names ∨ s.evac.state = .quiet → s.deliver p f = s)
       ∧ (taken → names → s.evac.state = .evacuate → s.air.zone.atLeast s.params.trigger = true →
           s.deliver p f = { s with evac := { s.evac with counters := { s.evac.counters with
             standDownsRefused := s.evac.counters.standDownsRefused + 1 } } })
       ∧ (taken → names → s.evac.state = .evacuate → s.air.zone.atLeast s.params.trigger = false →
           s.deliver p f = s.evacuationLeft own)))
  ∧ (∀ (s : State) (p : Port) (f : Frame) (own node : Addr) (g : Grade) (cause : Byte), s.nodeAddr? = some own →
     f.kind? = some .zoneGrade → f.payload = wordBytes node ++ [byteOf g.code, cause] →
     let followed : Prop := s.params.follow ≠ 0 ∧ node.toNat ≤ own.toNat + s.params.follow
       ∧ own.toNat ≤ node.toNat + s.params.follow ∧ g.atLeast s.params.trigger = true
     (node ≠ f.src → s.deliver p f = { s with evac := { s.evac with counters := { s.evac.counters with
       ordersDiscarded := s.evac.counters.ordersDiscarded + 1 } } })
     ∧ (node = f.src → s.evac.state = .quiet → followed → s.EvacuatedFrom own (s.deliver p f))
     ∧ (node = f.src → s.evac.state = .evacuate ∨ ¬ followed → s.deliver p f = s))
  ∧ (∀ s : State,
     s.testBreaches = pollIndices.foldl State.breachTested s
     ∧ (s.evac.state = .evacuate ∨ s.air.zone.atLeast s.params.trigger = false →
         s.testOwnGrade = s ∧ s.evacZone = pollIndices.foldl State.breachTested s)
     ∧ (s.evac.state = .quiet → s.air.zone.atLeast s.params.trigger = true →
         s.testOwnGrade.evac.state = .evacuate ∧ s.evacZone = s.testOwnGrade
         ∧ ∀ own, s.nodeAddr? = some own → s.EvacuatedFrom own s.testOwnGrade))

/-- CLOSE SEGMENT and OPEN SEGMENT (R129, R131, R132): the closure causes, and the state's move when the set
becomes or stops being empty. The wait queue of a segment that closes is refused whole; one that opens has
none.
RELEASE SEGMENT (R132): refused with NOT_LOST in any state but LOST; in LOST the holder goes, with a WITHDRAW
and flag RELEASED, and the segment is CLOSED when a cause is present, FREE when none is and nobody waits, and
otherwise HELD by the head of the queue, whose lease starts (R128), with its GRANT, the PROXIMITY notices it starts and
the WAITs of those behind it.
A new zone grade (R120, R129 to R131): AIR is a cause exactly at ALARM and TRIP; the set's becoming or ceasing to be
empty moves the segment as above; one that rises to TRIP while the segment drains and drained before withdraws the
holder again; any other changes AIR alone. The order of one event's frames is assumption 5, the mark that allows one
WITHDRAW an event assumption 20. -/
def Obligations.SegmentClosedOpenedReleased : Prop :=
  (∀ (s : State) (rq : Request), s.Accepts rq →
     (s.seg.causes.any = true →
       exec (.closeSegment rq) s = .next (({ s.asTaken with seg := { s.seg with
         causes := { s.seg.causes with surface := true } } } : State).answerDone rq []).settled)
     ∧ (s.seg.causes.any = false → s.SegmentSound →
       ∃ u : State, exec (.closeSegment rq) s = .next (u.answerDone rq []).settled
         ∧ u.seg = { s.seg with
             causes := ⟨false, true, false⟩, queue := []
             state := (match s.seg.state with
               | .free => .closed
               | .held => .draining
               | x => x)
             counters := { s.seg.counters with
               entryRefusals := s.seg.counters.entryRefusals + BitVec.ofNat 32 s.seg.queue.length
               withdrawsSent := s.seg.counters.withdrawsSent
                 + (if s.seg.state = .held then 1 else 0) } }
         ∧ (s.seg.state = .held → u.flagSet Flag.withdraw = true)
         ∧ u = s.asTaken.segmentClosedBy ⟨false, true, false⟩
         ∧ u.air = s.air ∧ u.table = s.table ∧ u.calls = s.calls ∧ u.evac = s.evac ∧ u.poller = s.poller
         ∧ u.supply = s.supply ∧ u.integ = s.integ)
     ∧ (s.seg.causes.air = true ∨ s.seg.causes.any = false →
       exec (.openSegment rq) s = .next (({ s.asTaken with seg := { s.seg with
         causes := { s.seg.causes with surface := false, startup := false } } } : State).answerDone rq
           []).settled)
     ∧ (s.seg.causes.air = false → s.seg.causes.any = true → s.SegmentSound →
       ∃ u : State, exec (.openSegment rq) s = .next (u.answerDone rq []).settled
         ∧ u.seg = { s.seg with
             causes := ⟨false, false, false⟩
             state := (match s.seg.state with
               | .closed => .free
               | .draining => .held
               | x => x)
             lease := (if s.seg.state = .draining then some (s.now + s.params.lease.ms) else s.seg.lease)
             counters := { s.seg.counters with
               grantsSent := s.seg.counters.grantsSent + (if s.seg.state = .draining then 1 else 0) } }
         ∧ u = s.asTaken.segmentOpenedBy ⟨false, false, false⟩
         ∧ u.air = s.air ∧ u.table = s.table ∧ u.calls = s.calls ∧ u.evac = s.evac ∧ u.poller = s.poller
         ∧ u.supply = s.supply ∧ u.integ = s.integ))
  ∧ (∀ (s : State) (rq : Request), s.Accepts rq →
     (s.seg.state ≠ .lost →
       exec (.releaseSegment rq) s = .next (s.asTaken.answerRefused rq .notLost).settled)
     ∧ ∀ h : Truck, s.seg.state = .lost → s.seg.holder = some h →
       ∃ u : State, exec (.releaseSegment rq) s = .next (u.answerDone rq []).settled
         ∧ u.flagSet Flag.released = true ∧ u.flagSet Flag.withdraw = true
         ∧ u.seg.causes = s.seg.causes ∧ u.seg.minerCount = s.seg.minerCount
         ∧ u.seg.counters.withdrawsSent = s.seg.counters.withdrawsSent + 1
         ∧ (s.seg.causes.any = true → u.seg.state = .closed ∧ u.seg.holder = none ∧ u.seg.lease = none
             ∧ u.seg.queue = s.seg.queue)
         ∧ (s.seg.causes.any = false → s.seg.queue = [] →
             u.seg.state = .free ∧ u.seg.holder = none ∧ u.seg.lease = none ∧ u.seg.queue = [])
         ∧ (∀ t rest, s.seg.causes.any = false → s.seg.queue = t :: rest →
             u.seg.state = .held ∧ u.seg.holder = some t ∧ u.seg.queue = rest
             ∧ u.seg.lease = some (s.now + s.params.lease.ms)
             ∧ u.seg.counters.grantsSent = s.seg.counters.grantsSent + 1
             ∧ u.seg.counters.waitsSent = s.seg.counters.waitsSent + BitVec.ofNat 32 rest.length)
         ∧ (let gone : State := (({ s.asTaken with seg := { s.seg with
              holder := none, holderHere := false, lease := none } } : State).withdrawSent h.vehicle).setFlag
                Flag.released
            (s.seg.causes.any = true → u = { gone with seg := { gone.seg with state := .closed } })
            ∧ (s.seg.causes.any = false → s.seg.queue = [] →
                u = { gone with seg := { gone.seg with state := .free } })
            ∧ ∀ t rest, s.seg.causes.any = false → s.seg.queue = t :: rest →
                u = (({ gone with seg := { gone.seg with queue := rest } } : State).grantedTo t).waitsSent 1 rest)
         ∧ u.air = s.air ∧ u.table = s.table ∧ u.calls = s.calls ∧ u.evac = s.evac ∧ u.poller = s.poller
         ∧ u.supply = s.supply ∧ u.integ = s.integ)
  ∧ (∀ (s : State) (old : Grade), s.nodeAddr?.isSome = true →
     ({ s with air := { s.air with zone := old } } : State).SegmentSound →
     let new := s.air.zone
     let causes : Causes := { s.seg.causes with air := new == .alarm || new == .trip }
     let u := s.segZone old new
     (causes.any = s.seg.causes.any → ¬ (s.seg.state = .draining ∧ new = .trip ∧ old ≠ .trip) →
       u = { s with seg := { s.seg with causes := causes } })
     ∧ (∀ h, s.seg.holder = some h → s.seg.state = .draining → new = .trip → old ≠ .trip →
       u = ({ s with seg := { s.seg with causes := causes } } : State).withdrawSent h.vehicle)
     ∧ (s.seg.causes.any = false → causes.any = true → u = s.segmentClosedBy causes)
     ∧ (s.seg.causes.any = true → causes.any = false → u = s.segmentOpenedBy causes))

/-- CANCEL SOS removes its miner unit from the SOS list and answers DONE with whether it was there; an SOS CANCEL
frame of a miner's own does the same, and any other is discarded and counted (R152). A unit that is no miner is
refused with BAD_VALUE (section 10.2).
An SOS of a miner's own is counted, and stored when the unit is attached here: a unit already in the list changes
nothing, a list of fewer than 8 takes it at the young end, a full one counts an overflow; any other SOS is discarded
and counted (R151). An EVAC ACK is taken when it is a miner's own, names this node, and comes in EVACUATE from a
unit with an entry, whose mark NONE becomes NOTIFIED; any other is counted as stray (R145, R146). -/
def Obligations.CancelSosRemovesOrigin : Prop :=
  ∀ s : State,
    (∀ (rq : Request) (v : Word), s.Accepts rq →
      (isMiner v = true →
        exec (.cancelSos rq v) s
          = .next (({ s.asTaken with evac := { s.evac with sos := s.evac.sos.filter (fun a => a != v) } } :
              State).answerDone rq [if v ∈ s.evac.sos then 1 else 0]).settled)
      ∧ (isMiner v = false →
        exec (.cancelSos rq v) s = .next (s.asTaken.answerRefused rq .badValue).settled))
    ∧ (∀ f : Frame,
      (isMiner f.src = true ∧ f.payload = wordBytes f.src →
        s.sosCancel f = { s with evac := { s.evac with sos := s.evac.sos.filter (fun a => a != f.src) } })
      ∧ (¬ (isMiner f.src = true ∧ f.payload = wordBytes f.src) →
        s.sosCancel f = { s with evac := { s.evac with counters := { s.evac.counters with
          ordersDiscarded := s.evac.counters.ordersDiscarded + 1 } } }))
    ∧ (∀ (p : Port) (f : Frame) (unit : Addr), f.payload = wordBytes unit →
      let taken : Prop := isMiner f.src = true ∧ unit = f.src
      let attached : Prop := ∃ e own, s.entry? f.src = some e ∧ s.nodeAddr? = some own
        ∧ e.location = .radioHere ∧ e.attach = some own
      let discarded : State := { s with evac := { s.evac with counters := { s.evac.counters with
        ordersDiscarded := s.evac.counters.ordersDiscarded + 1 } } }
      let k : EvacCounters := { s.evac.counters with sosTaken := s.evac.counters.sosTaken + 1 }
      let heard : State := { s with evac := { s.evac with counters := k } }
      (f.kind? = some .sosCancel → s.deliver p f = s.sosCancel f)
      ∧ (f.kind? = some .sos →
        (¬ taken → s.deliver p f = discarded)
        ∧ (taken → ¬ attached ∨ f.src ∈ s.evac.sos → s.deliver p f = heard)
        ∧ (taken → attached → f.src ∉ s.evac.sos →
          (s.evac.sos.length < 8 →
            s.deliver p f = ({ s with evac := { s.evac with
              sos := s.evac.sos ++ [f.src], counters := k } } : State).setFlag Flag.sos)
          ∧ (8 ≤ s.evac.sos.length →
            s.deliver p f = ({ s with evac := { s.evac with counters := { k with
              sosOverflows := k.sosOverflows + 1 } } } : State).setFlag Flag.sosOverflow))))
    ∧ ∀ (p : Port) (f : Frame) (own unit node : Addr), s.nodeAddr? = some own →
      s.table.entries.Pairwise (fun a b => a.address.toNat < b.address.toNat) →
      f.kind? = some .evacAck → f.payload = wordBytes unit ++ wordBytes node →
      let taken : Prop := isMiner f.src = true ∧ unit = f.src ∧ node = own ∧ s.evac.state = .evacuate
        ∧ ∃ e ∈ s.table.entries, e.address = f.src
      (taken → s.deliver p f = { s with
        evac := { s.evac with counters := { s.evac.counters with
          acksTaken := s.evac.counters.acksTaken + 1 } }
        table := { s.table with entries := s.table.entries.map (fun e =>
          if e.address = f.src ∧ e.mark = .none then { e with mark := .notified } else e) } })
      ∧ (¬ taken → s.deliver p f = { s with evac := { s.evac with counters := { s.evac.counters with
          strayAcks := s.evac.counters.strayAcks + 1 } } })

/-- CLEAR FLAGS and ACK ATTENTION (R196, R197), each touching nothing but its group's flags or summary.
Setting a flag sets its bit and no other, and raises its group's summary exactly when the flag becomes set and
is not masked; the other groups stay as they are (R195). -/
def Obligations.FlagsRaisedClearedAcknowledged : Prop :=
  (∀ (s : State) (rq : Request) (v : Byte) (x : BitVec 56), s.Accepts rq →
     (4 < v.toNat →
       exec (.clearFlags rq v x) s = .next (s.asTaken.answerRefused rq .badIndex).settled
       ∧ exec (.ackAttention rq v) s = .next (s.asTaken.answerRefused rq .badIndex).settled)
     ∧ ∀ g : Group, Group.ofCode v.toNat = some g →
       exec (.clearFlags rq v x) s
         = .next ((s.asTaken.setFlagGroup g ⟨(s.flags g).flags &&& ~~~ x, (s.flags g).summary⟩).answerDone rq
             (flagBytes g ((s.flags g).flags &&& ~~~ x))).settled
       ∧ ((s.flags g).flags &&& ~~~ (s.params.masks.get g) ≠ 0 →
         exec (.ackAttention rq v) s = .next (s.asTaken.answerRefused rq .flagsSet).settled)
       ∧ ((s.flags g).flags &&& ~~~ (s.params.masks.get g) = 0 →
         exec (.ackAttention rq v) s
           = .next ((s.asTaken.setFlagGroup g ⟨(s.flags g).flags, false⟩).answerDone rq []).settled))
  ∧ (∀ (s : State) (f : Flag), f.number < f.group.count →
     (∀ n, ((s.setFlag f).flags f.group).flags.getLsbD n
         = ((s.flags f.group).flags.getLsbD n || decide (n = f.number)))
     ∧ (((s.setFlag f).flags f.group).summary = true ↔
         (s.flags f.group).summary = true
         ∨ (s.flags f.group).flags.getLsbD f.number = false
           ∧ (s.params.masks.get f.group).getLsbD f.number = false)
     ∧ (∀ g, g ≠ f.group → (s.setFlag f).flags g = s.flags g)
     ∧ s.setFlag f = { s with mgmt := { s.mgmt with attention := (s.setFlag f).mgmt.attention } })

/-- CLEAR COUNTERS sets every counter of the part to 0, its own count made after the clearing, and clears nothing
else (R199). -/
def Obligations.ClearCountersClearsOnlyCounters : Prop :=
  ∀ (s : State) (rq : Request), s.Accepts rq →
    ∃ u : State, exec (.clearCounters rq) s = .next (u.answerDone rq []).settled
      ∧ (∀ p, u.net.port p = { s.net.port p with
          counters := {}, egress := { (s.net.port p).egress with counters := {} } })
      ∧ (∀ i, u.leg i = { s.leg i with voiceIn := 0, voiceOut := 0, voiceDropped := 0 })
      ∧ u = { s.asTaken with
          net := { s.net with outbye := u.net.outbye, inbye := u.net.inbye, radio := u.net.radio }
          calls := { s.calls with legs := u.calls.legs, counters := {} }
          poller := { s.poller with counters := {} }
          table := { s.table with counters := {} }
          seg := { s.seg with counters := {} }
          evac := { s.evac with counters := {} }
          supply := { s.supply with counters := {} }
          integ := { s.integ with counters := {} }
          mgmt := { s.asTaken.mgmt with counters := { requestsTaken := 1 } } }

/-- RESTART as a request (R200): refused with EVACUATING in EVACUATE, with BUSY while one is pending; accepted, it
marks the restart pending and its RESPONSE is the port's next frame, at once when the port sends nothing, ahead
of every queue otherwise; on a DOWN port the response is dropped and the restart carried out at once.
The response to a RESTART has been sent (R200): in QUIET the restart is carried out, in EVACUATE it is
abandoned, counted, with the pending mark cleared and nothing restarted: the frame is counted and the port makes
its next choice, as after any frame (R162). The order of a restart's parts is the model's reading (assumption 22). -/
def Obligations.RestartAnswersThenRestarts : Prop :=
  (∀ (s : State) (rq : Request) (own : Addr), s.nodeAddr? = some own → isSurface rq.source = true →
     let taken : State := { s with
       scratch := {}
       mgmt := { s.mgmt with
         isolated := false, isolationTimer := s.isolationRestarted
         counters := { s.mgmt.counters with requestsTaken := s.mgmt.counters.requestsTaken + 1 } } }
     let response : Frame := ⟨.mgmt, 2, 31, rq.source, own, s.net.frameSeq + 1, [rq.tag, 0, 0]⟩
     (s.evac.state = .evacuate → exec (.restart rq) s = .next (taken.answerRefused rq .evacuating).settled)
     ∧ (s.evac.state = .quiet → s.mgmt.restartPending = true →
         exec (.restart rq) s = .next (taken.answerRefused rq .busy).settled)
     ∧ (s.evac.state = .quiet → s.mgmt.restartPending = false →
         ((s.net.port rq.port).up = true →
           exec (.restart rq) s = .next ({ taken with
             mgmt := { taken.mgmt with restartPending := true }
             net := ({ s.net with frameSeq := s.net.frameSeq + 1 } : Net).setPort rq.port
               { s.net.port rq.port with egress := { (s.net.port rq.port).egress with
                 ahead := (if (s.net.port rq.port).egress.sending = none then none else some response)
                 sending := (if (s.net.port rq.port).egress.sending = none
                   then some ⟨response, response.wire rq.port s.net.straps, true⟩
                   else (s.net.port rq.port).egress.sending) } } } : State).settled)
         ∧ ((s.net.port rq.port).up = false →
           ∃ u : State, exec (.restart rq) s = .next (u.concluded s.tally)
             ∧ ({ s with net := { s.net with frameSeq := s.net.frameSeq + 1 } } : State).RestartedFrom u)))
  ∧ (∀ (s : State) (p : Port) (t : Transmission), (s.net.port p).egress.sending = some t → t.restart = true →
     (s.evac.state = .quiet →
       ∃ u : State, exec (.frameSent p) s = .next (u.concluded s.tally) ∧ s.RestartedFrom u)
     ∧ (s.evac.state = .evacuate →
       exec (.frameSent p) s = .next ({ s with
         scratch := {}
         net := (s.net.setPort p { s.net.port p with
           counters := { (s.net.port p).counters with framesSent := (s.net.port p).counters.framesSent + 1 }
           egress := { (s.net.port p).egress with sending := none } }).choose s.supply.shedLevel p
         mgmt := { s.mgmt with
           restartPending := false
           counters := { s.mgmt.counters with
             restartsAbandoned := s.mgmt.counters.restartsAbandoned + 1 } } } : State).settled))

/-! ### Field line -/

/-- A record comes due on a FREE line (R40, R41): the enabled record with the earliest due time, the lowest index
among equals, is polled: the sequence goes up, the POLL of the table of R77 goes out and is in flight for 50 ms,
and the record's next due time is an interval after it. While a poll is in flight, or with no enabled record,
nothing is due (assumption 17). -/
def Obligations.RecordDueSendsPoll : Prop :=
  ∀ s : State,
    (∀ (i : Fin 8) (d : Nat), s.poller.inFlight = none →
      (s.pollRecord i).config.enabled = true → (s.pollRecord i).due = some d →
      (∀ j e, (s.pollRecord j).config.enabled = true → (s.pollRecord j).due = some e →
        d < e ∨ d = e ∧ i.val ≤ j.val) →
      exec .recordDue s = .next ({ s.at d with poller := { s.poller with
        records := s.poller.records.set i { s.pollRecord i with
          due := some (max s.now d + (s.pollRecord i).config.interval.ms) }
        sequence := s.poller.sequence + 1
        inFlight := some ⟨i, (s.pollRecord i).config.address, s.poller.sequence + 1,
          withCheck ([1] ++ wordBytes (s.pollRecord i).config.address ++ [s.poller.sequence + 1])⟩
        replyTimer := some (max s.now d + 50)
        counters := { s.poller.counters with
          pollsSent := s.poller.counters.pollsSent + 1 } } } : State).settled)
    ∧ (s.poller.inFlight.isSome = true ∨ (∀ i, (s.pollRecord i).config.enabled = false) →
      exec .recordDue s = .next { s with scratch := {} }.settled)

/-- A line message is classified (R42): which discard counter goes up, with nothing else changed, and a message
that matches the poll in flight is taken: REPLIES TAKEN goes up and the reply timer stops or runs for another
poll. -/
def Obligations.LineMessagesClassified : Prop :=
  ∀ (s : State) (m : List Byte),
    let counted (k : PollerCounters) : State :=
      { s with scratch := {}, poller := { s.poller with counters := k } }.settled
    let bad : State := counted { s.poller.counters with badReplies := s.poller.counters.badReplies + 1 }
    let late : State := counted { s.poller.counters with lateReplies := s.poller.counters.lateReplies + 1 }
    let astray : State := counted { s.poller.counters with
      misaddressedReplies := s.poller.counters.misaddressedReplies + 1 }
    (checkGood m = false → exec (.lineMessageReceived m) s = .next bad)
    ∧ (checkGood m = true → replyOf m = none → exec (.lineMessageReceived m) s = .next bad)
    ∧ ∀ r : Reply, checkGood m = true → replyOf m = some r →
      (s.poller.inFlight = none → exec (.lineMessageReceived m) s = .next late)
      ∧ ∀ f : InFlight, s.poller.inFlight = some f →
        (r.address ≠ f.address → exec (.lineMessageReceived m) s = .next astray)
        ∧ (r.address = f.address → r.seq ≠ f.seq → exec (.lineMessageReceived m) s = .next late)
        ∧ (r.address = f.address → r.seq = f.seq →
            (r.panel.isSome = true ↔ (s.pollRecord f.index).config.kind = .gasHead) →
            exec (.lineMessageReceived m) s = .next bad)
        ∧ (r.address = f.address → r.seq = f.seq →
            (r.panel.isSome = true ↔ (s.pollRecord f.index).config.kind = .refugePanel) →
            ∃ t, exec (.lineMessageReceived m) s = .next t
              ∧ t.poller.counters.repliesTaken = s.poller.counters.repliesTaken + 1
              ∧ t.poller.counters.badReplies = s.poller.counters.badReplies
              ∧ t.poller.counters.lateReplies = s.poller.counters.lateReplies
              ∧ (t.poller.inFlight = none ∧ t.poller.replyTimer = none
                ∨ t.poller.sequence = s.poller.sequence + 1
                  ∧ t.poller.replyTimer = some (s.now + 50)))

/-- What a taken reply does to its record and its two channels (R7, R19, R20, R43, R46): the record is RESPONDING
with no misses; an OK reading is converted, smoothed and graded and its channel is LIVE; a WARMUP or FAULT
reading, or a raw count above 4095, freezes the values; a disabled channel takes nothing; panel contents are
stored with their tags cleaned; no other record, channel or panel changes. The changed channels set their flags
(R30), a change of the grades sends its notices (R29), and then a test on either channel is fed a sample, which
may end it with its RESPONSE and TEST_DONE (R33); nothing else changes but the poller.
Panel contents handed on (R46, R148 to R150): miner units alone stay in the tag list, each at its first place; the
door-open age starts at 0 with an OPEN door and a CLOSED one ends a breach; PANEL_BATTERY marks a fall to BATTERY; in
EVACUATE the new list's units become IN_REFUGE, created where they can be, those that no list holds any more NOTIFIED,
and the record's breach is tested.
The order of the sends of one event is the model's where R29 and R43 give none, and so is the tags' place before the
breach test (assumption 5), that a reply tests its own record's breach (assumption 26), and the coding of the entries'
states in a test's RESPONSE (assumption 9). -/
def Obligations.TakenReplyFeedsChannels : Prop :=
  (∀ (s : State) (m : List Byte) (r : Reply) (f : InFlight), checkGood m = true → replyOf m = some r →
       s.poller.inFlight = some f → r.address = f.address → r.seq = f.seq →
       (r.panel.isSome = true ↔ (s.pollRecord f.index).config.kind = .refugePanel) →
       ∃ u : State, exec (.lineMessageReceived m) s = .next (u.concluded s.tally)
         ∧ u.pollRecord f.index = { s.pollRecord f.index with
             state := .responding, misses := 0, due := (u.pollRecord f.index).due }
         ∧ (∀ j, j ≠ f.index → (u.pollRecord j).config = (s.pollRecord j).config
             ∧ (u.pollRecord j).state = (s.pollRecord j).state
             ∧ (u.pollRecord j).misses = (s.pollRecord j).misses)
         ∧ (∀ c reading, (c = firstChannel f.index ∧ reading = r.first
               ∨ c = secondChannel f.index ∧ reading = r.second) →
             let x := s.channel c
             let g := x.record.gas
             let v := if reading.raw.toNat ≤ x.record.offset then 0
               else min g.fullScale (((reading.raw.toNat - x.record.offset) * x.record.gain + 512) / 1024)
             let a := smooth x.record.shift x.average v
             let high (y : Channel) : Grade := highestSet y.alert y.alarm y.trip
             (x.record.enabled = false → u.channel c = { x with test := (u.channel c).test })
             ∧ (x.record.enabled = true → reading.status = .ok → reading.raw.toNat ≤ 4095 →
                 u.channel c = { x with
                   lastStatus := some .ok, staleMark := false
                   staleTimer := some (s.now + x.record.stale.ms)
                   value := v, average := some a
                   alert := x.record.alert.judge g.direction false a x.alert
                   alarm := x.record.alarm.judge g.direction false a x.alarm
                   trip := x.record.trip.judge g.direction true a x.trip
                   state := .live, effective := high (u.channel c)
                   test := (u.channel c).test })
             ∧ (x.record.enabled = true → reading.status = .warmup → reading.raw.toNat ≤ 4095 →
                 u.channel c = { x with
                   lastStatus := some .warmup, staleMark := false
                   staleTimer := some (s.now + x.record.stale.ms)
                   state := .warming, effective := Grade.higher .alert (high x)
                   test := (u.channel c).test })
             ∧ (x.record.enabled = true → (reading.status = .fault ∨ 4095 < reading.raw.toNat) →
                 u.channel c = { x with
                   lastStatus := some .fault, staleMark := false
                   staleTimer := some (s.now + x.record.stale.ms)
                   state := .fault, effective := Grade.higher x.record.faultAction.grade (high x)
                   test := (u.channel c).test }))
         ∧ (let first := firstChannel f.index
            let second := secondChannel f.index
            let untested (c : Fin 16) : Channel := { u.channel c with test := (s.channel c).test }
            let heard : State := ({ s with scratch := {} } : State).learn r.address .fieldHere
            let graded : State := ((heard.channelSet first (untested first)).channelSet second
              (untested second)).regraded
            let told : State := graded.handPanel f.index r.panel
            u = { (told.testFed first).testFed second with poller := u.poller })
         ∧ (∀ c, pollOf c ≠ f.index → u.channel c = s.channel c)
         ∧ u.air.zone = u.zoneNow ∧ u.air.refuge = u.refugeNow
         ∧ (∀ p, r.panel = some p → (u.panel f.index).filled = true ∧ (u.panel f.index).door = p.door
             ∧ (u.panel f.index).occupancy = p.occupancy ∧ (u.panel f.index).tags = cleanTags p.tags
             ∧ (u.panel f.index).supply = p.supply)
         ∧ (∀ j, j ≠ f.index → (u.panel j).tags = (s.panel j).tags ∧ (u.panel j).door = (s.panel j).door
             ∧ (u.panel j).doorAge = (s.panel j).doorAge)
         ∧ u.supply = s.supply ∧ u.integ = s.integ ∧ u.mgmt.parameters = s.mgmt.parameters)
  ∧ (∀ (s : State) (i : Fin 8) (c : PanelContents),
     let old := s.panel i
     let record : Panel :=
       { filled := true, door := c.door, occupancy := c.occupancy, tags := (c.tags.filter isMiner).eraseDups
         supply := c.supply
         doorAge := if c.door = .opened ∧ old.door = .opened then old.doorAge else 0
         breach := old.breach && c.door == .opened }
     let stored : State := { s with evac := { s.evac with panels := s.evac.panels.set i record } }
     let lit : State :=
       if c.supply = .battery ∧ (old.supply = .mains ∨ old.filled = false) then stored.setFlag Flag.panelBattery
       else stored
     s.handPanel i none = s
     ∧ cleanTags c.tags = record.tags
     ∧ (s.evac.state = .quiet → s.handPanel i (some c) = lit)
     ∧ (s.evac.state = .evacuate → s.table.entries.Pairwise (fun a b => a.address.toNat < b.address.toNat) →
         s.handPanel i (some c)
           = (old.tags.foldl State.taggedOut (record.tags.foldl State.taggedIn lit)).breachTested i))

/-- The reply timer's expiry ends the poll in flight in a miss (R44): the count goes up, stopping at 255; three
misses put the record in SILENT and its enabled channels in FAULT (R22); no reading is handed on, and until the
record becomes SILENT nothing but the poller and the channels' tests changes. The channels that go into FAULT set
their flags (R30), a change of the grades sends its notices (R29), and then a test on either channel is fed a
sample, which may end it with its RESPONSE and TEST_DONE (R33); nothing else changes but the poller. A new zone
grade goes to the segment arbiter first (assumption 5); the coding of the entries' states in a test's RESPONSE is
assumption 9. -/
def Obligations.MissedRepliesMakeSilent : Prop :=
  ∀ (s : State) (f : InFlight) (d : Nat), s.poller.inFlight = some f → s.poller.replyTimer = some d →
    let old := s.pollRecord f.index
    let n := min 255 (old.misses + 1)
    ∃ u : State, exec .replyTimerExpiry s = .next (u.concluded s.tally)
      ∧ u.now = max s.now d
      ∧ u.pollRecord f.index = { old with
          misses := n, state := if 3 ≤ n then .silent else old.state, due := (u.pollRecord f.index).due }
      ∧ u.poller.counters.pollMisses = s.poller.counters.pollMisses + 1
      ∧ (u.poller.inFlight = none ∧ u.poller.replyTimer = none
        ∨ u.poller.sequence = s.poller.sequence + 1 ∧ u.poller.replyTimer = some (max s.now d + 50))
      ∧ (∀ j, j ≠ f.index → (u.pollRecord j).config = (s.pollRecord j).config
          ∧ (u.pollRecord j).state = (s.pollRecord j).state
          ∧ (u.pollRecord j).misses = (s.pollRecord j).misses)
      ∧ (∀ c, (u.channel c).value = (s.channel c).value ∧ (u.channel c).average = (s.channel c).average
          ∧ (u.channel c).trip = (s.channel c).trip ∧ (u.channel c).staleTimer = (s.channel c).staleTimer)
      ∧ (∀ c, pollOf c = f.index → (s.channel c).record.enabled = true → 3 ≤ n → old.state ≠ .silent →
          (u.channel c).state = .fault)
      ∧ (let first := firstChannel f.index
         let second := secondChannel f.index
         let gone (c : Fin 16) : Channel :=
           let x := s.channel c
           if x.record.enabled then { x with
             state := .fault
             effective := Grade.higher x.record.faultAction.grade (highestSet x.alert x.alarm x.trip) }
           else { x with state := .off, effective := .normal }
         let told : State := if 3 ≤ n ∧ old.state ≠ .silent then
             (((s.at d).channelSet first (gone first)).channelSet second (gone second)).regraded
           else s.at d
         u = { (told.testFed first).testFed second with poller := u.poller })
      ∧ (3 ≤ n ∧ old.state ≠ .silent ∨ u.table = s.table ∧ u.calls = s.calls ∧ u.seg = s.seg
          ∧ u.evac = s.evac ∧ u.air.zone = s.air.zone ∧ u.air.refuge = s.air.refuge)
      ∧ u.supply = s.supply ∧ u.integ = s.integ ∧ u.mgmt.parameters = s.mgmt.parameters

/-! ### Station table -/

/-- The age tick (R63, R64): every age goes up, stopping at 65535; an entry whose age reaches its location's
timeout is removed when it is removable, and otherwise is at UNKNOWN; AGED OUT counts the removals; the table
keeps its other parts. The arbiter follows those that leave RADIO_HERE (R133, R134): while the holder is there, each
miner unit that leaves is one PROXIMITY notice to the holder with the new count. -/
def Obligations.AgeTickRemovesOrForgets : Prop :=
  ∀ s : State, s.table.entries.Pairwise (fun a b => a.address.toNat < b.address.toNat) →
    let reached (e : Entry) : Bool := decide ((match e.location with
        | .radioHere => s.params.presence.ms
        | .fieldHere => s.params.presence.ms
        | .viaOutbye => s.params.route.ms
        | .viaInbye => s.params.route.ms
        | .unknown => s.params.route.ms) ≤ min 65535 (e.age + 1) * 1000)
    let removed (e : Entry) : Bool := reached e && !e.pinned && !s.referenced e.address
      && !(s.evac.state == .evacuate && e.mark != .none)
    ∃ u : State, exec .ageTick s = .next (u.concluded s.tally)
      ∧ u.table = { s.table with
          ageTick := max s.now s.table.ageTick + 1000
          entries := (s.table.entries.filter (fun e => !removed e)).map (fun e => { e with
            age := min 65535 (e.age + 1)
            location := if reached e then .unknown else e.location })
          counters := { s.table.counters with
            agedOut := s.table.counters.agedOut
              + BitVec.ofNat 32 (s.table.entries.countP removed) } }
      ∧ u.now = max s.now s.table.ageTick
      ∧ u.air = s.air ∧ u.calls = s.calls ∧ u.evac = s.evac ∧ u.poller = s.poller ∧ u.supply = s.supply
      ∧ u.integ = s.integ ∧ u.mgmt = s.mgmt ∧ u.seg.state = s.seg.state ∧ u.seg.holder = s.seg.holder
      ∧ u.seg.queue = s.seg.queue ∧ u.seg.lease = s.seg.lease ∧ u.seg.causes = s.seg.causes
      ∧ (s.PopulationFollowed →
        let leaving : List Entry := s.table.entries.filter (fun e =>
          isMiner e.address && e.location == .radioHere && reached e)
        let near : Prop := s.nodeAddr?.isSome = true ∧ s.seg.holderHere = true
        u.seg = { s.seg with
          minerCount := s.seg.minerCount - leaving.length
          holderHere := s.seg.holderHere
            && !s.table.entries.any (fun e => s.seg.heldBy e.address && reached e)
          counters := { s.seg.counters with proximityNotices := s.seg.counters.proximityNotices
            + (if near then BitVec.ofNat 32 leaving.length else 0) } }
        ∧ (¬ near → u.net = s.net)
        ∧ ∀ h, near → s.seg.holder = some h →
          u.net = (leaving.zipIdx.foldl (fun t x => t.originate
            ⟨.proximity, h.vehicle, [byteOf (s.seg.minerCount - 1 - x.2)]⟩) s).net)

/-- A creation in a full table evicts the removable entry of greatest age, the lowest address among equals
(R57); with none removable it fails, counted and flagged, and changes nothing else (R58); and outside
evacuation, with the promises the table, the legs and the segment keep, some entry is always removable. With room
the new entry stands alone beside the others, pinned as R61 has it.
The learn step of the walk (R51 to R54, R80): the node's own address teaches nothing; an address without an entry is
created; an ordinary frame moves its source's entry to the arrival's location with age 0, unless it is a backbone
frame of a fresh RADIO_HERE entry (R53); an ANNOUNCE that names another attach node than the entry holds moves it
regardless and records that node; and one that names another node than this clears the unit's legs (R113). A miner
newly at RADIO_HERE in EVACUATE is sent its notice (R144), a watched station its LOCATE REPORT (R68).
The hand-offs (R55): a station that comes to RADIO_HERE, new or moved, is handed to the evacuation controller, the
arbiter and the watch check, one that leaves it, moved or evicted, to the arbiter; nothing else of the machine changes.
A heard frame (R80, R113, R185) is learned, the legs of a unit that announces another node are cleared with MOVED, the
heard-from notice is given, and a surface station's MGMT or ALARM frame ends isolation. The order of
what one learn step sends is the model's choice (assumption 5). -/
def Obligations.FullTableEvictsOrFails : Prop :=
  (∀ (s : State), s.table.entries.Pairwise (fun a b => a.address.toNat < b.address.toNat) →
    s.table.entries.length = 128 →
    (∀ (a : Addr) (l : Location) (t : Option Addr) (v : Entry), s.nodeAddr? ≠ some a → s.entry? a = none →
      v ∈ s.table.entries → s.removable v = true →
      (∀ e ∈ s.table.entries, s.removable e = true →
        e.age < v.age ∨ e.age = v.age ∧ v.address.toNat ≤ e.address.toNat) →
      (s.createEntry a l t).entry? v.address = none
      ∧ (∀ b, b ≠ a → b ≠ v.address → (s.createEntry a l t).entry? b = s.entry? b)
      ∧ (∃ e, (s.createEntry a l t).entry? a = some e ∧ e.location = l ∧ e.age = 0 ∧ e.mark = .none
          ∧ e.attach = t)
      ∧ (s.createEntry a l t).table.counters.evictions = s.table.counters.evictions + 1
      ∧ (s.createEntry a l t).table.counters.stationsLearned = s.table.counters.stationsLearned + 1)
    ∧ (∀ (a : Addr) (l : Location) (t : Option Addr), s.nodeAddr? ≠ some a →
      (∀ e ∈ s.table.entries, s.removable e = false) →
      s.createEntry a l t = ({ s with table := { s.table with counters := { s.table.counters with
        learnFailures := s.table.counters.learnFailures + 1 } } } : State).setFlag Flag.learnFail)
    ∧ (s.evac.state = .quiet → pinnedCount s.table.entries ≤ 104 → s.seg.queue.length ≤ 4 →
      ∃ e ∈ s.table.entries, s.removable e = true))
  ∧ (∀ (s : State) (a : Addr) (l : Location) (t : Option Addr),
    s.table.entries.Pairwise (fun a b => a.address.toNat < b.address.toNat) →
    (s.nodeAddr? = some a → s.createEntry a l t = s)
    ∧ (s.nodeAddr? ≠ some a → s.entry? a = none → s.table.entries.length < 128 →
      let u := s.createEntry a l t
      let inWindow : Bool := s.table.pins.toList.any (fun w => w.valid && (a &&& w.mask == w.base &&& w.mask))
      u.entry? a = some { address := a, location := l, age := 0, mark := .none, attach := t
                          pinned := inWindow && decide (s.table.entries.countP (fun e => e.pinned) < 104) }
      ∧ (∀ b, b ≠ a → u.entry? b = s.entry? b)
      ∧ u.table.entries.length = s.table.entries.length + 1
      ∧ u.table.counters.stationsLearned = s.table.counters.stationsLearned + 1
      ∧ u.table.counters.evictions = s.table.counters.evictions))
  ∧ (∀ (s : State) (p : Port) (f : Frame),
    s.table.entries.Pairwise (fun a b => a.address.toNat < b.address.toNat) →
    let u := s.heard p f
    let l : Location := match p with
      | .radio => .radioHere
      | .outbye => .viaOutbye
      | .inbye => .viaInbye
    let watched : Prop := p = .radio ∧ s.nodeAddr?.isSome = true
      ∧ ∃ i : Fin 4, s.table.watches[i].enabled = true ∧ s.table.watches[i].address = f.src
    let arrived (e : Entry) : Counter := if p = .radio ∧ e.location ≠ .radioHere ∧ isMiner f.src = true
      ∧ s.evac.state = .evacuate ∧ e.mark = .none ∧ s.nodeAddr?.isSome = true then 1 else 0
    let moved (e : Entry) (attach : Option Addr) : Prop :=
      u.table = { s.table with
        entries := s.table.entries.map (fun x => if x.address = f.src then
          { x with location := l, age := 0, attach := attach } else x)
        counters := { s.table.counters with locateReports := s.table.counters.locateReports
          + (if watched ∧ e.location ≠ .radioHere then 1 else 0) } }
      ∧ u.evac = { s.evac with counters := { s.evac.counters with
          noticesSent := s.evac.counters.noticesSent + arrived e } }
    let learned : Prop := ∀ e, s.entry? f.src = some e →
      (p ≠ .radio ∧ e.location = .radioHere ∧ e.age * 1000 < s.params.presence.ms →
        u.table = s.table ∧ u.evac = s.evac)
      ∧ (p = .radio ∨ e.location ≠ .radioHere ∨ s.params.presence.ms ≤ e.age * 1000 → moved e e.attach)
    (s.nodeAddr? = some f.src → s.entry? f.src = none → u.table = s.table ∧ u.evac = s.evac)
    ∧ (f.kind? ≠ some .announce ∨ f.payload.length ≠ 4 →
      (s.entry? f.src = none → u.table = (s.createEntry f.src l none).table) ∧ learned ∧ u.calls = s.calls)
    ∧ ∀ unit attach : Addr, f.kind? = some .announce → f.payload = wordBytes unit ++ wordBytes attach →
      (¬ (unit = f.src ∧ (isMiner f.src = true ∨ isVehicle f.src = true) ∧ isNode attach = true) →
        (s.entry? f.src = none → u.table = (s.createEntry f.src l none).table) ∧ learned ∧ u.calls = s.calls)
      ∧ (unit = f.src → (isMiner f.src = true ∨ isVehicle f.src = true) → isNode attach = true →
        (s.entry? f.src = none → u.table = (s.createEntry f.src l (some attach)).table)
        ∧ ((∀ e, s.entry? f.src = some e → e.attach = some attach) → learned)
        ∧ (∀ e, s.entry? f.src = some e → e.attach ≠ some attach → moved e (some attach))
        ∧ (s.nodeAddr? = some attach → u.calls = s.calls)
        ∧ (s.nodeAddr? ≠ some attach →
          (∀ i, (s.leg i).localParty = f.src → (u.leg i).state = .idle)
          ∧ (∀ i, (s.leg i).localParty = f.src → (s.leg i).state ≠ .idle →
              (u.leg i).lastCause = some .moved ∧ i ∉ u.calls.startList)
          ∧ (∀ i, (s.leg i).localParty ≠ f.src →
              (∀ j, (s.leg j).localParty = f.src → (s.leg j).state ≠ .idle → (s.leg j).partner ≠ some i) →
              u.leg i = s.leg i)
          ∧ u.calls.counters = s.calls.counters ∧ u.calls.permits = s.calls.permits)))
  ∧ (∀ (s : State) (own : Addr) (e : Entry) (l : Location) (attach : Option Addr),
    s.table.entries.Pairwise (fun a b => a.address.toNat < b.address.toNat) → s.nodeAddr? = some own →
    let a := e.address
    let code : Byte := match e.location with
      | .radioHere => 0
      | .fieldHere => 1
      | .viaOutbye => 2
      | .viaInbye => 3
      | .unknown => 4
    let fresh : Prop := (l = .viaOutbye ∨ l = .viaInbye) ∧ e.location = .radioHere
      ∧ e.age * 1000 < s.params.presence.ms
    let moved (x : Entry) (r : State) : Prop :=
      let t : State := { s with table := { s.table with
        entries := s.table.entries.map (fun y => if y.address = a then x else y) } }
      (l = .radioHere → e.location ≠ .radioHere → r = t.cameToRadio own x code)
      ∧ (l ≠ .radioHere → e.location = .radioHere → r = t.leftRadio a)
      ∧ ((l = .radioHere ↔ e.location = .radioHere) → r = t)
    (s.entry? a = some e →
      (fresh → s.learn a l = s)
      ∧ (¬ fresh → moved { e with location := l, age := 0 } (s.learn a l))
      ∧ ∀ n : Addr,
        (e.attach = some n → s.learnAnnounce a l n = s.learn a l)
        ∧ (e.attach ≠ some n →
            moved { e with location := l, age := 0, attach := some n } (s.learnAnnounce a l n)))
    ∧ (s.entry? a = none →
      s.learn a l = s.createEntry a l none ∧ ∀ n, s.learnAnnounce a l n = s.createEntry a l (some n))
    ∧ (s.entry? a = none → a ≠ own → s.table.entries.length < 128 →
      let x : Entry :=
        { address := a, location := l, age := 0, mark := .none, attach := attach
          pinned := s.table.pins.toList.any (fun w => w.valid && (a &&& w.mask == w.base &&& w.mask))
            && decide (s.table.entries.countP (fun y => y.pinned) < 104) }
      let t : State := { s with table := { s.table with
        entries := s.table.entries.filter (fun y => decide (y.address.toNat < a.toNat)) ++ [x]
          ++ s.table.entries.filter (fun y => decide (a.toNat < y.address.toNat))
        counters := { s.table.counters with stationsLearned := s.table.counters.stationsLearned + 1 } } }
      s.createEntry a l attach = if l = .radioHere then t.cameToRadio own x 5 else t)
    ∧ (∀ (b : Addr) (t : Option Addr), e ∈ s.table.entries → s.entry? b = none → b ≠ own →
      s.table.entries.length = 128 → s.removable e = true →
      (∀ y ∈ s.table.entries, s.removable y = true →
        y.age < e.age ∨ y.age = e.age ∧ a.toNat ≤ y.address.toNat) →
      let v : State := { s with table := { s.table with
        entries := s.table.entries.filter (fun y => y.address != a)
        counters := { s.table.counters with evictions := s.table.counters.evictions + 1 } } }
      s.createEntry b l t = (if e.location = .radioHere then v.leftRadio a else v).createEntry b l t))
  ∧ (∀ (s : State) (p : Port) (f : Frame),
    let l : Location := match p with
      | .radio => .radioHere
      | .outbye => .viaOutbye
      | .inbye => .viaInbye
    let surfaced (t : State) : State :=
      if isSurface f.src = true ∧ (f.cls = .mgmt ∨ f.cls = .alarm) then { t with mgmt := { t.mgmt with
        isolated := false, isolationTimer := t.isolationRestarted } }
      else t
    let after (t : State) : Prop := s.heard p f = surfaced (t.heardFrom f.src)
    (f.kind? ≠ some .announce ∨ f.payload.length ≠ 4 → after (s.learn f.src l))
    ∧ ∀ unit attach : Addr, f.kind? = some .announce → f.payload = wordBytes unit ++ wordBytes attach →
      let taken : Prop := unit = f.src ∧ (isMiner f.src = true ∨ isVehicle f.src = true) ∧ isNode attach = true
      (¬ taken → after (s.learn f.src l))
      ∧ (taken → s.nodeAddr? = some attach → after (s.learnAnnounce f.src l attach))
      ∧ (taken → s.nodeAddr? ≠ some attach →
        after (legIndices.foldl (fun t i =>
          if (t.leg i).localParty = f.src then t.clearLeg i .moved .node else t) (s.learnAnnounce f.src l attach))))

/-! ### Frames and ports -/

/-- A received frame (R78, R79): a DOWN port takes nothing (R90); otherwise it is counted and checked for length,
check, class and addresses in this order, and the first check that fails drops it, counted, with nothing else
changed; an accepted radio frame whose via node is neither 0 nor this node's is dropped without a counter unless
it is an ANNOUNCE, an SOS or an EVAC ACK; any other accepted frame goes on through the walk. -/
def Obligations.FrameArrivalChecksInOrder : Prop :=
  ∀ (s : State) (p : Port) (m : List Byte),
    let h : Nat := if p = .radio then 9 else 8
    let n : Nat := (m.getD (h - 1) 0).toNat
    let src : Addr := wordOf (m.getD 4 0) (m.getD 5 0)
    let dest : Addr := wordOf (m.getD 2 0) (m.getD 3 0)
    let k := (s.net.port p).counters
    let counted (k : PortCounters) : State :=
      { s with scratch := {}, net := s.net.setPort p { s.net.port p with counters := k } }
    ((s.net.port p).up = false → exec (.frameReceived p m) s = .next { s with scratch := {} }.settled)
    ∧ ((s.net.port p).up = true →
      (¬ (h + 2 ≤ m.length ∧ n ≤ 120 ∧ m.length = h + n + 2) →
        exec (.frameReceived p m) s = .next (counted { k with
          framesReceived := k.framesReceived + 1, lengthErrors := k.lengthErrors + 1 }).settled)
      ∧ (h + 2 ≤ m.length ∧ n ≤ 120 ∧ m.length = h + n + 2 →
        (m.drop (m.length - 2) ≠ wordBytes (crc (m.take (m.length - 2))) →
          exec (.frameReceived p m) s = .next (counted { k with
            framesReceived := k.framesReceived + 1, checkErrors := k.checkErrors + 1 }).settled)
        ∧ (m.drop (m.length - 2) = wordBytes (crc (m.take (m.length - 2))) →
          ((m.getD 0 0).toNat / 32 = 6 ∨ (m.getD 0 0).toNat / 32 = 7 →
            exec (.frameReceived p m) s = .next (counted { k with
              framesReceived := k.framesReceived + 1, classErrors := k.classErrors + 1 }).settled)
          ∧ ∀ c : TrafficClass, c.code.toNat = (m.getD 0 0).toNat / 32 →
            let f : Frame := ⟨c, (m.getD 0 0).extractLsb' 0 5, (m.getD 1 0).extractLsb' 3 5, dest, src,
              m.getD (h - 2) 0, (m.drop h).take n⟩
            let accepted : State := counted { k with
              framesReceived := k.framesReceived + 1, framesAccepted := k.framesAccepted + 1 }
            let astray : Prop := p = .radio ∧ m.getD 6 0 ≠ 0
              ∧ s.nodeAddr? ≠ some ((m.getD 6 0).setWidth 16)
              ∧ ¬ (c = .signal ∧ (f.kind = 1 ∨ f.kind = 14) ∨ c = .alarm ∧ f.kind = 2)
            ((stationKind src).isNone = true ∨ dest ≠ 0xFFFF ∧ (stationKind dest).isNone = true →
              exec (.frameReceived p m) s = .next (counted { k with
                framesReceived := k.framesReceived + 1, addressErrors := k.addressErrors + 1 }).settled)
            ∧ ((stationKind src).isSome = true → (dest = 0xFFFF ∨ (stationKind dest).isSome = true) →
              (astray → exec (.frameReceived p m) s = .next accepted.settled)
              ∧ (¬ astray → exec (.frameReceived p m) s
                  = .next (((accepted.heard p f).hopped p f).concluded s.tally))))))

/-- The walk after the learn and heard-from step (R81 to R84): the hop count is one less from the backbone, where
0 stays 0, and 31 from the radio; a frame left with hop count 0 is counted; an alarm whose key the relay list
holds is a duplicate, dropped and counted; a frame of the node's own is dropped and counted; another alarm's key
enters the list at the young end, the oldest of sixteen giving way; and the leg table is offered the frame, which goes
on to the destination decision when it passes and no further when it is held (R85). A frame that is no call frame, or
does not fit its kind, passes and changes nothing (R96).
The destination decision (R86, R88, R89): a frame for this node alone is delivered and queued nowhere; for any
other, which queues take it, and which counter goes up when none does; that FIELD DISCARDS does with hop count 0 too
is assumption 31. A broadcast is delivered here first (assumption 5), and one with no port to go out of counts NO
ROUTE where its copy fails the payload checks and is so not delivered (R87; that a copy without an owner counts as
delivered is assumption 24).
Local delivery (R76, R87): the kinds of each class by their codes; an unknown kind, a payload that does not fit its
kind (the reading of R76's table is assumption 16) and a kind with no owner are each discarded and counted at the
arrival port; VOICE, ANNOUNCE and call signalling need nothing more; a BEACON is counted, as a foreign one where
its source is no surface station (R189), and a node without an address discards it (R91). -/
def Obligations.WalkForwardsFrames : Prop :=
  (∀ (s : State) (p : Port) (f : Frame),
     let g : Frame := { f with hop := match p with
       | .radio => 31
       | _ => if f.hop = 0 then 0 else f.hop - 1 }
     let e : State := if g.hop = 0 then
         s.countPort p (fun k => { k with hopExpired := k.hopExpired + 1 }) else s
     let held : Prop := ∃ x ∈ s.net.relay, x.origin = f.src ∧ x.seq = f.seq
     (f.cls = .alarm → held →
       s.hopped p f = e.countPort p (fun k => { k with duplicateAlarms := k.duplicateAlarms + 1 }))
     ∧ (f.cls ≠ .alarm ∨ ¬ held → s.nodeAddr? = some f.src →
       s.hopped p f = e.countPort p (fun k => { k with ownReturns := k.ownReturns + 1 }))
     ∧ (f.cls = .alarm → ¬ held → s.nodeAddr? ≠ some f.src →
       s.hopped p f = ({ e with net := { e.net with relay :=
         (if s.net.relay.length < 16 then s.net.relay else s.net.relay.drop 1) ++ [⟨f.src, f.seq, 0⟩] } } :
           State).inspected p g)
     ∧ (f.cls ≠ .alarm → s.nodeAddr? ≠ some f.src → s.hopped p f = e.inspected p g))
  ∧ (∀ (s : State) (p : Port) (f : Frame), s.nodeAddr? ≠ some f.dest →
     let out (s : State) (ports : List Port) : State :=
       { s with net := ports.foldl (fun n q => n.offer s.supply.shedLevel q f) s.net }
     let backbone (s : State) : List Port :=
       [Port.outbye, .inbye].filter (fun q => (s.net.port q).up && q != p)
     let via (q : Port) : State :=
       if f.hop = 0 then s
       else if p = q then s.countPort p (fun k => { k with hairpins := k.hairpins + 1 })
       else if (s.net.port q).up then out s [q]
       else s.countPort q (fun k => { k with downDrops := k.downDrops + 1 })
     let flood : State :=
       if f.hop = 0 then s
       else if backbone s = [] then s.countPort p (fun k => { k with noRoute := k.noRoute + 1 })
       else out s (backbone s)
     (f.dest = broadcast →
       let d := s.deliver p f
       let ports := backbone d ++ (if (f.cls = .alarm ∨ f.isKind .evacNotice = true) ∧ p ≠ .radio
         then [.radio] else [])
       let delivered : Prop := ∃ k, f.kind? = some k ∧ k.takesPayload f.payload
       (f.hop = 0 → s.dispose p f = d)
       ∧ (f.hop ≠ 0 → ports ≠ [] ∨ delivered → s.dispose p f = out d ports)
       ∧ (f.hop ≠ 0 → ports = [] → ¬ delivered →
           s.dispose p f = d.countPort p (fun k => { k with noRoute := k.noRoute + 1 })))
     ∧ (f.dest ≠ broadcast → s.entry? f.dest = none → s.dispose p f = flood)
     ∧ ∀ e, f.dest ≠ broadcast → s.entry? f.dest = some e →
       (e.location = .radioHere → s.dispose p f = if f.hop = 0 then s else out s [.radio])
       ∧ (e.location = .fieldHere →
           s.dispose p f = s.countPort p (fun k => { k with fieldDiscards := k.fieldDiscards + 1 }))
       ∧ (e.location = .viaOutbye → s.dispose p f = via .outbye)
       ∧ (e.location = .viaInbye → s.dispose p f = via .inbye)
       ∧ (e.location = .unknown → s.dispose p f = flood))
  ∧ (∀ (s : State) (p : Port) (f : Frame),
     let coded : Option FrameKind := if f.kind = 0 then none else (kindsIn f.cls)[f.kind.toNat - 1]?
     let foreign : State := { s with mgmt := { s.mgmt with counters := { s.mgmt.counters with
       foreignMgmt := s.mgmt.counters.foreignMgmt + 1 } } }
     let beacon : State := { s with mgmt := { s.mgmt with counters := { s.mgmt.counters with
       beacons := s.mgmt.counters.beacons + 1 } } }
     (s.nodeAddr? = some f.dest → s.dispose p f = s.deliver p f)
     ∧ f.kind? = coded
     ∧ (coded = none → s.deliver p f = s.countPort p (fun k => { k with unknownKinds := k.unknownKinds + 1 }))
     ∧ ∀ k, coded = some k →
       (¬ k.takesPayload f.payload →
         s.deliver p f = s.countPort p (fun k => { k with payloadErrors := k.payloadErrors + 1 }))
       ∧ (k.takesPayload f.payload →
         (k ∈ [FrameKind.refugeBreach, .refugeAir, .grant, .wait, .refuseEntry, .withdraw, .proximity, .evacNotice,
             .musterReport, .airReport, .vehicleTelemetry, .unitTelemetry, .response, .nodeStatus,
             .locateReport] →
           s.deliver p f = s.countPort p (fun k => { k with noOwner := k.noOwner + 1 }))
         ∧ (k ∈ [FrameKind.voice, .announce, .callSetup, .callAlerting, .callAnswer, .callClear] →
           s.deliver p f = s)
         ∧ (k = .beacon →
           (s.nodeAddr? = none → s.deliver p f = s)
           ∧ (s.nodeAddr?.isSome = true → isSurface f.src = true → s.deliver p f = beacon)
           ∧ (s.nodeAddr?.isSome = true → isSurface f.src = false → s.deliver p f = foreign))))
  ∧ (∀ (s : State) (p : Port) (f : Frame),
     s.inspected p f = (if (s.inspect p f).2 then (s.inspect p f).1.dispose p f else (s.inspect p f).1)
     ∧ ((∀ k ∈ [FrameKind.voice, .callSetup, .callAlerting, .callAnswer, .callClear], f.kind? = some k →
           ¬ k.takesPayload f.payload) → s.inspect p f = (s, true)))

/-- A frame is offered to its class queue (R159, R160): an AIR frame replaces the queued one of its source in
place; otherwise it joins the young end when there is room; a full ALARM, VOICE or TELEM queue gives up its
oldest frame, a full SIGNAL, AIR or MGMT queue drops the new one, and either is one QUEUE DROP of the class. The
frame in transmission, the other queues and the plan are not touched. -/
def Obligations.QueuePolicies : Prop :=
  ∀ (e : Egress) (f : Frame),
    let cap : Nat := match f.cls with
      | .voice => 16
      | .mgmt => 4
      | _ => 8
    let q := e.queues.get f.cls
    let queued (l : List Frame) (k : EgressCounters) : Egress :=
      { e with queues := e.queues.set f.cls l, counters := k }
    let dropped : EgressCounters := { e.counters with drops := e.counters.drops.bump f.cls }
    (∀ l x r, f.cls = .air → q = l ++ x :: r → x.src = f.src → (∀ y ∈ l, y.src ≠ f.src) →
      e.enqueue f = queued (l ++ f :: r) { e.counters with replacements := e.counters.replacements + 1 })
    ∧ (f.cls ≠ .air ∨ (∀ y ∈ q, y.src ≠ f.src) →
      (q.length < cap → e.enqueue f = queued (q ++ [f]) e.counters)
      ∧ (cap ≤ q.length →
        (f.cls = .alarm ∨ f.cls = .voice ∨ f.cls = .telem →
          e.enqueue f = queued (q.tail ++ [f]) dropped)
        ∧ (f.cls = .signal ∨ f.cls = .air ∨ f.cls = .mgmt → e.enqueue f = queued q dropped)))

/-- The plan search (R163): from the port's place it takes the first of at most 32 entries that names a class with
frames queued that is not skipped (TELEM is, from shed level 1 on), and leaves the port after that entry with
every wrap crossed on the way kept; a fruitless search leaves the port as it was. A wrap takes the pending bank
and position 0; END wraps, and so does index 31. -/
def Obligations.PlanSearchServesInPlanOrder : Prop :=
  ∀ (banks : Banks) (shed : Nat) (q : Queues) (x : PlanPlace),
    let wrapped (x : PlanPlace) : PlanPlace := ⟨x.pending.getD x.active, 0, none⟩
    let after (x : PlanPlace) : PlanPlace :=
      if x.position.val = 31 then wrapped x else { x with position := x.position + 1 }
    let next (x : PlanPlace) : PlanPlace :=
      if banks.entry x.active x.position = .stop then wrapped x else after x
    let serves (x : PlanPlace) (c : TrafficClass) : Prop :=
      (banks.entry x.active x.position).serves = some c ∧ q.get c ≠ [] ∧ ¬ (c = .telem ∧ 1 ≤ shed)
    (planSearch banks shed q 32 x = none ↔ ∀ k < 32, ∀ c, ¬ serves (next^[k] x) c)
    ∧ (∀ c y, planSearch banks shed q 32 x = some (c, y) ↔
        ∃ k < 32, serves (next^[k] x) c ∧ (∀ j < k, ∀ d, ¬ serves (next^[j] x) d)
          ∧ y = after (next^[k] x))
    ∧ (∀ (e : Egress) (p : Port) (via : Byte), e.sending = none → e.ahead = none → e.queues.alarm = [] →
        planSearch banks shed e.queues 32 ⟨e.active, e.position, e.pendingBank⟩ = none →
        e.choose banks shed p via = e)

/-- A port finishes sending (R162, R200): the frame is counted and the free port sends a waiting RESTART response
first, then its oldest alarm, then what its plan search finds, and otherwise is idle. A report with nothing in
transmission does nothing (assumption 17).
A frame offered to a port (R159, R160, R162): a free port makes its choice when the frame is queued on it, and none
when a full SIGNAL, AIR or MGMT queue drops the frame. That an AIR report which replaces a queued one is queued is
the model's reading (assumption 28). A busy port's choice changes nothing.
The bytes of a frame on a port (R72 to R74): on the radio hop count 0 and the via node, on the backbone neither.
A frame that the node originates (R83, R91, R190): none without an address; else its source is this node, its hop count
31, its sequence the next of its class's counter, an alarm entering the relay list first; it goes by the destination
decision with no arrival port, which counts nothing but a DOWN port's drop, or to the port its block names. -/
def Obligations.FrameSentMakesNextChoice : Prop :=
  (∀ (s : State) (p : Port),
    let x := s.net.port p
    let e := x.egress
    let sent (e : Egress) : State := ({ s with
      scratch := {}
      net := s.net.setPort p { x with
        counters := { x.counters with framesSent := x.counters.framesSent + 1 }, egress := e } } :
          State).settled
    let out (f : Frame) (restart : Bool) : Option Transmission := some ⟨f, f.wire p s.net.viaByte, restart⟩
    (e.sending = none → exec (.frameSent p) s = .next { s with scratch := {} }.settled)
    ∧ ∀ t : Transmission, e.sending = some t → t.restart = false → x.up = true →
      (∀ f, e.ahead = some f →
        exec (.frameSent p) s = .next (sent { e with ahead := none, sending := out f true }))
      ∧ (e.ahead = none →
        (∀ f rest, e.queues.alarm = f :: rest →
          exec (.frameSent p) s = .next (sent { e with
            queues := { e.queues with alarm := rest }, sending := out f false }))
        ∧ (e.queues.alarm = [] →
          (planSearch s.net.banks s.supply.shedLevel e.queues 32 ⟨e.active, e.position, e.pendingBank⟩ = none →
            exec (.frameSent p) s = .next (sent { e with sending := none }))
          ∧ ∀ c y f rest,
            planSearch s.net.banks s.supply.shedLevel e.queues 32 ⟨e.active, e.position, e.pendingBank⟩
              = some (c, y) → e.queues.get c = f :: rest →
            exec (.frameSent p) s = .next (sent { e with
              queues := e.queues.set c rest, active := y.active, position := y.position
              pendingBank := y.pending, sending := out f false }))))
  ∧ (∀ (n : Net) (shed : Nat) (p : Port) (f : Frame), (n.port p).up = true →
    let x := n.port p
    let q := x.egress.queues.get f.cls
    let full : Prop := (f.cls = .signal ∨ f.cls = .air) ∧ 8 ≤ q.length ∨ f.cls = .mgmt ∧ 4 ≤ q.length
    let dropped : Prop := full ∧ (f.cls = .air → ∀ y ∈ q, y.src ≠ f.src)
    let put (e : Egress) : Net := n.setPort p { x with egress := e }
    (dropped → n.offer shed p f = put (x.egress.enqueue f))
    ∧ (¬ dropped → n.offer shed p f = put ((x.egress.enqueue f).choose n.banks shed p n.viaByte)))
  ∧ (∀ (e : Egress) (banks : Banks) (shed : Nat) (p : Port) (via : Byte),
    let u := e.choose banks shed p via
    let out (f : Frame) (restart : Bool) : Option Transmission := some ⟨f, f.wire p via, restart⟩
    let found := planSearch banks shed e.queues 32 ⟨e.active, e.position, e.pendingBank⟩
    (e.sending.isSome = true → u = e)
    ∧ (e.sending = none →
      (∀ f, e.ahead = some f → u = { e with ahead := none, sending := out f true })
      ∧ (∀ f rest, e.ahead = none → e.queues.alarm = f :: rest →
          u = { e with queues := { e.queues with alarm := rest }, sending := out f false })
      ∧ (e.ahead = none → e.queues.alarm = [] → found = none → u = e)
      ∧ ∀ c y f rest, e.ahead = none → e.queues.alarm = [] → found = some (c, y) → e.queues.get c = f :: rest →
          u = { e with queues := e.queues.set c rest, active := y.active, position := y.position
                       pendingBank := y.pending, sending := out f false }))
  ∧ (∀ (f : Frame) (p : Port) (via : Byte),
    let hop : Nat := if p = .radio then 0 else f.hop.toNat
    let header : List Byte := [byteOf (f.cls.code.toNat * 32 + f.kind.toNat), byteOf (hop * 8)]
      ++ wordBytes f.dest ++ wordBytes f.src ++ (if p = .radio then [via] else []) ++ [f.seq, byteOf f.payload.length]
    f.wire p via = header ++ f.payload ++ wordBytes (crc (header ++ f.payload)))
  ∧ (∀ (s : State) (m : Message),
    (s.nodeAddr? = none → s.originate m = s ∧ ∀ q, s.originateTo q m = s)
    ∧ ∀ (own : Addr) (c : TrafficClass) (j : Nat), s.nodeAddr? = some own → (kindsIn c)[j]? = some m.kind →
      let f : Frame := ⟨c, BitVec.ofNat 5 (j + 1), 31, m.dest, own,
        (if c = .alarm then s.net.alarmSeq else s.net.frameSeq) + 1, m.payload⟩
      let young : List RelayEntry := if s.net.relay.length < 16 then s.net.relay else s.net.relay.drop 1
      let n : Net :=
        if c = .alarm then { s.net with
          alarmSeq := f.seq
          relay := if s.net.relay.any (fun x => x.origin == own && x.seq == f.seq) then s.net.relay
            else young ++ [⟨own, f.seq, 0⟩] }
        else { s.net with frameSeq := f.seq }
      let up : List Port := [Port.outbye, .inbye].filter (fun q => (s.net.port q).up)
      let out (ports : List Port) : State :=
        { s with net := ports.foldl (fun n q => n.offer s.supply.shedLevel q f) n }
      let via (q : Port) : State :=
        if (s.net.port q).up then out [q]
        else { s with net := n.setPort q { n.port q with counters := { (n.port q).counters with
          downDrops := (n.port q).counters.downDrops + 1 } } }
      (∀ q, s.originateTo q m = via q)
      ∧ (m.dest = own → s.originate m = out [])
      ∧ (m.dest = broadcast →
          s.originate m = out (up ++ (if c = .alarm ∨ m.kind = .evacNotice then [.radio] else [])))
      ∧ (m.dest ≠ own → m.dest ≠ broadcast →
        (s.entry? m.dest = none → s.originate m = out up)
        ∧ ∀ e, s.entry? m.dest = some e →
          (e.location = .radioHere → s.originate m = out [.radio])
          ∧ (e.location = .fieldHere → s.originate m = out [])
          ∧ (e.location = .viaOutbye → s.originate m = via .outbye)
          ∧ (e.location = .viaInbye → s.originate m = via .inbye)
          ∧ (e.location = .unknown → s.originate m = out up)))

/-- Link reports (R66, R90, R161, R164, R200): one that does not change the state does nothing. A port that goes
DOWN loses its queues and its frame in transmission, counted in FLUSHED, wraps, and its VIA entries move to
UNKNOWN; a restart whose response was still to be sent there falls due (the counting of that response is
assumption 15, the order of a restart's parts assumption 22). A port that comes UP with nothing queued is free at
its place. -/
def Obligations.LinkReportsChangePort : Prop :=
  ∀ (s : State) (b : Backbone),
    let p := b.port
    let x := s.net.port p
    let e := x.egress
    let down : State := ({ s with
      scratch := {}
      table := { s.table with entries := s.table.entries.map (fun e =>
        if e.location = (match b with
          | .outbye => .viaOutbye
          | .inbye => .viaInbye) then { e with location := .unknown } else e) }
      net := s.net.setPort p { x with
        up := false
        counters := { x.counters with linkChanges := x.counters.linkChanges + 1 }
        egress := { e with
          queues := {}, sending := none, ahead := none
          active := e.pendingBank.getD e.active, position := 0, pendingBank := none
          counters := { e.counters with
            flushed := (e.counters.flushed
              + BitVec.ofNat 32 (e.queues.total + (if e.sending = none then 0 else 1))) } } } } :
              State).setFlag Flag.linkChange
    let waits : Prop := e.ahead ≠ none ∨ ∃ t, e.sending = some t ∧ t.restart = true
    (x.up = false → exec (.linkDown b) s = .next { s with scratch := {} }.settled)
    ∧ (x.up = true → ¬ waits → exec (.linkDown b) s = .next down.settled)
    ∧ (x.up = true → waits → s.evac.state = .quiet →
        ∃ u : State, exec (.linkDown b) s = .next (u.concluded s.tally) ∧ down.RestartedFrom u)
    ∧ (x.up = true → waits → s.evac.state = .evacuate →
        exec (.linkDown b) s = .next ((({ down with mgmt := { down.mgmt with
          restartPending := false
          counters := { down.mgmt.counters with
            restartsAbandoned := down.mgmt.counters.restartsAbandoned + 1 } } } : State).countPort p
              (fun k => { k with downDrops := k.downDrops + 1 })).concluded s.tally))
    ∧ (x.up = true → exec (.linkUp b) s = .next { s with scratch := {} }.settled)
    ∧ (x.up = false → e.queues = {} → e.sending = none → e.ahead = none →
        exec (.linkUp b) s = .next (({ s with
          scratch := {}
          net := s.net.setPort p { x with
            up := true
            counters := { x.counters with linkChanges := x.counters.linkChanges + 1 } } } : State).setFlag
              Flag.linkChange).settled)

/-! ### Calls -/

/-- An originating setup (R101 to R104): the clamp, then the refusals in order, each a CALL CLEAR to the caller,
flagged and counted; below the ceiling the lowest IDLE leg is taken with its setup timer and, for a callee who is
not attached here, the setup goes on. At the ceiling the newest of the weakest legs gives way to a stronger setup
(R102). A callee attached here has a leg taken in the same event, and both units hear of it; with no room for that
leg the first one is cleared (R103).
On the radio (R100, R112): a setup that is not its own unit's through this node is held and counted; a repeat is
held and counted, another caller's call id refused; a glare is settled by address; any other setup is checked.
From the backbone (R105, R111): a setup that is not for a unit attached here is passed; a repeat is held and
counted; a glare is settled by address; any other takes a RINGING TERM leg and is passed, with CALL ALERTING to the
caller, or is refused. How the callee's refusal is counted, and what becomes of a partner here in a glare, are the
model's reading (assumptions 13 and 14), and so is that a setup for a unit that is not attached here settles no glare
(assumption 30); that CALL ALERTING to the caller goes before CALL SETUP to the callee, and in which order the CALL
ANSWERs of a glare go, are the model's choice (assumption 5). -/
def Obligations.OriginatingSetupChecked : Prop :=
  (∀ (s : State) (c : Setup),
     let callee : Prop := isMiner c.callee = true ∨ isVehicle c.callee = true ∨ isSurface c.callee = true
     let p : Priority := if c.priority = .emergency ∧ isSurface c.callee = false then .urgent else c.priority
     let permitted : Prop := ∃ i : Fin 4, s.calls.permits[i].low.toNat ≤ c.callee.toNat
       ∧ c.callee.toNat ≤ s.calls.permits[i].high.toNat
       ∧ (isMiner c.caller = true ∧ s.calls.permits[i].miner = true
         ∨ isVehicle c.caller = true ∧ s.calls.permits[i].vehicle = true)
     let refused (cause : ClearCause) : State :=
       ((s.originate ⟨.callClear, c.caller, c.callId.bytes ++ [byteOf cause.code]⟩).setFlag
         Flag.refused).countCalls (fun k => { k with setupsRefused := k.setupsRefused + 1 })
     (¬ callee ∨ c.callee = c.caller → s.originating c false = refused .notPermitted)
     ∧ (callee → c.callee ≠ c.caller →
       (p ≠ .emergency → ¬ permitted → s.originating c false = refused .notPermitted)
       ∧ (p = .emergency ∨ permitted →
         (p.code < s.minimum.code → s.originating c false = refused .restricted)
         ∧ (s.minimum.code ≤ p.code →
           (s.ceiling ≤ s.countingLegs → (∀ i ∈ s.calls.startList, p.code ≤ (s.leg i).priority.code) →
             s.originating c false = refused .nodeBusy)
           ∧ ∀ i : Fin 8, s.countingLegs < s.ceiling → (s.leg i).state = .idle →
             (∀ j, j.val < i.val → (s.leg j).state ≠ .idle) →
             (isUnit c.callee = false ∨ s.attachedHere c.callee = false) →
             s.originating c false = ({ s with calls := { s.calls with
                 legs := s.calls.legs.set i
                   { state := .originating, callId := c.callId, direction := .orig, localParty := c.caller
                     remoteParty := c.callee, priority := p
                     setupTimer := some (s.now + s.params.setup.ms), lastVoice := none, voiceIn := 0
                     voiceOut := 0, voiceDropped := 0, lastCause := none, partner := none }
                 startList := s.calls.startList ++ [i]
                 counters := { s.calls.counters with setupsTaken := s.calls.counters.setupsTaken + 1 } } } :
                   State).originate ⟨.callSetup, c.callee, c.callId.bytes ++ wordBytes c.caller
                     ++ wordBytes c.callee ++ [byteOf p.code]⟩))))
  ∧ (∀ (s : State) (asked : Setup) (won : Bool),
    let c : Setup := if asked.priority = .emergency ∧ isSurface asked.callee = false
      then { asked with priority := .urgent } else asked
    (isMiner c.callee = true ∨ isVehicle c.callee = true ∨ isSurface c.callee = true) → c.callee ≠ c.caller →
    (c.priority = .emergency ∨ ∃ i : Fin 4, s.calls.permits[i].low.toNat ≤ c.callee.toNat
      ∧ c.callee.toNat ≤ s.calls.permits[i].high.toNat
      ∧ (isMiner c.caller = true ∧ s.calls.permits[i].miner = true
        ∨ isVehicle c.caller = true ∧ s.calls.permits[i].vehicle = true)) →
    s.FindsRoom c.priority (fun cause => (s.setupRefused c cause, false))
      (fun t i => (t.acceptOriginating i c won, false)) (s.originating asked won, false))
  ∧ (∀ (t : State) (i : Fin 8) (c : Setup) (won : Bool),
    let taken := t.withLegTaken i (c.legFor .orig .originating (some (t.now + t.params.setup.ms)))
    let here : Prop := isUnit c.callee = true ∧ t.attachedHere c.callee = true
    let paired (v : State) (j : Fin 8) : State :=
      let v := v.withLegTaken j (c.legFor .term .ringing (some (t.now + t.params.setup.ms)))
      let v := v.setLeg i { v.leg i with partner := some j }
      v.setLeg j { v.leg j with partner := some i }
    let joined (v : State) : State := v.setLeg i { v.leg i with state := .active, setupTimer := none }
    (¬ here → t.acceptOriginating i c won = taken.originate ⟨.callSetup, c.callee, c.callId.bytes
        ++ wordBytes c.caller ++ wordBytes c.callee ++ [byteOf c.priority.code]⟩)
    ∧ (here → taken.FindsRoom c.priority (fun cause => (taken.clearLeg i cause .node, false))
      (fun v j => (if won then
          let w := joined (paired v j)
          (((w.setLeg j { w.leg j with state := .active, setupTimer := none }).originate
            ⟨.callAnswer, c.caller, c.callId.bytes⟩).originate ⟨.callAnswer, c.callee, c.callId.bytes⟩)
        else
          ((paired v j).originate ⟨.callAlerting, c.caller, c.callId.bytes⟩).originate
            ⟨.callSetup, c.callee, c.callId.bytes ++ wordBytes c.caller ++ wordBytes c.callee
              ++ [byteOf c.priority.code]⟩, false))
      (t.acceptOriginating i c won, false)))
  ∧ (∀ (s : State) (f : Frame) (c : Setup), f.kind? = some .callSetup →
    f.payload = c.callId.bytes ++ wordBytes c.caller ++ wordBytes c.callee ++ [byteOf c.priority.code] →
    let stray : State := { s with calls := { s.calls with counters := { s.calls.counters with
      straySignals := s.calls.counters.straySignals + 1 } } }
    let good : Prop := (isMiner f.src = true ∨ isVehicle f.src = true) ∧ c.caller = f.src
      ∧ s.nodeAddr? = some (c.callId.node.setWidth 16)
    let holds (i : Fin 8) : Prop := (s.leg i).state ≠ .idle ∧ (s.leg i).direction = .orig
      ∧ (s.leg i).callId = c.callId
    let glare (i : Fin 8) : Prop := (s.leg i).direction = .term ∧ (s.leg i).state = .ringing
      ∧ (s.leg i).localParty = c.caller ∧ (s.leg i).remoteParty = c.callee
    let answered (t : State) (i : Fin 8) : State := t.setLeg i { t.leg i with
      state := .active, setupTimer := none, lastVoice := none }
    let told (t : State) (k : CallId) : State :=
      (t.originate ⟨.callAnswer, c.callee, k.bytes⟩).originate ⟨.callAnswer, c.caller, k.bytes⟩
    (¬ good → s.inspect .radio f = (stray, false))
    ∧ (good → ∀ i, holds i → (∀ j, holds j → j = i) →
      ((s.leg i).localParty = c.caller → s.inspect .radio f = (stray, false))
      ∧ ((s.leg i).localParty ≠ c.caller → s.inspect .radio f = (s.setupRefused c .idInUse, false)))
    ∧ (good → (∀ i, ¬ holds i) → (∀ i, ¬ glare i) → s.inspect .radio f = (s.originating c false, false))
    ∧ (good → (∀ i, ¬ holds i) → ∀ i, (∀ j, glare j ↔ j = i) →
      (c.callee.toNat < c.caller.toNat →
        ((∀ j, (s.leg i).partner = some j → (s.leg j).state ≠ .originating) →
          s.inspect .radio f = (told (answered s i) (s.leg i).callId, false))
        ∧ ∀ j, (s.leg i).partner = some j → (s.leg j).state = .originating →
          s.inspect .radio f = (told (answered (answered s i) j) (s.leg i).callId, false))
      ∧ (c.caller.toNat ≤ c.callee.toNat →
        s.inspect .radio f = ((s.clearLeg i .glare .node).originating c true, false))))
  ∧ (∀ (s : State) (p : Port) (f : Frame) (c : Setup), p ≠ .radio → f.kind? = some .callSetup →
    f.payload = c.callId.bytes ++ wordBytes c.caller ++ wordBytes c.callee ++ [byteOf c.priority.code] →
    let stray : State := { s with calls := { s.calls with counters := { s.calls.counters with
      straySignals := s.calls.counters.straySignals + 1 } } }
    let here : Prop := f.dest = c.callee ∧ isUnit c.callee = true ∧ s.attachedHere c.callee = true
    let held : Prop := ∃ i, (s.leg i).state ≠ .idle ∧ (s.leg i).direction = .term
      ∧ (s.leg i).callId = c.callId ∧ (s.leg i).localParty = c.callee
    let glare (i : Fin 8) : Prop := (s.leg i).direction = .orig ∧ (s.leg i).state = .originating
      ∧ (s.leg i).localParty = c.callee ∧ (s.leg i).remoteParty = c.caller
    let told (t : State) (k : CallId) : State :=
      (t.originate ⟨.callAnswer, c.callee, k.bytes⟩).originate ⟨.callAnswer, c.caller, k.bytes⟩
    (¬ here → s.inspect p f = (s, true))
    ∧ (here → held → s.inspect p f = (stray, false))
    ∧ (here → ¬ held → (∀ i, ¬ glare i) →
      s.FindsRoom c.priority (fun cause => (s.setupRefused c cause, false))
        (fun t i => ((t.withLegTaken i (c.legFor .term .ringing (some (s.now + s.params.setup.ms)))).originate
          ⟨.callAlerting, c.caller, c.callId.bytes⟩, true)) (s.inspect p f))
    ∧ (here → ¬ held → ∀ i, (∀ j, glare j ↔ j = i) →
      (c.callee.toNat < c.caller.toNat → s.inspect p f = (told (s.setLeg i { s.leg i with
        state := .active, setupTimer := none, lastVoice := none }) (s.leg i).callId, false))
      ∧ (c.caller.toNat ≤ c.callee.toNat →
        let v := s.clearLeg i .glare .node
        v.FindsRoom c.priority (fun cause => (v.setupRefused c cause, false))
          (fun t j => (told (t.withLegTaken j (c.legFor .term .active none)) c.callId, false))
          (s.inspect p f))))

/-- VOICE on each leg it matches (R114), the two of a call between two units here among them: on the leg of its own
unit an ACTIVE leg counts it in; on the far side of an ACTIVE leg it is counted out exactly when its sequence is
newer, modulo 256 and by at most 128, than the last one passed, which it then is; otherwise the leg counts it as
dropped. It is passed when no matched leg drops it, and held otherwise. Nothing else changes. -/
def Obligations.VoiceWindow : Prop :=
  ∀ (s : State) (p : Port) (f : Frame) (n k x : Byte) (coded : List Byte),
    f.cls = .voice → f.kind = 1 → f.payload = n :: k :: x :: coded → coded.length ≤ 64 →
    let unit (i : Fin 8) : Prop := p = .radio ∧ f.src = (s.leg i).localParty
    let found (i : Fin 8) : Prop := (s.leg i).state ≠ .idle ∧ (s.leg i).callId = ⟨n, k⟩
      ∧ (f.dest = (s.leg i).localParty ∨ unit i)
    let newer (i : Fin 8) : Prop := ∀ y, (s.leg i).lastVoice = some y →
      1 ≤ (x.toNat + 256 - y.toNat) % 256 ∧ (x.toNat + 256 - y.toNat) % 256 ≤ 128
    let passes (i : Fin 8) : Prop := (s.leg i).state = .active ∧ (unit i ∨ newer i)
    (∃ i, found i) →
    ∃ (u : State) (passed : Bool), s.inspect p f = (u, passed)
      ∧ (passed = true ↔ ∀ i, found i → passes i)
      ∧ u = { s with calls := { s.calls with legs := u.calls.legs } }
      ∧ (∀ i, ¬ found i → u.leg i = s.leg i)
      ∧ ∀ i, found i →
        let l := s.leg i
        (l.state = .active → unit i → u.leg i = { l with voiceIn := l.voiceIn + 1 })
        ∧ (l.state = .active → ¬ unit i → newer i →
            u.leg i = { l with lastVoice := some x, voiceOut := l.voiceOut + 1 })
        ∧ (¬ passes i → u.leg i = { l with voiceDropped := l.voiceDropped + 1 })

/-- A setup timer's expiry (R106, R109): the leg is cleared with NO_ANSWER, its unit and its remote party are sent
CALL CLEAR, and with a partner here both legs clear with one CALL CLEAR to each unit; SETUP TIMEOUTS goes up. No
other leg changes.
Clearing a leg (R109): the leg, and its partner here with it, becomes IDLE with its cause and leaves the start list;
each unit that did not itself send the clear is told, and the remote party unless the far side cleared or the cause
is GLARE. An IDLE leg has nothing to clear. Of two units here the cleared leg's is told first (assumption 5).
A CALL CLEAR (R110) clears the leg it matches and is held; in a call between two units here its source is the unit
that is not told, whatever port it came on. A CALL ANSWER (R107) makes the matched leg ACTIVE where
its table says so, both legs of a call between two units here, and is passed; a CALL ALERTING (R106) to an
ORIGINATING leg from the far side is passed; any other is held and counted. An answer, alerting or voice for a unit
here that matches no leg is held and counted (R96).
A change of the limits (R98): one that does not tighten, or finds every leg within them, clears nothing; otherwise
the legs below the minimum go, then, over the ceiling, the newest of the weakest, each counted, with LIMIT_CLEAR. -/
def Obligations.SetupTimerClearsWithNoAnswer : Prop :=
  (∀ (s : State) (i : Fin 8) (d : Nat), (s.leg i).setupTimer = some d →
     ((s.leg i).state = .originating ∨ (s.leg i).state = .ringing) →
     let cleared (l : Leg) : Leg := { l with
       state := .idle, setupTimer := none, lastCause := some .noAnswer, partner := none }
     let notice (dest : Addr) : Message :=
       ⟨.callClear, dest, (s.leg i).callId.bytes ++ [byteOf ClearCause.noAnswer.code]⟩
     ((s.leg i).partner = none →
       exec (.setupTimerExpiry i) s = .next ((({ s.at d with calls := { s.calls with
           legs := s.calls.legs.set i (cleared (s.leg i))
           startList := s.calls.startList.filter (fun j => j != i)
           counters := { s.calls.counters with setupTimeouts := s.calls.counters.setupTimeouts + 1 } } } :
             State).originate (notice (s.leg i).localParty)).originate (notice (s.leg i).remoteParty)).settled)
     ∧ ∀ j : Fin 8, (s.leg i).partner = some j → (s.leg j).state ≠ .idle → j ≠ i →
       (s.leg j).callId = (s.leg i).callId →
       exec (.setupTimerExpiry i) s = .next ((({ s.at d with calls := { s.calls with
           legs := (s.calls.legs.set i (cleared (s.leg i))).set j (cleared (s.leg j))
           startList := s.calls.startList.filter (fun k => k != i && k != j)
           counters := { s.calls.counters with setupTimeouts := s.calls.counters.setupTimeouts + 1 } } } :
             State).originate (notice (s.leg i).localParty)).originate (notice (s.leg j).localParty)).settled)
  ∧ (∀ (s : State) (i : Fin 8) (c : ClearCause) (w : ClearFrom),
    let l := s.leg i
    let notice (l : Leg) (dest : Addr) (t : State) : State :=
      t.originate ⟨.callClear, dest, l.callId.bytes ++ [byteOf c.code]⟩
    (l.state = .idle → s.clearLeg i c w = s)
    ∧ (l.state ≠ .idle → (∀ j, l.partner = some j → (s.leg j).state = .idle) →
      let cleared : State := { s with calls := { s.calls with
        legs := s.calls.legs.set i (l.clearedWith c)
        startList := s.calls.startList.filter (fun k => k != i) } }
      let told : State := if w = .unit l.localParty then cleared else notice l l.localParty cleared
      s.clearLeg i c w = if w = .far ∨ c = .glare then told else notice l l.remoteParty told)
    ∧ (∀ j, l.state ≠ .idle → l.partner = some j → j ≠ i → (s.leg j).state ≠ .idle →
      let m := s.leg j
      let cleared : State := { s with calls := { s.calls with
        legs := (s.calls.legs.set i (l.clearedWith c)).set j (m.clearedWith c)
        startList := s.calls.startList.filter (fun k => k != i && k != j) } }
      let told : State := if w = .unit l.localParty then cleared else notice l l.localParty cleared
      s.clearLeg i c w = if w = .unit m.localParty then told else notice l m.localParty told))
  ∧ (∀ (s : State) (p : Port) (f : Frame) (id : CallId),
    let stray : State := { s with calls := { s.calls with counters := { s.calls.counters with
      straySignals := s.calls.counters.straySignals + 1 } } }
    let side (i : Fin 8) : Prop := p = .radio ∧ f.src = (s.leg i).localParty
    let found (i : Fin 8) : Prop := (s.leg i).state ≠ .idle ∧ (s.leg i).callId = id
      ∧ (f.dest = (s.leg i).localParty ∨ side i)
    let answered (t : State) (i : Fin 8) : State := t.setLeg i { t.leg i with
      state := .active, setupTimer := none, lastVoice := none }
    (∀ c : ClearCause, f.kind? = some .callClear → f.payload = id.bytes ++ [byteOf c.code] →
      ((∀ i, ¬ found i) → s.inspect p f = (s, true))
      ∧ (∀ i, (∀ j, found j ↔ j = i) →
        let bothHere : Prop := ∃ j, (s.leg i).partner = some j ∧ (s.leg j).state ≠ .idle
        (side i ∨ bothHere → s.inspect p f = (s.clearLeg i c (.unit f.src), false))
        ∧ (¬ side i → ¬ bothHere → s.inspect p f = (s.clearLeg i c .far, false)))
      ∧ (∀ i j, i.val < j.val → (∀ k, found k ↔ k = i ∨ k = j) → (s.leg i).partner = some j →
          s.inspect p f = (s.clearLeg i c (.unit f.src), false)))
    ∧ (f.kind? = some .callAnswer → f.payload = id.bytes →
      let takes (i : Fin 8) : Prop :=
        (s.leg i).direction = .orig ∧ (s.leg i).state = .originating ∧ ¬ side i
        ∨ (s.leg i).direction = .term ∧ (s.leg i).state = .ringing ∧ side i
      (∀ i, (∀ j, found j ↔ j = i) →
        (takes i → s.inspect p f = (answered s i, true))
        ∧ (¬ takes i → s.inspect p f = (stray, false)))
      ∧ (∀ i j, i.val < j.val → (∀ k, found k ↔ k = i ∨ k = j) → takes i → takes j →
          s.inspect p f = (answered (answered s i) j, true)))
    ∧ (f.kind? = some .callAlerting → f.payload = id.bytes →
      ∀ i, (∀ j, found j ↔ j = i) →
        ((s.leg i).direction = .orig ∧ (s.leg i).state = .originating ∧ ¬ side i →
          s.inspect p f = (s, true))
        ∧ (¬ ((s.leg i).direction = .orig ∧ (s.leg i).state = .originating ∧ ¬ side i) →
          s.inspect p f = (stray, false)))
    ∧ ((f.kind? = some .callAnswer ∨ f.kind? = some .callAlerting) → f.payload = id.bytes →
      (∀ i, ¬ found i) →
        (p ≠ .radio ∧ s.attachedHere f.dest = true → s.inspect p f = (stray, false))
        ∧ (¬ (p ≠ .radio ∧ s.attachedHere f.dest = true) → s.inspect p f = (s, true)))
    ∧ (∀ (x : Byte) (coded : List Byte), f.kind? = some .voice → f.payload = id.bytes ++ x :: coded →
      coded.length ≤ 64 → (∀ i, ¬ found i) →
        (p ≠ .radio ∧ s.attachedHere f.dest = true → s.inspect p f = ({ s with calls := { s.calls with
          counters := { s.calls.counters with voiceStrays := s.calls.counters.voiceStrays + 1 } } }, false))
        ∧ (¬ (p ≠ .radio ∧ s.attachedHere f.dest = true) → s.inspect p f = (s, true))))
  ∧ (∀ (s : State) (ceiling : Nat) (minimum : Priority) (c : ClearCause), s.calls.startList.Nodup →
    (∀ i, (s.leg i).state ≠ .clearing ∧ (i ∈ s.calls.startList ↔ (s.leg i).counting = true)
      ∧ (s.leg i).partner ≠ some i) →
    let u := s.limitsChanged ceiling minimum c
    let tightened : Prop := s.ceiling < ceiling ∨ minimum.code < s.minimum.code
    let allowed (i : Fin 8) : Bool := decide (s.minimum.code ≤ (s.leg i).priority.code)
    (¬ tightened → u = s)
    ∧ (s.calls.startList.all allowed = true → s.calls.startList.length ≤ s.ceiling → u = s)
    ∧ (tightened →
      (∀ i, u.leg i = s.leg i ∨ (s.leg i).counting = true ∧ u.leg i = (s.leg i).clearedWith c)
      ∧ (∀ i, (u.leg i).counting = true → allowed i = true)
      ∧ u.calls.startList = s.calls.startList.filter (fun i => (u.leg i).counting)
      ∧ u.calls.startList.length ≤ s.ceiling
      ∧ u.calls.counters = { s.calls.counters with
          limitClears := s.calls.counters.limitClears
            + BitVec.ofNat 32 (s.calls.startList.countP (fun i => !(u.leg i).counting)) }
      ∧ ((∃ i, u.leg i ≠ s.leg i) → u.flagSet Flag.limitClear = true)
      ∧ ((∀ i, (s.leg i).partner = none) →
        u.calls.startList.length = min s.ceiling (s.calls.startList.countP allowed)
        ∧ ∀ i k, i ∈ s.calls.startList → allowed i = true → (u.leg i).counting = false →
            (u.leg k).counting = true →
            (s.leg i).priority.code < (s.leg k).priority.code
            ∨ (s.leg i).priority.code = (s.leg k).priority.code
              ∧ ∃ a b d, s.calls.startList = a ++ k :: b ++ i :: d)))

/-! ### Haulage segment -/

/-- A taken ENTRY REQUEST (R122, R123): granted on a FREE segment, re-granted to the holder of a HELD one, told to
withdraw again in DRAINING, queued at most four deep while no cause is present, and refused otherwise. An ENTRY
REQUEST or EXIT NOTICE that is not a vehicle's own is discarded and counted (R121).
A taken EXIT NOTICE (R127): the holder's leaves the segment CLOSED with a cause present, FREE with nobody waiting,
and otherwise HELD by the head of the queue (R128); a queued vehicle's removes it, with a WAIT to each behind it;
any other is counted as stray.
The heard-from notice of an accepted frame (R80, R124, R126): the holder's renews the lease in HELD and DRAINING and
ends a loss, with a GRANT into HELD or a WITHDRAW into DRAINING; anyone else's touches neither state, holder,
causes, queue nor lease.
PROXIMITY (R133, R134): the condition's start, by a miner's arrival, the holder's or a GRANT to a vehicle at RADIO_HERE,
tells the holder and each miner unit here; a change of the count while it holds tells the holder, and a miner that
arrives; its end by the holder tells nobody.
The lease timer's expiry (R125): HELD or DRAINING becomes LOST, LEASE_LOST is set and counted, and nothing else
changes; nobody is granted and no frame is sent. The mark that allows one WITHDRAW an event is assumption 20, a GRANT
before the PROXIMITY notices and the WAITs assumption 5. -/
def Obligations.EntryGrantedAndLeased : Prop :=
  (∀ (s : State) (v : Addr) (d : Heading), s.nodeAddr?.isSome = true → s.SegmentSound →
     let g := s.seg
     let t := s.entryRequest v d
     let lease : Timer := some (s.now + s.params.lease.ms)
     let isHolder : Prop := ∃ h, g.holder = some h ∧ h.vehicle = v
     let waits : Prop := ∃ w ∈ g.queue, w.vehicle = v
     (g.state = .free →
       t.seg.state = .held ∧ t.seg.holder = some ⟨v, d⟩ ∧ t.seg.lease = lease ∧ t.seg.queue = []
       ∧ t.seg.counters.grantsSent = g.counters.grantsSent + 1 ∧ t = s.grantedTo ⟨v, d⟩)
     ∧ (g.state = .held → isHolder →
       t = ({ s with seg := { g with
         holder := some ⟨v, d⟩, lease := lease
         counters := { g.counters with grantsSent := g.counters.grantsSent + 1 } } } : State).originate
           ⟨.grant, v, wordBytes v ++ [s.params.lease.byte]⟩)
     ∧ (g.state = .draining → isHolder →
       t = ({ s with seg := { g with lease := lease } } : State).withdrawSent v
       ∧ (s.scratch.withdrawn = [] → t.seg = { g with
         lease := lease, counters := { g.counters with withdrawsSent := g.counters.withdrawsSent + 1 } }))
     ∧ (g.state = .held ∨ g.state = .lost ∧ g.causes.any = false → ¬ isHolder →
       (waits → t.seg = { g with
           queue := g.queue.map (fun w => if w.vehicle = v then ⟨v, d⟩ else w)
           counters := { g.counters with waitsSent := g.counters.waitsSent + 1 } })
       ∧ (¬ waits → g.queue.length < 4 →
         t = ({ s with seg := { g with
           queue := g.queue ++ [⟨v, d⟩]
           counters := { g.counters with waitsSent := g.counters.waitsSent + 1 } } } : State).originate
             ⟨.wait, v, wordBytes v ++ [byteOf (g.queue.length + 1)]⟩)
       ∧ (¬ waits → g.queue.length = 4 →
         t = (({ s with seg := { g with counters := { g.counters with
           entryRefusals := g.counters.entryRefusals + 1 } } } : State).originate
             ⟨.refuseEntry, v, wordBytes v ++ [1]⟩).setFlag Flag.queueFull))
     ∧ (g.state = .draining ∨ g.state = .closed ∨ g.state = .lost ∧ g.causes.any = true → ¬ isHolder →
       t = ({ s with seg := { g with counters := { g.counters with
         entryRefusals := g.counters.entryRefusals + 1 } } } : State).originate
           ⟨.refuseEntry, v, wordBytes v ++ [0]⟩))
  ∧ (∀ (s : State) (p : Port) (f : Frame) (v : Addr), s.nodeAddr?.isSome = true →
     let g := s.seg
     let bad : State := { s with seg := { g with counters := { g.counters with
       badEntryFrames := g.counters.badEntryFrames + 1 } } }
     (∀ d : Heading, f.kind? = some .entryRequest → f.payload = wordBytes v ++ [byteOf d.code] →
       (isVehicle f.src = true ∧ v = f.src → s.deliver p f = s.entryRequest v d)
       ∧ (¬ (isVehicle f.src = true ∧ v = f.src) → s.deliver p f = bad))
     ∧ (f.kind? = some .exitNotice → f.payload = wordBytes v →
       let u := s.deliver p f
       let isHolder : Prop := ∃ h, g.holder = some h ∧ h.vehicle = v
       (¬ (isVehicle f.src = true ∧ v = f.src) → u = bad)
       ∧ (isVehicle f.src = true → v = f.src →
         (isHolder → g.causes.any = true →
           u = { s with seg := { g with state := .closed, holder := none, holderHere := false, lease := none } })
         ∧ (isHolder → g.causes.any = false → g.queue = [] →
           u = { s with seg := { g with state := .free, holder := none, holderHere := false, lease := none } })
         ∧ (∀ t rest, isHolder → g.causes.any = false → g.queue = t :: rest →
           u.seg.state = .held ∧ u.seg.holder = some t ∧ u.seg.queue = rest
           ∧ u.seg.lease = some (s.now + s.params.lease.ms) ∧ u.seg.causes = g.causes
           ∧ u.seg.minerCount = g.minerCount
           ∧ u.seg.counters.grantsSent = g.counters.grantsSent + 1
           ∧ u.seg.counters.waitsSent = g.counters.waitsSent + BitVec.ofNat 32 rest.length
           ∧ u = (({ s with seg := { g with queue := rest } } : State).grantedTo t).waitsSent 1 rest
           ∧ u = { s with seg := u.seg, net := u.net })
         ∧ (∀ older t younger, ¬ isHolder → g.queue = older ++ t :: younger → t.vehicle = v →
             (∀ w ∈ older, w.vehicle ≠ v) →
           u = younger.zipIdx.foldl
             (fun (z : State) (w : Truck × Nat) => z.originate ⟨.wait, w.1.vehicle,
               wordBytes w.1.vehicle ++ [byteOf (older.length + w.2 + 1)]⟩)
             { s with seg := { g with
               queue := older ++ younger
               counters := { g.counters with
                 waitsSent := g.counters.waitsSent + BitVec.ofNat 32 younger.length } } })
         ∧ (¬ isHolder → (∀ w ∈ g.queue, w.vehicle ≠ v) →
           u = { s with seg := { g with counters := { g.counters with
             strayExits := g.counters.strayExits + 1 } } }))))
  ∧ (∀ (s : State) (p : Port) (f : Frame), s.nodeAddr?.isSome = true → s.scratch.withdrawn = [] →
     let g := s.seg
     let u := s.heard p f
     let isHolder : Prop := ∃ h, g.holder = some h ∧ h.vehicle = f.src
     let lease : Timer := some (s.now + s.params.lease.ms)
     let same (x : SegmentState) (l : Timer) (grants withdraws : Counter) : Prop :=
       u.seg.state = x ∧ u.seg.holder = g.holder ∧ u.seg.causes = g.causes ∧ u.seg.queue = g.queue
       ∧ u.seg.lease = l ∧ u.seg.counters.grantsSent = g.counters.grantsSent + grants
       ∧ u.seg.counters.withdrawsSent = g.counters.withdrawsSent + withdraws
     (¬ isHolder ∨ g.state = .free ∨ g.state = .closed → same g.state g.lease 0 0)
     ∧ (isHolder → g.state = .held ∨ g.state = .draining → same g.state lease 0 0)
     ∧ (isHolder → g.state = .lost → g.causes.any = false → same .held lease 1 0)
     ∧ (isHolder → g.state = .lost → g.causes.any = true →
         same .draining lease 0 1 ∧ u.flagSet Flag.withdraw = true))
  ∧ (∀ (s : State) (a : Addr), s.nodeAddr?.isSome = true →
     let g := s.seg
     let u := s.heardFrom a
     let lease : Timer := some (s.now + s.params.lease.ms)
     let isHolder : Prop := ∃ h, g.holder = some h ∧ h.vehicle = a
     (¬ isHolder ∨ g.state = .free ∨ g.state = .closed → u = s)
     ∧ (isHolder → g.state = .held ∨ g.state = .draining → u = { s with seg := { g with lease := lease } })
     ∧ (isHolder → g.state = .lost → g.causes.any = false →
       u = ({ s with seg := { g with
         state := .held, lease := lease
         counters := { g.counters with grantsSent := g.counters.grantsSent + 1 } } } : State).originate
           ⟨.grant, a, wordBytes a ++ [s.params.lease.byte]⟩)
     ∧ (isHolder → g.state = .lost → g.causes.any = true →
       u = ({ s with seg := { g with state := .draining, lease := lease } } : State).withdrawSent a))
  ∧ (∀ (s : State) (a : Addr),
     let g := s.seg
     let n := g.minerCount
     let miners : List Addr := minersOnRadio s.table.entries
     let counted (k : Nat) : State := { s with seg := { g with minerCount := k } }
     let seen (b : Bool) : State := { s with seg := { g with holderHere := b } }
     let near : Prop := s.nodeAddr?.isSome = true ∧ g.holder.isSome = true ∧ g.holderHere = true
     (¬ near → s.segMinerArrives a = counted (n + 1) ∧ s.segMinerLeaves = counted (n - 1))
     ∧ (n = 0 → s.segMinerLeaves = s)
     ∧ (∀ h, near → g.holder = some h →
       (n = 0 → s.segMinerArrives a = (counted 1).proximitySent (h.vehicle :: miners) 1)
       ∧ (1 ≤ n → s.segMinerArrives a = (counted (n + 1)).proximitySent [h.vehicle, a] (n + 1)
           ∧ s.segMinerLeaves = (counted (n - 1)).proximitySent [h.vehicle] (n - 1)))
     ∧ ((∀ h, g.holder = some h → h.vehicle ≠ a) → ∀ b, s.segVehicle a b = s)
     ∧ ∀ h, g.holder = some h → h.vehicle = a →
       s.segVehicle a false = seen false
       ∧ (g.holderHere = true ∨ n = 0 ∨ s.nodeAddr? = none → s.segVehicle a true = seen true)
       ∧ (g.holderHere = false → 1 ≤ n → s.nodeAddr?.isSome = true →
           s.segVehicle a true = (seen true).proximitySent (a :: miners) n))
  ∧ (∀ (s : State) (d : Nat), s.seg.lease = some d → (s.seg.state = .held ∨ s.seg.state = .draining) →
     exec .leaseTimerExpiry s = .next (({ s.at d with seg := { s.seg with
       state := .lost, lease := none
       counters := { s.seg.counters with leaseLosses := s.seg.counters.leaseLosses + 1 } } } : State).setFlag
         Flag.leaseLost).settled)

/-! ### Evacuation and outputs -/

/-- The repeat timer's expiry in EVACUATE (R144): one EVAC NOTICE for each miner unit at RADIO_HERE whose mark is
NONE, in ascending address order, and the timer restarted.
The door tick (R150): the age of every record whose stored door is OPEN goes up, stopping at 65535, and a
breach is raised on every record whose door has been open for the allowance while the state is EVACUATE and the
zone grade at least ALARM; each is broadcast, counted and flagged, in index order. No other record field and no other
block's record changes. -/
def Obligations.EvacuationTimersAct : Prop :=
  (∀ (s : State) (d : Nat) (own : Addr), s.evac.repeatTimer = some d → s.evac.state = .evacuate →
     s.nodeAddr? = some own →
     let missing : List Addr := (s.table.entries.filter (fun e =>
       isMiner e.address && e.location == .radioHere && e.mark == .none)).map (fun e => e.address)
     exec .repeatTimerExpiry s = .next (missing.foldl
       (fun t a => t.originate ⟨.evacNotice, a, wordBytes own⟩)
       ({ s.at d with evac := { s.evac with
         repeatTimer := some (max s.now d + s.params.repeatTime.ms)
         counters := { s.evac.counters with
           noticesSent := s.evac.counters.noticesSent + BitVec.ofNat 32 missing.length } } } :
             State)).settled)
  ∧ (∀ s : State,
     let age (x : Panel) : Nat := if x.door = .opened then min 65535 (x.doorAge + 1) else x.doorAge
     let due (x : Panel) : Bool := !x.breach && x.door == .opened
       && decide (s.params.door.ms ≤ age x * 1000) && s.evac.state == .evacuate
       && (s.air.zone == .alarm || s.air.zone == .trip)
     ∃ u : State, exec .doorTick s = .next u.settled
       ∧ (∀ i, u.panel i = { s.panel i with
           doorAge := age (s.panel i), breach := (s.panel i).breach || due (s.panel i) })
       ∧ u.evac = { s.evac with
           panels := u.evac.panels, doorTick := max s.now s.evac.doorTick + 1000
           counters := { s.evac.counters with
             breaches := (s.evac.counters.breaches
               + BitVec.ofNat 32 (pollIndices.countP (fun i => due (s.panel i)))) } }
       ∧ ((∃ i, due (s.panel i) = true) → u.flagSet Flag.breach = true)
       ∧ (∃ t : State, (∀ i, t.panel i = { s.panel i with doorAge := age (s.panel i) })
           ∧ t = { s.at s.evac.doorTick with evac := { s.evac with
               panels := t.evac.panels, doorTick := max s.now s.evac.doorTick + 1000 } }
           ∧ u = pollIndices.foldl State.breachTested t)
       ∧ ((∀ i, due (s.panel i) = false) → u.net = s.net ∧ u.mgmt = s.mgmt)
       ∧ u.now = max s.now s.evac.doorTick ∧ u.air = s.air ∧ u.table = s.table ∧ u.calls = s.calls
       ∧ u.seg = s.seg ∧ u.poller = s.poller ∧ u.supply = s.supply ∧ u.integ = s.integ)

/-! ### Supply -/

/-- A supply sample (sections 8.5 and 8.6): the readings are clamped and replace the last ones; every enabled entry
starts or stops matching by its conditions and keeps its matching in the gap; a disabled one does not match; the
shed level is the highest level of the matching entries, and a change of it is counted and flagged; a mains loss
is counted. A sample that leaves the level as it was changes nothing else; a new level clears the legs that its limits
shut out with SHED, and then each free UP port makes a choice under the new skipping (R98, R171). That the clock stands at or past the
tick's moment is the model's choice (assumption 1). -/
def Obligations.SupplySampleSetsShedLevel : Prop :=
  ∀ (s : State) (mains : Bool) (battery : Nat) (temperature : Int),
    let b : Nat := min battery 16383
    let t : Int := if temperature < -40 then -40 else if 125 < temperature then 125 else temperature
    let matching (e : ShedEntry) : Bool :=
      e.config.enabled && (match e.config.input with
        | .battery => if e.matching then !mains && decide ((b : Int) < e.config.gate + 200)
            else !mains && decide ((b : Int) < e.config.gate)
        | .temperature => if e.matching then decide (e.config.gate - 3 < t) else decide (e.config.gate < t))
    ∃ u : State, exec (.supplySample mains battery temperature) s = .next u.settled
      ∧ u.supply.sample = ⟨mains, b, t⟩
      ∧ (∀ i : Fin 4, u.supply.entries[i]
          = ⟨s.supply.entries[i].config, matching s.supply.entries[i]⟩)
      ∧ (∀ i : Fin 4, u.supply.entries[i].matching = true →
          u.supply.entries[i].config.level ≤ u.supply.shedLevel)
      ∧ (u.supply.shedLevel = 0 ∨ ∃ i : Fin 4, u.supply.entries[i].matching = true
          ∧ u.supply.entries[i].config.level = u.supply.shedLevel)
      ∧ u.supply.sampleTick = max s.now s.supply.sampleTick + 1000
      ∧ u.supply.counters.mainsLosses = s.supply.counters.mainsLosses
          + (if s.supply.sample.mains = true ∧ mains = false then 1 else 0)
      ∧ u.supply.counters.shedChanges = s.supply.counters.shedChanges
          + (if u.supply.shedLevel = s.supply.shedLevel then 0 else 1)
      ∧ (u.supply.shedLevel ≠ s.supply.shedLevel → u.flagSet Flag.shedChange = true)
      ∧ (u.supply.shedLevel = s.supply.shedLevel → u.net = s.net ∧ u.calls = s.calls ∧ u.mgmt = s.mgmt)
      ∧ (u.supply.shedLevel ≠ s.supply.shedLevel →
          let set : State := ({ s.at s.supply.sampleTick with supply := u.supply } : State).setFlag Flag.shedChange
          let told := set.limitsChanged s.ceiling s.minimum .shed
          let chosen (p : Port) : PortState :=
            if (told.net.port p).up then { told.net.port p with
              egress := (told.net.port p).egress.choose told.net.banks u.supply.shedLevel p told.net.viaByte }
            else told.net.port p
          u = { told with net := { told.net with
            outbye := chosen .outbye, inbye := chosen .inbye, radio := chosen .radio } })
      ∧ u.now = max s.now s.supply.sampleTick ∧ u.air = s.air ∧ u.table = s.table ∧ u.seg = s.seg
      ∧ u.evac = s.evac ∧ u.poller = s.poller ∧ u.integ = s.integ

/-! ### Integrity, isolation, status -/

/-- A scan step and the suspension timer's expiry (section 9.3): each of the first 38 steps feeds its record into
the running CRC; the 39th compares, counts, sets the state and begins a new scan, and INTEGRITY is set when FAULT
is entered from CHECKING; the expiry puts the state in FAULT with INTEGRITY set and begins a scan. A new state is
a new floor under the zone grade (R24, R183), and a change of it sends its notices (R29) and nothing else changes. The
clock's moments are the model's choice (assumption 1), and so is that a new zone grade goes to the segment arbiter
first (assumption 5). -/
def Obligations.ScanStepsAndSuspensionExpiry : Prop :=
  ∀ (s : State) (d : Nat),
    let x := s.integ
    let now := max s.now d
    let fed := crcFrom x.runningCrc (s.protectedBytes x.position)
    (x.scanTimer = some d → x.position < 38 →
      exec .scanStep s = .next ({ s.at d with integ := { x with
        position := x.position + 1, runningCrc := fed, scanTimer := some (now + 10) } } : State).settled)
    ∧ (x.scanTimer = some d → 38 ≤ x.position →
      let compared : Integrity := { x with
        position := 0, runningCrc := 0xFFFF, scanTimer := some (now + 10), lastCheck := some fed
        state := if fed = x.storedCheck then .checking else .fault
        counters := { x.counters with
          scansCompleted := x.counters.scansCompleted + 1
          mismatches := x.counters.mismatches + (if fed = x.storedCheck then 0 else 1) } }
      (compared.state = x.state →
        exec .scanStep s = .next ({ s.at d with integ := compared } : State).settled)
      ∧ (compared.state ≠ x.state →
        let moved : State := { s.at d with integ := compared }
        ∃ u : State, exec .scanStep s = .next (u.concluded s.tally) ∧ u.integ = compared
          ∧ u = (if x.state = .checking then moved.setFlag Flag.integrity else moved).regraded
          ∧ u.air.zone = u.zoneNow ∧ u.air.channels = s.air.channels ∧ u.poller = s.poller
          ∧ u.supply = s.supply ∧ u.mgmt.parameters = s.mgmt.parameters
          ∧ (x.state = .checking → u.flagSet Flag.integrity = true)))
    ∧ (x.suspensionTimer = some d → x.state = .suspended →
      ∃ u : State, exec .suspensionTimerExpiry s = .next (u.concluded s.tally)
        ∧ u.integ = { x with
            state := .fault, suspensionTimer := none, position := 0, runningCrc := 0xFFFF
            scanTimer := some (now + 10)
            counters := { x.counters with suspensionExpiries := x.counters.suspensionExpiries + 1 } }
        ∧ u = (({ s.at d with integ := u.integ } : State).setFlag Flag.integrity).regraded
        ∧ u.flagSet Flag.integrity = true ∧ u.air.zone.atLeast .alarm = true
        ∧ u.air.zone = u.zoneNow ∧ u.air.channels = s.air.channels ∧ u.poller = s.poller
        ∧ u.supply = s.supply ∧ u.mgmt.parameters = s.mgmt.parameters)

/-- The relay list's age tick (R83's first paragraph) and the end of a half-period of an output line (R155): every
relay entry's age goes up and those that reach 30 go; a line that shows SLOW or FAST, as its sources want it to,
changes its level and runs its next half. Nothing else changes. -/
def Obligations.RelayTickAndCadence : Prop :=
  ∀ s : State,
    exec .relayAgeTick s = .next ({ s.at s.net.relayTick with net := { s.net with
      relayTick := max s.now s.net.relayTick + 1000
      relay := (s.net.relay.filter (fun e => decide (e.age + 1 < 30))).map (fun e =>
        { e with age := e.age + 1 }) } } : State).settled
    ∧ ∀ (o : Output) (d half : Nat), s.OutputsFollow → (s.evac.lines.get o).cadence = some d →
      ((s.evac.lines.get o).pattern = .slow ∧ half = 1000 ∨ (s.evac.lines.get o).pattern = .fast ∧ half = 250) →
      exec (.outputCadenceToggle o) s = .next { s.at d with evac := { s.evac with
        lines := s.evac.lines.set o ⟨(s.evac.lines.get o).pattern, !(s.evac.lines.get o).asserted,
          some (max s.now d + half)⟩ } }

/-! ### Cold start -/

/-- COLD START (sections 1.11, 2.6, 3.8, 4.8, 5.12, 6.9, 7.8, 8.8, 9.5 and 10.8): every table takes its factory
record and every block its cold start state, whatever stood before. The queue, the clock and the count of free
samples are the model's and run on (assumption 18); a timer is the moment it expires at (assumption 1). -/
def Obligations.ColdStartTakesFactoryState : Prop :=
  ∀ (s : State) (straps : Byte) (o i : Bool),
    let off : EntryConfig := ⟨false, 1, 0, 1⟩
    let released : Line := ⟨.off, false, none⟩
    let plan : List PlanEntry := [.voice, .signal, .voice, .air, .voice, .signal, .voice, .telem, .voice, .mgmt,
      .voice] ++ List.replicate 21 .stop
    ∃ t : State, exec (.coldStart straps o i) s = .next t
      ∧ t.pending = s.pending ∧ t.now = s.now ∧ t.samples = s.samples ∧ t.scratch = {}
      ∧ (∀ c, t.channel c =
          { record := ⟨false, .zone, .ch4, 0, 1024, 0, off, off, off, .alarm, ⟨.s1, 30⟩⟩
            state := .off, lastStatus := none, staleMark := false, staleTimer := none, value := 0
            average := none, alert := ⟨false, 0⟩, alarm := ⟨false, 0⟩, trip := ⟨false, 0⟩
            effective := .normal, test := none })
      ∧ t.air.zone = .normal ∧ t.air.refuge = .normal ∧ t.air.tripOutput = false
      ∧ t.air.reportTimer = some (s.now + 10000) ∧ t.sourceActive .sensorFault = false
      ∧ (∀ j, t.pollRecord j = ⟨⟨false, 0x1000, .gasHead, ⟨.s1, 1⟩⟩, .idleUnseen, 0, none⟩)
      ∧ t.poller.inFlight = none ∧ t.poller.replyTimer = none ∧ t.poller.sequence = 0
      ∧ t.poller.counters = {}
      ∧ t.table.entries = [] ∧ (∀ j : Fin 4, t.table.pins[j] = ⟨false, 0, 0xFFFF⟩)
      ∧ (∀ j : Fin 4, t.table.watches[j] = ⟨false, 0⟩) ∧ t.table.ageTick = s.now + 1000
      ∧ t.table.counters = {}
      ∧ t.net.straps = straps ∧ t.net.relay = [] ∧ t.net.relayTick = s.now + 1000 ∧ t.net.alarmSeq = 0
      ∧ t.net.frameSeq = 0 ∧ t.net.outbye = { up := o } ∧ t.net.inbye = { up := i }
      ∧ t.net.radio = { up := true } ∧ t.net.banks.zero.toList = plan ∧ t.net.banks.one.toList = plan
      ∧ (∀ j, t.leg j =
          { state := .idle, callId := ⟨0, 0⟩, direction := .orig, localParty := 0, remoteParty := 0
            priority := .routine, setupTimer := none, lastVoice := none, voiceIn := 0, voiceOut := 0
            voiceDropped := 0, lastCause := none, partner := none })
      ∧ t.calls.startList = [] ∧ (∀ j : Fin 4, t.calls.permits[j] = ⟨0, 0, false, false⟩)
      ∧ t.calls.counters = {}
      ∧ t.seg = { state := .closed, holder := none, causes := ⟨false, false, true⟩, queue := [], lease := none
                  minerCount := 0, holderHere := false, counters := {} }
      ∧ t.evac.state = .quiet ∧ t.evac.repeatTimer = none ∧ t.evac.sos = []
      ∧ (∀ j, t.panel j = ⟨false, .closed, 0, [], .mains, 0, false⟩)
      ∧ t.evac.routes.toList =
          [⟨.off, .slow, .off, .off⟩, ⟨.fast, .fast, .off, .off⟩, ⟨.steady, .steady, .off, .off⟩,
           ⟨.fast, .fast, .off, .off⟩, ⟨.off, .fast, .off, .off⟩, ⟨.fast, .off, .off, .off⟩,
           ⟨.off, .off, .off, .steady⟩, ⟨.off, .off, .off, .fast⟩, ⟨.off, .off, .steady, .off⟩,
           ⟨.off, .off, .steady, .off⟩, ⟨.off, .off, .slow, .off⟩]
      ∧ t.evac.lines = ⟨released, released, released, released⟩ ∧ t.evac.doorTick = s.now + 1000
      ∧ t.evac.counters = {}
      ∧ t.supply.sample = ⟨false, 0, 0⟩ ∧ t.supply.shedLevel = 0 ∧ t.supply.sampleTick = s.now + 1000
      ∧ t.supply.counters = {}
      ∧ t.supply.entries.toList = [⟨⟨true, .battery, 11000, 1⟩, false⟩, ⟨⟨true, .battery, 10400, 2⟩, false⟩,
          ⟨⟨true, .battery, 9800, 3⟩, false⟩, ⟨⟨true, .temperature, 85, 2⟩, false⟩]
      ∧ t.integ = { state := .checking, storedCheck := crc (t.scannedBytes 39), lastCheck := none, position := 0
                    runningCrc := 0xFFFF, scanTimer := some (s.now + 10), suspensionTimer := none
                    counters := {} }
      ∧ t.mgmt = { parameters :=
                     { control := 0xFFF0, presence := ⟨.s1, 30⟩, route := ⟨.s10, 30⟩, setup := ⟨.s1, 30⟩
                       lease := ⟨.s1, 20⟩, airReport := ⟨.s1, 10⟩, status := ⟨.s1, 5⟩
                       isolation := ⟨.s1, 15⟩, repeatTime := ⟨.s1, 5⟩, door := ⟨.s1, 30⟩, trigger := .alarm
                       follow := 1, masks := ⟨0, 0, 0, 0, 0⟩ }
                   attention := { node := ⟨0x40, true⟩ }
                   statusTimer := some (s.now + 5000), isolated := false
                   isolationTimer := some (s.now + 15000), restartPending := false, counters := {} }
end

