-- ==== Sys2Proof/Laws/State.lean ====
section
/-! SUPPORT. One lemma for each field that a basic update of the state leaves as it was: no later proof unfolds
the update. -/

namespace Sys2Proof.Machine

/-! ### State.countPort -/

@[simp] theorem State.countPort_pending (s : State) (p : Port) (f : PortCounters → PortCounters) : (s.countPort p f).pending = s.pending := rfl
@[simp] theorem State.countPort_now (s : State) (p : Port) (f : PortCounters → PortCounters) : (s.countPort p f).now = s.now := rfl
@[simp] theorem State.countPort_samples (s : State) (p : Port) (f : PortCounters → PortCounters) : (s.countPort p f).samples = s.samples := rfl
@[simp] theorem State.countPort_scratch (s : State) (p : Port) (f : PortCounters → PortCounters) : (s.countPort p f).scratch = s.scratch := rfl
@[simp] theorem State.countPort_poller (s : State) (p : Port) (f : PortCounters → PortCounters) : (s.countPort p f).poller = s.poller := rfl
@[simp] theorem State.countPort_air (s : State) (p : Port) (f : PortCounters → PortCounters) : (s.countPort p f).air = s.air := rfl
@[simp] theorem State.countPort_table (s : State) (p : Port) (f : PortCounters → PortCounters) : (s.countPort p f).table = s.table := rfl
@[simp] theorem State.countPort_calls (s : State) (p : Port) (f : PortCounters → PortCounters) : (s.countPort p f).calls = s.calls := rfl
@[simp] theorem State.countPort_seg (s : State) (p : Port) (f : PortCounters → PortCounters) : (s.countPort p f).seg = s.seg := rfl
@[simp] theorem State.countPort_evac (s : State) (p : Port) (f : PortCounters → PortCounters) : (s.countPort p f).evac = s.evac := rfl
@[simp] theorem State.countPort_supply (s : State) (p : Port) (f : PortCounters → PortCounters) : (s.countPort p f).supply = s.supply := rfl
@[simp] theorem State.countPort_integ (s : State) (p : Port) (f : PortCounters → PortCounters) : (s.countPort p f).integ = s.integ := rfl
@[simp] theorem State.countPort_mgmt (s : State) (p : Port) (f : PortCounters → PortCounters) : (s.countPort p f).mgmt = s.mgmt := rfl

/-! ### State.countPoller -/

@[simp] theorem State.countPoller_pending (s : State) (f : PollerCounters → PollerCounters) : (s.countPoller f).pending = s.pending := rfl
@[simp] theorem State.countPoller_now (s : State) (f : PollerCounters → PollerCounters) : (s.countPoller f).now = s.now := rfl
@[simp] theorem State.countPoller_samples (s : State) (f : PollerCounters → PollerCounters) : (s.countPoller f).samples = s.samples := rfl
@[simp] theorem State.countPoller_scratch (s : State) (f : PollerCounters → PollerCounters) : (s.countPoller f).scratch = s.scratch := rfl
@[simp] theorem State.countPoller_net (s : State) (f : PollerCounters → PollerCounters) : (s.countPoller f).net = s.net := rfl
@[simp] theorem State.countPoller_poller_records (s : State) (f : PollerCounters → PollerCounters) : (s.countPoller f).poller.records = s.poller.records := rfl
@[simp] theorem State.countPoller_poller_inFlight (s : State) (f : PollerCounters → PollerCounters) : (s.countPoller f).poller.inFlight = s.poller.inFlight := rfl
@[simp] theorem State.countPoller_poller_replyTimer (s : State) (f : PollerCounters → PollerCounters) : (s.countPoller f).poller.replyTimer = s.poller.replyTimer := rfl
@[simp] theorem State.countPoller_poller_sequence (s : State) (f : PollerCounters → PollerCounters) : (s.countPoller f).poller.sequence = s.poller.sequence := rfl
@[simp] theorem State.countPoller_air (s : State) (f : PollerCounters → PollerCounters) : (s.countPoller f).air = s.air := rfl
@[simp] theorem State.countPoller_table (s : State) (f : PollerCounters → PollerCounters) : (s.countPoller f).table = s.table := rfl
@[simp] theorem State.countPoller_calls (s : State) (f : PollerCounters → PollerCounters) : (s.countPoller f).calls = s.calls := rfl
@[simp] theorem State.countPoller_seg (s : State) (f : PollerCounters → PollerCounters) : (s.countPoller f).seg = s.seg := rfl
@[simp] theorem State.countPoller_evac (s : State) (f : PollerCounters → PollerCounters) : (s.countPoller f).evac = s.evac := rfl
@[simp] theorem State.countPoller_supply (s : State) (f : PollerCounters → PollerCounters) : (s.countPoller f).supply = s.supply := rfl
@[simp] theorem State.countPoller_integ (s : State) (f : PollerCounters → PollerCounters) : (s.countPoller f).integ = s.integ := rfl
@[simp] theorem State.countPoller_mgmt (s : State) (f : PollerCounters → PollerCounters) : (s.countPoller f).mgmt = s.mgmt := rfl

/-! ### State.countTable -/

@[simp] theorem State.countTable_pending (s : State) (f : TableCounters → TableCounters) : (s.countTable f).pending = s.pending := rfl
@[simp] theorem State.countTable_now (s : State) (f : TableCounters → TableCounters) : (s.countTable f).now = s.now := rfl
@[simp] theorem State.countTable_samples (s : State) (f : TableCounters → TableCounters) : (s.countTable f).samples = s.samples := rfl
@[simp] theorem State.countTable_scratch (s : State) (f : TableCounters → TableCounters) : (s.countTable f).scratch = s.scratch := rfl
@[simp] theorem State.countTable_net (s : State) (f : TableCounters → TableCounters) : (s.countTable f).net = s.net := rfl
@[simp] theorem State.countTable_poller (s : State) (f : TableCounters → TableCounters) : (s.countTable f).poller = s.poller := rfl
@[simp] theorem State.countTable_air (s : State) (f : TableCounters → TableCounters) : (s.countTable f).air = s.air := rfl
@[simp] theorem State.countTable_table_entries (s : State) (f : TableCounters → TableCounters) : (s.countTable f).table.entries = s.table.entries := rfl
@[simp] theorem State.countTable_table_pins (s : State) (f : TableCounters → TableCounters) : (s.countTable f).table.pins = s.table.pins := rfl
@[simp] theorem State.countTable_table_watches (s : State) (f : TableCounters → TableCounters) : (s.countTable f).table.watches = s.table.watches := rfl
@[simp] theorem State.countTable_table_ageTick (s : State) (f : TableCounters → TableCounters) : (s.countTable f).table.ageTick = s.table.ageTick := rfl
@[simp] theorem State.countTable_calls (s : State) (f : TableCounters → TableCounters) : (s.countTable f).calls = s.calls := rfl
@[simp] theorem State.countTable_seg (s : State) (f : TableCounters → TableCounters) : (s.countTable f).seg = s.seg := rfl
@[simp] theorem State.countTable_evac (s : State) (f : TableCounters → TableCounters) : (s.countTable f).evac = s.evac := rfl
@[simp] theorem State.countTable_supply (s : State) (f : TableCounters → TableCounters) : (s.countTable f).supply = s.supply := rfl
@[simp] theorem State.countTable_integ (s : State) (f : TableCounters → TableCounters) : (s.countTable f).integ = s.integ := rfl
@[simp] theorem State.countTable_mgmt (s : State) (f : TableCounters → TableCounters) : (s.countTable f).mgmt = s.mgmt := rfl

/-! ### State.countCalls -/

@[simp] theorem State.countCalls_pending (s : State) (f : CallCounters → CallCounters) : (s.countCalls f).pending = s.pending := rfl
@[simp] theorem State.countCalls_now (s : State) (f : CallCounters → CallCounters) : (s.countCalls f).now = s.now := rfl
@[simp] theorem State.countCalls_samples (s : State) (f : CallCounters → CallCounters) : (s.countCalls f).samples = s.samples := rfl
@[simp] theorem State.countCalls_scratch (s : State) (f : CallCounters → CallCounters) : (s.countCalls f).scratch = s.scratch := rfl
@[simp] theorem State.countCalls_net (s : State) (f : CallCounters → CallCounters) : (s.countCalls f).net = s.net := rfl
@[simp] theorem State.countCalls_poller (s : State) (f : CallCounters → CallCounters) : (s.countCalls f).poller = s.poller := rfl
@[simp] theorem State.countCalls_air (s : State) (f : CallCounters → CallCounters) : (s.countCalls f).air = s.air := rfl
@[simp] theorem State.countCalls_table (s : State) (f : CallCounters → CallCounters) : (s.countCalls f).table = s.table := rfl
@[simp] theorem State.countCalls_calls_legs (s : State) (f : CallCounters → CallCounters) : (s.countCalls f).calls.legs = s.calls.legs := rfl
@[simp] theorem State.countCalls_calls_startList (s : State) (f : CallCounters → CallCounters) : (s.countCalls f).calls.startList = s.calls.startList := rfl
@[simp] theorem State.countCalls_calls_permits (s : State) (f : CallCounters → CallCounters) : (s.countCalls f).calls.permits = s.calls.permits := rfl
@[simp] theorem State.countCalls_seg (s : State) (f : CallCounters → CallCounters) : (s.countCalls f).seg = s.seg := rfl
@[simp] theorem State.countCalls_evac (s : State) (f : CallCounters → CallCounters) : (s.countCalls f).evac = s.evac := rfl
@[simp] theorem State.countCalls_supply (s : State) (f : CallCounters → CallCounters) : (s.countCalls f).supply = s.supply := rfl
@[simp] theorem State.countCalls_integ (s : State) (f : CallCounters → CallCounters) : (s.countCalls f).integ = s.integ := rfl
@[simp] theorem State.countCalls_mgmt (s : State) (f : CallCounters → CallCounters) : (s.countCalls f).mgmt = s.mgmt := rfl

/-! ### State.countSeg -/

@[simp] theorem State.countSeg_pending (s : State) (f : SegmentCounters → SegmentCounters) : (s.countSeg f).pending = s.pending := rfl
@[simp] theorem State.countSeg_now (s : State) (f : SegmentCounters → SegmentCounters) : (s.countSeg f).now = s.now := rfl
@[simp] theorem State.countSeg_samples (s : State) (f : SegmentCounters → SegmentCounters) : (s.countSeg f).samples = s.samples := rfl
@[simp] theorem State.countSeg_scratch (s : State) (f : SegmentCounters → SegmentCounters) : (s.countSeg f).scratch = s.scratch := rfl
@[simp] theorem State.countSeg_net (s : State) (f : SegmentCounters → SegmentCounters) : (s.countSeg f).net = s.net := rfl
@[simp] theorem State.countSeg_poller (s : State) (f : SegmentCounters → SegmentCounters) : (s.countSeg f).poller = s.poller := rfl
@[simp] theorem State.countSeg_air (s : State) (f : SegmentCounters → SegmentCounters) : (s.countSeg f).air = s.air := rfl
@[simp] theorem State.countSeg_table (s : State) (f : SegmentCounters → SegmentCounters) : (s.countSeg f).table = s.table := rfl
@[simp] theorem State.countSeg_calls (s : State) (f : SegmentCounters → SegmentCounters) : (s.countSeg f).calls = s.calls := rfl
@[simp] theorem State.countSeg_seg_state (s : State) (f : SegmentCounters → SegmentCounters) : (s.countSeg f).seg.state = s.seg.state := rfl
@[simp] theorem State.countSeg_seg_holder (s : State) (f : SegmentCounters → SegmentCounters) : (s.countSeg f).seg.holder = s.seg.holder := rfl
@[simp] theorem State.countSeg_seg_causes (s : State) (f : SegmentCounters → SegmentCounters) : (s.countSeg f).seg.causes = s.seg.causes := rfl
@[simp] theorem State.countSeg_seg_queue (s : State) (f : SegmentCounters → SegmentCounters) : (s.countSeg f).seg.queue = s.seg.queue := rfl
@[simp] theorem State.countSeg_seg_lease (s : State) (f : SegmentCounters → SegmentCounters) : (s.countSeg f).seg.lease = s.seg.lease := rfl
@[simp] theorem State.countSeg_seg_minerCount (s : State) (f : SegmentCounters → SegmentCounters) : (s.countSeg f).seg.minerCount = s.seg.minerCount := rfl
@[simp] theorem State.countSeg_seg_holderHere (s : State) (f : SegmentCounters → SegmentCounters) : (s.countSeg f).seg.holderHere = s.seg.holderHere := rfl
@[simp] theorem State.countSeg_evac (s : State) (f : SegmentCounters → SegmentCounters) : (s.countSeg f).evac = s.evac := rfl
@[simp] theorem State.countSeg_supply (s : State) (f : SegmentCounters → SegmentCounters) : (s.countSeg f).supply = s.supply := rfl
@[simp] theorem State.countSeg_integ (s : State) (f : SegmentCounters → SegmentCounters) : (s.countSeg f).integ = s.integ := rfl
@[simp] theorem State.countSeg_mgmt (s : State) (f : SegmentCounters → SegmentCounters) : (s.countSeg f).mgmt = s.mgmt := rfl

/-! ### State.countEvac -/

@[simp] theorem State.countEvac_pending (s : State) (f : EvacCounters → EvacCounters) : (s.countEvac f).pending = s.pending := rfl
@[simp] theorem State.countEvac_now (s : State) (f : EvacCounters → EvacCounters) : (s.countEvac f).now = s.now := rfl
@[simp] theorem State.countEvac_samples (s : State) (f : EvacCounters → EvacCounters) : (s.countEvac f).samples = s.samples := rfl
@[simp] theorem State.countEvac_scratch (s : State) (f : EvacCounters → EvacCounters) : (s.countEvac f).scratch = s.scratch := rfl
@[simp] theorem State.countEvac_net (s : State) (f : EvacCounters → EvacCounters) : (s.countEvac f).net = s.net := rfl
@[simp] theorem State.countEvac_poller (s : State) (f : EvacCounters → EvacCounters) : (s.countEvac f).poller = s.poller := rfl
@[simp] theorem State.countEvac_air (s : State) (f : EvacCounters → EvacCounters) : (s.countEvac f).air = s.air := rfl
@[simp] theorem State.countEvac_table (s : State) (f : EvacCounters → EvacCounters) : (s.countEvac f).table = s.table := rfl
@[simp] theorem State.countEvac_calls (s : State) (f : EvacCounters → EvacCounters) : (s.countEvac f).calls = s.calls := rfl
@[simp] theorem State.countEvac_seg (s : State) (f : EvacCounters → EvacCounters) : (s.countEvac f).seg = s.seg := rfl
@[simp] theorem State.countEvac_evac_state (s : State) (f : EvacCounters → EvacCounters) : (s.countEvac f).evac.state = s.evac.state := rfl
@[simp] theorem State.countEvac_evac_repeatTimer (s : State) (f : EvacCounters → EvacCounters) : (s.countEvac f).evac.repeatTimer = s.evac.repeatTimer := rfl
@[simp] theorem State.countEvac_evac_panels (s : State) (f : EvacCounters → EvacCounters) : (s.countEvac f).evac.panels = s.evac.panels := rfl
@[simp] theorem State.countEvac_evac_sos (s : State) (f : EvacCounters → EvacCounters) : (s.countEvac f).evac.sos = s.evac.sos := rfl
@[simp] theorem State.countEvac_evac_routes (s : State) (f : EvacCounters → EvacCounters) : (s.countEvac f).evac.routes = s.evac.routes := rfl
@[simp] theorem State.countEvac_evac_lines (s : State) (f : EvacCounters → EvacCounters) : (s.countEvac f).evac.lines = s.evac.lines := rfl
@[simp] theorem State.countEvac_evac_doorTick (s : State) (f : EvacCounters → EvacCounters) : (s.countEvac f).evac.doorTick = s.evac.doorTick := rfl
@[simp] theorem State.countEvac_supply (s : State) (f : EvacCounters → EvacCounters) : (s.countEvac f).supply = s.supply := rfl
@[simp] theorem State.countEvac_integ (s : State) (f : EvacCounters → EvacCounters) : (s.countEvac f).integ = s.integ := rfl
@[simp] theorem State.countEvac_mgmt (s : State) (f : EvacCounters → EvacCounters) : (s.countEvac f).mgmt = s.mgmt := rfl

/-! ### State.countSupply -/

@[simp] theorem State.countSupply_pending (s : State) (f : SupplyCounters → SupplyCounters) : (s.countSupply f).pending = s.pending := rfl
@[simp] theorem State.countSupply_now (s : State) (f : SupplyCounters → SupplyCounters) : (s.countSupply f).now = s.now := rfl
@[simp] theorem State.countSupply_samples (s : State) (f : SupplyCounters → SupplyCounters) : (s.countSupply f).samples = s.samples := rfl
@[simp] theorem State.countSupply_scratch (s : State) (f : SupplyCounters → SupplyCounters) : (s.countSupply f).scratch = s.scratch := rfl
@[simp] theorem State.countSupply_net (s : State) (f : SupplyCounters → SupplyCounters) : (s.countSupply f).net = s.net := rfl
@[simp] theorem State.countSupply_poller (s : State) (f : SupplyCounters → SupplyCounters) : (s.countSupply f).poller = s.poller := rfl
@[simp] theorem State.countSupply_air (s : State) (f : SupplyCounters → SupplyCounters) : (s.countSupply f).air = s.air := rfl
@[simp] theorem State.countSupply_table (s : State) (f : SupplyCounters → SupplyCounters) : (s.countSupply f).table = s.table := rfl
@[simp] theorem State.countSupply_calls (s : State) (f : SupplyCounters → SupplyCounters) : (s.countSupply f).calls = s.calls := rfl
@[simp] theorem State.countSupply_seg (s : State) (f : SupplyCounters → SupplyCounters) : (s.countSupply f).seg = s.seg := rfl
@[simp] theorem State.countSupply_evac (s : State) (f : SupplyCounters → SupplyCounters) : (s.countSupply f).evac = s.evac := rfl
@[simp] theorem State.countSupply_supply_sample (s : State) (f : SupplyCounters → SupplyCounters) : (s.countSupply f).supply.sample = s.supply.sample := rfl
@[simp] theorem State.countSupply_supply_entries (s : State) (f : SupplyCounters → SupplyCounters) : (s.countSupply f).supply.entries = s.supply.entries := rfl
@[simp] theorem State.countSupply_supply_shedLevel (s : State) (f : SupplyCounters → SupplyCounters) : (s.countSupply f).supply.shedLevel = s.supply.shedLevel := rfl
@[simp] theorem State.countSupply_supply_sampleTick (s : State) (f : SupplyCounters → SupplyCounters) : (s.countSupply f).supply.sampleTick = s.supply.sampleTick := rfl
@[simp] theorem State.countSupply_integ (s : State) (f : SupplyCounters → SupplyCounters) : (s.countSupply f).integ = s.integ := rfl
@[simp] theorem State.countSupply_mgmt (s : State) (f : SupplyCounters → SupplyCounters) : (s.countSupply f).mgmt = s.mgmt := rfl

/-! ### State.countInteg -/

@[simp] theorem State.countInteg_pending (s : State) (f : IntegrityCounters → IntegrityCounters) : (s.countInteg f).pending = s.pending := rfl
@[simp] theorem State.countInteg_now (s : State) (f : IntegrityCounters → IntegrityCounters) : (s.countInteg f).now = s.now := rfl
@[simp] theorem State.countInteg_samples (s : State) (f : IntegrityCounters → IntegrityCounters) : (s.countInteg f).samples = s.samples := rfl
@[simp] theorem State.countInteg_scratch (s : State) (f : IntegrityCounters → IntegrityCounters) : (s.countInteg f).scratch = s.scratch := rfl
@[simp] theorem State.countInteg_net (s : State) (f : IntegrityCounters → IntegrityCounters) : (s.countInteg f).net = s.net := rfl
@[simp] theorem State.countInteg_poller (s : State) (f : IntegrityCounters → IntegrityCounters) : (s.countInteg f).poller = s.poller := rfl
@[simp] theorem State.countInteg_air (s : State) (f : IntegrityCounters → IntegrityCounters) : (s.countInteg f).air = s.air := rfl
@[simp] theorem State.countInteg_table (s : State) (f : IntegrityCounters → IntegrityCounters) : (s.countInteg f).table = s.table := rfl
@[simp] theorem State.countInteg_calls (s : State) (f : IntegrityCounters → IntegrityCounters) : (s.countInteg f).calls = s.calls := rfl
@[simp] theorem State.countInteg_seg (s : State) (f : IntegrityCounters → IntegrityCounters) : (s.countInteg f).seg = s.seg := rfl
@[simp] theorem State.countInteg_evac (s : State) (f : IntegrityCounters → IntegrityCounters) : (s.countInteg f).evac = s.evac := rfl
@[simp] theorem State.countInteg_supply (s : State) (f : IntegrityCounters → IntegrityCounters) : (s.countInteg f).supply = s.supply := rfl
@[simp] theorem State.countInteg_integ_state (s : State) (f : IntegrityCounters → IntegrityCounters) : (s.countInteg f).integ.state = s.integ.state := rfl
@[simp] theorem State.countInteg_integ_storedCheck (s : State) (f : IntegrityCounters → IntegrityCounters) : (s.countInteg f).integ.storedCheck = s.integ.storedCheck := rfl
@[simp] theorem State.countInteg_integ_lastCheck (s : State) (f : IntegrityCounters → IntegrityCounters) : (s.countInteg f).integ.lastCheck = s.integ.lastCheck := rfl
@[simp] theorem State.countInteg_integ_position (s : State) (f : IntegrityCounters → IntegrityCounters) : (s.countInteg f).integ.position = s.integ.position := rfl
@[simp] theorem State.countInteg_integ_runningCrc (s : State) (f : IntegrityCounters → IntegrityCounters) : (s.countInteg f).integ.runningCrc = s.integ.runningCrc := rfl
@[simp] theorem State.countInteg_integ_scanTimer (s : State) (f : IntegrityCounters → IntegrityCounters) : (s.countInteg f).integ.scanTimer = s.integ.scanTimer := rfl
@[simp] theorem State.countInteg_integ_suspensionTimer (s : State) (f : IntegrityCounters → IntegrityCounters) : (s.countInteg f).integ.suspensionTimer = s.integ.suspensionTimer := rfl
@[simp] theorem State.countInteg_mgmt (s : State) (f : IntegrityCounters → IntegrityCounters) : (s.countInteg f).mgmt = s.mgmt := rfl

/-! ### State.countMgmt -/

@[simp] theorem State.countMgmt_pending (s : State) (f : MgmtCounters → MgmtCounters) : (s.countMgmt f).pending = s.pending := rfl
@[simp] theorem State.countMgmt_now (s : State) (f : MgmtCounters → MgmtCounters) : (s.countMgmt f).now = s.now := rfl
@[simp] theorem State.countMgmt_samples (s : State) (f : MgmtCounters → MgmtCounters) : (s.countMgmt f).samples = s.samples := rfl
@[simp] theorem State.countMgmt_scratch (s : State) (f : MgmtCounters → MgmtCounters) : (s.countMgmt f).scratch = s.scratch := rfl
@[simp] theorem State.countMgmt_net (s : State) (f : MgmtCounters → MgmtCounters) : (s.countMgmt f).net = s.net := rfl
@[simp] theorem State.countMgmt_poller (s : State) (f : MgmtCounters → MgmtCounters) : (s.countMgmt f).poller = s.poller := rfl
@[simp] theorem State.countMgmt_air (s : State) (f : MgmtCounters → MgmtCounters) : (s.countMgmt f).air = s.air := rfl
@[simp] theorem State.countMgmt_table (s : State) (f : MgmtCounters → MgmtCounters) : (s.countMgmt f).table = s.table := rfl
@[simp] theorem State.countMgmt_calls (s : State) (f : MgmtCounters → MgmtCounters) : (s.countMgmt f).calls = s.calls := rfl
@[simp] theorem State.countMgmt_seg (s : State) (f : MgmtCounters → MgmtCounters) : (s.countMgmt f).seg = s.seg := rfl
@[simp] theorem State.countMgmt_evac (s : State) (f : MgmtCounters → MgmtCounters) : (s.countMgmt f).evac = s.evac := rfl
@[simp] theorem State.countMgmt_supply (s : State) (f : MgmtCounters → MgmtCounters) : (s.countMgmt f).supply = s.supply := rfl
@[simp] theorem State.countMgmt_integ (s : State) (f : MgmtCounters → MgmtCounters) : (s.countMgmt f).integ = s.integ := rfl
@[simp] theorem State.countMgmt_mgmt_parameters (s : State) (f : MgmtCounters → MgmtCounters) : (s.countMgmt f).mgmt.parameters = s.mgmt.parameters := rfl
@[simp] theorem State.countMgmt_mgmt_attention (s : State) (f : MgmtCounters → MgmtCounters) : (s.countMgmt f).mgmt.attention = s.mgmt.attention := rfl
@[simp] theorem State.countMgmt_mgmt_statusTimer (s : State) (f : MgmtCounters → MgmtCounters) : (s.countMgmt f).mgmt.statusTimer = s.mgmt.statusTimer := rfl
@[simp] theorem State.countMgmt_mgmt_isolated (s : State) (f : MgmtCounters → MgmtCounters) : (s.countMgmt f).mgmt.isolated = s.mgmt.isolated := rfl
@[simp] theorem State.countMgmt_mgmt_isolationTimer (s : State) (f : MgmtCounters → MgmtCounters) : (s.countMgmt f).mgmt.isolationTimer = s.mgmt.isolationTimer := rfl
@[simp] theorem State.countMgmt_mgmt_restartPending (s : State) (f : MgmtCounters → MgmtCounters) : (s.countMgmt f).mgmt.restartPending = s.mgmt.restartPending := rfl

/-! ### State.reach -/

@[simp] theorem State.reach_pending (s : State) (t : Nat) : (s.reach t).pending = s.pending := rfl
@[simp] theorem State.reach_samples (s : State) (t : Nat) : (s.reach t).samples = s.samples := rfl
@[simp] theorem State.reach_scratch (s : State) (t : Nat) : (s.reach t).scratch = s.scratch := rfl
@[simp] theorem State.reach_net (s : State) (t : Nat) : (s.reach t).net = s.net := rfl
@[simp] theorem State.reach_poller (s : State) (t : Nat) : (s.reach t).poller = s.poller := rfl
@[simp] theorem State.reach_air (s : State) (t : Nat) : (s.reach t).air = s.air := rfl
@[simp] theorem State.reach_table (s : State) (t : Nat) : (s.reach t).table = s.table := rfl
@[simp] theorem State.reach_calls (s : State) (t : Nat) : (s.reach t).calls = s.calls := rfl
@[simp] theorem State.reach_seg (s : State) (t : Nat) : (s.reach t).seg = s.seg := rfl
@[simp] theorem State.reach_evac (s : State) (t : Nat) : (s.reach t).evac = s.evac := rfl
@[simp] theorem State.reach_supply (s : State) (t : Nat) : (s.reach t).supply = s.supply := rfl
@[simp] theorem State.reach_integ (s : State) (t : Nat) : (s.reach t).integ = s.integ := rfl
@[simp] theorem State.reach_mgmt (s : State) (t : Nat) : (s.reach t).mgmt = s.mgmt := rfl

/-! ### State.setEntries -/

@[simp] theorem State.setEntries_pending (s : State) (l : List Entry) : (s.setEntries l).pending = s.pending := rfl
@[simp] theorem State.setEntries_now (s : State) (l : List Entry) : (s.setEntries l).now = s.now := rfl
@[simp] theorem State.setEntries_samples (s : State) (l : List Entry) : (s.setEntries l).samples = s.samples := rfl
@[simp] theorem State.setEntries_scratch (s : State) (l : List Entry) : (s.setEntries l).scratch = s.scratch := rfl
@[simp] theorem State.setEntries_net (s : State) (l : List Entry) : (s.setEntries l).net = s.net := rfl
@[simp] theorem State.setEntries_poller (s : State) (l : List Entry) : (s.setEntries l).poller = s.poller := rfl
@[simp] theorem State.setEntries_air (s : State) (l : List Entry) : (s.setEntries l).air = s.air := rfl
@[simp] theorem State.setEntries_table_pins (s : State) (l : List Entry) : (s.setEntries l).table.pins = s.table.pins := rfl
@[simp] theorem State.setEntries_table_watches (s : State) (l : List Entry) : (s.setEntries l).table.watches = s.table.watches := rfl
@[simp] theorem State.setEntries_table_ageTick (s : State) (l : List Entry) : (s.setEntries l).table.ageTick = s.table.ageTick := rfl
@[simp] theorem State.setEntries_table_counters (s : State) (l : List Entry) : (s.setEntries l).table.counters = s.table.counters := rfl
@[simp] theorem State.setEntries_calls (s : State) (l : List Entry) : (s.setEntries l).calls = s.calls := rfl
@[simp] theorem State.setEntries_seg (s : State) (l : List Entry) : (s.setEntries l).seg = s.seg := rfl
@[simp] theorem State.setEntries_evac (s : State) (l : List Entry) : (s.setEntries l).evac = s.evac := rfl
@[simp] theorem State.setEntries_supply (s : State) (l : List Entry) : (s.setEntries l).supply = s.supply := rfl
@[simp] theorem State.setEntries_integ (s : State) (l : List Entry) : (s.setEntries l).integ = s.integ := rfl
@[simp] theorem State.setEntries_mgmt (s : State) (l : List Entry) : (s.setEntries l).mgmt = s.mgmt := rfl

/-! ### State.setLeg -/

@[simp] theorem State.setLeg_pending (s : State) (i : Fin 8) (l : Leg) : (s.setLeg i l).pending = s.pending := rfl
@[simp] theorem State.setLeg_now (s : State) (i : Fin 8) (l : Leg) : (s.setLeg i l).now = s.now := rfl
@[simp] theorem State.setLeg_samples (s : State) (i : Fin 8) (l : Leg) : (s.setLeg i l).samples = s.samples := rfl
@[simp] theorem State.setLeg_scratch (s : State) (i : Fin 8) (l : Leg) : (s.setLeg i l).scratch = s.scratch := rfl
@[simp] theorem State.setLeg_net (s : State) (i : Fin 8) (l : Leg) : (s.setLeg i l).net = s.net := rfl
@[simp] theorem State.setLeg_poller (s : State) (i : Fin 8) (l : Leg) : (s.setLeg i l).poller = s.poller := rfl
@[simp] theorem State.setLeg_air (s : State) (i : Fin 8) (l : Leg) : (s.setLeg i l).air = s.air := rfl
@[simp] theorem State.setLeg_table (s : State) (i : Fin 8) (l : Leg) : (s.setLeg i l).table = s.table := rfl
@[simp] theorem State.setLeg_calls_startList (s : State) (i : Fin 8) (l : Leg) : (s.setLeg i l).calls.startList = s.calls.startList := rfl
@[simp] theorem State.setLeg_calls_permits (s : State) (i : Fin 8) (l : Leg) : (s.setLeg i l).calls.permits = s.calls.permits := rfl
@[simp] theorem State.setLeg_calls_counters (s : State) (i : Fin 8) (l : Leg) : (s.setLeg i l).calls.counters = s.calls.counters := rfl
@[simp] theorem State.setLeg_seg (s : State) (i : Fin 8) (l : Leg) : (s.setLeg i l).seg = s.seg := rfl
@[simp] theorem State.setLeg_evac (s : State) (i : Fin 8) (l : Leg) : (s.setLeg i l).evac = s.evac := rfl
@[simp] theorem State.setLeg_supply (s : State) (i : Fin 8) (l : Leg) : (s.setLeg i l).supply = s.supply := rfl
@[simp] theorem State.setLeg_integ (s : State) (i : Fin 8) (l : Leg) : (s.setLeg i l).integ = s.integ := rfl
@[simp] theorem State.setLeg_mgmt (s : State) (i : Fin 8) (l : Leg) : (s.setLeg i l).mgmt = s.mgmt := rfl

/-! ### State.setStartList -/

@[simp] theorem State.setStartList_pending (s : State) (l : List (Fin 8)) : (s.setStartList l).pending = s.pending := rfl
@[simp] theorem State.setStartList_now (s : State) (l : List (Fin 8)) : (s.setStartList l).now = s.now := rfl
@[simp] theorem State.setStartList_samples (s : State) (l : List (Fin 8)) : (s.setStartList l).samples = s.samples := rfl
@[simp] theorem State.setStartList_scratch (s : State) (l : List (Fin 8)) : (s.setStartList l).scratch = s.scratch := rfl
@[simp] theorem State.setStartList_net (s : State) (l : List (Fin 8)) : (s.setStartList l).net = s.net := rfl
@[simp] theorem State.setStartList_poller (s : State) (l : List (Fin 8)) : (s.setStartList l).poller = s.poller := rfl
@[simp] theorem State.setStartList_air (s : State) (l : List (Fin 8)) : (s.setStartList l).air = s.air := rfl
@[simp] theorem State.setStartList_table (s : State) (l : List (Fin 8)) : (s.setStartList l).table = s.table := rfl
@[simp] theorem State.setStartList_calls_legs (s : State) (l : List (Fin 8)) : (s.setStartList l).calls.legs = s.calls.legs := rfl
@[simp] theorem State.setStartList_calls_permits (s : State) (l : List (Fin 8)) : (s.setStartList l).calls.permits = s.calls.permits := rfl
@[simp] theorem State.setStartList_calls_counters (s : State) (l : List (Fin 8)) : (s.setStartList l).calls.counters = s.calls.counters := rfl
@[simp] theorem State.setStartList_seg (s : State) (l : List (Fin 8)) : (s.setStartList l).seg = s.seg := rfl
@[simp] theorem State.setStartList_evac (s : State) (l : List (Fin 8)) : (s.setStartList l).evac = s.evac := rfl
@[simp] theorem State.setStartList_supply (s : State) (l : List (Fin 8)) : (s.setStartList l).supply = s.supply := rfl
@[simp] theorem State.setStartList_integ (s : State) (l : List (Fin 8)) : (s.setStartList l).integ = s.integ := rfl
@[simp] theorem State.setStartList_mgmt (s : State) (l : List (Fin 8)) : (s.setStartList l).mgmt = s.mgmt := rfl

/-! ### State.setChannel -/

@[simp] theorem State.setChannel_pending (s : State) (c : Fin 16) (x : Channel) : (s.setChannel c x).pending = s.pending := rfl
@[simp] theorem State.setChannel_now (s : State) (c : Fin 16) (x : Channel) : (s.setChannel c x).now = s.now := rfl
@[simp] theorem State.setChannel_samples (s : State) (c : Fin 16) (x : Channel) : (s.setChannel c x).samples = s.samples := rfl
@[simp] theorem State.setChannel_scratch (s : State) (c : Fin 16) (x : Channel) : (s.setChannel c x).scratch = s.scratch := rfl
@[simp] theorem State.setChannel_net (s : State) (c : Fin 16) (x : Channel) : (s.setChannel c x).net = s.net := rfl
@[simp] theorem State.setChannel_poller (s : State) (c : Fin 16) (x : Channel) : (s.setChannel c x).poller = s.poller := rfl
@[simp] theorem State.setChannel_air_zone (s : State) (c : Fin 16) (x : Channel) : (s.setChannel c x).air.zone = s.air.zone := rfl
@[simp] theorem State.setChannel_air_refuge (s : State) (c : Fin 16) (x : Channel) : (s.setChannel c x).air.refuge = s.air.refuge := rfl
@[simp] theorem State.setChannel_air_tripOutput (s : State) (c : Fin 16) (x : Channel) : (s.setChannel c x).air.tripOutput = s.air.tripOutput := rfl
@[simp] theorem State.setChannel_air_reportTimer (s : State) (c : Fin 16) (x : Channel) : (s.setChannel c x).air.reportTimer = s.air.reportTimer := rfl
@[simp] theorem State.setChannel_table (s : State) (c : Fin 16) (x : Channel) : (s.setChannel c x).table = s.table := rfl
@[simp] theorem State.setChannel_calls (s : State) (c : Fin 16) (x : Channel) : (s.setChannel c x).calls = s.calls := rfl
@[simp] theorem State.setChannel_seg (s : State) (c : Fin 16) (x : Channel) : (s.setChannel c x).seg = s.seg := rfl
@[simp] theorem State.setChannel_evac (s : State) (c : Fin 16) (x : Channel) : (s.setChannel c x).evac = s.evac := rfl
@[simp] theorem State.setChannel_supply (s : State) (c : Fin 16) (x : Channel) : (s.setChannel c x).supply = s.supply := rfl
@[simp] theorem State.setChannel_integ (s : State) (c : Fin 16) (x : Channel) : (s.setChannel c x).integ = s.integ := rfl
@[simp] theorem State.setChannel_mgmt (s : State) (c : Fin 16) (x : Channel) : (s.setChannel c x).mgmt = s.mgmt := rfl

/-! ### State.setPollRecord -/

@[simp] theorem State.setPollRecord_pending (s : State) (i : Fin 8) (r : PollRecord) : (s.setPollRecord i r).pending = s.pending := rfl
@[simp] theorem State.setPollRecord_now (s : State) (i : Fin 8) (r : PollRecord) : (s.setPollRecord i r).now = s.now := rfl
@[simp] theorem State.setPollRecord_samples (s : State) (i : Fin 8) (r : PollRecord) : (s.setPollRecord i r).samples = s.samples := rfl
@[simp] theorem State.setPollRecord_scratch (s : State) (i : Fin 8) (r : PollRecord) : (s.setPollRecord i r).scratch = s.scratch := rfl
@[simp] theorem State.setPollRecord_net (s : State) (i : Fin 8) (r : PollRecord) : (s.setPollRecord i r).net = s.net := rfl
@[simp] theorem State.setPollRecord_poller_inFlight (s : State) (i : Fin 8) (r : PollRecord) : (s.setPollRecord i r).poller.inFlight = s.poller.inFlight := rfl
@[simp] theorem State.setPollRecord_poller_replyTimer (s : State) (i : Fin 8) (r : PollRecord) : (s.setPollRecord i r).poller.replyTimer = s.poller.replyTimer := rfl
@[simp] theorem State.setPollRecord_poller_sequence (s : State) (i : Fin 8) (r : PollRecord) : (s.setPollRecord i r).poller.sequence = s.poller.sequence := rfl
@[simp] theorem State.setPollRecord_poller_counters (s : State) (i : Fin 8) (r : PollRecord) : (s.setPollRecord i r).poller.counters = s.poller.counters := rfl
@[simp] theorem State.setPollRecord_air (s : State) (i : Fin 8) (r : PollRecord) : (s.setPollRecord i r).air = s.air := rfl
@[simp] theorem State.setPollRecord_table (s : State) (i : Fin 8) (r : PollRecord) : (s.setPollRecord i r).table = s.table := rfl
@[simp] theorem State.setPollRecord_calls (s : State) (i : Fin 8) (r : PollRecord) : (s.setPollRecord i r).calls = s.calls := rfl
@[simp] theorem State.setPollRecord_seg (s : State) (i : Fin 8) (r : PollRecord) : (s.setPollRecord i r).seg = s.seg := rfl
@[simp] theorem State.setPollRecord_evac (s : State) (i : Fin 8) (r : PollRecord) : (s.setPollRecord i r).evac = s.evac := rfl
@[simp] theorem State.setPollRecord_supply (s : State) (i : Fin 8) (r : PollRecord) : (s.setPollRecord i r).supply = s.supply := rfl
@[simp] theorem State.setPollRecord_integ (s : State) (i : Fin 8) (r : PollRecord) : (s.setPollRecord i r).integ = s.integ := rfl
@[simp] theorem State.setPollRecord_mgmt (s : State) (i : Fin 8) (r : PollRecord) : (s.setPollRecord i r).mgmt = s.mgmt := rfl

/-! ### State.setPanel -/

@[simp] theorem State.setPanel_pending (s : State) (i : Fin 8) (p : Panel) : (s.setPanel i p).pending = s.pending := rfl
@[simp] theorem State.setPanel_now (s : State) (i : Fin 8) (p : Panel) : (s.setPanel i p).now = s.now := rfl
@[simp] theorem State.setPanel_samples (s : State) (i : Fin 8) (p : Panel) : (s.setPanel i p).samples = s.samples := rfl
@[simp] theorem State.setPanel_scratch (s : State) (i : Fin 8) (p : Panel) : (s.setPanel i p).scratch = s.scratch := rfl
@[simp] theorem State.setPanel_net (s : State) (i : Fin 8) (p : Panel) : (s.setPanel i p).net = s.net := rfl
@[simp] theorem State.setPanel_poller (s : State) (i : Fin 8) (p : Panel) : (s.setPanel i p).poller = s.poller := rfl
@[simp] theorem State.setPanel_air (s : State) (i : Fin 8) (p : Panel) : (s.setPanel i p).air = s.air := rfl
@[simp] theorem State.setPanel_table (s : State) (i : Fin 8) (p : Panel) : (s.setPanel i p).table = s.table := rfl
@[simp] theorem State.setPanel_calls (s : State) (i : Fin 8) (p : Panel) : (s.setPanel i p).calls = s.calls := rfl
@[simp] theorem State.setPanel_seg (s : State) (i : Fin 8) (p : Panel) : (s.setPanel i p).seg = s.seg := rfl
@[simp] theorem State.setPanel_evac_state (s : State) (i : Fin 8) (p : Panel) : (s.setPanel i p).evac.state = s.evac.state := rfl
@[simp] theorem State.setPanel_evac_repeatTimer (s : State) (i : Fin 8) (p : Panel) : (s.setPanel i p).evac.repeatTimer = s.evac.repeatTimer := rfl
@[simp] theorem State.setPanel_evac_sos (s : State) (i : Fin 8) (p : Panel) : (s.setPanel i p).evac.sos = s.evac.sos := rfl
@[simp] theorem State.setPanel_evac_routes (s : State) (i : Fin 8) (p : Panel) : (s.setPanel i p).evac.routes = s.evac.routes := rfl
@[simp] theorem State.setPanel_evac_lines (s : State) (i : Fin 8) (p : Panel) : (s.setPanel i p).evac.lines = s.evac.lines := rfl
@[simp] theorem State.setPanel_evac_doorTick (s : State) (i : Fin 8) (p : Panel) : (s.setPanel i p).evac.doorTick = s.evac.doorTick := rfl
@[simp] theorem State.setPanel_evac_counters (s : State) (i : Fin 8) (p : Panel) : (s.setPanel i p).evac.counters = s.evac.counters := rfl
@[simp] theorem State.setPanel_supply (s : State) (i : Fin 8) (p : Panel) : (s.setPanel i p).supply = s.supply := rfl
@[simp] theorem State.setPanel_integ (s : State) (i : Fin 8) (p : Panel) : (s.setPanel i p).integ = s.integ := rfl
@[simp] theorem State.setPanel_mgmt (s : State) (i : Fin 8) (p : Panel) : (s.setPanel i p).mgmt = s.mgmt := rfl

/-! ### State.setFlagGroup -/

@[simp] theorem State.setFlagGroup_pending (s : State) (g : Group) (x : FlagGroup) : (s.setFlagGroup g x).pending = s.pending := rfl
@[simp] theorem State.setFlagGroup_now (s : State) (g : Group) (x : FlagGroup) : (s.setFlagGroup g x).now = s.now := rfl
@[simp] theorem State.setFlagGroup_samples (s : State) (g : Group) (x : FlagGroup) : (s.setFlagGroup g x).samples = s.samples := rfl
@[simp] theorem State.setFlagGroup_scratch (s : State) (g : Group) (x : FlagGroup) : (s.setFlagGroup g x).scratch = s.scratch := rfl
@[simp] theorem State.setFlagGroup_net (s : State) (g : Group) (x : FlagGroup) : (s.setFlagGroup g x).net = s.net := rfl
@[simp] theorem State.setFlagGroup_poller (s : State) (g : Group) (x : FlagGroup) : (s.setFlagGroup g x).poller = s.poller := rfl
@[simp] theorem State.setFlagGroup_air (s : State) (g : Group) (x : FlagGroup) : (s.setFlagGroup g x).air = s.air := rfl
@[simp] theorem State.setFlagGroup_table (s : State) (g : Group) (x : FlagGroup) : (s.setFlagGroup g x).table = s.table := rfl
@[simp] theorem State.setFlagGroup_calls (s : State) (g : Group) (x : FlagGroup) : (s.setFlagGroup g x).calls = s.calls := rfl
@[simp] theorem State.setFlagGroup_seg (s : State) (g : Group) (x : FlagGroup) : (s.setFlagGroup g x).seg = s.seg := rfl
@[simp] theorem State.setFlagGroup_evac (s : State) (g : Group) (x : FlagGroup) : (s.setFlagGroup g x).evac = s.evac := rfl
@[simp] theorem State.setFlagGroup_supply (s : State) (g : Group) (x : FlagGroup) : (s.setFlagGroup g x).supply = s.supply := rfl
@[simp] theorem State.setFlagGroup_integ (s : State) (g : Group) (x : FlagGroup) : (s.setFlagGroup g x).integ = s.integ := rfl
@[simp] theorem State.setFlagGroup_mgmt_parameters (s : State) (g : Group) (x : FlagGroup) : (s.setFlagGroup g x).mgmt.parameters = s.mgmt.parameters := rfl
@[simp] theorem State.setFlagGroup_mgmt_statusTimer (s : State) (g : Group) (x : FlagGroup) : (s.setFlagGroup g x).mgmt.statusTimer = s.mgmt.statusTimer := rfl
@[simp] theorem State.setFlagGroup_mgmt_isolated (s : State) (g : Group) (x : FlagGroup) : (s.setFlagGroup g x).mgmt.isolated = s.mgmt.isolated := rfl
@[simp] theorem State.setFlagGroup_mgmt_isolationTimer (s : State) (g : Group) (x : FlagGroup) : (s.setFlagGroup g x).mgmt.isolationTimer = s.mgmt.isolationTimer := rfl
@[simp] theorem State.setFlagGroup_mgmt_restartPending (s : State) (g : Group) (x : FlagGroup) : (s.setFlagGroup g x).mgmt.restartPending = s.mgmt.restartPending := rfl
@[simp] theorem State.setFlagGroup_mgmt_counters (s : State) (g : Group) (x : FlagGroup) : (s.setFlagGroup g x).mgmt.counters = s.mgmt.counters := rfl

/-! ### State.originate -/

@[simp] theorem State.originate_pending (s : State) (m : Message) : (s.originate m).pending = s.pending := rfl
@[simp] theorem State.originate_now (s : State) (m : Message) : (s.originate m).now = s.now := rfl
@[simp] theorem State.originate_samples (s : State) (m : Message) : (s.originate m).samples = s.samples := rfl
@[simp] theorem State.originate_scratch (s : State) (m : Message) : (s.originate m).scratch = s.scratch := rfl
@[simp] theorem State.originate_poller (s : State) (m : Message) : (s.originate m).poller = s.poller := rfl
@[simp] theorem State.originate_air (s : State) (m : Message) : (s.originate m).air = s.air := rfl
@[simp] theorem State.originate_table (s : State) (m : Message) : (s.originate m).table = s.table := rfl
@[simp] theorem State.originate_calls (s : State) (m : Message) : (s.originate m).calls = s.calls := rfl
@[simp] theorem State.originate_seg (s : State) (m : Message) : (s.originate m).seg = s.seg := rfl
@[simp] theorem State.originate_evac (s : State) (m : Message) : (s.originate m).evac = s.evac := rfl
@[simp] theorem State.originate_supply (s : State) (m : Message) : (s.originate m).supply = s.supply := rfl
@[simp] theorem State.originate_integ (s : State) (m : Message) : (s.originate m).integ = s.integ := rfl
@[simp] theorem State.originate_mgmt (s : State) (m : Message) : (s.originate m).mgmt = s.mgmt := rfl

/-! ### State.originateTo -/

@[simp] theorem State.originateTo_pending (s : State) (p : Port) (m : Message) : (s.originateTo p m).pending = s.pending := rfl
@[simp] theorem State.originateTo_now (s : State) (p : Port) (m : Message) : (s.originateTo p m).now = s.now := rfl
@[simp] theorem State.originateTo_samples (s : State) (p : Port) (m : Message) : (s.originateTo p m).samples = s.samples := rfl
@[simp] theorem State.originateTo_scratch (s : State) (p : Port) (m : Message) : (s.originateTo p m).scratch = s.scratch := rfl
@[simp] theorem State.originateTo_poller (s : State) (p : Port) (m : Message) : (s.originateTo p m).poller = s.poller := rfl
@[simp] theorem State.originateTo_air (s : State) (p : Port) (m : Message) : (s.originateTo p m).air = s.air := rfl
@[simp] theorem State.originateTo_table (s : State) (p : Port) (m : Message) : (s.originateTo p m).table = s.table := rfl
@[simp] theorem State.originateTo_calls (s : State) (p : Port) (m : Message) : (s.originateTo p m).calls = s.calls := rfl
@[simp] theorem State.originateTo_seg (s : State) (p : Port) (m : Message) : (s.originateTo p m).seg = s.seg := rfl
@[simp] theorem State.originateTo_evac (s : State) (p : Port) (m : Message) : (s.originateTo p m).evac = s.evac := rfl
@[simp] theorem State.originateTo_supply (s : State) (p : Port) (m : Message) : (s.originateTo p m).supply = s.supply := rfl
@[simp] theorem State.originateTo_integ (s : State) (p : Port) (m : Message) : (s.originateTo p m).integ = s.integ := rfl
@[simp] theorem State.originateTo_mgmt (s : State) (p : Port) (m : Message) : (s.originateTo p m).mgmt = s.mgmt := rfl

/-! ### State.setSegState -/

@[simp] theorem State.setSegState_pending (s : State) (x : SegmentState) : (s.setSegState x).pending = s.pending := rfl
@[simp] theorem State.setSegState_now (s : State) (x : SegmentState) : (s.setSegState x).now = s.now := rfl
@[simp] theorem State.setSegState_samples (s : State) (x : SegmentState) : (s.setSegState x).samples = s.samples := rfl
@[simp] theorem State.setSegState_scratch (s : State) (x : SegmentState) : (s.setSegState x).scratch = s.scratch := rfl
@[simp] theorem State.setSegState_net (s : State) (x : SegmentState) : (s.setSegState x).net = s.net := rfl
@[simp] theorem State.setSegState_poller (s : State) (x : SegmentState) : (s.setSegState x).poller = s.poller := rfl
@[simp] theorem State.setSegState_air (s : State) (x : SegmentState) : (s.setSegState x).air = s.air := rfl
@[simp] theorem State.setSegState_table (s : State) (x : SegmentState) : (s.setSegState x).table = s.table := rfl
@[simp] theorem State.setSegState_calls (s : State) (x : SegmentState) : (s.setSegState x).calls = s.calls := rfl
@[simp] theorem State.setSegState_seg_holder (s : State) (x : SegmentState) : (s.setSegState x).seg.holder = s.seg.holder := rfl
@[simp] theorem State.setSegState_seg_causes (s : State) (x : SegmentState) : (s.setSegState x).seg.causes = s.seg.causes := rfl
@[simp] theorem State.setSegState_seg_queue (s : State) (x : SegmentState) : (s.setSegState x).seg.queue = s.seg.queue := rfl
@[simp] theorem State.setSegState_seg_lease (s : State) (x : SegmentState) : (s.setSegState x).seg.lease = s.seg.lease := rfl
@[simp] theorem State.setSegState_seg_minerCount (s : State) (x : SegmentState) : (s.setSegState x).seg.minerCount = s.seg.minerCount := rfl
@[simp] theorem State.setSegState_seg_holderHere (s : State) (x : SegmentState) : (s.setSegState x).seg.holderHere = s.seg.holderHere := rfl
@[simp] theorem State.setSegState_seg_counters (s : State) (x : SegmentState) : (s.setSegState x).seg.counters = s.seg.counters := rfl
@[simp] theorem State.setSegState_evac (s : State) (x : SegmentState) : (s.setSegState x).evac = s.evac := rfl
@[simp] theorem State.setSegState_supply (s : State) (x : SegmentState) : (s.setSegState x).supply = s.supply := rfl
@[simp] theorem State.setSegState_integ (s : State) (x : SegmentState) : (s.setSegState x).integ = s.integ := rfl
@[simp] theorem State.setSegState_mgmt (s : State) (x : SegmentState) : (s.setSegState x).mgmt = s.mgmt := rfl

/-! ### State.setCauses -/

@[simp] theorem State.setCauses_pending (s : State) (c : Causes) : (s.setCauses c).pending = s.pending := rfl
@[simp] theorem State.setCauses_now (s : State) (c : Causes) : (s.setCauses c).now = s.now := rfl
@[simp] theorem State.setCauses_samples (s : State) (c : Causes) : (s.setCauses c).samples = s.samples := rfl
@[simp] theorem State.setCauses_scratch (s : State) (c : Causes) : (s.setCauses c).scratch = s.scratch := rfl
@[simp] theorem State.setCauses_net (s : State) (c : Causes) : (s.setCauses c).net = s.net := rfl
@[simp] theorem State.setCauses_poller (s : State) (c : Causes) : (s.setCauses c).poller = s.poller := rfl
@[simp] theorem State.setCauses_air (s : State) (c : Causes) : (s.setCauses c).air = s.air := rfl
@[simp] theorem State.setCauses_table (s : State) (c : Causes) : (s.setCauses c).table = s.table := rfl
@[simp] theorem State.setCauses_calls (s : State) (c : Causes) : (s.setCauses c).calls = s.calls := rfl
@[simp] theorem State.setCauses_seg_state (s : State) (c : Causes) : (s.setCauses c).seg.state = s.seg.state := rfl
@[simp] theorem State.setCauses_seg_holder (s : State) (c : Causes) : (s.setCauses c).seg.holder = s.seg.holder := rfl
@[simp] theorem State.setCauses_seg_queue (s : State) (c : Causes) : (s.setCauses c).seg.queue = s.seg.queue := rfl
@[simp] theorem State.setCauses_seg_lease (s : State) (c : Causes) : (s.setCauses c).seg.lease = s.seg.lease := rfl
@[simp] theorem State.setCauses_seg_minerCount (s : State) (c : Causes) : (s.setCauses c).seg.minerCount = s.seg.minerCount := rfl
@[simp] theorem State.setCauses_seg_holderHere (s : State) (c : Causes) : (s.setCauses c).seg.holderHere = s.seg.holderHere := rfl
@[simp] theorem State.setCauses_seg_counters (s : State) (c : Causes) : (s.setCauses c).seg.counters = s.seg.counters := rfl
@[simp] theorem State.setCauses_evac (s : State) (c : Causes) : (s.setCauses c).evac = s.evac := rfl
@[simp] theorem State.setCauses_supply (s : State) (c : Causes) : (s.setCauses c).supply = s.supply := rfl
@[simp] theorem State.setCauses_integ (s : State) (c : Causes) : (s.setCauses c).integ = s.integ := rfl
@[simp] theorem State.setCauses_mgmt (s : State) (c : Causes) : (s.setCauses c).mgmt = s.mgmt := rfl

/-! ### State.setSegQueue -/

@[simp] theorem State.setSegQueue_pending (s : State) (q : List Truck) : (s.setSegQueue q).pending = s.pending := rfl
@[simp] theorem State.setSegQueue_now (s : State) (q : List Truck) : (s.setSegQueue q).now = s.now := rfl
@[simp] theorem State.setSegQueue_samples (s : State) (q : List Truck) : (s.setSegQueue q).samples = s.samples := rfl
@[simp] theorem State.setSegQueue_scratch (s : State) (q : List Truck) : (s.setSegQueue q).scratch = s.scratch := rfl
@[simp] theorem State.setSegQueue_net (s : State) (q : List Truck) : (s.setSegQueue q).net = s.net := rfl
@[simp] theorem State.setSegQueue_poller (s : State) (q : List Truck) : (s.setSegQueue q).poller = s.poller := rfl
@[simp] theorem State.setSegQueue_air (s : State) (q : List Truck) : (s.setSegQueue q).air = s.air := rfl
@[simp] theorem State.setSegQueue_table (s : State) (q : List Truck) : (s.setSegQueue q).table = s.table := rfl
@[simp] theorem State.setSegQueue_calls (s : State) (q : List Truck) : (s.setSegQueue q).calls = s.calls := rfl
@[simp] theorem State.setSegQueue_seg_state (s : State) (q : List Truck) : (s.setSegQueue q).seg.state = s.seg.state := rfl
@[simp] theorem State.setSegQueue_seg_holder (s : State) (q : List Truck) : (s.setSegQueue q).seg.holder = s.seg.holder := rfl
@[simp] theorem State.setSegQueue_seg_causes (s : State) (q : List Truck) : (s.setSegQueue q).seg.causes = s.seg.causes := rfl
@[simp] theorem State.setSegQueue_seg_lease (s : State) (q : List Truck) : (s.setSegQueue q).seg.lease = s.seg.lease := rfl
@[simp] theorem State.setSegQueue_seg_minerCount (s : State) (q : List Truck) : (s.setSegQueue q).seg.minerCount = s.seg.minerCount := rfl
@[simp] theorem State.setSegQueue_seg_holderHere (s : State) (q : List Truck) : (s.setSegQueue q).seg.holderHere = s.seg.holderHere := rfl
@[simp] theorem State.setSegQueue_seg_counters (s : State) (q : List Truck) : (s.setSegQueue q).seg.counters = s.seg.counters := rfl
@[simp] theorem State.setSegQueue_evac (s : State) (q : List Truck) : (s.setSegQueue q).evac = s.evac := rfl
@[simp] theorem State.setSegQueue_supply (s : State) (q : List Truck) : (s.setSegQueue q).supply = s.supply := rfl
@[simp] theorem State.setSegQueue_integ (s : State) (q : List Truck) : (s.setSegQueue q).integ = s.integ := rfl
@[simp] theorem State.setSegQueue_mgmt (s : State) (q : List Truck) : (s.setSegQueue q).mgmt = s.mgmt := rfl

/-! ### State.stopLease -/

@[simp] theorem State.stopLease_pending (s : State) : (s.stopLease).pending = s.pending := rfl
@[simp] theorem State.stopLease_now (s : State) : (s.stopLease).now = s.now := rfl
@[simp] theorem State.stopLease_samples (s : State) : (s.stopLease).samples = s.samples := rfl
@[simp] theorem State.stopLease_scratch (s : State) : (s.stopLease).scratch = s.scratch := rfl
@[simp] theorem State.stopLease_net (s : State) : (s.stopLease).net = s.net := rfl
@[simp] theorem State.stopLease_poller (s : State) : (s.stopLease).poller = s.poller := rfl
@[simp] theorem State.stopLease_air (s : State) : (s.stopLease).air = s.air := rfl
@[simp] theorem State.stopLease_table (s : State) : (s.stopLease).table = s.table := rfl
@[simp] theorem State.stopLease_calls (s : State) : (s.stopLease).calls = s.calls := rfl
@[simp] theorem State.stopLease_seg_state (s : State) : (s.stopLease).seg.state = s.seg.state := rfl
@[simp] theorem State.stopLease_seg_holder (s : State) : (s.stopLease).seg.holder = s.seg.holder := rfl
@[simp] theorem State.stopLease_seg_causes (s : State) : (s.stopLease).seg.causes = s.seg.causes := rfl
@[simp] theorem State.stopLease_seg_queue (s : State) : (s.stopLease).seg.queue = s.seg.queue := rfl
@[simp] theorem State.stopLease_seg_minerCount (s : State) : (s.stopLease).seg.minerCount = s.seg.minerCount := rfl
@[simp] theorem State.stopLease_seg_holderHere (s : State) : (s.stopLease).seg.holderHere = s.seg.holderHere := rfl
@[simp] theorem State.stopLease_seg_counters (s : State) : (s.stopLease).seg.counters = s.seg.counters := rfl
@[simp] theorem State.stopLease_evac (s : State) : (s.stopLease).evac = s.evac := rfl
@[simp] theorem State.stopLease_supply (s : State) : (s.stopLease).supply = s.supply := rfl
@[simp] theorem State.stopLease_integ (s : State) : (s.stopLease).integ = s.integ := rfl
@[simp] theorem State.stopLease_mgmt (s : State) : (s.stopLease).mgmt = s.mgmt := rfl

/-! ### State.setHolder -/

@[simp] theorem State.setHolder_pending (s : State) (t : Truck) : (s.setHolder t).pending = s.pending := rfl
@[simp] theorem State.setHolder_now (s : State) (t : Truck) : (s.setHolder t).now = s.now := rfl
@[simp] theorem State.setHolder_samples (s : State) (t : Truck) : (s.setHolder t).samples = s.samples := rfl
@[simp] theorem State.setHolder_scratch (s : State) (t : Truck) : (s.setHolder t).scratch = s.scratch := rfl
@[simp] theorem State.setHolder_net (s : State) (t : Truck) : (s.setHolder t).net = s.net := rfl
@[simp] theorem State.setHolder_poller (s : State) (t : Truck) : (s.setHolder t).poller = s.poller := rfl
@[simp] theorem State.setHolder_air (s : State) (t : Truck) : (s.setHolder t).air = s.air := rfl
@[simp] theorem State.setHolder_table (s : State) (t : Truck) : (s.setHolder t).table = s.table := rfl
@[simp] theorem State.setHolder_calls (s : State) (t : Truck) : (s.setHolder t).calls = s.calls := rfl
@[simp] theorem State.setHolder_seg_state (s : State) (t : Truck) : (s.setHolder t).seg.state = s.seg.state := rfl
@[simp] theorem State.setHolder_seg_causes (s : State) (t : Truck) : (s.setHolder t).seg.causes = s.seg.causes := rfl
@[simp] theorem State.setHolder_seg_queue (s : State) (t : Truck) : (s.setHolder t).seg.queue = s.seg.queue := rfl
@[simp] theorem State.setHolder_seg_lease (s : State) (t : Truck) : (s.setHolder t).seg.lease = s.seg.lease := rfl
@[simp] theorem State.setHolder_seg_minerCount (s : State) (t : Truck) : (s.setHolder t).seg.minerCount = s.seg.minerCount := rfl
@[simp] theorem State.setHolder_seg_holderHere (s : State) (t : Truck) : (s.setHolder t).seg.holderHere = s.seg.holderHere := rfl
@[simp] theorem State.setHolder_seg_counters (s : State) (t : Truck) : (s.setHolder t).seg.counters = s.seg.counters := rfl
@[simp] theorem State.setHolder_evac (s : State) (t : Truck) : (s.setHolder t).evac = s.evac := rfl
@[simp] theorem State.setHolder_supply (s : State) (t : Truck) : (s.setHolder t).supply = s.supply := rfl
@[simp] theorem State.setHolder_integ (s : State) (t : Truck) : (s.setHolder t).integ = s.integ := rfl
@[simp] theorem State.setHolder_mgmt (s : State) (t : Truck) : (s.setHolder t).mgmt = s.mgmt := rfl

/-! ### State.setHolderHere -/

@[simp] theorem State.setHolderHere_pending (s : State) (b : Bool) : (s.setHolderHere b).pending = s.pending := rfl
@[simp] theorem State.setHolderHere_now (s : State) (b : Bool) : (s.setHolderHere b).now = s.now := rfl
@[simp] theorem State.setHolderHere_samples (s : State) (b : Bool) : (s.setHolderHere b).samples = s.samples := rfl
@[simp] theorem State.setHolderHere_scratch (s : State) (b : Bool) : (s.setHolderHere b).scratch = s.scratch := rfl
@[simp] theorem State.setHolderHere_net (s : State) (b : Bool) : (s.setHolderHere b).net = s.net := rfl
@[simp] theorem State.setHolderHere_poller (s : State) (b : Bool) : (s.setHolderHere b).poller = s.poller := rfl
@[simp] theorem State.setHolderHere_air (s : State) (b : Bool) : (s.setHolderHere b).air = s.air := rfl
@[simp] theorem State.setHolderHere_table (s : State) (b : Bool) : (s.setHolderHere b).table = s.table := rfl
@[simp] theorem State.setHolderHere_calls (s : State) (b : Bool) : (s.setHolderHere b).calls = s.calls := rfl
@[simp] theorem State.setHolderHere_seg_state (s : State) (b : Bool) : (s.setHolderHere b).seg.state = s.seg.state := rfl
@[simp] theorem State.setHolderHere_seg_holder (s : State) (b : Bool) : (s.setHolderHere b).seg.holder = s.seg.holder := rfl
@[simp] theorem State.setHolderHere_seg_causes (s : State) (b : Bool) : (s.setHolderHere b).seg.causes = s.seg.causes := rfl
@[simp] theorem State.setHolderHere_seg_queue (s : State) (b : Bool) : (s.setHolderHere b).seg.queue = s.seg.queue := rfl
@[simp] theorem State.setHolderHere_seg_lease (s : State) (b : Bool) : (s.setHolderHere b).seg.lease = s.seg.lease := rfl
@[simp] theorem State.setHolderHere_seg_minerCount (s : State) (b : Bool) : (s.setHolderHere b).seg.minerCount = s.seg.minerCount := rfl
@[simp] theorem State.setHolderHere_seg_counters (s : State) (b : Bool) : (s.setHolderHere b).seg.counters = s.seg.counters := rfl
@[simp] theorem State.setHolderHere_evac (s : State) (b : Bool) : (s.setHolderHere b).evac = s.evac := rfl
@[simp] theorem State.setHolderHere_supply (s : State) (b : Bool) : (s.setHolderHere b).supply = s.supply := rfl
@[simp] theorem State.setHolderHere_integ (s : State) (b : Bool) : (s.setHolderHere b).integ = s.integ := rfl
@[simp] theorem State.setHolderHere_mgmt (s : State) (b : Bool) : (s.setHolderHere b).mgmt = s.mgmt := rfl

/-! ### State.setMinerCount -/

@[simp] theorem State.setMinerCount_pending (s : State) (n : Nat) : (s.setMinerCount n).pending = s.pending := rfl
@[simp] theorem State.setMinerCount_now (s : State) (n : Nat) : (s.setMinerCount n).now = s.now := rfl
@[simp] theorem State.setMinerCount_samples (s : State) (n : Nat) : (s.setMinerCount n).samples = s.samples := rfl
@[simp] theorem State.setMinerCount_scratch (s : State) (n : Nat) : (s.setMinerCount n).scratch = s.scratch := rfl
@[simp] theorem State.setMinerCount_net (s : State) (n : Nat) : (s.setMinerCount n).net = s.net := rfl
@[simp] theorem State.setMinerCount_poller (s : State) (n : Nat) : (s.setMinerCount n).poller = s.poller := rfl
@[simp] theorem State.setMinerCount_air (s : State) (n : Nat) : (s.setMinerCount n).air = s.air := rfl
@[simp] theorem State.setMinerCount_table (s : State) (n : Nat) : (s.setMinerCount n).table = s.table := rfl
@[simp] theorem State.setMinerCount_calls (s : State) (n : Nat) : (s.setMinerCount n).calls = s.calls := rfl
@[simp] theorem State.setMinerCount_seg_state (s : State) (n : Nat) : (s.setMinerCount n).seg.state = s.seg.state := rfl
@[simp] theorem State.setMinerCount_seg_holder (s : State) (n : Nat) : (s.setMinerCount n).seg.holder = s.seg.holder := rfl
@[simp] theorem State.setMinerCount_seg_causes (s : State) (n : Nat) : (s.setMinerCount n).seg.causes = s.seg.causes := rfl
@[simp] theorem State.setMinerCount_seg_queue (s : State) (n : Nat) : (s.setMinerCount n).seg.queue = s.seg.queue := rfl
@[simp] theorem State.setMinerCount_seg_lease (s : State) (n : Nat) : (s.setMinerCount n).seg.lease = s.seg.lease := rfl
@[simp] theorem State.setMinerCount_seg_holderHere (s : State) (n : Nat) : (s.setMinerCount n).seg.holderHere = s.seg.holderHere := rfl
@[simp] theorem State.setMinerCount_seg_counters (s : State) (n : Nat) : (s.setMinerCount n).seg.counters = s.seg.counters := rfl
@[simp] theorem State.setMinerCount_evac (s : State) (n : Nat) : (s.setMinerCount n).evac = s.evac := rfl
@[simp] theorem State.setMinerCount_supply (s : State) (n : Nat) : (s.setMinerCount n).supply = s.supply := rfl
@[simp] theorem State.setMinerCount_integ (s : State) (n : Nat) : (s.setMinerCount n).integ = s.integ := rfl
@[simp] theorem State.setMinerCount_mgmt (s : State) (n : Nat) : (s.setMinerCount n).mgmt = s.mgmt := rfl

/-! ### State.removeHolder -/

@[simp] theorem State.removeHolder_pending (s : State) : (s.removeHolder).pending = s.pending := rfl
@[simp] theorem State.removeHolder_now (s : State) : (s.removeHolder).now = s.now := rfl
@[simp] theorem State.removeHolder_samples (s : State) : (s.removeHolder).samples = s.samples := rfl
@[simp] theorem State.removeHolder_scratch (s : State) : (s.removeHolder).scratch = s.scratch := rfl
@[simp] theorem State.removeHolder_net (s : State) : (s.removeHolder).net = s.net := rfl
@[simp] theorem State.removeHolder_poller (s : State) : (s.removeHolder).poller = s.poller := rfl
@[simp] theorem State.removeHolder_air (s : State) : (s.removeHolder).air = s.air := rfl
@[simp] theorem State.removeHolder_table (s : State) : (s.removeHolder).table = s.table := rfl
@[simp] theorem State.removeHolder_calls (s : State) : (s.removeHolder).calls = s.calls := rfl
@[simp] theorem State.removeHolder_seg_state (s : State) : (s.removeHolder).seg.state = s.seg.state := rfl
@[simp] theorem State.removeHolder_seg_causes (s : State) : (s.removeHolder).seg.causes = s.seg.causes := rfl
@[simp] theorem State.removeHolder_seg_queue (s : State) : (s.removeHolder).seg.queue = s.seg.queue := rfl
@[simp] theorem State.removeHolder_seg_minerCount (s : State) : (s.removeHolder).seg.minerCount = s.seg.minerCount := rfl
@[simp] theorem State.removeHolder_seg_counters (s : State) : (s.removeHolder).seg.counters = s.seg.counters := rfl
@[simp] theorem State.removeHolder_evac (s : State) : (s.removeHolder).evac = s.evac := rfl
@[simp] theorem State.removeHolder_supply (s : State) : (s.removeHolder).supply = s.supply := rfl
@[simp] theorem State.removeHolder_integ (s : State) : (s.removeHolder).integ = s.integ := rfl
@[simp] theorem State.removeHolder_mgmt (s : State) : (s.removeHolder).mgmt = s.mgmt := rfl

/-! ### State.restartCalls -/

@[simp] theorem State.restartCalls_pending (s : State) : (s.restartCalls).pending = s.pending := rfl
@[simp] theorem State.restartCalls_now (s : State) : (s.restartCalls).now = s.now := rfl
@[simp] theorem State.restartCalls_samples (s : State) : (s.restartCalls).samples = s.samples := rfl
@[simp] theorem State.restartCalls_scratch (s : State) : (s.restartCalls).scratch = s.scratch := rfl
@[simp] theorem State.restartCalls_net (s : State) : (s.restartCalls).net = s.net := rfl
@[simp] theorem State.restartCalls_poller (s : State) : (s.restartCalls).poller = s.poller := rfl
@[simp] theorem State.restartCalls_air (s : State) : (s.restartCalls).air = s.air := rfl
@[simp] theorem State.restartCalls_table (s : State) : (s.restartCalls).table = s.table := rfl
@[simp] theorem State.restartCalls_calls_permits (s : State) : (s.restartCalls).calls.permits = s.calls.permits := rfl
@[simp] theorem State.restartCalls_calls_counters (s : State) : (s.restartCalls).calls.counters = s.calls.counters := rfl
@[simp] theorem State.restartCalls_seg (s : State) : (s.restartCalls).seg = s.seg := rfl
@[simp] theorem State.restartCalls_evac (s : State) : (s.restartCalls).evac = s.evac := rfl
@[simp] theorem State.restartCalls_supply (s : State) : (s.restartCalls).supply = s.supply := rfl
@[simp] theorem State.restartCalls_integ (s : State) : (s.restartCalls).integ = s.integ := rfl
@[simp] theorem State.restartCalls_mgmt (s : State) : (s.restartCalls).mgmt = s.mgmt := rfl

/-! ### State.restartTable -/

@[simp] theorem State.restartTable_pending (s : State) : (s.restartTable).pending = s.pending := rfl
@[simp] theorem State.restartTable_now (s : State) : (s.restartTable).now = s.now := rfl
@[simp] theorem State.restartTable_samples (s : State) : (s.restartTable).samples = s.samples := rfl
@[simp] theorem State.restartTable_scratch (s : State) : (s.restartTable).scratch = s.scratch := rfl
@[simp] theorem State.restartTable_net (s : State) : (s.restartTable).net = s.net := rfl
@[simp] theorem State.restartTable_poller (s : State) : (s.restartTable).poller = s.poller := rfl
@[simp] theorem State.restartTable_air (s : State) : (s.restartTable).air = s.air := rfl
@[simp] theorem State.restartTable_table_pins (s : State) : (s.restartTable).table.pins = s.table.pins := rfl
@[simp] theorem State.restartTable_table_watches (s : State) : (s.restartTable).table.watches = s.table.watches := rfl
@[simp] theorem State.restartTable_table_counters (s : State) : (s.restartTable).table.counters = s.table.counters := rfl
@[simp] theorem State.restartTable_calls (s : State) : (s.restartTable).calls = s.calls := rfl
@[simp] theorem State.restartTable_seg (s : State) : (s.restartTable).seg = s.seg := rfl
@[simp] theorem State.restartTable_evac (s : State) : (s.restartTable).evac = s.evac := rfl
@[simp] theorem State.restartTable_supply (s : State) : (s.restartTable).supply = s.supply := rfl
@[simp] theorem State.restartTable_integ (s : State) : (s.restartTable).integ = s.integ := rfl
@[simp] theorem State.restartTable_mgmt (s : State) : (s.restartTable).mgmt = s.mgmt := rfl

/-! ### State.toggleLine -/

@[simp] theorem State.toggleLine_pending (s : State) (o : Output) : (s.toggleLine o).pending = s.pending := rfl
@[simp] theorem State.toggleLine_now (s : State) (o : Output) : (s.toggleLine o).now = s.now := rfl
@[simp] theorem State.toggleLine_samples (s : State) (o : Output) : (s.toggleLine o).samples = s.samples := rfl
@[simp] theorem State.toggleLine_scratch (s : State) (o : Output) : (s.toggleLine o).scratch = s.scratch := rfl
@[simp] theorem State.toggleLine_net (s : State) (o : Output) : (s.toggleLine o).net = s.net := rfl
@[simp] theorem State.toggleLine_poller (s : State) (o : Output) : (s.toggleLine o).poller = s.poller := rfl
@[simp] theorem State.toggleLine_air (s : State) (o : Output) : (s.toggleLine o).air = s.air := rfl
@[simp] theorem State.toggleLine_table (s : State) (o : Output) : (s.toggleLine o).table = s.table := rfl
@[simp] theorem State.toggleLine_calls (s : State) (o : Output) : (s.toggleLine o).calls = s.calls := rfl
@[simp] theorem State.toggleLine_seg (s : State) (o : Output) : (s.toggleLine o).seg = s.seg := rfl
@[simp] theorem State.toggleLine_evac_state (s : State) (o : Output) : (s.toggleLine o).evac.state = s.evac.state := rfl
@[simp] theorem State.toggleLine_evac_repeatTimer (s : State) (o : Output) : (s.toggleLine o).evac.repeatTimer = s.evac.repeatTimer := rfl
@[simp] theorem State.toggleLine_evac_panels (s : State) (o : Output) : (s.toggleLine o).evac.panels = s.evac.panels := rfl
@[simp] theorem State.toggleLine_evac_sos (s : State) (o : Output) : (s.toggleLine o).evac.sos = s.evac.sos := rfl
@[simp] theorem State.toggleLine_evac_routes (s : State) (o : Output) : (s.toggleLine o).evac.routes = s.evac.routes := rfl
@[simp] theorem State.toggleLine_evac_doorTick (s : State) (o : Output) : (s.toggleLine o).evac.doorTick = s.evac.doorTick := rfl
@[simp] theorem State.toggleLine_evac_counters (s : State) (o : Output) : (s.toggleLine o).evac.counters = s.evac.counters := rfl
@[simp] theorem State.toggleLine_supply (s : State) (o : Output) : (s.toggleLine o).supply = s.supply := rfl
@[simp] theorem State.toggleLine_integ (s : State) (o : Output) : (s.toggleLine o).integ = s.integ := rfl
@[simp] theorem State.toggleLine_mgmt (s : State) (o : Output) : (s.toggleLine o).mgmt = s.mgmt := rfl

/-! ### State.setEvacState -/

@[simp] theorem State.setEvacState_pending (s : State) (x : EvacState) : (s.setEvacState x).pending = s.pending := rfl
@[simp] theorem State.setEvacState_now (s : State) (x : EvacState) : (s.setEvacState x).now = s.now := rfl
@[simp] theorem State.setEvacState_samples (s : State) (x : EvacState) : (s.setEvacState x).samples = s.samples := rfl
@[simp] theorem State.setEvacState_scratch (s : State) (x : EvacState) : (s.setEvacState x).scratch = s.scratch := rfl
@[simp] theorem State.setEvacState_net (s : State) (x : EvacState) : (s.setEvacState x).net = s.net := rfl
@[simp] theorem State.setEvacState_poller (s : State) (x : EvacState) : (s.setEvacState x).poller = s.poller := rfl
@[simp] theorem State.setEvacState_air (s : State) (x : EvacState) : (s.setEvacState x).air = s.air := rfl
@[simp] theorem State.setEvacState_table (s : State) (x : EvacState) : (s.setEvacState x).table = s.table := rfl
@[simp] theorem State.setEvacState_calls (s : State) (x : EvacState) : (s.setEvacState x).calls = s.calls := rfl
@[simp] theorem State.setEvacState_seg (s : State) (x : EvacState) : (s.setEvacState x).seg = s.seg := rfl
@[simp] theorem State.setEvacState_evac_repeatTimer (s : State) (x : EvacState) : (s.setEvacState x).evac.repeatTimer = s.evac.repeatTimer := rfl
@[simp] theorem State.setEvacState_evac_panels (s : State) (x : EvacState) : (s.setEvacState x).evac.panels = s.evac.panels := rfl
@[simp] theorem State.setEvacState_evac_sos (s : State) (x : EvacState) : (s.setEvacState x).evac.sos = s.evac.sos := rfl
@[simp] theorem State.setEvacState_evac_routes (s : State) (x : EvacState) : (s.setEvacState x).evac.routes = s.evac.routes := rfl
@[simp] theorem State.setEvacState_evac_lines (s : State) (x : EvacState) : (s.setEvacState x).evac.lines = s.evac.lines := rfl
@[simp] theorem State.setEvacState_evac_doorTick (s : State) (x : EvacState) : (s.setEvacState x).evac.doorTick = s.evac.doorTick := rfl
@[simp] theorem State.setEvacState_evac_counters (s : State) (x : EvacState) : (s.setEvacState x).evac.counters = s.evac.counters := rfl
@[simp] theorem State.setEvacState_supply (s : State) (x : EvacState) : (s.setEvacState x).supply = s.supply := rfl
@[simp] theorem State.setEvacState_integ (s : State) (x : EvacState) : (s.setEvacState x).integ = s.integ := rfl
@[simp] theorem State.setEvacState_mgmt (s : State) (x : EvacState) : (s.setEvacState x).mgmt = s.mgmt := rfl

/-! ### State.stopRepeat -/

@[simp] theorem State.stopRepeat_pending (s : State) : (s.stopRepeat).pending = s.pending := rfl
@[simp] theorem State.stopRepeat_now (s : State) : (s.stopRepeat).now = s.now := rfl
@[simp] theorem State.stopRepeat_samples (s : State) : (s.stopRepeat).samples = s.samples := rfl
@[simp] theorem State.stopRepeat_scratch (s : State) : (s.stopRepeat).scratch = s.scratch := rfl
@[simp] theorem State.stopRepeat_net (s : State) : (s.stopRepeat).net = s.net := rfl
@[simp] theorem State.stopRepeat_poller (s : State) : (s.stopRepeat).poller = s.poller := rfl
@[simp] theorem State.stopRepeat_air (s : State) : (s.stopRepeat).air = s.air := rfl
@[simp] theorem State.stopRepeat_table (s : State) : (s.stopRepeat).table = s.table := rfl
@[simp] theorem State.stopRepeat_calls (s : State) : (s.stopRepeat).calls = s.calls := rfl
@[simp] theorem State.stopRepeat_seg (s : State) : (s.stopRepeat).seg = s.seg := rfl
@[simp] theorem State.stopRepeat_evac_state (s : State) : (s.stopRepeat).evac.state = s.evac.state := rfl
@[simp] theorem State.stopRepeat_evac_panels (s : State) : (s.stopRepeat).evac.panels = s.evac.panels := rfl
@[simp] theorem State.stopRepeat_evac_sos (s : State) : (s.stopRepeat).evac.sos = s.evac.sos := rfl
@[simp] theorem State.stopRepeat_evac_routes (s : State) : (s.stopRepeat).evac.routes = s.evac.routes := rfl
@[simp] theorem State.stopRepeat_evac_lines (s : State) : (s.stopRepeat).evac.lines = s.evac.lines := rfl
@[simp] theorem State.stopRepeat_evac_doorTick (s : State) : (s.stopRepeat).evac.doorTick = s.evac.doorTick := rfl
@[simp] theorem State.stopRepeat_evac_counters (s : State) : (s.stopRepeat).evac.counters = s.evac.counters := rfl
@[simp] theorem State.stopRepeat_supply (s : State) : (s.stopRepeat).supply = s.supply := rfl
@[simp] theorem State.stopRepeat_integ (s : State) : (s.stopRepeat).integ = s.integ := rfl
@[simp] theorem State.stopRepeat_mgmt (s : State) : (s.stopRepeat).mgmt = s.mgmt := rfl

/-! ### State.setSos -/

@[simp] theorem State.setSos_pending (s : State) (l : List Addr) : (s.setSos l).pending = s.pending := rfl
@[simp] theorem State.setSos_now (s : State) (l : List Addr) : (s.setSos l).now = s.now := rfl
@[simp] theorem State.setSos_samples (s : State) (l : List Addr) : (s.setSos l).samples = s.samples := rfl
@[simp] theorem State.setSos_scratch (s : State) (l : List Addr) : (s.setSos l).scratch = s.scratch := rfl
@[simp] theorem State.setSos_net (s : State) (l : List Addr) : (s.setSos l).net = s.net := rfl
@[simp] theorem State.setSos_poller (s : State) (l : List Addr) : (s.setSos l).poller = s.poller := rfl
@[simp] theorem State.setSos_air (s : State) (l : List Addr) : (s.setSos l).air = s.air := rfl
@[simp] theorem State.setSos_table (s : State) (l : List Addr) : (s.setSos l).table = s.table := rfl
@[simp] theorem State.setSos_calls (s : State) (l : List Addr) : (s.setSos l).calls = s.calls := rfl
@[simp] theorem State.setSos_seg (s : State) (l : List Addr) : (s.setSos l).seg = s.seg := rfl
@[simp] theorem State.setSos_evac_state (s : State) (l : List Addr) : (s.setSos l).evac.state = s.evac.state := rfl
@[simp] theorem State.setSos_evac_repeatTimer (s : State) (l : List Addr) : (s.setSos l).evac.repeatTimer = s.evac.repeatTimer := rfl
@[simp] theorem State.setSos_evac_panels (s : State) (l : List Addr) : (s.setSos l).evac.panels = s.evac.panels := rfl
@[simp] theorem State.setSos_evac_routes (s : State) (l : List Addr) : (s.setSos l).evac.routes = s.evac.routes := rfl
@[simp] theorem State.setSos_evac_lines (s : State) (l : List Addr) : (s.setSos l).evac.lines = s.evac.lines := rfl
@[simp] theorem State.setSos_evac_doorTick (s : State) (l : List Addr) : (s.setSos l).evac.doorTick = s.evac.doorTick := rfl
@[simp] theorem State.setSos_evac_counters (s : State) (l : List Addr) : (s.setSos l).evac.counters = s.evac.counters := rfl
@[simp] theorem State.setSos_supply (s : State) (l : List Addr) : (s.setSos l).supply = s.supply := rfl
@[simp] theorem State.setSos_integ (s : State) (l : List Addr) : (s.setSos l).integ = s.integ := rfl
@[simp] theorem State.setSos_mgmt (s : State) (l : List Addr) : (s.setSos l).mgmt = s.mgmt := rfl

/-! ### State.removeSos -/

@[simp] theorem State.removeSos_pending (s : State) (a : Addr) : (s.removeSos a).pending = s.pending := rfl
@[simp] theorem State.removeSos_now (s : State) (a : Addr) : (s.removeSos a).now = s.now := rfl
@[simp] theorem State.removeSos_samples (s : State) (a : Addr) : (s.removeSos a).samples = s.samples := rfl
@[simp] theorem State.removeSos_scratch (s : State) (a : Addr) : (s.removeSos a).scratch = s.scratch := rfl
@[simp] theorem State.removeSos_net (s : State) (a : Addr) : (s.removeSos a).net = s.net := rfl
@[simp] theorem State.removeSos_poller (s : State) (a : Addr) : (s.removeSos a).poller = s.poller := rfl
@[simp] theorem State.removeSos_air (s : State) (a : Addr) : (s.removeSos a).air = s.air := rfl
@[simp] theorem State.removeSos_table (s : State) (a : Addr) : (s.removeSos a).table = s.table := rfl
@[simp] theorem State.removeSos_calls (s : State) (a : Addr) : (s.removeSos a).calls = s.calls := rfl
@[simp] theorem State.removeSos_seg (s : State) (a : Addr) : (s.removeSos a).seg = s.seg := rfl
@[simp] theorem State.removeSos_evac_state (s : State) (a : Addr) : (s.removeSos a).evac.state = s.evac.state := rfl
@[simp] theorem State.removeSos_evac_repeatTimer (s : State) (a : Addr) : (s.removeSos a).evac.repeatTimer = s.evac.repeatTimer := rfl
@[simp] theorem State.removeSos_evac_panels (s : State) (a : Addr) : (s.removeSos a).evac.panels = s.evac.panels := rfl
@[simp] theorem State.removeSos_evac_routes (s : State) (a : Addr) : (s.removeSos a).evac.routes = s.evac.routes := rfl
@[simp] theorem State.removeSos_evac_lines (s : State) (a : Addr) : (s.removeSos a).evac.lines = s.evac.lines := rfl
@[simp] theorem State.removeSos_evac_doorTick (s : State) (a : Addr) : (s.removeSos a).evac.doorTick = s.evac.doorTick := rfl
@[simp] theorem State.removeSos_evac_counters (s : State) (a : Addr) : (s.removeSos a).evac.counters = s.evac.counters := rfl
@[simp] theorem State.removeSos_supply (s : State) (a : Addr) : (s.removeSos a).supply = s.supply := rfl
@[simp] theorem State.removeSos_integ (s : State) (a : Addr) : (s.removeSos a).integ = s.integ := rfl
@[simp] theorem State.removeSos_mgmt (s : State) (a : Addr) : (s.removeSos a).mgmt = s.mgmt := rfl

/-! ### State.restartEvac -/

@[simp] theorem State.restartEvac_pending (s : State) : (s.restartEvac).pending = s.pending := rfl
@[simp] theorem State.restartEvac_now (s : State) : (s.restartEvac).now = s.now := rfl
@[simp] theorem State.restartEvac_samples (s : State) : (s.restartEvac).samples = s.samples := rfl
@[simp] theorem State.restartEvac_scratch (s : State) : (s.restartEvac).scratch = s.scratch := rfl
@[simp] theorem State.restartEvac_net (s : State) : (s.restartEvac).net = s.net := rfl
@[simp] theorem State.restartEvac_poller (s : State) : (s.restartEvac).poller = s.poller := rfl
@[simp] theorem State.restartEvac_air (s : State) : (s.restartEvac).air = s.air := rfl
@[simp] theorem State.restartEvac_table (s : State) : (s.restartEvac).table = s.table := rfl
@[simp] theorem State.restartEvac_calls (s : State) : (s.restartEvac).calls = s.calls := rfl
@[simp] theorem State.restartEvac_seg (s : State) : (s.restartEvac).seg = s.seg := rfl
@[simp] theorem State.restartEvac_evac_state (s : State) : (s.restartEvac).evac.state = s.evac.state := rfl
@[simp] theorem State.restartEvac_evac_repeatTimer (s : State) : (s.restartEvac).evac.repeatTimer = s.evac.repeatTimer := rfl
@[simp] theorem State.restartEvac_evac_routes (s : State) : (s.restartEvac).evac.routes = s.evac.routes := rfl
@[simp] theorem State.restartEvac_evac_lines (s : State) : (s.restartEvac).evac.lines = s.evac.lines := rfl
@[simp] theorem State.restartEvac_evac_counters (s : State) : (s.restartEvac).evac.counters = s.evac.counters := rfl
@[simp] theorem State.restartEvac_supply (s : State) : (s.restartEvac).supply = s.supply := rfl
@[simp] theorem State.restartEvac_integ (s : State) : (s.restartEvac).integ = s.integ := rfl
@[simp] theorem State.restartEvac_mgmt (s : State) : (s.restartEvac).mgmt = s.mgmt := rfl

/-! ### State.setGrades -/

@[simp] theorem State.setGrades_pending (s : State) (zone refuge : Grade) : (s.setGrades zone refuge).pending = s.pending := rfl
@[simp] theorem State.setGrades_now (s : State) (zone refuge : Grade) : (s.setGrades zone refuge).now = s.now := rfl
@[simp] theorem State.setGrades_samples (s : State) (zone refuge : Grade) : (s.setGrades zone refuge).samples = s.samples := rfl
@[simp] theorem State.setGrades_scratch (s : State) (zone refuge : Grade) : (s.setGrades zone refuge).scratch = s.scratch := rfl
@[simp] theorem State.setGrades_net (s : State) (zone refuge : Grade) : (s.setGrades zone refuge).net = s.net := rfl
@[simp] theorem State.setGrades_poller (s : State) (zone refuge : Grade) : (s.setGrades zone refuge).poller = s.poller := rfl
@[simp] theorem State.setGrades_air_channels (s : State) (zone refuge : Grade) : (s.setGrades zone refuge).air.channels = s.air.channels := rfl
@[simp] theorem State.setGrades_air_tripOutput (s : State) (zone refuge : Grade) : (s.setGrades zone refuge).air.tripOutput = s.air.tripOutput := rfl
@[simp] theorem State.setGrades_air_reportTimer (s : State) (zone refuge : Grade) : (s.setGrades zone refuge).air.reportTimer = s.air.reportTimer := rfl
@[simp] theorem State.setGrades_table (s : State) (zone refuge : Grade) : (s.setGrades zone refuge).table = s.table := rfl
@[simp] theorem State.setGrades_calls (s : State) (zone refuge : Grade) : (s.setGrades zone refuge).calls = s.calls := rfl
@[simp] theorem State.setGrades_seg (s : State) (zone refuge : Grade) : (s.setGrades zone refuge).seg = s.seg := rfl
@[simp] theorem State.setGrades_evac (s : State) (zone refuge : Grade) : (s.setGrades zone refuge).evac = s.evac := rfl
@[simp] theorem State.setGrades_supply (s : State) (zone refuge : Grade) : (s.setGrades zone refuge).supply = s.supply := rfl
@[simp] theorem State.setGrades_integ (s : State) (zone refuge : Grade) : (s.setGrades zone refuge).integ = s.integ := rfl
@[simp] theorem State.setGrades_mgmt (s : State) (zone refuge : Grade) : (s.setGrades zone refuge).mgmt = s.mgmt := rfl

/-! ### State.beginScan -/

@[simp] theorem State.beginScan_pending (s : State) : (s.beginScan).pending = s.pending := rfl
@[simp] theorem State.beginScan_now (s : State) : (s.beginScan).now = s.now := rfl
@[simp] theorem State.beginScan_samples (s : State) : (s.beginScan).samples = s.samples := rfl
@[simp] theorem State.beginScan_scratch (s : State) : (s.beginScan).scratch = s.scratch := rfl
@[simp] theorem State.beginScan_net (s : State) : (s.beginScan).net = s.net := rfl
@[simp] theorem State.beginScan_poller (s : State) : (s.beginScan).poller = s.poller := rfl
@[simp] theorem State.beginScan_air (s : State) : (s.beginScan).air = s.air := rfl
@[simp] theorem State.beginScan_table (s : State) : (s.beginScan).table = s.table := rfl
@[simp] theorem State.beginScan_calls (s : State) : (s.beginScan).calls = s.calls := rfl
@[simp] theorem State.beginScan_seg (s : State) : (s.beginScan).seg = s.seg := rfl
@[simp] theorem State.beginScan_evac (s : State) : (s.beginScan).evac = s.evac := rfl
@[simp] theorem State.beginScan_supply (s : State) : (s.beginScan).supply = s.supply := rfl
@[simp] theorem State.beginScan_integ_state (s : State) : (s.beginScan).integ.state = s.integ.state := rfl
@[simp] theorem State.beginScan_integ_storedCheck (s : State) : (s.beginScan).integ.storedCheck = s.integ.storedCheck := rfl
@[simp] theorem State.beginScan_integ_lastCheck (s : State) : (s.beginScan).integ.lastCheck = s.integ.lastCheck := rfl
@[simp] theorem State.beginScan_integ_suspensionTimer (s : State) : (s.beginScan).integ.suspensionTimer = s.integ.suspensionTimer := rfl
@[simp] theorem State.beginScan_integ_counters (s : State) : (s.beginScan).integ.counters = s.integ.counters := rfl
@[simp] theorem State.beginScan_mgmt (s : State) : (s.beginScan).mgmt = s.mgmt := rfl

/-! ### State.surfaceHeard -/

@[simp] theorem State.surfaceHeard_pending (s : State) : (s.surfaceHeard).pending = s.pending := rfl
@[simp] theorem State.surfaceHeard_now (s : State) : (s.surfaceHeard).now = s.now := rfl
@[simp] theorem State.surfaceHeard_samples (s : State) : (s.surfaceHeard).samples = s.samples := rfl
@[simp] theorem State.surfaceHeard_scratch (s : State) : (s.surfaceHeard).scratch = s.scratch := rfl
@[simp] theorem State.surfaceHeard_net (s : State) : (s.surfaceHeard).net = s.net := rfl
@[simp] theorem State.surfaceHeard_poller (s : State) : (s.surfaceHeard).poller = s.poller := rfl
@[simp] theorem State.surfaceHeard_air (s : State) : (s.surfaceHeard).air = s.air := rfl
@[simp] theorem State.surfaceHeard_table (s : State) : (s.surfaceHeard).table = s.table := rfl
@[simp] theorem State.surfaceHeard_calls (s : State) : (s.surfaceHeard).calls = s.calls := rfl
@[simp] theorem State.surfaceHeard_seg (s : State) : (s.surfaceHeard).seg = s.seg := rfl
@[simp] theorem State.surfaceHeard_evac (s : State) : (s.surfaceHeard).evac = s.evac := rfl
@[simp] theorem State.surfaceHeard_supply (s : State) : (s.surfaceHeard).supply = s.supply := rfl
@[simp] theorem State.surfaceHeard_integ (s : State) : (s.surfaceHeard).integ = s.integ := rfl
@[simp] theorem State.surfaceHeard_mgmt_parameters (s : State) : (s.surfaceHeard).mgmt.parameters = s.mgmt.parameters := rfl
@[simp] theorem State.surfaceHeard_mgmt_attention (s : State) : (s.surfaceHeard).mgmt.attention = s.mgmt.attention := rfl
@[simp] theorem State.surfaceHeard_mgmt_statusTimer (s : State) : (s.surfaceHeard).mgmt.statusTimer = s.mgmt.statusTimer := rfl
@[simp] theorem State.surfaceHeard_mgmt_restartPending (s : State) : (s.surfaceHeard).mgmt.restartPending = s.mgmt.restartPending := rfl
@[simp] theorem State.surfaceHeard_mgmt_counters (s : State) : (s.surfaceHeard).mgmt.counters = s.mgmt.counters := rfl

/-! ### State.freeLine -/

@[simp] theorem State.freeLine_pending (s : State) : (s.freeLine).pending = s.pending := rfl
@[simp] theorem State.freeLine_now (s : State) : (s.freeLine).now = s.now := rfl
@[simp] theorem State.freeLine_samples (s : State) : (s.freeLine).samples = s.samples := rfl
@[simp] theorem State.freeLine_scratch (s : State) : (s.freeLine).scratch = s.scratch := rfl
@[simp] theorem State.freeLine_net (s : State) : (s.freeLine).net = s.net := rfl
@[simp] theorem State.freeLine_poller_records (s : State) : (s.freeLine).poller.records = s.poller.records := rfl
@[simp] theorem State.freeLine_poller_sequence (s : State) : (s.freeLine).poller.sequence = s.poller.sequence := rfl
@[simp] theorem State.freeLine_poller_counters (s : State) : (s.freeLine).poller.counters = s.poller.counters := rfl
@[simp] theorem State.freeLine_air (s : State) : (s.freeLine).air = s.air := rfl
@[simp] theorem State.freeLine_table (s : State) : (s.freeLine).table = s.table := rfl
@[simp] theorem State.freeLine_calls (s : State) : (s.freeLine).calls = s.calls := rfl
@[simp] theorem State.freeLine_seg (s : State) : (s.freeLine).seg = s.seg := rfl
@[simp] theorem State.freeLine_evac (s : State) : (s.freeLine).evac = s.evac := rfl
@[simp] theorem State.freeLine_supply (s : State) : (s.freeLine).supply = s.supply := rfl
@[simp] theorem State.freeLine_integ (s : State) : (s.freeLine).integ = s.integ := rfl
@[simp] theorem State.freeLine_mgmt (s : State) : (s.freeLine).mgmt = s.mgmt := rfl

/-! ### State.restartPoller -/

@[simp] theorem State.restartPoller_pending (s : State) : (s.restartPoller).pending = s.pending := rfl
@[simp] theorem State.restartPoller_now (s : State) : (s.restartPoller).now = s.now := rfl
@[simp] theorem State.restartPoller_samples (s : State) : (s.restartPoller).samples = s.samples := rfl
@[simp] theorem State.restartPoller_scratch (s : State) : (s.restartPoller).scratch = s.scratch := rfl
@[simp] theorem State.restartPoller_net (s : State) : (s.restartPoller).net = s.net := rfl
@[simp] theorem State.restartPoller_poller_counters (s : State) : (s.restartPoller).poller.counters = s.poller.counters := rfl
@[simp] theorem State.restartPoller_air (s : State) : (s.restartPoller).air = s.air := rfl
@[simp] theorem State.restartPoller_table (s : State) : (s.restartPoller).table = s.table := rfl
@[simp] theorem State.restartPoller_calls (s : State) : (s.restartPoller).calls = s.calls := rfl
@[simp] theorem State.restartPoller_seg (s : State) : (s.restartPoller).seg = s.seg := rfl
@[simp] theorem State.restartPoller_evac (s : State) : (s.restartPoller).evac = s.evac := rfl
@[simp] theorem State.restartPoller_supply (s : State) : (s.restartPoller).supply = s.supply := rfl
@[simp] theorem State.restartPoller_integ (s : State) : (s.restartPoller).integ = s.integ := rfl
@[simp] theorem State.restartPoller_mgmt (s : State) : (s.restartPoller).mgmt = s.mgmt := rfl

/-! ### State.zeroCounters -/

@[simp] theorem State.zeroCounters_pending (s : State) : (s.zeroCounters).pending = s.pending := rfl
@[simp] theorem State.zeroCounters_now (s : State) : (s.zeroCounters).now = s.now := rfl
@[simp] theorem State.zeroCounters_samples (s : State) : (s.zeroCounters).samples = s.samples := rfl
@[simp] theorem State.zeroCounters_scratch (s : State) : (s.zeroCounters).scratch = s.scratch := rfl
@[simp] theorem State.zeroCounters_net_straps (s : State) : (s.zeroCounters).net.straps = s.net.straps := rfl
@[simp] theorem State.zeroCounters_net_relay (s : State) : (s.zeroCounters).net.relay = s.net.relay := rfl
@[simp] theorem State.zeroCounters_net_relayTick (s : State) : (s.zeroCounters).net.relayTick = s.net.relayTick := rfl
@[simp] theorem State.zeroCounters_net_alarmSeq (s : State) : (s.zeroCounters).net.alarmSeq = s.net.alarmSeq := rfl
@[simp] theorem State.zeroCounters_net_frameSeq (s : State) : (s.zeroCounters).net.frameSeq = s.net.frameSeq := rfl
@[simp] theorem State.zeroCounters_net_banks (s : State) : (s.zeroCounters).net.banks = s.net.banks := rfl
@[simp] theorem State.zeroCounters_poller_records (s : State) : (s.zeroCounters).poller.records = s.poller.records := rfl
@[simp] theorem State.zeroCounters_poller_inFlight (s : State) : (s.zeroCounters).poller.inFlight = s.poller.inFlight := rfl
@[simp] theorem State.zeroCounters_poller_replyTimer (s : State) : (s.zeroCounters).poller.replyTimer = s.poller.replyTimer := rfl
@[simp] theorem State.zeroCounters_poller_sequence (s : State) : (s.zeroCounters).poller.sequence = s.poller.sequence := rfl
@[simp] theorem State.zeroCounters_air (s : State) : (s.zeroCounters).air = s.air := rfl
@[simp] theorem State.zeroCounters_table_entries (s : State) : (s.zeroCounters).table.entries = s.table.entries := rfl
@[simp] theorem State.zeroCounters_table_pins (s : State) : (s.zeroCounters).table.pins = s.table.pins := rfl
@[simp] theorem State.zeroCounters_table_watches (s : State) : (s.zeroCounters).table.watches = s.table.watches := rfl
@[simp] theorem State.zeroCounters_table_ageTick (s : State) : (s.zeroCounters).table.ageTick = s.table.ageTick := rfl
@[simp] theorem State.zeroCounters_calls_startList (s : State) : (s.zeroCounters).calls.startList = s.calls.startList := rfl
@[simp] theorem State.zeroCounters_calls_permits (s : State) : (s.zeroCounters).calls.permits = s.calls.permits := rfl
@[simp] theorem State.zeroCounters_seg_state (s : State) : (s.zeroCounters).seg.state = s.seg.state := rfl
@[simp] theorem State.zeroCounters_seg_holder (s : State) : (s.zeroCounters).seg.holder = s.seg.holder := rfl
@[simp] theorem State.zeroCounters_seg_causes (s : State) : (s.zeroCounters).seg.causes = s.seg.causes := rfl
@[simp] theorem State.zeroCounters_seg_queue (s : State) : (s.zeroCounters).seg.queue = s.seg.queue := rfl
@[simp] theorem State.zeroCounters_seg_lease (s : State) : (s.zeroCounters).seg.lease = s.seg.lease := rfl
@[simp] theorem State.zeroCounters_seg_minerCount (s : State) : (s.zeroCounters).seg.minerCount = s.seg.minerCount := rfl
@[simp] theorem State.zeroCounters_seg_holderHere (s : State) : (s.zeroCounters).seg.holderHere = s.seg.holderHere := rfl
@[simp] theorem State.zeroCounters_evac_state (s : State) : (s.zeroCounters).evac.state = s.evac.state := rfl
@[simp] theorem State.zeroCounters_evac_repeatTimer (s : State) : (s.zeroCounters).evac.repeatTimer = s.evac.repeatTimer := rfl
@[simp] theorem State.zeroCounters_evac_panels (s : State) : (s.zeroCounters).evac.panels = s.evac.panels := rfl
@[simp] theorem State.zeroCounters_evac_sos (s : State) : (s.zeroCounters).evac.sos = s.evac.sos := rfl
@[simp] theorem State.zeroCounters_evac_routes (s : State) : (s.zeroCounters).evac.routes = s.evac.routes := rfl
@[simp] theorem State.zeroCounters_evac_lines (s : State) : (s.zeroCounters).evac.lines = s.evac.lines := rfl
@[simp] theorem State.zeroCounters_evac_doorTick (s : State) : (s.zeroCounters).evac.doorTick = s.evac.doorTick := rfl
@[simp] theorem State.zeroCounters_supply_sample (s : State) : (s.zeroCounters).supply.sample = s.supply.sample := rfl
@[simp] theorem State.zeroCounters_supply_entries (s : State) : (s.zeroCounters).supply.entries = s.supply.entries := rfl
@[simp] theorem State.zeroCounters_supply_shedLevel (s : State) : (s.zeroCounters).supply.shedLevel = s.supply.shedLevel := rfl
@[simp] theorem State.zeroCounters_supply_sampleTick (s : State) : (s.zeroCounters).supply.sampleTick = s.supply.sampleTick := rfl
@[simp] theorem State.zeroCounters_integ_state (s : State) : (s.zeroCounters).integ.state = s.integ.state := rfl
@[simp] theorem State.zeroCounters_integ_storedCheck (s : State) : (s.zeroCounters).integ.storedCheck = s.integ.storedCheck := rfl
@[simp] theorem State.zeroCounters_integ_lastCheck (s : State) : (s.zeroCounters).integ.lastCheck = s.integ.lastCheck := rfl
@[simp] theorem State.zeroCounters_integ_position (s : State) : (s.zeroCounters).integ.position = s.integ.position := rfl
@[simp] theorem State.zeroCounters_integ_runningCrc (s : State) : (s.zeroCounters).integ.runningCrc = s.integ.runningCrc := rfl
@[simp] theorem State.zeroCounters_integ_scanTimer (s : State) : (s.zeroCounters).integ.scanTimer = s.integ.scanTimer := rfl
@[simp] theorem State.zeroCounters_integ_suspensionTimer (s : State) : (s.zeroCounters).integ.suspensionTimer = s.integ.suspensionTimer := rfl
@[simp] theorem State.zeroCounters_mgmt_parameters (s : State) : (s.zeroCounters).mgmt.parameters = s.mgmt.parameters := rfl
@[simp] theorem State.zeroCounters_mgmt_attention (s : State) : (s.zeroCounters).mgmt.attention = s.mgmt.attention := rfl
@[simp] theorem State.zeroCounters_mgmt_statusTimer (s : State) : (s.zeroCounters).mgmt.statusTimer = s.mgmt.statusTimer := rfl
@[simp] theorem State.zeroCounters_mgmt_isolated (s : State) : (s.zeroCounters).mgmt.isolated = s.mgmt.isolated := rfl
@[simp] theorem State.zeroCounters_mgmt_isolationTimer (s : State) : (s.zeroCounters).mgmt.isolationTimer = s.mgmt.isolationTimer := rfl
@[simp] theorem State.zeroCounters_mgmt_restartPending (s : State) : (s.zeroCounters).mgmt.restartPending = s.mgmt.restartPending := rfl

/-! ### State.restartNet -/

@[simp] theorem State.restartNet_pending (s : State) : (s.restartNet).pending = s.pending := rfl
@[simp] theorem State.restartNet_now (s : State) : (s.restartNet).now = s.now := rfl
@[simp] theorem State.restartNet_samples (s : State) : (s.restartNet).samples = s.samples := rfl
@[simp] theorem State.restartNet_scratch (s : State) : (s.restartNet).scratch = s.scratch := rfl
@[simp] theorem State.restartNet_net_straps (s : State) : (s.restartNet).net.straps = s.net.straps := rfl
@[simp] theorem State.restartNet_net_alarmSeq (s : State) : (s.restartNet).net.alarmSeq = s.net.alarmSeq := rfl
@[simp] theorem State.restartNet_net_frameSeq (s : State) : (s.restartNet).net.frameSeq = s.net.frameSeq := rfl
@[simp] theorem State.restartNet_net_banks (s : State) : (s.restartNet).net.banks = s.net.banks := rfl
@[simp] theorem State.restartNet_poller (s : State) : (s.restartNet).poller = s.poller := rfl
@[simp] theorem State.restartNet_air (s : State) : (s.restartNet).air = s.air := rfl
@[simp] theorem State.restartNet_table (s : State) : (s.restartNet).table = s.table := rfl
@[simp] theorem State.restartNet_calls (s : State) : (s.restartNet).calls = s.calls := rfl
@[simp] theorem State.restartNet_seg (s : State) : (s.restartNet).seg = s.seg := rfl
@[simp] theorem State.restartNet_evac (s : State) : (s.restartNet).evac = s.evac := rfl
@[simp] theorem State.restartNet_supply (s : State) : (s.restartNet).supply = s.supply := rfl
@[simp] theorem State.restartNet_integ (s : State) : (s.restartNet).integ = s.integ := rfl
@[simp] theorem State.restartNet_mgmt (s : State) : (s.restartNet).mgmt = s.mgmt := rfl

/-! ### State.choosePort -/

@[simp] theorem State.choosePort_pending (s : State) (p : Port) : (s.choosePort p).pending = s.pending := rfl
@[simp] theorem State.choosePort_now (s : State) (p : Port) : (s.choosePort p).now = s.now := rfl
@[simp] theorem State.choosePort_samples (s : State) (p : Port) : (s.choosePort p).samples = s.samples := rfl
@[simp] theorem State.choosePort_scratch (s : State) (p : Port) : (s.choosePort p).scratch = s.scratch := rfl
@[simp] theorem State.choosePort_poller (s : State) (p : Port) : (s.choosePort p).poller = s.poller := rfl
@[simp] theorem State.choosePort_air (s : State) (p : Port) : (s.choosePort p).air = s.air := rfl
@[simp] theorem State.choosePort_table (s : State) (p : Port) : (s.choosePort p).table = s.table := rfl
@[simp] theorem State.choosePort_calls (s : State) (p : Port) : (s.choosePort p).calls = s.calls := rfl
@[simp] theorem State.choosePort_seg (s : State) (p : Port) : (s.choosePort p).seg = s.seg := rfl
@[simp] theorem State.choosePort_evac (s : State) (p : Port) : (s.choosePort p).evac = s.evac := rfl
@[simp] theorem State.choosePort_supply (s : State) (p : Port) : (s.choosePort p).supply = s.supply := rfl
@[simp] theorem State.choosePort_integ (s : State) (p : Port) : (s.choosePort p).integ = s.integ := rfl
@[simp] theorem State.choosePort_mgmt (s : State) (p : Port) : (s.choosePort p).mgmt = s.mgmt := rfl

/-! ### State.clearSending -/

@[simp] theorem State.clearSending_pending (s : State) (p : Port) : (s.clearSending p).pending = s.pending := rfl
@[simp] theorem State.clearSending_now (s : State) (p : Port) : (s.clearSending p).now = s.now := rfl
@[simp] theorem State.clearSending_samples (s : State) (p : Port) : (s.clearSending p).samples = s.samples := rfl
@[simp] theorem State.clearSending_scratch (s : State) (p : Port) : (s.clearSending p).scratch = s.scratch := rfl
@[simp] theorem State.clearSending_poller (s : State) (p : Port) : (s.clearSending p).poller = s.poller := rfl
@[simp] theorem State.clearSending_air (s : State) (p : Port) : (s.clearSending p).air = s.air := rfl
@[simp] theorem State.clearSending_table (s : State) (p : Port) : (s.clearSending p).table = s.table := rfl
@[simp] theorem State.clearSending_calls (s : State) (p : Port) : (s.clearSending p).calls = s.calls := rfl
@[simp] theorem State.clearSending_seg (s : State) (p : Port) : (s.clearSending p).seg = s.seg := rfl
@[simp] theorem State.clearSending_evac (s : State) (p : Port) : (s.clearSending p).evac = s.evac := rfl
@[simp] theorem State.clearSending_supply (s : State) (p : Port) : (s.clearSending p).supply = s.supply := rfl
@[simp] theorem State.clearSending_integ (s : State) (p : Port) : (s.clearSending p).integ = s.integ := rfl
@[simp] theorem State.clearSending_mgmt (s : State) (p : Port) : (s.clearSending p).mgmt = s.mgmt := rfl

/-! ### State.idle -/

@[simp] theorem State.idle_pending (s : State) : (s.idle).pending = s.pending := rfl
@[simp] theorem State.idle_samples (s : State) : (s.idle).samples = s.samples := rfl
@[simp] theorem State.idle_scratch (s : State) : (s.idle).scratch = s.scratch := rfl
@[simp] theorem State.idle_net (s : State) : (s.idle).net = s.net := rfl
@[simp] theorem State.idle_poller (s : State) : (s.idle).poller = s.poller := rfl
@[simp] theorem State.idle_air (s : State) : (s.idle).air = s.air := rfl
@[simp] theorem State.idle_table (s : State) : (s.idle).table = s.table := rfl
@[simp] theorem State.idle_calls (s : State) : (s.idle).calls = s.calls := rfl
@[simp] theorem State.idle_seg (s : State) : (s.idle).seg = s.seg := rfl
@[simp] theorem State.idle_evac (s : State) : (s.idle).evac = s.evac := rfl
@[simp] theorem State.idle_supply (s : State) : (s.idle).supply = s.supply := rfl
@[simp] theorem State.idle_integ (s : State) : (s.idle).integ = s.integ := rfl
@[simp] theorem State.idle_mgmt (s : State) : (s.idle).mgmt = s.mgmt := rfl

/-! ### State.setPending -/

@[simp] theorem State.setPending_now (s : State) (l : List Instr) : (s.setPending l).now = s.now := rfl
@[simp] theorem State.setPending_samples (s : State) (l : List Instr) : (s.setPending l).samples = s.samples := rfl
@[simp] theorem State.setPending_scratch (s : State) (l : List Instr) : (s.setPending l).scratch = s.scratch := rfl
@[simp] theorem State.setPending_net (s : State) (l : List Instr) : (s.setPending l).net = s.net := rfl
@[simp] theorem State.setPending_poller (s : State) (l : List Instr) : (s.setPending l).poller = s.poller := rfl
@[simp] theorem State.setPending_air (s : State) (l : List Instr) : (s.setPending l).air = s.air := rfl
@[simp] theorem State.setPending_table (s : State) (l : List Instr) : (s.setPending l).table = s.table := rfl
@[simp] theorem State.setPending_calls (s : State) (l : List Instr) : (s.setPending l).calls = s.calls := rfl
@[simp] theorem State.setPending_seg (s : State) (l : List Instr) : (s.setPending l).seg = s.seg := rfl
@[simp] theorem State.setPending_evac (s : State) (l : List Instr) : (s.setPending l).evac = s.evac := rfl
@[simp] theorem State.setPending_supply (s : State) (l : List Instr) : (s.setPending l).supply = s.supply := rfl
@[simp] theorem State.setPending_integ (s : State) (l : List Instr) : (s.setPending l).integ = s.integ := rfl
@[simp] theorem State.setPending_mgmt (s : State) (l : List Instr) : (s.setPending l).mgmt = s.mgmt := rfl

/-! ### What an update writes -/

@[simp] theorem State.setEntries_entries (s : State) (l : List Entry) : (s.setEntries l).table.entries = l := rfl
@[simp] theorem State.setStartList_startList (s : State) (l : List (Fin 8)) :
    (s.setStartList l).calls.startList = l := rfl
@[simp] theorem State.setEvacState_state (s : State) (x : EvacState) : (s.setEvacState x).evac.state = x := rfl
@[simp] theorem State.setSos_sos (s : State) (l : List Addr) : (s.setSos l).evac.sos = l := rfl
@[simp] theorem State.setSegState_state (s : State) (x : SegmentState) : (s.setSegState x).seg.state = x := rfl
@[simp] theorem State.setCauses_causes (s : State) (c : Causes) : (s.setCauses c).seg.causes = c := rfl
@[simp] theorem State.setSegQueue_queue (s : State) (q : List Truck) : (s.setSegQueue q).seg.queue = q := rfl
@[simp] theorem State.setHolder_holder (s : State) (t : Truck) : (s.setHolder t).seg.holder = some t := rfl
@[simp] theorem State.setHolderHere_holderHere (s : State) (b : Bool) : (s.setHolderHere b).seg.holderHere = b := rfl
@[simp] theorem State.setMinerCount_minerCount (s : State) (n : Nat) : (s.setMinerCount n).seg.minerCount = n := rfl
@[simp] theorem State.stopLease_lease (s : State) : s.stopLease.seg.lease = none := rfl
@[simp] theorem State.removeHolder_holder (s : State) : s.removeHolder.seg.holder = none := rfl
@[simp] theorem State.removeHolder_lease (s : State) : s.removeHolder.seg.lease = none := rfl
@[simp] theorem State.setGrades_zone (s : State) (z r : Grade) : (s.setGrades z r).air.zone = z := rfl
@[simp] theorem State.setGrades_refuge (s : State) (z r : Grade) : (s.setGrades z r).air.refuge = r := rfl
@[simp] theorem State.freeLine_inFlight (s : State) : s.freeLine.poller.inFlight = none := rfl
@[simp] theorem State.freeLine_replyTimer (s : State) : s.freeLine.poller.replyTimer = none := rfl
@[simp] theorem State.stopRepeat_repeatTimer (s : State) : s.stopRepeat.evac.repeatTimer = none := rfl
@[simp] theorem State.setPending_pending (s : State) (l : List Instr) : (s.setPending l).pending = l := rfl
@[simp] theorem State.reach_now (s : State) (t : Nat) : (s.reach t).now = max s.now t := rfl

/-- Reading the leg that was written, and another one. -/
@[simp] theorem State.leg_setLeg (s : State) (i j : Fin 8) (l : Leg) :
    (s.setLeg i l).leg j = if i = j then l else s.leg j := by
  simp only [State.leg, State.setLeg, Fin.getElem_fin, Vector.getElem_set, Fin.ext_iff]

/-- Reading the channel that was written, and another one. -/
@[simp] theorem State.channel_setChannel (s : State) (c d : Fin 16) (x : Channel) :
    (s.setChannel c x).channel d = if c = d then x else s.channel d := by
  simp only [State.channel, State.setChannel, Fin.getElem_fin, Vector.getElem_set, Fin.ext_iff]

/-- Reading the poll record that was written, and another one. -/
@[simp] theorem State.pollRecord_setPollRecord (s : State) (i j : Fin 8) (r : PollRecord) :
    (s.setPollRecord i r).pollRecord j = if i = j then r else s.pollRecord j := by
  simp only [State.pollRecord, State.setPollRecord, Fin.getElem_fin, Vector.getElem_set, Fin.ext_iff]

/-- Reading the panel record that was written, and another one. -/
@[simp] theorem State.panel_setPanel (s : State) (i j : Fin 8) (p : Panel) :
    (s.setPanel i p).panel j = if i = j then p else s.panel j := by
  simp only [State.panel, State.setPanel, Fin.getElem_fin, Vector.getElem_set, Fin.ext_iff]

end Sys2Proof.Machine
end

