-- ==== Sys2Proof/Laws/Net.lean ====
section
/-! SUPPORT. What the sending side of the forwarding engine and the egress scheduler leave as they were: the
strap pins, the plan banks, the relay list's tick, the link states, and the list and sequences unless a header
is made. -/

namespace Sys2Proof.Machine

/-- A fold keeps what each of its steps keeps. -/
theorem foldl_keeps {α β γ : Type} (π : β → γ) (f : β → α → β) (h : ∀ b a, π (f b a) = π b) (l : List α) (b : β) :
    π (l.foldl f b) = π b := by
  induction l generalizing b with
  | nil => rfl
  | cons a l ih => exact (ih (f b a)).trans (h b a)

/-- A relation that is reflexive and transitive and holds across each step of a fold holds across the fold. -/
theorem foldl_rel {α β : Type} {R : β → β → Prop} (refl : ∀ b, R b b) (trans : ∀ a b c, R a b → R b c → R a c)
    {f : β → α → β} (h : ∀ b a, R b (f b a)) (l : List α) (b : β) : R b (l.foldl f b) := by
  induction l generalizing b with
  | nil => exact refl b
  | cons a l ih => exact trans _ _ _ (h b a) (ih (f b a))

/-- Reading the port that was written, and another one. -/
@[simp] theorem Net.port_setPort (n : Net) (p q : Port) (x : PortState) :
    (n.setPort p x).port q = if p = q then x else n.port q := by
  cases p <;> cases q <;> rfl

@[simp] theorem Net.setPort_kept (n : Net) (p : Port) (x : PortState) :
    (n.setPort p x).straps = n.straps ∧ (n.setPort p x).banks = n.banks ∧ (n.setPort p x).relay = n.relay
    ∧ (n.setPort p x).relayTick = n.relayTick ∧ (n.setPort p x).alarmSeq = n.alarmSeq
    ∧ (n.setPort p x).frameSeq = n.frameSeq := by
  cases p <;> exact ⟨rfl, rfl, rfl, rfl, rfl, rfl⟩

@[simp] theorem Net.count_kept (n : Net) (p : Port) (f : PortCounters → PortCounters) :
    (n.count p f).straps = n.straps ∧ (n.count p f).banks = n.banks ∧ (n.count p f).relay = n.relay
    ∧ (n.count p f).relayTick = n.relayTick ∧ (n.count p f).alarmSeq = n.alarmSeq
    ∧ (n.count p f).frameSeq = n.frameSeq
    ∧ ∀ q, ((n.count p f).port q).up = (n.port q).up ∧ ((n.count p f).port q).egress = (n.port q).egress := by
  refine ⟨by simp [Net.count], by simp [Net.count], by simp [Net.count], by simp [Net.count],
    by simp [Net.count], by simp [Net.count], fun q => ?_⟩
  by_cases h : p = q
  · subst h; simp [Net.count]
  · simp [Net.count, h]

@[simp] theorem Net.countArrival_kept (n : Net) (a : Option Port) (f : PortCounters → PortCounters) :
    (n.countArrival a f).straps = n.straps ∧ (n.countArrival a f).banks = n.banks
    ∧ (n.countArrival a f).relay = n.relay ∧ (n.countArrival a f).relayTick = n.relayTick
    ∧ (n.countArrival a f).alarmSeq = n.alarmSeq ∧ (n.countArrival a f).frameSeq = n.frameSeq
    ∧ ∀ q, ((n.countArrival a f).port q).up = (n.port q).up
        ∧ ((n.countArrival a f).port q).egress = (n.port q).egress := by
  cases a with
  | none => simp [Net.countArrival]
  | some p => simp [Net.countArrival]

@[simp] theorem Net.setEgress_kept (n : Net) (p : Port) (e : Egress) :
    (n.setEgress p e).straps = n.straps ∧ (n.setEgress p e).banks = n.banks ∧ (n.setEgress p e).relay = n.relay
    ∧ (n.setEgress p e).relayTick = n.relayTick ∧ (n.setEgress p e).alarmSeq = n.alarmSeq
    ∧ (n.setEgress p e).frameSeq = n.frameSeq
    ∧ ∀ q, ((n.setEgress p e).port q).up = (n.port q).up
        ∧ ((n.setEgress p e).port q).counters = (n.port q).counters := by
  refine ⟨by simp [Net.setEgress], by simp [Net.setEgress], by simp [Net.setEgress], by simp [Net.setEgress],
    by simp [Net.setEgress], by simp [Net.setEgress], fun q => ?_⟩
  by_cases h : p = q
  · subst h; simp [Net.setEgress]
  · simp [Net.setEgress, h]

@[simp] theorem Net.choose_kept (n : Net) (shed : Nat) (p : Port) :
    (n.choose shed p).straps = n.straps ∧ (n.choose shed p).banks = n.banks ∧ (n.choose shed p).relay = n.relay
    ∧ (n.choose shed p).relayTick = n.relayTick ∧ (n.choose shed p).alarmSeq = n.alarmSeq
    ∧ (n.choose shed p).frameSeq = n.frameSeq
    ∧ ∀ q, ((n.choose shed p).port q).up = (n.port q).up
        ∧ ((n.choose shed p).port q).counters = (n.port q).counters := by
  unfold Net.choose
  split <;> simp

/-- A frame is dropped at its queue exactly when the class gives up no oldest frame, the queue is full and no report
of its source is in it to be replaced (R159, R160). -/
theorem Egress.takes_eq_false_iff (e : Egress) (f : Frame) :
    e.takes f = false ↔ (f.cls = .air → ∀ y ∈ e.queues.get f.cls, y.src ≠ f.src)
      ∧ queueCapacity f.cls ≤ (e.queues.get f.cls).length ∧ dropsOldest f.cls = false := by
  simp [Egress.takes, and_assoc]

/-- What an offer does: the frame meets its queue, and the port makes its choice exactly when it is queued (R162). -/
theorem Net.offer_cases (n : Net) (shed : Nat) (p : Port) (f : Frame) :
    ((n.port p).egress.takes f = true ∧
      n.offer shed p f = (n.setEgress p ((n.port p).egress.enqueue f)).choose shed p)
    ∨ ((n.port p).egress.takes f = false ∧ n.offer shed p f = n.setEgress p ((n.port p).egress.enqueue f)) := by
  cases h : (n.port p).egress.takes f <;> simp [Net.offer, h]
@[simp] theorem Net.offer_kept (n : Net) (shed : Nat) (p : Port) (f : Frame) :
    (n.offer shed p f).straps = n.straps ∧ (n.offer shed p f).banks = n.banks
    ∧ (n.offer shed p f).relay = n.relay ∧ (n.offer shed p f).relayTick = n.relayTick
    ∧ (n.offer shed p f).alarmSeq = n.alarmSeq ∧ (n.offer shed p f).frameSeq = n.frameSeq
    ∧ ∀ q, ((n.offer shed p f).port q).up = (n.port q).up
        ∧ ((n.offer shed p f).port q).counters = (n.port q).counters := by
  rcases n.offer_cases shed p f with ⟨-, h⟩ | ⟨-, h⟩ <;> simp [h]

@[simp] theorem Net.sendTo_kept (n : Net) (shed : Nat) (p : Port) (f : Frame) :
    (n.sendTo shed p f).straps = n.straps ∧ (n.sendTo shed p f).banks = n.banks
    ∧ (n.sendTo shed p f).relay = n.relay ∧ (n.sendTo shed p f).relayTick = n.relayTick
    ∧ (n.sendTo shed p f).alarmSeq = n.alarmSeq ∧ (n.sendTo shed p f).frameSeq = n.frameSeq
    ∧ ∀ q, ((n.sendTo shed p f).port q).up = (n.port q).up := by
  unfold Net.sendTo
  split <;> simp

@[simp] theorem Net.offerAll_kept (n : Net) (shed : Nat) (ports : List Port) (f : Frame) :
    (n.offerAll shed ports f).straps = n.straps ∧ (n.offerAll shed ports f).banks = n.banks
    ∧ (n.offerAll shed ports f).relay = n.relay ∧ (n.offerAll shed ports f).relayTick = n.relayTick
    ∧ (n.offerAll shed ports f).alarmSeq = n.alarmSeq ∧ (n.offerAll shed ports f).frameSeq = n.frameSeq
    ∧ ∀ q, ((n.offerAll shed ports f).port q).up = (n.port q).up
        ∧ ((n.offerAll shed ports f).port q).counters = (n.port q).counters := by
  unfold Net.offerAll
  exact foldl_rel (R := fun a b : Net => b.straps = a.straps ∧ b.banks = a.banks ∧ b.relay = a.relay
      ∧ b.relayTick = a.relayTick ∧ b.alarmSeq = a.alarmSeq ∧ b.frameSeq = a.frameSeq
      ∧ ∀ q, (b.port q).up = (a.port q).up ∧ (b.port q).counters = (a.port q).counters)
    (by simp) (by intro a b c h k; simp_all) (by intro b a; simp) ports n

@[simp] theorem Net.sendVia_kept (n : Net) (shed : Nat) (a : Option Port) (p : Port) (f : Frame) :
    (n.sendVia shed a p f).straps = n.straps ∧ (n.sendVia shed a p f).banks = n.banks
    ∧ (n.sendVia shed a p f).relay = n.relay ∧ (n.sendVia shed a p f).relayTick = n.relayTick
    ∧ (n.sendVia shed a p f).alarmSeq = n.alarmSeq ∧ (n.sendVia shed a p f).frameSeq = n.frameSeq
    ∧ ∀ q, ((n.sendVia shed a p f).port q).up = (n.port q).up := by
  unfold Net.sendVia
  split <;> simp

@[simp] theorem Net.flood_kept (n : Net) (shed : Nat) (a : Option Port) (f : Frame) :
    (n.flood shed a f).straps = n.straps ∧ (n.flood shed a f).banks = n.banks
    ∧ (n.flood shed a f).relay = n.relay ∧ (n.flood shed a f).relayTick = n.relayTick
    ∧ (n.flood shed a f).alarmSeq = n.alarmSeq ∧ (n.flood shed a f).frameSeq = n.frameSeq
    ∧ ∀ q, ((n.flood shed a f).port q).up = (n.port q).up := by
  simp only [Net.flood]
  split <;> simp

@[simp] theorem Net.sendBroadcast_kept (n : Net) (shed : Nat) (a : Option Port) (f : Frame) :
    (n.sendBroadcast shed a f).straps = n.straps ∧ (n.sendBroadcast shed a f).banks = n.banks
    ∧ (n.sendBroadcast shed a f).relay = n.relay ∧ (n.sendBroadcast shed a f).relayTick = n.relayTick
    ∧ (n.sendBroadcast shed a f).alarmSeq = n.alarmSeq ∧ (n.sendBroadcast shed a f).frameSeq = n.frameSeq
    ∧ ∀ q, ((n.sendBroadcast shed a f).port q).up = (n.port q).up := by
  simp only [Net.sendBroadcast]
  generalize n.floodPorts a ++ _ = ports
  split <;> simp

@[simp] theorem Net.decide_kept (n : Net) (l : List Entry) (shed : Nat) (a : Option Port) (f : Frame) :
    (n.decide l shed a f).straps = n.straps ∧ (n.decide l shed a f).banks = n.banks
    ∧ (n.decide l shed a f).relay = n.relay ∧ (n.decide l shed a f).relayTick = n.relayTick
    ∧ (n.decide l shed a f).alarmSeq = n.alarmSeq ∧ (n.decide l shed a f).frameSeq = n.frameSeq
    ∧ ∀ q, ((n.decide l shed a f).port q).up = (n.port q).up := by
  unfold Net.decide
  repeat' split
  all_goals simp

@[simp] theorem Net.header_kept (n : Net) (own : Addr) (m : Message) :
    (n.header own m).2.straps = n.straps ∧ (n.header own m).2.banks = n.banks
    ∧ (n.header own m).2.relayTick = n.relayTick ∧ ∀ q, (n.header own m).2.port q = n.port q := by
  simp only [Net.header]
  split
  · exact ⟨rfl, rfl, rfl, fun q => by cases q <;> rfl⟩
  · exact ⟨rfl, rfl, rfl, fun q => by cases q <;> rfl⟩

@[simp] theorem Net.originate_kept (n : Net) (l : List Entry) (shed : Nat) (m : Message) :
    (n.originate l shed m).straps = n.straps ∧ (n.originate l shed m).banks = n.banks
    ∧ (n.originate l shed m).relayTick = n.relayTick
    ∧ ∀ q, ((n.originate l shed m).port q).up = (n.port q).up := by
  unfold Net.originate
  split <;> simp

@[simp] theorem Net.originateTo_kept (n : Net) (shed : Nat) (p : Port) (m : Message) :
    (n.originateTo shed p m).straps = n.straps ∧ (n.originateTo shed p m).banks = n.banks
    ∧ (n.originateTo shed p m).relayTick = n.relayTick
    ∧ ∀ q, ((n.originateTo shed p m).port q).up = (n.port q).up := by
  unfold Net.originateTo
  split <;> simp

@[simp] theorem Net.chooseAll_kept (n : Net) (shed : Nat) :
    (n.chooseAll shed).straps = n.straps ∧ (n.chooseAll shed).banks = n.banks
    ∧ (n.chooseAll shed).relay = n.relay ∧ (n.chooseAll shed).relayTick = n.relayTick
    ∧ (n.chooseAll shed).alarmSeq = n.alarmSeq ∧ (n.chooseAll shed).frameSeq = n.frameSeq
    ∧ ∀ q, ((n.chooseAll shed).port q).up = (n.port q).up
        ∧ ((n.chooseAll shed).port q).counters = (n.port q).counters := by
  simp [Net.chooseAll]

/-- The node's address is read from the straps alone. -/
theorem Net.nodeAddr?_of_straps {n m : Net} (h : m.straps = n.straps) : m.nodeAddr? = n.nodeAddr? := by
  simp [Net.nodeAddr?, h]

@[simp] theorem State.originate_net (s : State) (m : Message) :
    (s.originate m).net.straps = s.net.straps ∧ (s.originate m).net.banks = s.net.banks
    ∧ (s.originate m).net.relayTick = s.net.relayTick
    ∧ ∀ q, ((s.originate m).net.port q).up = (s.net.port q).up := by
  simp [State.originate]

@[simp] theorem State.originateTo_net (s : State) (p : Port) (m : Message) :
    (s.originateTo p m).net.straps = s.net.straps ∧ (s.originateTo p m).net.banks = s.net.banks
    ∧ (s.originateTo p m).net.relayTick = s.net.relayTick
    ∧ ∀ q, ((s.originateTo p m).net.port q).up = (s.net.port q).up := by
  simp [State.originateTo]

@[simp] theorem State.countPort_net (s : State) (p : Port) (f : PortCounters → PortCounters) :
    (s.countPort p f).net.straps = s.net.straps ∧ (s.countPort p f).net.banks = s.net.banks
    ∧ (s.countPort p f).net.relayTick = s.net.relayTick
    ∧ ∀ q, ((s.countPort p f).net.port q).up = (s.net.port q).up := by
  simp [State.countPort]

@[simp] theorem State.choosePort_net (s : State) (p : Port) :
    (s.choosePort p).net.straps = s.net.straps ∧ (s.choosePort p).net.banks = s.net.banks
    ∧ (s.choosePort p).net.relayTick = s.net.relayTick
    ∧ ∀ q, ((s.choosePort p).net.port q).up = (s.net.port q).up := by
  simp [State.choosePort]

@[simp] theorem State.clearSending_net (s : State) (p : Port) :
    (s.clearSending p).net.straps = s.net.straps ∧ (s.clearSending p).net.banks = s.net.banks
    ∧ (s.clearSending p).net.relayTick = s.net.relayTick
    ∧ ∀ q, ((s.clearSending p).net.port q).up = (s.net.port q).up := by
  simp [State.clearSending]

end Sys2Proof.Machine
end

