-- ==== Sys2Proof/Laws/Frames.lean ====
section
/-! SUPPORT. The frame of every shared operation: one lemma that lists the fields it leaves as they were. -/

namespace Sys2Proof.Machine

@[simp] theorem State.setFlag_frame (s : State) (f : Flag) :
    (s.setFlag f).pending = s.pending ∧ (s.setFlag f).now = s.now ∧ (s.setFlag f).samples = s.samples
    ∧ (s.setFlag f).scratch = s.scratch ∧ (s.setFlag f).net = s.net ∧ (s.setFlag f).poller = s.poller
    ∧ (s.setFlag f).air = s.air ∧ (s.setFlag f).table = s.table ∧ (s.setFlag f).calls = s.calls
    ∧ (s.setFlag f).seg = s.seg ∧ (s.setFlag f).evac = s.evac ∧ (s.setFlag f).supply = s.supply
    ∧ (s.setFlag f).integ = s.integ ∧ (s.setFlag f).mgmt.parameters = s.mgmt.parameters
    ∧ (s.setFlag f).mgmt.statusTimer = s.mgmt.statusTimer ∧ (s.setFlag f).mgmt.isolated = s.mgmt.isolated
    ∧ (s.setFlag f).mgmt.isolationTimer = s.mgmt.isolationTimer
    ∧ (s.setFlag f).mgmt.restartPending = s.mgmt.restartPending
    ∧ (s.setFlag f).mgmt.counters = s.mgmt.counters := by
  unfold State.setFlag
  simp

@[simp] theorem State.refreshSummary_frame (s : State) (g : Group) :
    (s.refreshSummary g).pending = s.pending ∧ (s.refreshSummary g).now = s.now
    ∧ (s.refreshSummary g).samples = s.samples ∧ (s.refreshSummary g).scratch = s.scratch
    ∧ (s.refreshSummary g).net = s.net ∧ (s.refreshSummary g).poller = s.poller
    ∧ (s.refreshSummary g).air = s.air ∧ (s.refreshSummary g).table = s.table
    ∧ (s.refreshSummary g).calls = s.calls ∧ (s.refreshSummary g).seg = s.seg
    ∧ (s.refreshSummary g).evac = s.evac ∧ (s.refreshSummary g).supply = s.supply
    ∧ (s.refreshSummary g).integ = s.integ ∧ (s.refreshSummary g).mgmt.parameters = s.mgmt.parameters
    ∧ (s.refreshSummary g).mgmt.statusTimer = s.mgmt.statusTimer
    ∧ (s.refreshSummary g).mgmt.isolated = s.mgmt.isolated
    ∧ (s.refreshSummary g).mgmt.isolationTimer = s.mgmt.isolationTimer
    ∧ (s.refreshSummary g).mgmt.restartPending = s.mgmt.restartPending
    ∧ (s.refreshSummary g).mgmt.counters = s.mgmt.counters := by
  unfold State.refreshSummary
  repeat' split
  all_goals simp

@[simp] theorem State.startLease_frame (s : State) :
    s.startLease.pending = s.pending ∧ s.startLease.now = s.now ∧ s.startLease.samples = s.samples
    ∧ s.startLease.scratch = s.scratch ∧ s.startLease.net = s.net ∧ s.startLease.poller = s.poller
    ∧ s.startLease.air = s.air ∧ s.startLease.table = s.table ∧ s.startLease.calls = s.calls
    ∧ s.startLease.seg.state = s.seg.state ∧ s.startLease.seg.holder = s.seg.holder
    ∧ s.startLease.seg.causes = s.seg.causes ∧ s.startLease.seg.queue = s.seg.queue
    ∧ s.startLease.seg.minerCount = s.seg.minerCount ∧ s.startLease.seg.holderHere = s.seg.holderHere
    ∧ s.startLease.seg.counters = s.seg.counters ∧ s.startLease.evac = s.evac
    ∧ s.startLease.supply = s.supply ∧ s.startLease.integ = s.integ ∧ s.startLease.mgmt = s.mgmt := by
  unfold State.startLease
  simp

@[simp] theorem State.sendGrant_frame (s : State) (v : Addr) :
    (s.sendGrant v).pending = s.pending ∧ (s.sendGrant v).now = s.now ∧ (s.sendGrant v).samples = s.samples
    ∧ (s.sendGrant v).scratch = s.scratch ∧ (s.sendGrant v).net.straps = s.net.straps
    ∧ (s.sendGrant v).net.banks = s.net.banks ∧ (s.sendGrant v).net.relayTick = s.net.relayTick
    ∧ (s.sendGrant v).poller = s.poller ∧ (s.sendGrant v).air = s.air ∧ (s.sendGrant v).table = s.table
    ∧ (s.sendGrant v).calls = s.calls ∧ (s.sendGrant v).seg.state = s.seg.state
    ∧ (s.sendGrant v).seg.holder = s.seg.holder ∧ (s.sendGrant v).seg.causes = s.seg.causes
    ∧ (s.sendGrant v).seg.queue = s.seg.queue ∧ (s.sendGrant v).seg.lease = s.seg.lease
    ∧ (s.sendGrant v).seg.minerCount = s.seg.minerCount ∧ (s.sendGrant v).seg.holderHere = s.seg.holderHere
    ∧ (s.sendGrant v).evac = s.evac ∧ (s.sendGrant v).supply = s.supply ∧ (s.sendGrant v).integ = s.integ
    ∧ (s.sendGrant v).mgmt = s.mgmt ∧ ∀ pt, ((s.sendGrant v).net.port pt).up = (s.net.port pt).up := by
  unfold State.sendGrant
  simp only [State.originateCounted]
  repeat' split
  all_goals simp

@[simp] theorem State.sendWait_frame (s : State) (v : Addr) (position : Nat) :
    (s.sendWait v position).pending = s.pending ∧ (s.sendWait v position).now = s.now
    ∧ (s.sendWait v position).samples = s.samples ∧ (s.sendWait v position).scratch = s.scratch
    ∧ (s.sendWait v position).net.straps = s.net.straps ∧ (s.sendWait v position).net.banks = s.net.banks
    ∧ (s.sendWait v position).net.relayTick = s.net.relayTick ∧ (s.sendWait v position).poller = s.poller
    ∧ (s.sendWait v position).air = s.air ∧ (s.sendWait v position).table = s.table
    ∧ (s.sendWait v position).calls = s.calls ∧ (s.sendWait v position).seg.state = s.seg.state
    ∧ (s.sendWait v position).seg.holder = s.seg.holder ∧ (s.sendWait v position).seg.causes = s.seg.causes
    ∧ (s.sendWait v position).seg.queue = s.seg.queue ∧ (s.sendWait v position).seg.lease = s.seg.lease
    ∧ (s.sendWait v position).seg.minerCount = s.seg.minerCount
    ∧ (s.sendWait v position).seg.holderHere = s.seg.holderHere ∧ (s.sendWait v position).evac = s.evac
    ∧ (s.sendWait v position).supply = s.supply ∧ (s.sendWait v position).integ = s.integ
    ∧ (s.sendWait v position).mgmt = s.mgmt
    ∧ ∀ pt, ((s.sendWait v position).net.port pt).up = (s.net.port pt).up := by
  unfold State.sendWait
  simp only [State.originateCounted]
  repeat' split
  all_goals simp

@[simp] theorem State.sendRefusal_frame (s : State) (v : Addr) (c : EntryRefusal) :
    (s.sendRefusal v c).pending = s.pending ∧ (s.sendRefusal v c).now = s.now
    ∧ (s.sendRefusal v c).samples = s.samples ∧ (s.sendRefusal v c).scratch = s.scratch
    ∧ (s.sendRefusal v c).net.straps = s.net.straps ∧ (s.sendRefusal v c).net.banks = s.net.banks
    ∧ (s.sendRefusal v c).net.relayTick = s.net.relayTick ∧ (s.sendRefusal v c).poller = s.poller
    ∧ (s.sendRefusal v c).air = s.air ∧ (s.sendRefusal v c).table = s.table
    ∧ (s.sendRefusal v c).calls = s.calls ∧ (s.sendRefusal v c).seg.state = s.seg.state
    ∧ (s.sendRefusal v c).seg.holder = s.seg.holder ∧ (s.sendRefusal v c).seg.causes = s.seg.causes
    ∧ (s.sendRefusal v c).seg.queue = s.seg.queue ∧ (s.sendRefusal v c).seg.lease = s.seg.lease
    ∧ (s.sendRefusal v c).seg.minerCount = s.seg.minerCount
    ∧ (s.sendRefusal v c).seg.holderHere = s.seg.holderHere ∧ (s.sendRefusal v c).evac = s.evac
    ∧ (s.sendRefusal v c).supply = s.supply ∧ (s.sendRefusal v c).integ = s.integ
    ∧ (s.sendRefusal v c).mgmt = s.mgmt ∧ ∀ pt, ((s.sendRefusal v c).net.port pt).up = (s.net.port pt).up := by
  unfold State.sendRefusal
  simp only [State.originateCounted]
  repeat' split
  all_goals simp

@[simp] theorem State.sendWithdraw_frame (s : State) (v : Addr) :
    (s.sendWithdraw v).pending = s.pending ∧ (s.sendWithdraw v).now = s.now
    ∧ (s.sendWithdraw v).samples = s.samples ∧ (s.sendWithdraw v).net.straps = s.net.straps
    ∧ (s.sendWithdraw v).net.banks = s.net.banks ∧ (s.sendWithdraw v).net.relayTick = s.net.relayTick
    ∧ (s.sendWithdraw v).poller = s.poller ∧ (s.sendWithdraw v).air = s.air
    ∧ (s.sendWithdraw v).table = s.table ∧ (s.sendWithdraw v).calls = s.calls
    ∧ (s.sendWithdraw v).seg.state = s.seg.state ∧ (s.sendWithdraw v).seg.holder = s.seg.holder
    ∧ (s.sendWithdraw v).seg.causes = s.seg.causes ∧ (s.sendWithdraw v).seg.queue = s.seg.queue
    ∧ (s.sendWithdraw v).seg.lease = s.seg.lease ∧ (s.sendWithdraw v).seg.minerCount = s.seg.minerCount
    ∧ (s.sendWithdraw v).seg.holderHere = s.seg.holderHere ∧ (s.sendWithdraw v).evac = s.evac
    ∧ (s.sendWithdraw v).supply = s.supply ∧ (s.sendWithdraw v).integ = s.integ
    ∧ (s.sendWithdraw v).mgmt.parameters = s.mgmt.parameters
    ∧ (s.sendWithdraw v).mgmt.statusTimer = s.mgmt.statusTimer
    ∧ (s.sendWithdraw v).mgmt.isolated = s.mgmt.isolated
    ∧ (s.sendWithdraw v).mgmt.isolationTimer = s.mgmt.isolationTimer
    ∧ (s.sendWithdraw v).mgmt.restartPending = s.mgmt.restartPending
    ∧ (s.sendWithdraw v).mgmt.counters = s.mgmt.counters
    ∧ ∀ pt, ((s.sendWithdraw v).net.port pt).up = (s.net.port pt).up := by
  unfold State.sendWithdraw
  simp only [State.originateCounted]
  repeat' split
  all_goals simp

@[simp] theorem State.sendWaits_frame (s : State) (done : Nat) (l : List Truck) :
    (s.sendWaits done l).pending = s.pending ∧ (s.sendWaits done l).now = s.now
    ∧ (s.sendWaits done l).samples = s.samples ∧ (s.sendWaits done l).scratch = s.scratch
    ∧ (s.sendWaits done l).net.straps = s.net.straps ∧ (s.sendWaits done l).net.banks = s.net.banks
    ∧ (s.sendWaits done l).net.relayTick = s.net.relayTick ∧ (s.sendWaits done l).poller = s.poller
    ∧ (s.sendWaits done l).air = s.air ∧ (s.sendWaits done l).table = s.table
    ∧ (s.sendWaits done l).calls = s.calls ∧ (s.sendWaits done l).seg.state = s.seg.state
    ∧ (s.sendWaits done l).seg.holder = s.seg.holder ∧ (s.sendWaits done l).seg.causes = s.seg.causes
    ∧ (s.sendWaits done l).seg.queue = s.seg.queue ∧ (s.sendWaits done l).seg.lease = s.seg.lease
    ∧ (s.sendWaits done l).seg.minerCount = s.seg.minerCount
    ∧ (s.sendWaits done l).seg.holderHere = s.seg.holderHere ∧ (s.sendWaits done l).evac = s.evac
    ∧ (s.sendWaits done l).supply = s.supply ∧ (s.sendWaits done l).integ = s.integ
    ∧ (s.sendWaits done l).mgmt = s.mgmt ∧ ∀ pt, ((s.sendWaits done l).net.port pt).up = (s.net.port pt).up := by
  induction l generalizing s done with
  | nil => simp [State.sendWaits]
  | cons t rest ih => simp [State.sendWaits, ih]

@[simp] theorem State.sendProximity_frame (s : State) (dest : Addr) :
    (s.sendProximity dest).pending = s.pending ∧ (s.sendProximity dest).now = s.now
    ∧ (s.sendProximity dest).samples = s.samples ∧ (s.sendProximity dest).scratch = s.scratch
    ∧ (s.sendProximity dest).net.straps = s.net.straps ∧ (s.sendProximity dest).net.banks = s.net.banks
    ∧ (s.sendProximity dest).net.relayTick = s.net.relayTick ∧ (s.sendProximity dest).poller = s.poller
    ∧ (s.sendProximity dest).air = s.air ∧ (s.sendProximity dest).table = s.table
    ∧ (s.sendProximity dest).calls = s.calls ∧ (s.sendProximity dest).seg.state = s.seg.state
    ∧ (s.sendProximity dest).seg.holder = s.seg.holder ∧ (s.sendProximity dest).seg.causes = s.seg.causes
    ∧ (s.sendProximity dest).seg.queue = s.seg.queue ∧ (s.sendProximity dest).seg.lease = s.seg.lease
    ∧ (s.sendProximity dest).seg.minerCount = s.seg.minerCount
    ∧ (s.sendProximity dest).seg.holderHere = s.seg.holderHere ∧ (s.sendProximity dest).evac = s.evac
    ∧ (s.sendProximity dest).supply = s.supply ∧ (s.sendProximity dest).integ = s.integ
    ∧ (s.sendProximity dest).mgmt = s.mgmt
    ∧ ∀ pt, ((s.sendProximity dest).net.port pt).up = (s.net.port pt).up := by
  unfold State.sendProximity
  simp only [State.originateCounted]
  repeat' split
  all_goals simp

@[simp] theorem State.sendProximityHolder_frame (s : State) :
    s.sendProximityHolder.pending = s.pending ∧ s.sendProximityHolder.now = s.now
    ∧ s.sendProximityHolder.samples = s.samples ∧ s.sendProximityHolder.scratch = s.scratch
    ∧ s.sendProximityHolder.net.straps = s.net.straps ∧ s.sendProximityHolder.net.banks = s.net.banks
    ∧ s.sendProximityHolder.net.relayTick = s.net.relayTick ∧ s.sendProximityHolder.poller = s.poller
    ∧ s.sendProximityHolder.air = s.air ∧ s.sendProximityHolder.table = s.table
    ∧ s.sendProximityHolder.calls = s.calls ∧ s.sendProximityHolder.seg.state = s.seg.state
    ∧ s.sendProximityHolder.seg.holder = s.seg.holder ∧ s.sendProximityHolder.seg.causes = s.seg.causes
    ∧ s.sendProximityHolder.seg.queue = s.seg.queue ∧ s.sendProximityHolder.seg.lease = s.seg.lease
    ∧ s.sendProximityHolder.seg.minerCount = s.seg.minerCount
    ∧ s.sendProximityHolder.seg.holderHere = s.seg.holderHere ∧ s.sendProximityHolder.evac = s.evac
    ∧ s.sendProximityHolder.supply = s.supply ∧ s.sendProximityHolder.integ = s.integ
    ∧ s.sendProximityHolder.mgmt = s.mgmt
    ∧ ∀ pt, (s.sendProximityHolder.net.port pt).up = (s.net.port pt).up := by
  unfold State.sendProximityHolder
  repeat' split
  all_goals simp

@[simp] theorem State.proximityStarts_frame (s : State) :
    s.proximityStarts.pending = s.pending ∧ s.proximityStarts.now = s.now
    ∧ s.proximityStarts.samples = s.samples ∧ s.proximityStarts.scratch = s.scratch
    ∧ s.proximityStarts.net.straps = s.net.straps ∧ s.proximityStarts.net.banks = s.net.banks
    ∧ s.proximityStarts.net.relayTick = s.net.relayTick ∧ s.proximityStarts.poller = s.poller
    ∧ s.proximityStarts.air = s.air ∧ s.proximityStarts.table = s.table ∧ s.proximityStarts.calls = s.calls
    ∧ s.proximityStarts.seg.state = s.seg.state ∧ s.proximityStarts.seg.holder = s.seg.holder
    ∧ s.proximityStarts.seg.causes = s.seg.causes ∧ s.proximityStarts.seg.queue = s.seg.queue
    ∧ s.proximityStarts.seg.lease = s.seg.lease ∧ s.proximityStarts.seg.minerCount = s.seg.minerCount
    ∧ s.proximityStarts.seg.holderHere = s.seg.holderHere ∧ s.proximityStarts.evac = s.evac
    ∧ s.proximityStarts.supply = s.supply ∧ s.proximityStarts.integ = s.integ
    ∧ s.proximityStarts.mgmt = s.mgmt ∧ ∀ pt, (s.proximityStarts.net.port pt).up = (s.net.port pt).up := by
  have h := fun (l : List Entry) (b : State) => foldl_rel (R := fun s t : State => t.pending = s.pending ∧ t.now = s.now ∧ t.samples = s.samples ∧ t.scratch = s.scratch ∧ t.net.straps = s.net.straps ∧ t.net.banks = s.net.banks ∧ t.net.relayTick = s.net.relayTick ∧ t.poller = s.poller ∧ t.air = s.air ∧ t.table = s.table ∧ t.calls = s.calls ∧ t.seg.state = s.seg.state ∧ t.seg.holder = s.seg.holder ∧ t.seg.causes = s.seg.causes ∧ t.seg.queue = s.seg.queue ∧ t.seg.lease = s.seg.lease ∧ t.seg.minerCount = s.seg.minerCount ∧ t.seg.holderHere = s.seg.holderHere ∧ t.evac = s.evac ∧ t.supply = s.supply ∧ t.integ = s.integ ∧ t.mgmt = s.mgmt ∧ ∀ pt, (t.net.port pt).up = (s.net.port pt).up)
    (by simp) (by intro a b c h k; simp_all) (f := fun s e => s.sendProximity e.address) (by intro b a; simp) l b
  simpa [State.proximityStarts] using h s.minersHere s.sendProximityHolder

@[simp] theorem State.proximityFollows_frame (s : State) (was : Bool) :
    (s.proximityFollows was).pending = s.pending ∧ (s.proximityFollows was).now = s.now
    ∧ (s.proximityFollows was).samples = s.samples ∧ (s.proximityFollows was).scratch = s.scratch
    ∧ (s.proximityFollows was).net.straps = s.net.straps ∧ (s.proximityFollows was).net.banks = s.net.banks
    ∧ (s.proximityFollows was).net.relayTick = s.net.relayTick ∧ (s.proximityFollows was).poller = s.poller
    ∧ (s.proximityFollows was).air = s.air ∧ (s.proximityFollows was).table = s.table
    ∧ (s.proximityFollows was).calls = s.calls ∧ (s.proximityFollows was).seg.state = s.seg.state
    ∧ (s.proximityFollows was).seg.holder = s.seg.holder
    ∧ (s.proximityFollows was).seg.causes = s.seg.causes ∧ (s.proximityFollows was).seg.queue = s.seg.queue
    ∧ (s.proximityFollows was).seg.lease = s.seg.lease
    ∧ (s.proximityFollows was).seg.minerCount = s.seg.minerCount
    ∧ (s.proximityFollows was).seg.holderHere = s.seg.holderHere ∧ (s.proximityFollows was).evac = s.evac
    ∧ (s.proximityFollows was).supply = s.supply ∧ (s.proximityFollows was).integ = s.integ
    ∧ (s.proximityFollows was).mgmt = s.mgmt
    ∧ ∀ pt, ((s.proximityFollows was).net.port pt).up = (s.net.port pt).up := by
  unfold State.proximityFollows
  repeat' split
  all_goals simp

@[simp] theorem State.segMinerArrives_frame (s : State) (unit : Addr) :
    (s.segMinerArrives unit).pending = s.pending ∧ (s.segMinerArrives unit).now = s.now
    ∧ (s.segMinerArrives unit).samples = s.samples ∧ (s.segMinerArrives unit).scratch = s.scratch
    ∧ (s.segMinerArrives unit).net.straps = s.net.straps ∧ (s.segMinerArrives unit).net.banks = s.net.banks
    ∧ (s.segMinerArrives unit).net.relayTick = s.net.relayTick ∧ (s.segMinerArrives unit).poller = s.poller
    ∧ (s.segMinerArrives unit).air = s.air ∧ (s.segMinerArrives unit).table = s.table
    ∧ (s.segMinerArrives unit).calls = s.calls ∧ (s.segMinerArrives unit).seg.state = s.seg.state
    ∧ (s.segMinerArrives unit).seg.holder = s.seg.holder
    ∧ (s.segMinerArrives unit).seg.causes = s.seg.causes ∧ (s.segMinerArrives unit).seg.queue = s.seg.queue
    ∧ (s.segMinerArrives unit).seg.lease = s.seg.lease
    ∧ (s.segMinerArrives unit).seg.holderHere = s.seg.holderHere ∧ (s.segMinerArrives unit).evac = s.evac
    ∧ (s.segMinerArrives unit).supply = s.supply ∧ (s.segMinerArrives unit).integ = s.integ
    ∧ (s.segMinerArrives unit).mgmt = s.mgmt
    ∧ ∀ pt, ((s.segMinerArrives unit).net.port pt).up = (s.net.port pt).up := by
  unfold State.segMinerArrives
  simp only
  repeat' split
  all_goals simp

@[simp] theorem State.segMinerLeaves_frame (s : State) :
    s.segMinerLeaves.pending = s.pending ∧ s.segMinerLeaves.now = s.now
    ∧ s.segMinerLeaves.samples = s.samples ∧ s.segMinerLeaves.scratch = s.scratch
    ∧ s.segMinerLeaves.net.straps = s.net.straps ∧ s.segMinerLeaves.net.banks = s.net.banks
    ∧ s.segMinerLeaves.net.relayTick = s.net.relayTick ∧ s.segMinerLeaves.poller = s.poller
    ∧ s.segMinerLeaves.air = s.air ∧ s.segMinerLeaves.table = s.table ∧ s.segMinerLeaves.calls = s.calls
    ∧ s.segMinerLeaves.seg.state = s.seg.state ∧ s.segMinerLeaves.seg.holder = s.seg.holder
    ∧ s.segMinerLeaves.seg.causes = s.seg.causes ∧ s.segMinerLeaves.seg.queue = s.seg.queue
    ∧ s.segMinerLeaves.seg.lease = s.seg.lease ∧ s.segMinerLeaves.seg.holderHere = s.seg.holderHere
    ∧ s.segMinerLeaves.evac = s.evac ∧ s.segMinerLeaves.supply = s.supply ∧ s.segMinerLeaves.integ = s.integ
    ∧ s.segMinerLeaves.mgmt = s.mgmt ∧ ∀ pt, (s.segMinerLeaves.net.port pt).up = (s.net.port pt).up := by
  unfold State.segMinerLeaves
  simp only
  repeat' split
  all_goals simp

@[simp] theorem State.segVehicle_frame (s : State) (v : Addr) (here : Bool) :
    (s.segVehicle v here).pending = s.pending ∧ (s.segVehicle v here).now = s.now
    ∧ (s.segVehicle v here).samples = s.samples ∧ (s.segVehicle v here).scratch = s.scratch
    ∧ (s.segVehicle v here).net.straps = s.net.straps ∧ (s.segVehicle v here).net.banks = s.net.banks
    ∧ (s.segVehicle v here).net.relayTick = s.net.relayTick ∧ (s.segVehicle v here).poller = s.poller
    ∧ (s.segVehicle v here).air = s.air ∧ (s.segVehicle v here).table = s.table
    ∧ (s.segVehicle v here).calls = s.calls ∧ (s.segVehicle v here).seg.state = s.seg.state
    ∧ (s.segVehicle v here).seg.holder = s.seg.holder ∧ (s.segVehicle v here).seg.causes = s.seg.causes
    ∧ (s.segVehicle v here).seg.queue = s.seg.queue ∧ (s.segVehicle v here).seg.lease = s.seg.lease
    ∧ (s.segVehicle v here).seg.minerCount = s.seg.minerCount ∧ (s.segVehicle v here).evac = s.evac
    ∧ (s.segVehicle v here).supply = s.supply ∧ (s.segVehicle v here).integ = s.integ
    ∧ (s.segVehicle v here).mgmt = s.mgmt
    ∧ ∀ pt, ((s.segVehicle v here).net.port pt).up = (s.net.port pt).up := by
  unfold State.segVehicle
  repeat' split
  all_goals simp

@[simp] theorem State.grantTo_frame (s : State) (t : Truck) :
    (s.grantTo t).pending = s.pending ∧ (s.grantTo t).now = s.now ∧ (s.grantTo t).samples = s.samples
    ∧ (s.grantTo t).scratch = s.scratch ∧ (s.grantTo t).net.straps = s.net.straps
    ∧ (s.grantTo t).net.banks = s.net.banks ∧ (s.grantTo t).net.relayTick = s.net.relayTick
    ∧ (s.grantTo t).poller = s.poller ∧ (s.grantTo t).air = s.air ∧ (s.grantTo t).table = s.table
    ∧ (s.grantTo t).calls = s.calls ∧ (s.grantTo t).seg.causes = s.seg.causes
    ∧ (s.grantTo t).seg.queue = s.seg.queue ∧ (s.grantTo t).seg.minerCount = s.seg.minerCount
    ∧ (s.grantTo t).evac = s.evac ∧ (s.grantTo t).supply = s.supply ∧ (s.grantTo t).integ = s.integ
    ∧ (s.grantTo t).mgmt = s.mgmt ∧ ∀ pt, ((s.grantTo t).net.port pt).up = (s.net.port pt).up := by
  unfold State.grantTo
  simp

@[simp] theorem State.becomeFree_frame (s : State) :
    s.becomeFree.pending = s.pending ∧ s.becomeFree.now = s.now ∧ s.becomeFree.samples = s.samples
    ∧ s.becomeFree.scratch = s.scratch ∧ s.becomeFree.net.straps = s.net.straps
    ∧ s.becomeFree.net.banks = s.net.banks ∧ s.becomeFree.net.relayTick = s.net.relayTick
    ∧ s.becomeFree.poller = s.poller ∧ s.becomeFree.air = s.air ∧ s.becomeFree.table = s.table
    ∧ s.becomeFree.calls = s.calls ∧ s.becomeFree.seg.causes = s.seg.causes
    ∧ s.becomeFree.seg.minerCount = s.seg.minerCount ∧ s.becomeFree.evac = s.evac
    ∧ s.becomeFree.supply = s.supply ∧ s.becomeFree.integ = s.integ ∧ s.becomeFree.mgmt = s.mgmt
    ∧ ∀ pt, (s.becomeFree.net.port pt).up = (s.net.port pt).up := by
  unfold State.becomeFree
  repeat' split
  all_goals simp

@[simp] theorem State.vacate_frame (s : State) :
    s.vacate.pending = s.pending ∧ s.vacate.now = s.now ∧ s.vacate.samples = s.samples
    ∧ s.vacate.scratch = s.scratch ∧ s.vacate.net.straps = s.net.straps ∧ s.vacate.net.banks = s.net.banks
    ∧ s.vacate.net.relayTick = s.net.relayTick ∧ s.vacate.poller = s.poller ∧ s.vacate.air = s.air
    ∧ s.vacate.table = s.table ∧ s.vacate.calls = s.calls ∧ s.vacate.seg.causes = s.seg.causes
    ∧ s.vacate.seg.minerCount = s.seg.minerCount ∧ s.vacate.evac = s.evac ∧ s.vacate.supply = s.supply
    ∧ s.vacate.integ = s.integ ∧ s.vacate.mgmt = s.mgmt
    ∧ ∀ pt, (s.vacate.net.port pt).up = (s.net.port pt).up := by
  unfold State.vacate
  repeat' split
  all_goals simp

@[simp] theorem State.refuseAll_frame (s : State) (q : List Truck) :
    (s.refuseAll q).pending = s.pending ∧ (s.refuseAll q).now = s.now ∧ (s.refuseAll q).samples = s.samples
    ∧ (s.refuseAll q).scratch = s.scratch ∧ (s.refuseAll q).net.straps = s.net.straps
    ∧ (s.refuseAll q).net.banks = s.net.banks ∧ (s.refuseAll q).net.relayTick = s.net.relayTick
    ∧ (s.refuseAll q).poller = s.poller ∧ (s.refuseAll q).air = s.air ∧ (s.refuseAll q).table = s.table
    ∧ (s.refuseAll q).calls = s.calls ∧ (s.refuseAll q).seg.state = s.seg.state
    ∧ (s.refuseAll q).seg.holder = s.seg.holder ∧ (s.refuseAll q).seg.causes = s.seg.causes
    ∧ (s.refuseAll q).seg.queue = s.seg.queue ∧ (s.refuseAll q).seg.lease = s.seg.lease
    ∧ (s.refuseAll q).seg.minerCount = s.seg.minerCount ∧ (s.refuseAll q).seg.holderHere = s.seg.holderHere
    ∧ (s.refuseAll q).evac = s.evac ∧ (s.refuseAll q).supply = s.supply ∧ (s.refuseAll q).integ = s.integ
    ∧ (s.refuseAll q).mgmt = s.mgmt ∧ ∀ pt, ((s.refuseAll q).net.port pt).up = (s.net.port pt).up := by
  unfold State.refuseAll
  exact foldl_rel (R := fun s t : State => t.pending = s.pending ∧ t.now = s.now ∧ t.samples = s.samples ∧ t.scratch = s.scratch ∧ t.net.straps = s.net.straps ∧ t.net.banks = s.net.banks ∧ t.net.relayTick = s.net.relayTick ∧ t.poller = s.poller ∧ t.air = s.air ∧ t.table = s.table ∧ t.calls = s.calls ∧ t.seg.state = s.seg.state ∧ t.seg.holder = s.seg.holder ∧ t.seg.causes = s.seg.causes ∧ t.seg.queue = s.seg.queue ∧ t.seg.lease = s.seg.lease ∧ t.seg.minerCount = s.seg.minerCount ∧ t.seg.holderHere = s.seg.holderHere ∧ t.evac = s.evac ∧ t.supply = s.supply ∧ t.integ = s.integ ∧ t.mgmt = s.mgmt ∧ ∀ pt, (t.net.port pt).up = (s.net.port pt).up)
    (by simp) (by intro a b c h k; simp_all) (by intro b a; simp) _ s

@[simp] theorem State.segCloses_frame (s : State) :
    s.segCloses.pending = s.pending ∧ s.segCloses.now = s.now ∧ s.segCloses.samples = s.samples
    ∧ s.segCloses.net.straps = s.net.straps ∧ s.segCloses.net.banks = s.net.banks
    ∧ s.segCloses.net.relayTick = s.net.relayTick ∧ s.segCloses.poller = s.poller ∧ s.segCloses.air = s.air
    ∧ s.segCloses.table = s.table ∧ s.segCloses.calls = s.calls ∧ s.segCloses.seg.holder = s.seg.holder
    ∧ s.segCloses.seg.causes = s.seg.causes ∧ s.segCloses.seg.lease = s.seg.lease
    ∧ s.segCloses.seg.minerCount = s.seg.minerCount ∧ s.segCloses.seg.holderHere = s.seg.holderHere
    ∧ s.segCloses.evac = s.evac ∧ s.segCloses.supply = s.supply ∧ s.segCloses.integ = s.integ
    ∧ s.segCloses.mgmt.parameters = s.mgmt.parameters ∧ s.segCloses.mgmt.statusTimer = s.mgmt.statusTimer
    ∧ s.segCloses.mgmt.isolated = s.mgmt.isolated ∧ s.segCloses.mgmt.isolationTimer = s.mgmt.isolationTimer
    ∧ s.segCloses.mgmt.restartPending = s.mgmt.restartPending ∧ s.segCloses.mgmt.counters = s.mgmt.counters
    ∧ ∀ pt, (s.segCloses.net.port pt).up = (s.net.port pt).up := by
  unfold State.segCloses
  repeat' split
  all_goals simp

@[simp] theorem State.segOpens_frame (s : State) :
    s.segOpens.pending = s.pending ∧ s.segOpens.now = s.now ∧ s.segOpens.samples = s.samples
    ∧ s.segOpens.scratch = s.scratch ∧ s.segOpens.net.straps = s.net.straps
    ∧ s.segOpens.net.banks = s.net.banks ∧ s.segOpens.net.relayTick = s.net.relayTick
    ∧ s.segOpens.poller = s.poller ∧ s.segOpens.air = s.air ∧ s.segOpens.table = s.table
    ∧ s.segOpens.calls = s.calls ∧ s.segOpens.seg.causes = s.seg.causes
    ∧ s.segOpens.seg.minerCount = s.seg.minerCount ∧ s.segOpens.evac = s.evac ∧ s.segOpens.supply = s.supply
    ∧ s.segOpens.integ = s.integ ∧ s.segOpens.mgmt = s.mgmt
    ∧ ∀ pt, (s.segOpens.net.port pt).up = (s.net.port pt).up := by
  unfold State.segOpens
  repeat' split
  all_goals simp

@[simp] theorem State.changeCauses_frame (s : State) (c : Causes) :
    (s.changeCauses c).pending = s.pending ∧ (s.changeCauses c).now = s.now
    ∧ (s.changeCauses c).samples = s.samples ∧ (s.changeCauses c).net.straps = s.net.straps
    ∧ (s.changeCauses c).net.banks = s.net.banks ∧ (s.changeCauses c).net.relayTick = s.net.relayTick
    ∧ (s.changeCauses c).poller = s.poller ∧ (s.changeCauses c).air = s.air
    ∧ (s.changeCauses c).table = s.table ∧ (s.changeCauses c).calls = s.calls
    ∧ (s.changeCauses c).seg.minerCount = s.seg.minerCount ∧ (s.changeCauses c).evac = s.evac
    ∧ (s.changeCauses c).supply = s.supply ∧ (s.changeCauses c).integ = s.integ
    ∧ (s.changeCauses c).mgmt.parameters = s.mgmt.parameters
    ∧ (s.changeCauses c).mgmt.statusTimer = s.mgmt.statusTimer
    ∧ (s.changeCauses c).mgmt.isolated = s.mgmt.isolated
    ∧ (s.changeCauses c).mgmt.isolationTimer = s.mgmt.isolationTimer
    ∧ (s.changeCauses c).mgmt.restartPending = s.mgmt.restartPending
    ∧ (s.changeCauses c).mgmt.counters = s.mgmt.counters
    ∧ ∀ pt, ((s.changeCauses c).net.port pt).up = (s.net.port pt).up := by
  unfold State.changeCauses
  repeat' split
  all_goals simp

@[simp] theorem State.segZone_frame (s : State) (old new : Grade) :
    (s.segZone old new).pending = s.pending ∧ (s.segZone old new).now = s.now
    ∧ (s.segZone old new).samples = s.samples ∧ (s.segZone old new).net.straps = s.net.straps
    ∧ (s.segZone old new).net.banks = s.net.banks ∧ (s.segZone old new).net.relayTick = s.net.relayTick
    ∧ (s.segZone old new).poller = s.poller ∧ (s.segZone old new).table = s.table
    ∧ (s.segZone old new).calls = s.calls ∧ (s.segZone old new).seg.minerCount = s.seg.minerCount
    ∧ (s.segZone old new).evac = s.evac ∧ (s.segZone old new).supply = s.supply
    ∧ (s.segZone old new).integ = s.integ ∧ (s.segZone old new).mgmt.parameters = s.mgmt.parameters
    ∧ (s.segZone old new).mgmt.statusTimer = s.mgmt.statusTimer
    ∧ (s.segZone old new).mgmt.isolated = s.mgmt.isolated
    ∧ (s.segZone old new).mgmt.isolationTimer = s.mgmt.isolationTimer
    ∧ (s.segZone old new).mgmt.restartPending = s.mgmt.restartPending
    ∧ (s.segZone old new).mgmt.counters = s.mgmt.counters
    ∧ ∀ pt, ((s.segZone old new).net.port pt).up = (s.net.port pt).up := by
  unfold State.segZone
  simp only
  repeat' split
  all_goals simp

@[simp] theorem State.heardFrom_frame (s : State) (a : Addr) :
    (s.heardFrom a).pending = s.pending ∧ (s.heardFrom a).now = s.now ∧ (s.heardFrom a).samples = s.samples
    ∧ (s.heardFrom a).net.straps = s.net.straps ∧ (s.heardFrom a).net.banks = s.net.banks
    ∧ (s.heardFrom a).net.relayTick = s.net.relayTick ∧ (s.heardFrom a).poller = s.poller
    ∧ (s.heardFrom a).air = s.air ∧ (s.heardFrom a).table = s.table ∧ (s.heardFrom a).calls = s.calls
    ∧ (s.heardFrom a).seg.holder = s.seg.holder ∧ (s.heardFrom a).seg.causes = s.seg.causes
    ∧ (s.heardFrom a).seg.queue = s.seg.queue ∧ (s.heardFrom a).seg.minerCount = s.seg.minerCount
    ∧ (s.heardFrom a).seg.holderHere = s.seg.holderHere ∧ (s.heardFrom a).evac = s.evac
    ∧ (s.heardFrom a).supply = s.supply ∧ (s.heardFrom a).integ = s.integ
    ∧ (s.heardFrom a).mgmt.parameters = s.mgmt.parameters
    ∧ (s.heardFrom a).mgmt.statusTimer = s.mgmt.statusTimer
    ∧ (s.heardFrom a).mgmt.isolated = s.mgmt.isolated
    ∧ (s.heardFrom a).mgmt.isolationTimer = s.mgmt.isolationTimer
    ∧ (s.heardFrom a).mgmt.restartPending = s.mgmt.restartPending
    ∧ (s.heardFrom a).mgmt.counters = s.mgmt.counters
    ∧ ∀ pt, ((s.heardFrom a).net.port pt).up = (s.net.port pt).up := by
  unfold State.heardFrom
  repeat' split
  all_goals simp

@[simp] theorem State.joinQueue_frame (s : State) (v : Addr) (d : Heading) :
    (s.joinQueue v d).pending = s.pending ∧ (s.joinQueue v d).now = s.now
    ∧ (s.joinQueue v d).samples = s.samples ∧ (s.joinQueue v d).scratch = s.scratch
    ∧ (s.joinQueue v d).net.straps = s.net.straps ∧ (s.joinQueue v d).net.banks = s.net.banks
    ∧ (s.joinQueue v d).net.relayTick = s.net.relayTick ∧ (s.joinQueue v d).poller = s.poller
    ∧ (s.joinQueue v d).air = s.air ∧ (s.joinQueue v d).table = s.table ∧ (s.joinQueue v d).calls = s.calls
    ∧ (s.joinQueue v d).seg.state = s.seg.state ∧ (s.joinQueue v d).seg.holder = s.seg.holder
    ∧ (s.joinQueue v d).seg.causes = s.seg.causes ∧ (s.joinQueue v d).seg.lease = s.seg.lease
    ∧ (s.joinQueue v d).seg.minerCount = s.seg.minerCount
    ∧ (s.joinQueue v d).seg.holderHere = s.seg.holderHere ∧ (s.joinQueue v d).evac = s.evac
    ∧ (s.joinQueue v d).supply = s.supply ∧ (s.joinQueue v d).integ = s.integ
    ∧ (s.joinQueue v d).mgmt.parameters = s.mgmt.parameters
    ∧ (s.joinQueue v d).mgmt.statusTimer = s.mgmt.statusTimer
    ∧ (s.joinQueue v d).mgmt.isolated = s.mgmt.isolated
    ∧ (s.joinQueue v d).mgmt.isolationTimer = s.mgmt.isolationTimer
    ∧ (s.joinQueue v d).mgmt.restartPending = s.mgmt.restartPending
    ∧ (s.joinQueue v d).mgmt.counters = s.mgmt.counters
    ∧ ∀ pt, ((s.joinQueue v d).net.port pt).up = (s.net.port pt).up := by
  unfold State.joinQueue
  repeat' split
  all_goals simp

@[simp] theorem State.entryRequest_frame (s : State) (v : Addr) (d : Heading) :
    (s.entryRequest v d).pending = s.pending ∧ (s.entryRequest v d).now = s.now
    ∧ (s.entryRequest v d).samples = s.samples ∧ (s.entryRequest v d).net.straps = s.net.straps
    ∧ (s.entryRequest v d).net.banks = s.net.banks ∧ (s.entryRequest v d).net.relayTick = s.net.relayTick
    ∧ (s.entryRequest v d).poller = s.poller ∧ (s.entryRequest v d).air = s.air
    ∧ (s.entryRequest v d).table = s.table ∧ (s.entryRequest v d).calls = s.calls
    ∧ (s.entryRequest v d).seg.causes = s.seg.causes
    ∧ (s.entryRequest v d).seg.minerCount = s.seg.minerCount ∧ (s.entryRequest v d).evac = s.evac
    ∧ (s.entryRequest v d).supply = s.supply ∧ (s.entryRequest v d).integ = s.integ
    ∧ (s.entryRequest v d).mgmt.parameters = s.mgmt.parameters
    ∧ (s.entryRequest v d).mgmt.statusTimer = s.mgmt.statusTimer
    ∧ (s.entryRequest v d).mgmt.isolated = s.mgmt.isolated
    ∧ (s.entryRequest v d).mgmt.isolationTimer = s.mgmt.isolationTimer
    ∧ (s.entryRequest v d).mgmt.restartPending = s.mgmt.restartPending
    ∧ (s.entryRequest v d).mgmt.counters = s.mgmt.counters
    ∧ ∀ pt, ((s.entryRequest v d).net.port pt).up = (s.net.port pt).up := by
  unfold State.entryRequest
  repeat' split
  all_goals simp

@[simp] theorem State.exitNotice_frame (s : State) (v : Addr) :
    (s.exitNotice v).pending = s.pending ∧ (s.exitNotice v).now = s.now
    ∧ (s.exitNotice v).samples = s.samples ∧ (s.exitNotice v).scratch = s.scratch
    ∧ (s.exitNotice v).net.straps = s.net.straps ∧ (s.exitNotice v).net.banks = s.net.banks
    ∧ (s.exitNotice v).net.relayTick = s.net.relayTick ∧ (s.exitNotice v).poller = s.poller
    ∧ (s.exitNotice v).air = s.air ∧ (s.exitNotice v).table = s.table ∧ (s.exitNotice v).calls = s.calls
    ∧ (s.exitNotice v).seg.causes = s.seg.causes ∧ (s.exitNotice v).seg.minerCount = s.seg.minerCount
    ∧ (s.exitNotice v).evac = s.evac ∧ (s.exitNotice v).supply = s.supply ∧ (s.exitNotice v).integ = s.integ
    ∧ (s.exitNotice v).mgmt = s.mgmt ∧ ∀ pt, ((s.exitNotice v).net.port pt).up = (s.net.port pt).up := by
  unfold State.exitNotice
  repeat' split
  all_goals simp

@[simp] theorem State.badEntryFrame_frame (s : State) :
    s.badEntryFrame.pending = s.pending ∧ s.badEntryFrame.now = s.now ∧ s.badEntryFrame.samples = s.samples
    ∧ s.badEntryFrame.scratch = s.scratch ∧ s.badEntryFrame.net = s.net ∧ s.badEntryFrame.poller = s.poller
    ∧ s.badEntryFrame.air = s.air ∧ s.badEntryFrame.table = s.table ∧ s.badEntryFrame.calls = s.calls
    ∧ s.badEntryFrame.seg.state = s.seg.state ∧ s.badEntryFrame.seg.holder = s.seg.holder
    ∧ s.badEntryFrame.seg.causes = s.seg.causes ∧ s.badEntryFrame.seg.queue = s.seg.queue
    ∧ s.badEntryFrame.seg.lease = s.seg.lease ∧ s.badEntryFrame.seg.minerCount = s.seg.minerCount
    ∧ s.badEntryFrame.seg.holderHere = s.seg.holderHere ∧ s.badEntryFrame.evac = s.evac
    ∧ s.badEntryFrame.supply = s.supply ∧ s.badEntryFrame.integ = s.integ ∧ s.badEntryFrame.mgmt = s.mgmt := by
  unfold State.badEntryFrame
  simp

@[simp] theorem State.leaseExpires_frame (s : State) :
    s.leaseExpires.pending = s.pending ∧ s.leaseExpires.now = s.now ∧ s.leaseExpires.samples = s.samples
    ∧ s.leaseExpires.scratch = s.scratch ∧ s.leaseExpires.net = s.net ∧ s.leaseExpires.poller = s.poller
    ∧ s.leaseExpires.air = s.air ∧ s.leaseExpires.table = s.table ∧ s.leaseExpires.calls = s.calls
    ∧ s.leaseExpires.seg.holder = s.seg.holder ∧ s.leaseExpires.seg.causes = s.seg.causes
    ∧ s.leaseExpires.seg.queue = s.seg.queue ∧ s.leaseExpires.seg.minerCount = s.seg.minerCount
    ∧ s.leaseExpires.seg.holderHere = s.seg.holderHere ∧ s.leaseExpires.evac = s.evac
    ∧ s.leaseExpires.supply = s.supply ∧ s.leaseExpires.integ = s.integ
    ∧ s.leaseExpires.mgmt.parameters = s.mgmt.parameters
    ∧ s.leaseExpires.mgmt.statusTimer = s.mgmt.statusTimer ∧ s.leaseExpires.mgmt.isolated = s.mgmt.isolated
    ∧ s.leaseExpires.mgmt.isolationTimer = s.mgmt.isolationTimer
    ∧ s.leaseExpires.mgmt.restartPending = s.mgmt.restartPending
    ∧ s.leaseExpires.mgmt.counters = s.mgmt.counters := by
  unfold State.leaseExpires
  simp

@[simp] theorem State.releaseHolder_frame (s : State) :
    s.releaseHolder.pending = s.pending ∧ s.releaseHolder.now = s.now ∧ s.releaseHolder.samples = s.samples
    ∧ s.releaseHolder.net.straps = s.net.straps ∧ s.releaseHolder.net.banks = s.net.banks
    ∧ s.releaseHolder.net.relayTick = s.net.relayTick ∧ s.releaseHolder.poller = s.poller
    ∧ s.releaseHolder.air = s.air ∧ s.releaseHolder.table = s.table ∧ s.releaseHolder.calls = s.calls
    ∧ s.releaseHolder.seg.causes = s.seg.causes ∧ s.releaseHolder.seg.minerCount = s.seg.minerCount
    ∧ s.releaseHolder.evac = s.evac ∧ s.releaseHolder.supply = s.supply ∧ s.releaseHolder.integ = s.integ
    ∧ s.releaseHolder.mgmt.parameters = s.mgmt.parameters
    ∧ s.releaseHolder.mgmt.statusTimer = s.mgmt.statusTimer
    ∧ s.releaseHolder.mgmt.isolated = s.mgmt.isolated
    ∧ s.releaseHolder.mgmt.isolationTimer = s.mgmt.isolationTimer
    ∧ s.releaseHolder.mgmt.restartPending = s.mgmt.restartPending
    ∧ s.releaseHolder.mgmt.counters = s.mgmt.counters
    ∧ ∀ pt, (s.releaseHolder.net.port pt).up = (s.net.port pt).up := by
  unfold State.releaseHolder
  repeat' split
  all_goals simp

@[simp] theorem State.restartSegment_frame (s : State) :
    s.restartSegment.pending = s.pending ∧ s.restartSegment.now = s.now
    ∧ s.restartSegment.samples = s.samples ∧ s.restartSegment.scratch = s.scratch
    ∧ s.restartSegment.net = s.net ∧ s.restartSegment.poller = s.poller ∧ s.restartSegment.air = s.air
    ∧ s.restartSegment.table = s.table ∧ s.restartSegment.calls = s.calls
    ∧ s.restartSegment.seg.state = s.seg.state ∧ s.restartSegment.seg.holder = s.seg.holder
    ∧ s.restartSegment.seg.causes = s.seg.causes ∧ s.restartSegment.seg.counters = s.seg.counters
    ∧ s.restartSegment.evac = s.evac ∧ s.restartSegment.supply = s.supply ∧ s.restartSegment.integ = s.integ
    ∧ s.restartSegment.mgmt = s.mgmt := by
  unfold State.restartSegment
  simp

@[simp] theorem State.straySignal_frame (s : State) :
    s.straySignal.pending = s.pending ∧ s.straySignal.now = s.now ∧ s.straySignal.samples = s.samples
    ∧ s.straySignal.scratch = s.scratch ∧ s.straySignal.net = s.net ∧ s.straySignal.poller = s.poller
    ∧ s.straySignal.air = s.air ∧ s.straySignal.table = s.table ∧ s.straySignal.calls.legs = s.calls.legs
    ∧ s.straySignal.calls.startList = s.calls.startList ∧ s.straySignal.calls.permits = s.calls.permits
    ∧ s.straySignal.seg = s.seg ∧ s.straySignal.evac = s.evac ∧ s.straySignal.supply = s.supply
    ∧ s.straySignal.integ = s.integ ∧ s.straySignal.mgmt = s.mgmt := by
  unfold State.straySignal
  simp

@[simp] theorem State.sendClear_frame (s : State) (dest : Addr) (c : CallId) (cause : ClearCause) :
    (s.sendClear dest c cause).pending = s.pending ∧ (s.sendClear dest c cause).now = s.now
    ∧ (s.sendClear dest c cause).samples = s.samples ∧ (s.sendClear dest c cause).scratch = s.scratch
    ∧ (s.sendClear dest c cause).net.straps = s.net.straps
    ∧ (s.sendClear dest c cause).net.banks = s.net.banks
    ∧ (s.sendClear dest c cause).net.relayTick = s.net.relayTick
    ∧ (s.sendClear dest c cause).poller = s.poller ∧ (s.sendClear dest c cause).air = s.air
    ∧ (s.sendClear dest c cause).table = s.table ∧ (s.sendClear dest c cause).calls = s.calls
    ∧ (s.sendClear dest c cause).seg = s.seg ∧ (s.sendClear dest c cause).evac = s.evac
    ∧ (s.sendClear dest c cause).supply = s.supply ∧ (s.sendClear dest c cause).integ = s.integ
    ∧ (s.sendClear dest c cause).mgmt = s.mgmt
    ∧ ∀ pt, ((s.sendClear dest c cause).net.port pt).up = (s.net.port pt).up := by
  unfold State.sendClear
  simp

@[simp] theorem State.enterClearing_frame (s : State) (i : Fin 8) (c : ClearCause) :
    (s.enterClearing i c).pending = s.pending ∧ (s.enterClearing i c).now = s.now
    ∧ (s.enterClearing i c).samples = s.samples ∧ (s.enterClearing i c).scratch = s.scratch
    ∧ (s.enterClearing i c).net = s.net ∧ (s.enterClearing i c).poller = s.poller
    ∧ (s.enterClearing i c).air = s.air ∧ (s.enterClearing i c).table = s.table
    ∧ (s.enterClearing i c).calls.permits = s.calls.permits
    ∧ (s.enterClearing i c).calls.counters = s.calls.counters ∧ (s.enterClearing i c).seg = s.seg
    ∧ (s.enterClearing i c).evac = s.evac ∧ (s.enterClearing i c).supply = s.supply
    ∧ (s.enterClearing i c).integ = s.integ ∧ (s.enterClearing i c).mgmt = s.mgmt := by
  unfold State.enterClearing
  simp

@[simp] theorem State.becomeIdle_frame (s : State) (i : Fin 8) :
    (s.becomeIdle i).pending = s.pending ∧ (s.becomeIdle i).now = s.now
    ∧ (s.becomeIdle i).samples = s.samples ∧ (s.becomeIdle i).scratch = s.scratch
    ∧ (s.becomeIdle i).net = s.net ∧ (s.becomeIdle i).poller = s.poller ∧ (s.becomeIdle i).air = s.air
    ∧ (s.becomeIdle i).table = s.table ∧ (s.becomeIdle i).calls.startList = s.calls.startList
    ∧ (s.becomeIdle i).calls.permits = s.calls.permits ∧ (s.becomeIdle i).calls.counters = s.calls.counters
    ∧ (s.becomeIdle i).seg = s.seg ∧ (s.becomeIdle i).evac = s.evac ∧ (s.becomeIdle i).supply = s.supply
    ∧ (s.becomeIdle i).integ = s.integ ∧ (s.becomeIdle i).mgmt = s.mgmt := by
  unfold State.becomeIdle
  simp

@[simp] theorem State.clearNotices_frame (s : State) (l : Leg) (c : ClearCause) (w : ClearFrom) :
    (s.clearNotices l c w).pending = s.pending ∧ (s.clearNotices l c w).now = s.now
    ∧ (s.clearNotices l c w).samples = s.samples ∧ (s.clearNotices l c w).scratch = s.scratch
    ∧ (s.clearNotices l c w).net.straps = s.net.straps ∧ (s.clearNotices l c w).net.banks = s.net.banks
    ∧ (s.clearNotices l c w).net.relayTick = s.net.relayTick ∧ (s.clearNotices l c w).poller = s.poller
    ∧ (s.clearNotices l c w).air = s.air ∧ (s.clearNotices l c w).table = s.table
    ∧ (s.clearNotices l c w).calls = s.calls ∧ (s.clearNotices l c w).seg = s.seg
    ∧ (s.clearNotices l c w).evac = s.evac ∧ (s.clearNotices l c w).supply = s.supply
    ∧ (s.clearNotices l c w).integ = s.integ ∧ (s.clearNotices l c w).mgmt = s.mgmt
    ∧ ∀ pt, ((s.clearNotices l c w).net.port pt).up = (s.net.port pt).up := by
  unfold State.clearNotices
  repeat' split
  all_goals simp

@[simp] theorem State.pairNotices_frame (s : State) (l p : Leg) (c : ClearCause) (w : ClearFrom) :
    (s.pairNotices l p c w).pending = s.pending ∧ (s.pairNotices l p c w).now = s.now
    ∧ (s.pairNotices l p c w).samples = s.samples ∧ (s.pairNotices l p c w).scratch = s.scratch
    ∧ (s.pairNotices l p c w).net.straps = s.net.straps ∧ (s.pairNotices l p c w).net.banks = s.net.banks
    ∧ (s.pairNotices l p c w).net.relayTick = s.net.relayTick ∧ (s.pairNotices l p c w).poller = s.poller
    ∧ (s.pairNotices l p c w).air = s.air ∧ (s.pairNotices l p c w).table = s.table
    ∧ (s.pairNotices l p c w).calls = s.calls ∧ (s.pairNotices l p c w).seg = s.seg
    ∧ (s.pairNotices l p c w).evac = s.evac ∧ (s.pairNotices l p c w).supply = s.supply
    ∧ (s.pairNotices l p c w).integ = s.integ ∧ (s.pairNotices l p c w).mgmt = s.mgmt
    ∧ ∀ pt, ((s.pairNotices l p c w).net.port pt).up = (s.net.port pt).up := by
  unfold State.pairNotices
  repeat' split
  all_goals simp

@[simp] theorem State.clearLeg_frame (s : State) (i : Fin 8) (c : ClearCause) (w : ClearFrom) :
    (s.clearLeg i c w).pending = s.pending ∧ (s.clearLeg i c w).now = s.now
    ∧ (s.clearLeg i c w).samples = s.samples ∧ (s.clearLeg i c w).scratch = s.scratch
    ∧ (s.clearLeg i c w).net.straps = s.net.straps ∧ (s.clearLeg i c w).net.banks = s.net.banks
    ∧ (s.clearLeg i c w).net.relayTick = s.net.relayTick ∧ (s.clearLeg i c w).poller = s.poller
    ∧ (s.clearLeg i c w).air = s.air ∧ (s.clearLeg i c w).table = s.table
    ∧ (s.clearLeg i c w).calls.permits = s.calls.permits
    ∧ (s.clearLeg i c w).calls.counters = s.calls.counters ∧ (s.clearLeg i c w).seg = s.seg
    ∧ (s.clearLeg i c w).evac = s.evac ∧ (s.clearLeg i c w).supply = s.supply
    ∧ (s.clearLeg i c w).integ = s.integ ∧ (s.clearLeg i c w).mgmt = s.mgmt
    ∧ ∀ pt, ((s.clearLeg i c w).net.port pt).up = (s.net.port pt).up := by
  unfold State.clearLeg
  repeat' split
  all_goals simp

@[simp] theorem State.clearForLimit_frame (s : State) (c : ClearCause) (i : Fin 8) :
    (s.clearForLimit c i).pending = s.pending ∧ (s.clearForLimit c i).now = s.now
    ∧ (s.clearForLimit c i).samples = s.samples ∧ (s.clearForLimit c i).scratch = s.scratch
    ∧ (s.clearForLimit c i).net.straps = s.net.straps ∧ (s.clearForLimit c i).net.banks = s.net.banks
    ∧ (s.clearForLimit c i).net.relayTick = s.net.relayTick ∧ (s.clearForLimit c i).poller = s.poller
    ∧ (s.clearForLimit c i).air = s.air ∧ (s.clearForLimit c i).table = s.table
    ∧ (s.clearForLimit c i).calls.permits = s.calls.permits ∧ (s.clearForLimit c i).seg = s.seg
    ∧ (s.clearForLimit c i).evac = s.evac ∧ (s.clearForLimit c i).supply = s.supply
    ∧ (s.clearForLimit c i).integ = s.integ ∧ (s.clearForLimit c i).mgmt = s.mgmt
    ∧ ∀ pt, ((s.clearForLimit c i).net.port pt).up = (s.net.port pt).up := by
  unfold State.clearForLimit
  simp

@[simp] theorem State.enforceLimits_frame (c : ClearCause) (n : Nat) (s : State) :
    (State.enforceLimits c n s).pending = s.pending ∧ (State.enforceLimits c n s).now = s.now
    ∧ (State.enforceLimits c n s).samples = s.samples ∧ (State.enforceLimits c n s).scratch = s.scratch
    ∧ (State.enforceLimits c n s).net.straps = s.net.straps
    ∧ (State.enforceLimits c n s).net.banks = s.net.banks
    ∧ (State.enforceLimits c n s).net.relayTick = s.net.relayTick
    ∧ (State.enforceLimits c n s).poller = s.poller ∧ (State.enforceLimits c n s).air = s.air
    ∧ (State.enforceLimits c n s).table = s.table
    ∧ (State.enforceLimits c n s).calls.permits = s.calls.permits ∧ (State.enforceLimits c n s).seg = s.seg
    ∧ (State.enforceLimits c n s).evac = s.evac ∧ (State.enforceLimits c n s).supply = s.supply
    ∧ (State.enforceLimits c n s).integ = s.integ ∧ (State.enforceLimits c n s).mgmt = s.mgmt
    ∧ ∀ pt, ((State.enforceLimits c n s).net.port pt).up = (s.net.port pt).up := by
  induction n generalizing s with
  | zero => simp [State.enforceLimits]
  | succ n ih =>
    simp only [State.enforceLimits]
    split <;> simp [ih]

@[simp] theorem State.limitsChanged_frame (s : State) (ceiling : Nat) (minimum : Priority) (c : ClearCause) :
    (s.limitsChanged ceiling minimum c).pending = s.pending
    ∧ (s.limitsChanged ceiling minimum c).now = s.now
    ∧ (s.limitsChanged ceiling minimum c).samples = s.samples
    ∧ (s.limitsChanged ceiling minimum c).scratch = s.scratch
    ∧ (s.limitsChanged ceiling minimum c).net.straps = s.net.straps
    ∧ (s.limitsChanged ceiling minimum c).net.banks = s.net.banks
    ∧ (s.limitsChanged ceiling minimum c).net.relayTick = s.net.relayTick
    ∧ (s.limitsChanged ceiling minimum c).poller = s.poller
    ∧ (s.limitsChanged ceiling minimum c).air = s.air ∧ (s.limitsChanged ceiling minimum c).table = s.table
    ∧ (s.limitsChanged ceiling minimum c).calls.permits = s.calls.permits
    ∧ (s.limitsChanged ceiling minimum c).seg = s.seg ∧ (s.limitsChanged ceiling minimum c).evac = s.evac
    ∧ (s.limitsChanged ceiling minimum c).supply = s.supply
    ∧ (s.limitsChanged ceiling minimum c).integ = s.integ
    ∧ (s.limitsChanged ceiling minimum c).mgmt.parameters = s.mgmt.parameters
    ∧ (s.limitsChanged ceiling minimum c).mgmt.statusTimer = s.mgmt.statusTimer
    ∧ (s.limitsChanged ceiling minimum c).mgmt.isolated = s.mgmt.isolated
    ∧ (s.limitsChanged ceiling minimum c).mgmt.isolationTimer = s.mgmt.isolationTimer
    ∧ (s.limitsChanged ceiling minimum c).mgmt.restartPending = s.mgmt.restartPending
    ∧ (s.limitsChanged ceiling minimum c).mgmt.counters = s.mgmt.counters
    ∧ ∀ pt, ((s.limitsChanged ceiling minimum c).net.port pt).up = (s.net.port pt).up := by
  unfold State.limitsChanged
  repeat' split
  all_goals simp

@[simp] theorem State.allocate_frame (s : State) (p : Priority) :
    (s.allocate p).1.pending = s.pending ∧ (s.allocate p).1.now = s.now
    ∧ (s.allocate p).1.samples = s.samples ∧ (s.allocate p).1.scratch = s.scratch
    ∧ (s.allocate p).1.net.straps = s.net.straps ∧ (s.allocate p).1.net.banks = s.net.banks
    ∧ (s.allocate p).1.net.relayTick = s.net.relayTick ∧ (s.allocate p).1.poller = s.poller
    ∧ (s.allocate p).1.air = s.air ∧ (s.allocate p).1.table = s.table
    ∧ (s.allocate p).1.calls.permits = s.calls.permits ∧ (s.allocate p).1.seg = s.seg
    ∧ (s.allocate p).1.evac = s.evac ∧ (s.allocate p).1.supply = s.supply ∧ (s.allocate p).1.integ = s.integ
    ∧ (s.allocate p).1.mgmt.parameters = s.mgmt.parameters
    ∧ (s.allocate p).1.mgmt.statusTimer = s.mgmt.statusTimer
    ∧ (s.allocate p).1.mgmt.isolated = s.mgmt.isolated
    ∧ (s.allocate p).1.mgmt.isolationTimer = s.mgmt.isolationTimer
    ∧ (s.allocate p).1.mgmt.restartPending = s.mgmt.restartPending
    ∧ (s.allocate p).1.mgmt.counters = s.mgmt.counters
    ∧ ∀ pt, ((s.allocate p).1.net.port pt).up = (s.net.port pt).up := by
  unfold State.allocate
  repeat' split
  all_goals simp

@[simp] theorem State.takeLeg_frame (s : State) (i : Fin 8) (x : LegState) (d : LegDirection) (c : Setup) :
    (s.takeLeg i x d c).pending = s.pending ∧ (s.takeLeg i x d c).now = s.now
    ∧ (s.takeLeg i x d c).samples = s.samples ∧ (s.takeLeg i x d c).scratch = s.scratch
    ∧ (s.takeLeg i x d c).net = s.net ∧ (s.takeLeg i x d c).poller = s.poller
    ∧ (s.takeLeg i x d c).air = s.air ∧ (s.takeLeg i x d c).table = s.table
    ∧ (s.takeLeg i x d c).calls.permits = s.calls.permits ∧ (s.takeLeg i x d c).seg = s.seg
    ∧ (s.takeLeg i x d c).evac = s.evac ∧ (s.takeLeg i x d c).supply = s.supply
    ∧ (s.takeLeg i x d c).integ = s.integ ∧ (s.takeLeg i x d c).mgmt = s.mgmt := by
  unfold State.takeLeg
  simp

@[simp] theorem State.pairLegs_frame (s : State) (i j : Fin 8) :
    (s.pairLegs i j).pending = s.pending ∧ (s.pairLegs i j).now = s.now
    ∧ (s.pairLegs i j).samples = s.samples ∧ (s.pairLegs i j).scratch = s.scratch
    ∧ (s.pairLegs i j).net = s.net ∧ (s.pairLegs i j).poller = s.poller ∧ (s.pairLegs i j).air = s.air
    ∧ (s.pairLegs i j).table = s.table ∧ (s.pairLegs i j).calls.startList = s.calls.startList
    ∧ (s.pairLegs i j).calls.permits = s.calls.permits ∧ (s.pairLegs i j).calls.counters = s.calls.counters
    ∧ (s.pairLegs i j).seg = s.seg ∧ (s.pairLegs i j).evac = s.evac ∧ (s.pairLegs i j).supply = s.supply
    ∧ (s.pairLegs i j).integ = s.integ ∧ (s.pairLegs i j).mgmt = s.mgmt := by
  unfold State.pairLegs
  simp

@[simp] theorem State.refuseSetup_frame (s : State) (c : Setup) (cause : ClearCause) :
    (s.refuseSetup c cause).pending = s.pending ∧ (s.refuseSetup c cause).now = s.now
    ∧ (s.refuseSetup c cause).samples = s.samples ∧ (s.refuseSetup c cause).scratch = s.scratch
    ∧ (s.refuseSetup c cause).net.straps = s.net.straps ∧ (s.refuseSetup c cause).net.banks = s.net.banks
    ∧ (s.refuseSetup c cause).net.relayTick = s.net.relayTick ∧ (s.refuseSetup c cause).poller = s.poller
    ∧ (s.refuseSetup c cause).air = s.air ∧ (s.refuseSetup c cause).table = s.table
    ∧ (s.refuseSetup c cause).calls.legs = s.calls.legs
    ∧ (s.refuseSetup c cause).calls.startList = s.calls.startList
    ∧ (s.refuseSetup c cause).calls.permits = s.calls.permits ∧ (s.refuseSetup c cause).seg = s.seg
    ∧ (s.refuseSetup c cause).evac = s.evac ∧ (s.refuseSetup c cause).supply = s.supply
    ∧ (s.refuseSetup c cause).integ = s.integ ∧ (s.refuseSetup c cause).mgmt.parameters = s.mgmt.parameters
    ∧ (s.refuseSetup c cause).mgmt.statusTimer = s.mgmt.statusTimer
    ∧ (s.refuseSetup c cause).mgmt.isolated = s.mgmt.isolated
    ∧ (s.refuseSetup c cause).mgmt.isolationTimer = s.mgmt.isolationTimer
    ∧ (s.refuseSetup c cause).mgmt.restartPending = s.mgmt.restartPending
    ∧ (s.refuseSetup c cause).mgmt.counters = s.mgmt.counters
    ∧ ∀ pt, ((s.refuseSetup c cause).net.port pt).up = (s.net.port pt).up := by
  unfold State.refuseSetup
  simp

@[simp] theorem State.findRoom_frame (s : State) (p : Priority) :
    (s.findRoom p).1.pending = s.pending ∧ (s.findRoom p).1.now = s.now ∧ (s.findRoom p).1.samples = s.samples
    ∧ (s.findRoom p).1.scratch = s.scratch ∧ (s.findRoom p).1.net.straps = s.net.straps
    ∧ (s.findRoom p).1.net.banks = s.net.banks ∧ (s.findRoom p).1.net.relayTick = s.net.relayTick
    ∧ (s.findRoom p).1.poller = s.poller ∧ (s.findRoom p).1.air = s.air ∧ (s.findRoom p).1.table = s.table
    ∧ (s.findRoom p).1.calls.permits = s.calls.permits ∧ (s.findRoom p).1.seg = s.seg
    ∧ (s.findRoom p).1.evac = s.evac ∧ (s.findRoom p).1.supply = s.supply ∧ (s.findRoom p).1.integ = s.integ
    ∧ (s.findRoom p).1.mgmt.parameters = s.mgmt.parameters
    ∧ (s.findRoom p).1.mgmt.statusTimer = s.mgmt.statusTimer ∧ (s.findRoom p).1.mgmt.isolated = s.mgmt.isolated
    ∧ (s.findRoom p).1.mgmt.isolationTimer = s.mgmt.isolationTimer
    ∧ (s.findRoom p).1.mgmt.restartPending = s.mgmt.restartPending
    ∧ (s.findRoom p).1.mgmt.counters = s.mgmt.counters
    ∧ ∀ pt, ((s.findRoom p).1.net.port pt).up = (s.net.port pt).up := by
  unfold State.findRoom
  have k := State.allocate_frame s p
  generalize s.allocate p = x at k ⊢
  obtain ⟨t, _ | i⟩ := x <;> (dsimp only at k ⊢; (repeat' split) <;> simp [k])

@[simp] theorem State.acceptOriginating_frame (s : State) (i : Fin 8) (c : Setup) (won : Bool) :
    (s.acceptOriginating i c won).pending = s.pending ∧ (s.acceptOriginating i c won).now = s.now
    ∧ (s.acceptOriginating i c won).samples = s.samples ∧ (s.acceptOriginating i c won).scratch = s.scratch
    ∧ (s.acceptOriginating i c won).net.straps = s.net.straps
    ∧ (s.acceptOriginating i c won).net.banks = s.net.banks
    ∧ (s.acceptOriginating i c won).net.relayTick = s.net.relayTick
    ∧ (s.acceptOriginating i c won).poller = s.poller ∧ (s.acceptOriginating i c won).air = s.air
    ∧ (s.acceptOriginating i c won).table = s.table
    ∧ (s.acceptOriginating i c won).calls.permits = s.calls.permits
    ∧ (s.acceptOriginating i c won).seg = s.seg ∧ (s.acceptOriginating i c won).evac = s.evac
    ∧ (s.acceptOriginating i c won).supply = s.supply ∧ (s.acceptOriginating i c won).integ = s.integ
    ∧ (s.acceptOriginating i c won).mgmt.parameters = s.mgmt.parameters
    ∧ (s.acceptOriginating i c won).mgmt.statusTimer = s.mgmt.statusTimer
    ∧ (s.acceptOriginating i c won).mgmt.isolated = s.mgmt.isolated
    ∧ (s.acceptOriginating i c won).mgmt.isolationTimer = s.mgmt.isolationTimer
    ∧ (s.acceptOriginating i c won).mgmt.restartPending = s.mgmt.restartPending
    ∧ (s.acceptOriginating i c won).mgmt.counters = s.mgmt.counters
    ∧ ∀ pt, ((s.acceptOriginating i c won).net.port pt).up = (s.net.port pt).up := by
  unfold State.acceptOriginating
  dsimp only
  have k := State.findRoom_frame (s.takeLeg i .originating .orig c) c.priority
  generalize (s.takeLeg i .originating .orig c).findRoom c.priority = x at k ⊢
  obtain ⟨t, j | j⟩ := x <;> (dsimp only at k ⊢; (repeat' split) <;> simp [k])

@[simp] theorem State.originating_frame (s : State) (asked : Setup) (won : Bool) :
    (s.originating asked won).pending = s.pending ∧ (s.originating asked won).now = s.now
    ∧ (s.originating asked won).samples = s.samples ∧ (s.originating asked won).scratch = s.scratch
    ∧ (s.originating asked won).net.straps = s.net.straps
    ∧ (s.originating asked won).net.banks = s.net.banks
    ∧ (s.originating asked won).net.relayTick = s.net.relayTick
    ∧ (s.originating asked won).poller = s.poller ∧ (s.originating asked won).air = s.air
    ∧ (s.originating asked won).table = s.table ∧ (s.originating asked won).calls.permits = s.calls.permits
    ∧ (s.originating asked won).seg = s.seg ∧ (s.originating asked won).evac = s.evac
    ∧ (s.originating asked won).supply = s.supply ∧ (s.originating asked won).integ = s.integ
    ∧ (s.originating asked won).mgmt.parameters = s.mgmt.parameters
    ∧ (s.originating asked won).mgmt.statusTimer = s.mgmt.statusTimer
    ∧ (s.originating asked won).mgmt.isolated = s.mgmt.isolated
    ∧ (s.originating asked won).mgmt.isolationTimer = s.mgmt.isolationTimer
    ∧ (s.originating asked won).mgmt.restartPending = s.mgmt.restartPending
    ∧ (s.originating asked won).mgmt.counters = s.mgmt.counters
    ∧ ∀ pt, ((s.originating asked won).net.port pt).up = (s.net.port pt).up := by
  unfold State.originating
  dsimp only
  have k := State.findRoom_frame s asked.clamped.priority
  generalize s.findRoom asked.clamped.priority = x at k ⊢
  obtain ⟨t, j | j⟩ := x <;> (dsimp only at k ⊢; (repeat' split) <;> simp [k])

@[simp] theorem State.answerBoth_frame (s : State) (a b : Addr) (c : CallId) :
    (s.answerBoth a b c).pending = s.pending ∧ (s.answerBoth a b c).now = s.now
    ∧ (s.answerBoth a b c).samples = s.samples ∧ (s.answerBoth a b c).scratch = s.scratch
    ∧ (s.answerBoth a b c).net.straps = s.net.straps ∧ (s.answerBoth a b c).net.banks = s.net.banks
    ∧ (s.answerBoth a b c).net.relayTick = s.net.relayTick ∧ (s.answerBoth a b c).poller = s.poller
    ∧ (s.answerBoth a b c).air = s.air ∧ (s.answerBoth a b c).table = s.table
    ∧ (s.answerBoth a b c).calls = s.calls ∧ (s.answerBoth a b c).seg = s.seg
    ∧ (s.answerBoth a b c).evac = s.evac ∧ (s.answerBoth a b c).supply = s.supply
    ∧ (s.answerBoth a b c).integ = s.integ ∧ (s.answerBoth a b c).mgmt = s.mgmt
    ∧ ∀ pt, ((s.answerBoth a b c).net.port pt).up = (s.net.port pt).up := by
  unfold State.answerBoth
  simp

@[simp] theorem State.glareOriginating_frame (s : State) (i : Fin 8) (c : Setup) :
    (s.glareOriginating i c).pending = s.pending ∧ (s.glareOriginating i c).now = s.now
    ∧ (s.glareOriginating i c).samples = s.samples ∧ (s.glareOriginating i c).scratch = s.scratch
    ∧ (s.glareOriginating i c).net.straps = s.net.straps ∧ (s.glareOriginating i c).net.banks = s.net.banks
    ∧ (s.glareOriginating i c).net.relayTick = s.net.relayTick ∧ (s.glareOriginating i c).poller = s.poller
    ∧ (s.glareOriginating i c).air = s.air ∧ (s.glareOriginating i c).table = s.table
    ∧ (s.glareOriginating i c).calls.permits = s.calls.permits ∧ (s.glareOriginating i c).seg = s.seg
    ∧ (s.glareOriginating i c).evac = s.evac ∧ (s.glareOriginating i c).supply = s.supply
    ∧ (s.glareOriginating i c).integ = s.integ
    ∧ (s.glareOriginating i c).mgmt.parameters = s.mgmt.parameters
    ∧ (s.glareOriginating i c).mgmt.statusTimer = s.mgmt.statusTimer
    ∧ (s.glareOriginating i c).mgmt.isolated = s.mgmt.isolated
    ∧ (s.glareOriginating i c).mgmt.isolationTimer = s.mgmt.isolationTimer
    ∧ (s.glareOriginating i c).mgmt.restartPending = s.mgmt.restartPending
    ∧ (s.glareOriginating i c).mgmt.counters = s.mgmt.counters
    ∧ ∀ pt, ((s.glareOriginating i c).net.port pt).up = (s.net.port pt).up := by
  unfold State.glareOriginating
  simp only
  repeat' split
  all_goals simp

@[simp] theorem State.setupFromRadio_frame (s : State) (f : Frame) (c : Setup) :
    (s.setupFromRadio f c).pending = s.pending ∧ (s.setupFromRadio f c).now = s.now
    ∧ (s.setupFromRadio f c).samples = s.samples ∧ (s.setupFromRadio f c).scratch = s.scratch
    ∧ (s.setupFromRadio f c).net.straps = s.net.straps ∧ (s.setupFromRadio f c).net.banks = s.net.banks
    ∧ (s.setupFromRadio f c).net.relayTick = s.net.relayTick ∧ (s.setupFromRadio f c).poller = s.poller
    ∧ (s.setupFromRadio f c).air = s.air ∧ (s.setupFromRadio f c).table = s.table
    ∧ (s.setupFromRadio f c).calls.permits = s.calls.permits ∧ (s.setupFromRadio f c).seg = s.seg
    ∧ (s.setupFromRadio f c).evac = s.evac ∧ (s.setupFromRadio f c).supply = s.supply
    ∧ (s.setupFromRadio f c).integ = s.integ ∧ (s.setupFromRadio f c).mgmt.parameters = s.mgmt.parameters
    ∧ (s.setupFromRadio f c).mgmt.statusTimer = s.mgmt.statusTimer
    ∧ (s.setupFromRadio f c).mgmt.isolated = s.mgmt.isolated
    ∧ (s.setupFromRadio f c).mgmt.isolationTimer = s.mgmt.isolationTimer
    ∧ (s.setupFromRadio f c).mgmt.restartPending = s.mgmt.restartPending
    ∧ (s.setupFromRadio f c).mgmt.counters = s.mgmt.counters
    ∧ ∀ pt, ((s.setupFromRadio f c).net.port pt).up = (s.net.port pt).up := by
  unfold State.setupFromRadio
  repeat' split
  all_goals simp

@[simp] theorem State.terminating_frame (s : State) (c : Setup) (active : Bool) :
    (s.terminating c active).1.pending = s.pending ∧ (s.terminating c active).1.now = s.now
    ∧ (s.terminating c active).1.samples = s.samples ∧ (s.terminating c active).1.scratch = s.scratch
    ∧ (s.terminating c active).1.net.straps = s.net.straps
    ∧ (s.terminating c active).1.net.banks = s.net.banks
    ∧ (s.terminating c active).1.net.relayTick = s.net.relayTick
    ∧ (s.terminating c active).1.poller = s.poller ∧ (s.terminating c active).1.air = s.air
    ∧ (s.terminating c active).1.table = s.table
    ∧ (s.terminating c active).1.calls.permits = s.calls.permits ∧ (s.terminating c active).1.seg = s.seg
    ∧ (s.terminating c active).1.evac = s.evac ∧ (s.terminating c active).1.supply = s.supply
    ∧ (s.terminating c active).1.integ = s.integ
    ∧ (s.terminating c active).1.mgmt.parameters = s.mgmt.parameters
    ∧ (s.terminating c active).1.mgmt.statusTimer = s.mgmt.statusTimer
    ∧ (s.terminating c active).1.mgmt.isolated = s.mgmt.isolated
    ∧ (s.terminating c active).1.mgmt.isolationTimer = s.mgmt.isolationTimer
    ∧ (s.terminating c active).1.mgmt.restartPending = s.mgmt.restartPending
    ∧ (s.terminating c active).1.mgmt.counters = s.mgmt.counters
    ∧ ∀ pt, ((s.terminating c active).1.net.port pt).up = (s.net.port pt).up := by
  unfold State.terminating
  have k := State.findRoom_frame s c.priority
  generalize s.findRoom c.priority = x at k ⊢
  obtain ⟨t, j | j⟩ := x <;> (dsimp only at k ⊢; (repeat' split) <;> simp [k])

@[simp] theorem State.glareTerminating_frame (s : State) (i : Fin 8) (c : Setup) :
    (s.glareTerminating i c).1.pending = s.pending ∧ (s.glareTerminating i c).1.now = s.now
    ∧ (s.glareTerminating i c).1.samples = s.samples ∧ (s.glareTerminating i c).1.scratch = s.scratch
    ∧ (s.glareTerminating i c).1.net.straps = s.net.straps
    ∧ (s.glareTerminating i c).1.net.banks = s.net.banks
    ∧ (s.glareTerminating i c).1.net.relayTick = s.net.relayTick
    ∧ (s.glareTerminating i c).1.poller = s.poller ∧ (s.glareTerminating i c).1.air = s.air
    ∧ (s.glareTerminating i c).1.table = s.table
    ∧ (s.glareTerminating i c).1.calls.permits = s.calls.permits ∧ (s.glareTerminating i c).1.seg = s.seg
    ∧ (s.glareTerminating i c).1.evac = s.evac ∧ (s.glareTerminating i c).1.supply = s.supply
    ∧ (s.glareTerminating i c).1.integ = s.integ
    ∧ (s.glareTerminating i c).1.mgmt.parameters = s.mgmt.parameters
    ∧ (s.glareTerminating i c).1.mgmt.statusTimer = s.mgmt.statusTimer
    ∧ (s.glareTerminating i c).1.mgmt.isolated = s.mgmt.isolated
    ∧ (s.glareTerminating i c).1.mgmt.isolationTimer = s.mgmt.isolationTimer
    ∧ (s.glareTerminating i c).1.mgmt.restartPending = s.mgmt.restartPending
    ∧ (s.glareTerminating i c).1.mgmt.counters = s.mgmt.counters
    ∧ ∀ pt, ((s.glareTerminating i c).1.net.port pt).up = (s.net.port pt).up := by
  unfold State.glareTerminating
  repeat' split
  all_goals simp

@[simp] theorem State.setupFromBackbone_frame (s : State) (f : Frame) (c : Setup) :
    (s.setupFromBackbone f c).1.pending = s.pending ∧ (s.setupFromBackbone f c).1.now = s.now
    ∧ (s.setupFromBackbone f c).1.samples = s.samples ∧ (s.setupFromBackbone f c).1.scratch = s.scratch
    ∧ (s.setupFromBackbone f c).1.net.straps = s.net.straps
    ∧ (s.setupFromBackbone f c).1.net.banks = s.net.banks
    ∧ (s.setupFromBackbone f c).1.net.relayTick = s.net.relayTick
    ∧ (s.setupFromBackbone f c).1.poller = s.poller ∧ (s.setupFromBackbone f c).1.air = s.air
    ∧ (s.setupFromBackbone f c).1.table = s.table
    ∧ (s.setupFromBackbone f c).1.calls.permits = s.calls.permits ∧ (s.setupFromBackbone f c).1.seg = s.seg
    ∧ (s.setupFromBackbone f c).1.evac = s.evac ∧ (s.setupFromBackbone f c).1.supply = s.supply
    ∧ (s.setupFromBackbone f c).1.integ = s.integ
    ∧ (s.setupFromBackbone f c).1.mgmt.parameters = s.mgmt.parameters
    ∧ (s.setupFromBackbone f c).1.mgmt.statusTimer = s.mgmt.statusTimer
    ∧ (s.setupFromBackbone f c).1.mgmt.isolated = s.mgmt.isolated
    ∧ (s.setupFromBackbone f c).1.mgmt.isolationTimer = s.mgmt.isolationTimer
    ∧ (s.setupFromBackbone f c).1.mgmt.restartPending = s.mgmt.restartPending
    ∧ (s.setupFromBackbone f c).1.mgmt.counters = s.mgmt.counters
    ∧ ∀ pt, ((s.setupFromBackbone f c).1.net.port pt).up = (s.net.port pt).up := by
  unfold State.setupFromBackbone
  repeat' split
  all_goals simp

@[simp] theorem State.alertingOnLeg_frame (s : State) (p : Port) (f : Frame) (i : Fin 8) :
    (s.alertingOnLeg p f i).1.pending = s.pending ∧ (s.alertingOnLeg p f i).1.now = s.now
    ∧ (s.alertingOnLeg p f i).1.samples = s.samples ∧ (s.alertingOnLeg p f i).1.scratch = s.scratch
    ∧ (s.alertingOnLeg p f i).1.net.straps = s.net.straps
    ∧ (s.alertingOnLeg p f i).1.net.banks = s.net.banks
    ∧ (s.alertingOnLeg p f i).1.net.relayTick = s.net.relayTick
    ∧ (s.alertingOnLeg p f i).1.poller = s.poller ∧ (s.alertingOnLeg p f i).1.air = s.air
    ∧ (s.alertingOnLeg p f i).1.table = s.table ∧ (s.alertingOnLeg p f i).1.calls.permits = s.calls.permits
    ∧ (s.alertingOnLeg p f i).1.seg = s.seg ∧ (s.alertingOnLeg p f i).1.evac = s.evac
    ∧ (s.alertingOnLeg p f i).1.supply = s.supply ∧ (s.alertingOnLeg p f i).1.integ = s.integ
    ∧ (s.alertingOnLeg p f i).1.mgmt.parameters = s.mgmt.parameters
    ∧ (s.alertingOnLeg p f i).1.mgmt.statusTimer = s.mgmt.statusTimer
    ∧ (s.alertingOnLeg p f i).1.mgmt.isolated = s.mgmt.isolated
    ∧ (s.alertingOnLeg p f i).1.mgmt.isolationTimer = s.mgmt.isolationTimer
    ∧ (s.alertingOnLeg p f i).1.mgmt.restartPending = s.mgmt.restartPending
    ∧ (s.alertingOnLeg p f i).1.mgmt.counters = s.mgmt.counters
    ∧ ∀ pt, ((s.alertingOnLeg p f i).1.net.port pt).up = (s.net.port pt).up := by
  unfold State.alertingOnLeg
  simp only
  repeat' split
  all_goals simp

@[simp] theorem State.answerOnLeg_frame (s : State) (p : Port) (f : Frame) (i : Fin 8) :
    (s.answerOnLeg p f i).1.pending = s.pending ∧ (s.answerOnLeg p f i).1.now = s.now
    ∧ (s.answerOnLeg p f i).1.samples = s.samples ∧ (s.answerOnLeg p f i).1.scratch = s.scratch
    ∧ (s.answerOnLeg p f i).1.net.straps = s.net.straps ∧ (s.answerOnLeg p f i).1.net.banks = s.net.banks
    ∧ (s.answerOnLeg p f i).1.net.relayTick = s.net.relayTick ∧ (s.answerOnLeg p f i).1.poller = s.poller
    ∧ (s.answerOnLeg p f i).1.air = s.air ∧ (s.answerOnLeg p f i).1.table = s.table
    ∧ (s.answerOnLeg p f i).1.calls.permits = s.calls.permits ∧ (s.answerOnLeg p f i).1.seg = s.seg
    ∧ (s.answerOnLeg p f i).1.evac = s.evac ∧ (s.answerOnLeg p f i).1.supply = s.supply
    ∧ (s.answerOnLeg p f i).1.integ = s.integ ∧ (s.answerOnLeg p f i).1.mgmt.parameters = s.mgmt.parameters
    ∧ (s.answerOnLeg p f i).1.mgmt.statusTimer = s.mgmt.statusTimer
    ∧ (s.answerOnLeg p f i).1.mgmt.isolated = s.mgmt.isolated
    ∧ (s.answerOnLeg p f i).1.mgmt.isolationTimer = s.mgmt.isolationTimer
    ∧ (s.answerOnLeg p f i).1.mgmt.restartPending = s.mgmt.restartPending
    ∧ (s.answerOnLeg p f i).1.mgmt.counters = s.mgmt.counters
    ∧ ∀ pt, ((s.answerOnLeg p f i).1.net.port pt).up = (s.net.port pt).up := by
  unfold State.answerOnLeg
  simp only
  repeat' split
  all_goals simp

@[simp] theorem State.clearOnLeg_frame (s : State) (p : Port) (f : Frame) (cause : ClearCause) (i : Fin 8) :
    (s.clearOnLeg p f cause i).1.pending = s.pending ∧ (s.clearOnLeg p f cause i).1.now = s.now
    ∧ (s.clearOnLeg p f cause i).1.samples = s.samples ∧ (s.clearOnLeg p f cause i).1.scratch = s.scratch
    ∧ (s.clearOnLeg p f cause i).1.net.straps = s.net.straps
    ∧ (s.clearOnLeg p f cause i).1.net.banks = s.net.banks
    ∧ (s.clearOnLeg p f cause i).1.net.relayTick = s.net.relayTick
    ∧ (s.clearOnLeg p f cause i).1.poller = s.poller ∧ (s.clearOnLeg p f cause i).1.air = s.air
    ∧ (s.clearOnLeg p f cause i).1.table = s.table
    ∧ (s.clearOnLeg p f cause i).1.calls.permits = s.calls.permits
    ∧ (s.clearOnLeg p f cause i).1.calls.counters = s.calls.counters
    ∧ (s.clearOnLeg p f cause i).1.seg = s.seg ∧ (s.clearOnLeg p f cause i).1.evac = s.evac
    ∧ (s.clearOnLeg p f cause i).1.supply = s.supply ∧ (s.clearOnLeg p f cause i).1.integ = s.integ
    ∧ (s.clearOnLeg p f cause i).1.mgmt = s.mgmt
    ∧ ∀ pt, ((s.clearOnLeg p f cause i).1.net.port pt).up = (s.net.port pt).up := by
  unfold State.clearOnLeg
  simp

@[simp] theorem State.voiceOnLeg_frame (s : State) (p : Port) (f : Frame) (x : Byte) (i : Fin 8) :
    (s.voiceOnLeg p f x i).1.pending = s.pending ∧ (s.voiceOnLeg p f x i).1.now = s.now
    ∧ (s.voiceOnLeg p f x i).1.samples = s.samples ∧ (s.voiceOnLeg p f x i).1.scratch = s.scratch
    ∧ (s.voiceOnLeg p f x i).1.net = s.net ∧ (s.voiceOnLeg p f x i).1.poller = s.poller
    ∧ (s.voiceOnLeg p f x i).1.air = s.air ∧ (s.voiceOnLeg p f x i).1.table = s.table
    ∧ (s.voiceOnLeg p f x i).1.calls.startList = s.calls.startList
    ∧ (s.voiceOnLeg p f x i).1.calls.permits = s.calls.permits
    ∧ (s.voiceOnLeg p f x i).1.calls.counters = s.calls.counters ∧ (s.voiceOnLeg p f x i).1.seg = s.seg
    ∧ (s.voiceOnLeg p f x i).1.evac = s.evac ∧ (s.voiceOnLeg p f x i).1.supply = s.supply
    ∧ (s.voiceOnLeg p f x i).1.integ = s.integ ∧ (s.voiceOnLeg p f x i).1.mgmt = s.mgmt := by
  unfold State.voiceOnLeg
  simp only
  repeat' split
  all_goals simp

/-- A frame's handling on several legs keeps what its handling on one leg keeps. -/
theorem State.onLegs_keeps {α : Type} (π : State → α) (h : State → Fin 8 → State × Bool)
    (k : ∀ s i, π (h s i).1 = π s) (l : List (Fin 8)) (s : State) : π (State.onLegs h s l).1 = π s := by
  induction l generalizing s with
  | nil => rfl
  | cons i rest ih =>
    simp only [State.onLegs]
    split
    · exact ih s
    · exact (ih _).trans (k s i)

/-- The handling of a call frame keeps what its handling on a leg and its count as a stray keep. -/
theorem State.callFrame_keeps {α : Type} (π : State → α) (s : State) (p : Port) (f : Frame) (c : CallId)
    (h : State → Fin 8 → State × Bool) (stray : Option (State → State))
    (k : ∀ s i, π (h s i).1 = π s) (k' : ∀ g ∈ stray, ∀ s, π (g s) = π s) :
    π (s.callFrame p f c h stray).1 = π s := by
  simp only [State.callFrame]
  split
  · split
    · split
      · exact k' _ rfl s
      · rfl
    · rfl
  · exact State.onLegs_keeps π h k _ s

/-- The leg table inspection keeps what no handling of a call frame changes. -/
theorem State.inspect_keeps {α : Type} (π : State → α)
    (setupRadio : ∀ (s : State) f c, π (s.setupFromRadio f c) = π s)
    (setupBackbone : ∀ (s : State) f c, π (s.setupFromBackbone f c).1 = π s)
    (setLeg : ∀ (s : State) i l, π (s.setLeg i l) = π s)
    (clearLeg : ∀ (s : State) i c w, π (s.clearLeg i c w) = π s)
    (count : ∀ (s : State) g, π (s.countCalls g) = π s) (s : State) (p : Port) (f : Frame) :
    π (s.inspect p f).1 = π s := by
  unfold State.inspect
  split
  · split
    · split
      · exact setupRadio s f _
      · exact setupBackbone s f _
    · rfl
  · refine State.callFrame_keeps π s p f _ _ _ (fun s i => ?_) (fun g hg s => ?_)
    · simp only [State.alertingOnLeg]; split
      · rfl
      · exact show π s.straySignal = π s from count s _
    · cases hg; exact count s _
  · refine State.callFrame_keeps π s p f _ _ _ (fun s i => ?_) (fun g hg s => ?_)
    · simp only [State.answerOnLeg]; split
      · exact setLeg s i _
      · exact show π s.straySignal = π s from count s _
    · cases hg; exact count s _
  · split
    · refine State.callFrame_keeps π s p f _ _ _ (fun s i => clearLeg s i _ _) (fun g hg s => ?_)
      cases hg
    · rfl
  · split
    · refine State.callFrame_keeps π s p f _ _ _ (fun s i => ?_) (fun g hg s => ?_)
      · simp only [State.voiceOnLeg]
        repeat' split
        all_goals exact setLeg s i _
      · cases hg; exact count s _
    · rfl
  · rfl

@[simp] theorem State.inspect_frame (s : State) (p : Port) (f : Frame) :
    (s.inspect p f).1.pending = s.pending ∧ (s.inspect p f).1.now = s.now
    ∧ (s.inspect p f).1.samples = s.samples ∧ (s.inspect p f).1.scratch = s.scratch
    ∧ (s.inspect p f).1.net.straps = s.net.straps ∧ (s.inspect p f).1.net.banks = s.net.banks
    ∧ (s.inspect p f).1.net.relayTick = s.net.relayTick ∧ (s.inspect p f).1.poller = s.poller
    ∧ (s.inspect p f).1.air = s.air ∧ (s.inspect p f).1.table = s.table
    ∧ (s.inspect p f).1.calls.permits = s.calls.permits ∧ (s.inspect p f).1.seg = s.seg
    ∧ (s.inspect p f).1.evac = s.evac ∧ (s.inspect p f).1.supply = s.supply
    ∧ (s.inspect p f).1.integ = s.integ ∧ (s.inspect p f).1.mgmt.parameters = s.mgmt.parameters
    ∧ (s.inspect p f).1.mgmt.statusTimer = s.mgmt.statusTimer
    ∧ (s.inspect p f).1.mgmt.isolated = s.mgmt.isolated
    ∧ (s.inspect p f).1.mgmt.isolationTimer = s.mgmt.isolationTimer
    ∧ (s.inspect p f).1.mgmt.restartPending = s.mgmt.restartPending
    ∧ (s.inspect p f).1.mgmt.counters = s.mgmt.counters
    ∧ ∀ pt, ((s.inspect p f).1.net.port pt).up = (s.net.port pt).up := by
  have h := fun {α : Type} (π : State → α) => State.inspect_keeps (α := α) π
  refine ⟨h (fun t => t.pending) (by simp) (by simp) (by simp) (by simp) (by simp) s p f, h (fun t => t.now) (by simp) (by simp) (by simp) (by simp) (by simp) s p f, h (fun t => t.samples) (by simp) (by simp) (by simp) (by simp) (by simp) s p f, h (fun t => t.scratch) (by simp) (by simp) (by simp) (by simp) (by simp) s p f, h (fun t => t.net.straps) (by simp) (by simp) (by simp) (by simp) (by simp) s p f, h (fun t => t.net.banks) (by simp) (by simp) (by simp) (by simp) (by simp) s p f, h (fun t => t.net.relayTick) (by simp) (by simp) (by simp) (by simp) (by simp) s p f, h (fun t => t.poller) (by simp) (by simp) (by simp) (by simp) (by simp) s p f, h (fun t => t.air) (by simp) (by simp) (by simp) (by simp) (by simp) s p f, h (fun t => t.table) (by simp) (by simp) (by simp) (by simp) (by simp) s p f, h (fun t => t.calls.permits) (by simp) (by simp) (by simp) (by simp) (by simp) s p f, h (fun t => t.seg) (by simp) (by simp) (by simp) (by simp) (by simp) s p f, h (fun t => t.evac) (by simp) (by simp) (by simp) (by simp) (by simp) s p f, h (fun t => t.supply) (by simp) (by simp) (by simp) (by simp) (by simp) s p f, h (fun t => t.integ) (by simp) (by simp) (by simp) (by simp) (by simp) s p f, h (fun t => t.mgmt.parameters) (by simp) (by simp) (by simp) (by simp) (by simp) s p f, h (fun t => t.mgmt.statusTimer) (by simp) (by simp) (by simp) (by simp) (by simp) s p f, h (fun t => t.mgmt.isolated) (by simp) (by simp) (by simp) (by simp) (by simp) s p f, h (fun t => t.mgmt.isolationTimer) (by simp) (by simp) (by simp) (by simp) (by simp) s p f, h (fun t => t.mgmt.restartPending) (by simp) (by simp) (by simp) (by simp) (by simp) s p f, h (fun t => t.mgmt.counters) (by simp) (by simp) (by simp) (by simp) (by simp) s p f, fun pt => h (fun t => (t.net.port pt).up) (by simp) (by simp) (by simp) (by simp) (by simp) s p f⟩

@[simp] theorem State.unitMoved_frame (s : State) (unit : Addr) :
    (s.unitMoved unit).pending = s.pending ∧ (s.unitMoved unit).now = s.now
    ∧ (s.unitMoved unit).samples = s.samples ∧ (s.unitMoved unit).scratch = s.scratch
    ∧ (s.unitMoved unit).net.straps = s.net.straps ∧ (s.unitMoved unit).net.banks = s.net.banks
    ∧ (s.unitMoved unit).net.relayTick = s.net.relayTick ∧ (s.unitMoved unit).poller = s.poller
    ∧ (s.unitMoved unit).air = s.air ∧ (s.unitMoved unit).table = s.table
    ∧ (s.unitMoved unit).calls.permits = s.calls.permits
    ∧ (s.unitMoved unit).calls.counters = s.calls.counters ∧ (s.unitMoved unit).seg = s.seg
    ∧ (s.unitMoved unit).evac = s.evac ∧ (s.unitMoved unit).supply = s.supply
    ∧ (s.unitMoved unit).integ = s.integ ∧ (s.unitMoved unit).mgmt = s.mgmt
    ∧ ∀ pt, ((s.unitMoved unit).net.port pt).up = (s.net.port pt).up := by
  unfold State.unitMoved
  exact foldl_rel (R := fun s t : State => t.pending = s.pending ∧ t.now = s.now ∧ t.samples = s.samples ∧ t.scratch = s.scratch ∧ t.net.straps = s.net.straps ∧ t.net.banks = s.net.banks ∧ t.net.relayTick = s.net.relayTick ∧ t.poller = s.poller ∧ t.air = s.air ∧ t.table = s.table ∧ t.calls.permits = s.calls.permits ∧ t.calls.counters = s.calls.counters ∧ t.seg = s.seg ∧ t.evac = s.evac ∧ t.supply = s.supply ∧ t.integ = s.integ ∧ t.mgmt = s.mgmt ∧ ∀ pt, (t.net.port pt).up = (s.net.port pt).up)
    (by simp) (by intro a b c h k; simp_all) (by intro b a; split <;> simp) _ s

@[simp] theorem State.setupExpires_frame (s : State) (i : Fin 8) :
    (s.setupExpires i).pending = s.pending ∧ (s.setupExpires i).now = s.now
    ∧ (s.setupExpires i).samples = s.samples ∧ (s.setupExpires i).scratch = s.scratch
    ∧ (s.setupExpires i).net.straps = s.net.straps ∧ (s.setupExpires i).net.banks = s.net.banks
    ∧ (s.setupExpires i).net.relayTick = s.net.relayTick ∧ (s.setupExpires i).poller = s.poller
    ∧ (s.setupExpires i).air = s.air ∧ (s.setupExpires i).table = s.table
    ∧ (s.setupExpires i).calls.permits = s.calls.permits ∧ (s.setupExpires i).seg = s.seg
    ∧ (s.setupExpires i).evac = s.evac ∧ (s.setupExpires i).supply = s.supply
    ∧ (s.setupExpires i).integ = s.integ ∧ (s.setupExpires i).mgmt = s.mgmt
    ∧ ∀ pt, ((s.setupExpires i).net.port pt).up = (s.net.port pt).up := by
  unfold State.setupExpires
  simp

@[simp] theorem State.sendEvacNotice_frame (s : State) (unit : Addr) :
    (s.sendEvacNotice unit).pending = s.pending ∧ (s.sendEvacNotice unit).now = s.now
    ∧ (s.sendEvacNotice unit).samples = s.samples ∧ (s.sendEvacNotice unit).scratch = s.scratch
    ∧ (s.sendEvacNotice unit).net.straps = s.net.straps ∧ (s.sendEvacNotice unit).net.banks = s.net.banks
    ∧ (s.sendEvacNotice unit).net.relayTick = s.net.relayTick ∧ (s.sendEvacNotice unit).poller = s.poller
    ∧ (s.sendEvacNotice unit).air = s.air ∧ (s.sendEvacNotice unit).table = s.table
    ∧ (s.sendEvacNotice unit).calls = s.calls ∧ (s.sendEvacNotice unit).seg = s.seg
    ∧ (s.sendEvacNotice unit).evac.state = s.evac.state
    ∧ (s.sendEvacNotice unit).evac.repeatTimer = s.evac.repeatTimer
    ∧ (s.sendEvacNotice unit).evac.panels = s.evac.panels ∧ (s.sendEvacNotice unit).evac.sos = s.evac.sos
    ∧ (s.sendEvacNotice unit).evac.routes = s.evac.routes
    ∧ (s.sendEvacNotice unit).evac.lines = s.evac.lines
    ∧ (s.sendEvacNotice unit).evac.doorTick = s.evac.doorTick ∧ (s.sendEvacNotice unit).supply = s.supply
    ∧ (s.sendEvacNotice unit).integ = s.integ ∧ (s.sendEvacNotice unit).mgmt = s.mgmt
    ∧ ∀ pt, ((s.sendEvacNotice unit).net.port pt).up = (s.net.port pt).up := by
  unfold State.sendEvacNotice
  simp only [State.originateCounted]
  repeat' split
  all_goals simp

@[simp] theorem State.locate_frame (s : State) (e : Entry) (previous : Option Location) :
    (s.locate e previous).pending = s.pending ∧ (s.locate e previous).now = s.now
    ∧ (s.locate e previous).samples = s.samples ∧ (s.locate e previous).scratch = s.scratch
    ∧ (s.locate e previous).net.straps = s.net.straps ∧ (s.locate e previous).net.banks = s.net.banks
    ∧ (s.locate e previous).net.relayTick = s.net.relayTick ∧ (s.locate e previous).poller = s.poller
    ∧ (s.locate e previous).air = s.air ∧ (s.locate e previous).table.entries = s.table.entries
    ∧ (s.locate e previous).table.pins = s.table.pins
    ∧ (s.locate e previous).table.watches = s.table.watches
    ∧ (s.locate e previous).table.ageTick = s.table.ageTick ∧ (s.locate e previous).calls = s.calls
    ∧ (s.locate e previous).seg = s.seg ∧ (s.locate e previous).evac = s.evac
    ∧ (s.locate e previous).supply = s.supply ∧ (s.locate e previous).integ = s.integ
    ∧ (s.locate e previous).mgmt = s.mgmt
    ∧ ∀ pt, ((s.locate e previous).net.port pt).up = (s.net.port pt).up := by
  unfold State.locate
  simp only [State.originateCounted]
  repeat' split
  all_goals simp

@[simp] theorem State.evacMinerArrives_frame (s : State) (e : Entry) :
    (s.evacMinerArrives e).pending = s.pending ∧ (s.evacMinerArrives e).now = s.now
    ∧ (s.evacMinerArrives e).samples = s.samples ∧ (s.evacMinerArrives e).scratch = s.scratch
    ∧ (s.evacMinerArrives e).net.straps = s.net.straps ∧ (s.evacMinerArrives e).net.banks = s.net.banks
    ∧ (s.evacMinerArrives e).net.relayTick = s.net.relayTick ∧ (s.evacMinerArrives e).poller = s.poller
    ∧ (s.evacMinerArrives e).air = s.air ∧ (s.evacMinerArrives e).table = s.table
    ∧ (s.evacMinerArrives e).calls = s.calls ∧ (s.evacMinerArrives e).seg = s.seg
    ∧ (s.evacMinerArrives e).evac.state = s.evac.state
    ∧ (s.evacMinerArrives e).evac.repeatTimer = s.evac.repeatTimer
    ∧ (s.evacMinerArrives e).evac.panels = s.evac.panels ∧ (s.evacMinerArrives e).evac.sos = s.evac.sos
    ∧ (s.evacMinerArrives e).evac.routes = s.evac.routes ∧ (s.evacMinerArrives e).evac.lines = s.evac.lines
    ∧ (s.evacMinerArrives e).evac.doorTick = s.evac.doorTick ∧ (s.evacMinerArrives e).supply = s.supply
    ∧ (s.evacMinerArrives e).integ = s.integ ∧ (s.evacMinerArrives e).mgmt = s.mgmt
    ∧ ∀ pt, ((s.evacMinerArrives e).net.port pt).up = (s.net.port pt).up := by
  unfold State.evacMinerArrives
  repeat' split
  all_goals simp

@[simp] theorem State.arrives_frame (s : State) (e : Entry) (previous : Option Location) :
    (s.arrives e previous).pending = s.pending ∧ (s.arrives e previous).now = s.now
    ∧ (s.arrives e previous).samples = s.samples ∧ (s.arrives e previous).scratch = s.scratch
    ∧ (s.arrives e previous).net.straps = s.net.straps ∧ (s.arrives e previous).net.banks = s.net.banks
    ∧ (s.arrives e previous).net.relayTick = s.net.relayTick ∧ (s.arrives e previous).poller = s.poller
    ∧ (s.arrives e previous).air = s.air ∧ (s.arrives e previous).table.entries = s.table.entries
    ∧ (s.arrives e previous).table.pins = s.table.pins
    ∧ (s.arrives e previous).table.watches = s.table.watches
    ∧ (s.arrives e previous).table.ageTick = s.table.ageTick ∧ (s.arrives e previous).calls = s.calls
    ∧ (s.arrives e previous).seg.state = s.seg.state ∧ (s.arrives e previous).seg.holder = s.seg.holder
    ∧ (s.arrives e previous).seg.causes = s.seg.causes ∧ (s.arrives e previous).seg.queue = s.seg.queue
    ∧ (s.arrives e previous).seg.lease = s.seg.lease ∧ (s.arrives e previous).evac.state = s.evac.state
    ∧ (s.arrives e previous).evac.repeatTimer = s.evac.repeatTimer
    ∧ (s.arrives e previous).evac.panels = s.evac.panels ∧ (s.arrives e previous).evac.sos = s.evac.sos
    ∧ (s.arrives e previous).evac.routes = s.evac.routes ∧ (s.arrives e previous).evac.lines = s.evac.lines
    ∧ (s.arrives e previous).evac.doorTick = s.evac.doorTick ∧ (s.arrives e previous).supply = s.supply
    ∧ (s.arrives e previous).integ = s.integ ∧ (s.arrives e previous).mgmt = s.mgmt
    ∧ ∀ pt, ((s.arrives e previous).net.port pt).up = (s.net.port pt).up := by
  unfold State.arrives
  repeat' split
  all_goals simp

@[simp] theorem State.departs_frame (s : State) (a : Addr) :
    (s.departs a).pending = s.pending ∧ (s.departs a).now = s.now ∧ (s.departs a).samples = s.samples
    ∧ (s.departs a).scratch = s.scratch ∧ (s.departs a).net.straps = s.net.straps
    ∧ (s.departs a).net.banks = s.net.banks ∧ (s.departs a).net.relayTick = s.net.relayTick
    ∧ (s.departs a).poller = s.poller ∧ (s.departs a).air = s.air ∧ (s.departs a).table = s.table
    ∧ (s.departs a).calls = s.calls ∧ (s.departs a).seg.state = s.seg.state
    ∧ (s.departs a).seg.holder = s.seg.holder ∧ (s.departs a).seg.causes = s.seg.causes
    ∧ (s.departs a).seg.queue = s.seg.queue ∧ (s.departs a).seg.lease = s.seg.lease
    ∧ (s.departs a).evac = s.evac ∧ (s.departs a).supply = s.supply ∧ (s.departs a).integ = s.integ
    ∧ (s.departs a).mgmt = s.mgmt ∧ ∀ pt, ((s.departs a).net.port pt).up = (s.net.port pt).up := by
  unfold State.departs
  repeat' split
  all_goals simp

@[simp] theorem State.rewriteEntry_frame (s : State) (old new : Entry) :
    (s.rewriteEntry old new).pending = s.pending ∧ (s.rewriteEntry old new).now = s.now
    ∧ (s.rewriteEntry old new).samples = s.samples ∧ (s.rewriteEntry old new).scratch = s.scratch
    ∧ (s.rewriteEntry old new).net.straps = s.net.straps ∧ (s.rewriteEntry old new).net.banks = s.net.banks
    ∧ (s.rewriteEntry old new).net.relayTick = s.net.relayTick ∧ (s.rewriteEntry old new).poller = s.poller
    ∧ (s.rewriteEntry old new).air = s.air ∧ (s.rewriteEntry old new).table.pins = s.table.pins
    ∧ (s.rewriteEntry old new).table.watches = s.table.watches
    ∧ (s.rewriteEntry old new).table.ageTick = s.table.ageTick ∧ (s.rewriteEntry old new).calls = s.calls
    ∧ (s.rewriteEntry old new).seg.state = s.seg.state ∧ (s.rewriteEntry old new).seg.holder = s.seg.holder
    ∧ (s.rewriteEntry old new).seg.causes = s.seg.causes ∧ (s.rewriteEntry old new).seg.queue = s.seg.queue
    ∧ (s.rewriteEntry old new).seg.lease = s.seg.lease ∧ (s.rewriteEntry old new).evac.state = s.evac.state
    ∧ (s.rewriteEntry old new).evac.repeatTimer = s.evac.repeatTimer
    ∧ (s.rewriteEntry old new).evac.panels = s.evac.panels ∧ (s.rewriteEntry old new).evac.sos = s.evac.sos
    ∧ (s.rewriteEntry old new).evac.routes = s.evac.routes
    ∧ (s.rewriteEntry old new).evac.lines = s.evac.lines
    ∧ (s.rewriteEntry old new).evac.doorTick = s.evac.doorTick ∧ (s.rewriteEntry old new).supply = s.supply
    ∧ (s.rewriteEntry old new).integ = s.integ ∧ (s.rewriteEntry old new).mgmt = s.mgmt
    ∧ ∀ pt, ((s.rewriteEntry old new).net.port pt).up = (s.net.port pt).up := by
  unfold State.rewriteEntry
  repeat' split
  all_goals simp

@[simp] theorem State.dropEntry_frame (s : State) (e : Entry) :
    (s.dropEntry e).pending = s.pending ∧ (s.dropEntry e).now = s.now ∧ (s.dropEntry e).samples = s.samples
    ∧ (s.dropEntry e).scratch = s.scratch ∧ (s.dropEntry e).net.straps = s.net.straps
    ∧ (s.dropEntry e).net.banks = s.net.banks ∧ (s.dropEntry e).net.relayTick = s.net.relayTick
    ∧ (s.dropEntry e).poller = s.poller ∧ (s.dropEntry e).air = s.air
    ∧ (s.dropEntry e).table.pins = s.table.pins ∧ (s.dropEntry e).table.watches = s.table.watches
    ∧ (s.dropEntry e).table.ageTick = s.table.ageTick ∧ (s.dropEntry e).table.counters = s.table.counters
    ∧ (s.dropEntry e).calls = s.calls ∧ (s.dropEntry e).seg.state = s.seg.state
    ∧ (s.dropEntry e).seg.holder = s.seg.holder ∧ (s.dropEntry e).seg.causes = s.seg.causes
    ∧ (s.dropEntry e).seg.queue = s.seg.queue ∧ (s.dropEntry e).seg.lease = s.seg.lease
    ∧ (s.dropEntry e).evac = s.evac ∧ (s.dropEntry e).supply = s.supply ∧ (s.dropEntry e).integ = s.integ
    ∧ (s.dropEntry e).mgmt = s.mgmt ∧ ∀ pt, ((s.dropEntry e).net.port pt).up = (s.net.port pt).up := by
  unfold State.dropEntry
  repeat' split
  all_goals simp

/-- Making room for an entry takes one from the table at most. -/
theorem State.makeRoom_frame {s t : State} (h : s.makeRoom = some t) :
    t.pending = s.pending ∧ t.now = s.now ∧ t.samples = s.samples ∧ t.scratch = s.scratch
    ∧ t.net.straps = s.net.straps ∧ t.net.banks = s.net.banks ∧ t.net.relayTick = s.net.relayTick
    ∧ t.poller = s.poller ∧ t.air = s.air ∧ t.table.pins = s.table.pins ∧ t.table.watches = s.table.watches
    ∧ t.table.ageTick = s.table.ageTick ∧ t.calls = s.calls ∧ t.seg.state = s.seg.state
    ∧ t.seg.holder = s.seg.holder ∧ t.seg.causes = s.seg.causes ∧ t.seg.queue = s.seg.queue
    ∧ t.seg.lease = s.seg.lease ∧ t.evac = s.evac ∧ t.supply = s.supply ∧ t.integ = s.integ
    ∧ t.mgmt = s.mgmt ∧ ∀ pt, (t.net.port pt).up = (s.net.port pt).up := by
  unfold State.makeRoom at h
  split at h
  · cases h; simp
  · split at h
    · cases h; simp
    · cases h

@[simp] theorem State.insertNew_frame (s : State) (a : Addr) (l : Location) (attach : Option Addr) :
    (s.insertNew a l attach).pending = s.pending ∧ (s.insertNew a l attach).now = s.now
    ∧ (s.insertNew a l attach).samples = s.samples ∧ (s.insertNew a l attach).scratch = s.scratch
    ∧ (s.insertNew a l attach).net.straps = s.net.straps ∧ (s.insertNew a l attach).net.banks = s.net.banks
    ∧ (s.insertNew a l attach).net.relayTick = s.net.relayTick ∧ (s.insertNew a l attach).poller = s.poller
    ∧ (s.insertNew a l attach).air = s.air ∧ (s.insertNew a l attach).table.pins = s.table.pins
    ∧ (s.insertNew a l attach).table.watches = s.table.watches
    ∧ (s.insertNew a l attach).table.ageTick = s.table.ageTick ∧ (s.insertNew a l attach).calls = s.calls
    ∧ (s.insertNew a l attach).seg.state = s.seg.state ∧ (s.insertNew a l attach).seg.holder = s.seg.holder
    ∧ (s.insertNew a l attach).seg.causes = s.seg.causes ∧ (s.insertNew a l attach).seg.queue = s.seg.queue
    ∧ (s.insertNew a l attach).seg.lease = s.seg.lease ∧ (s.insertNew a l attach).evac.state = s.evac.state
    ∧ (s.insertNew a l attach).evac.repeatTimer = s.evac.repeatTimer
    ∧ (s.insertNew a l attach).evac.panels = s.evac.panels ∧ (s.insertNew a l attach).evac.sos = s.evac.sos
    ∧ (s.insertNew a l attach).evac.routes = s.evac.routes
    ∧ (s.insertNew a l attach).evac.lines = s.evac.lines
    ∧ (s.insertNew a l attach).evac.doorTick = s.evac.doorTick ∧ (s.insertNew a l attach).supply = s.supply
    ∧ (s.insertNew a l attach).integ = s.integ ∧ (s.insertNew a l attach).mgmt = s.mgmt
    ∧ ∀ pt, ((s.insertNew a l attach).net.port pt).up = (s.net.port pt).up := by
  unfold State.insertNew
  repeat' split
  all_goals simp

@[simp] theorem State.learnFails_frame (s : State) :
    s.learnFails.pending = s.pending ∧ s.learnFails.now = s.now ∧ s.learnFails.samples = s.samples
    ∧ s.learnFails.scratch = s.scratch ∧ s.learnFails.net = s.net ∧ s.learnFails.poller = s.poller
    ∧ s.learnFails.air = s.air ∧ s.learnFails.table.entries = s.table.entries
    ∧ s.learnFails.table.pins = s.table.pins ∧ s.learnFails.table.watches = s.table.watches
    ∧ s.learnFails.table.ageTick = s.table.ageTick ∧ s.learnFails.calls = s.calls ∧ s.learnFails.seg = s.seg
    ∧ s.learnFails.evac = s.evac ∧ s.learnFails.supply = s.supply ∧ s.learnFails.integ = s.integ
    ∧ s.learnFails.mgmt.parameters = s.mgmt.parameters ∧ s.learnFails.mgmt.statusTimer = s.mgmt.statusTimer
    ∧ s.learnFails.mgmt.isolated = s.mgmt.isolated
    ∧ s.learnFails.mgmt.isolationTimer = s.mgmt.isolationTimer
    ∧ s.learnFails.mgmt.restartPending = s.mgmt.restartPending
    ∧ s.learnFails.mgmt.counters = s.mgmt.counters := by
  unfold State.learnFails
  simp

@[simp] theorem State.createEntry_frame (s : State) (a : Addr) (l : Location) (attach : Option Addr) :
    (s.createEntry a l attach).pending = s.pending ∧ (s.createEntry a l attach).now = s.now
    ∧ (s.createEntry a l attach).samples = s.samples ∧ (s.createEntry a l attach).scratch = s.scratch
    ∧ (s.createEntry a l attach).net.straps = s.net.straps
    ∧ (s.createEntry a l attach).net.banks = s.net.banks
    ∧ (s.createEntry a l attach).net.relayTick = s.net.relayTick
    ∧ (s.createEntry a l attach).poller = s.poller ∧ (s.createEntry a l attach).air = s.air
    ∧ (s.createEntry a l attach).table.pins = s.table.pins
    ∧ (s.createEntry a l attach).table.watches = s.table.watches
    ∧ (s.createEntry a l attach).table.ageTick = s.table.ageTick
    ∧ (s.createEntry a l attach).calls = s.calls ∧ (s.createEntry a l attach).seg.state = s.seg.state
    ∧ (s.createEntry a l attach).seg.holder = s.seg.holder
    ∧ (s.createEntry a l attach).seg.causes = s.seg.causes
    ∧ (s.createEntry a l attach).seg.queue = s.seg.queue
    ∧ (s.createEntry a l attach).seg.lease = s.seg.lease
    ∧ (s.createEntry a l attach).evac.state = s.evac.state
    ∧ (s.createEntry a l attach).evac.repeatTimer = s.evac.repeatTimer
    ∧ (s.createEntry a l attach).evac.panels = s.evac.panels
    ∧ (s.createEntry a l attach).evac.sos = s.evac.sos
    ∧ (s.createEntry a l attach).evac.routes = s.evac.routes
    ∧ (s.createEntry a l attach).evac.lines = s.evac.lines
    ∧ (s.createEntry a l attach).evac.doorTick = s.evac.doorTick
    ∧ (s.createEntry a l attach).supply = s.supply ∧ (s.createEntry a l attach).integ = s.integ
    ∧ (s.createEntry a l attach).mgmt.parameters = s.mgmt.parameters
    ∧ (s.createEntry a l attach).mgmt.statusTimer = s.mgmt.statusTimer
    ∧ (s.createEntry a l attach).mgmt.isolated = s.mgmt.isolated
    ∧ (s.createEntry a l attach).mgmt.isolationTimer = s.mgmt.isolationTimer
    ∧ (s.createEntry a l attach).mgmt.restartPending = s.mgmt.restartPending
    ∧ (s.createEntry a l attach).mgmt.counters = s.mgmt.counters
    ∧ ∀ pt, ((s.createEntry a l attach).net.port pt).up = (s.net.port pt).up := by
  unfold State.createEntry
  split
  · simp
  · split
    · rename_i t h
      have k := State.makeRoom_frame h
      simp [k]
    · simp

@[simp] theorem State.createForMuster_frame (s : State) (a : Addr) :
    (s.createForMuster a).pending = s.pending ∧ (s.createForMuster a).now = s.now
    ∧ (s.createForMuster a).samples = s.samples ∧ (s.createForMuster a).scratch = s.scratch
    ∧ (s.createForMuster a).net.straps = s.net.straps ∧ (s.createForMuster a).net.banks = s.net.banks
    ∧ (s.createForMuster a).net.relayTick = s.net.relayTick ∧ (s.createForMuster a).poller = s.poller
    ∧ (s.createForMuster a).air = s.air ∧ (s.createForMuster a).table.pins = s.table.pins
    ∧ (s.createForMuster a).table.watches = s.table.watches
    ∧ (s.createForMuster a).table.ageTick = s.table.ageTick ∧ (s.createForMuster a).calls = s.calls
    ∧ (s.createForMuster a).seg.state = s.seg.state ∧ (s.createForMuster a).seg.holder = s.seg.holder
    ∧ (s.createForMuster a).seg.causes = s.seg.causes ∧ (s.createForMuster a).seg.queue = s.seg.queue
    ∧ (s.createForMuster a).seg.lease = s.seg.lease ∧ (s.createForMuster a).evac.state = s.evac.state
    ∧ (s.createForMuster a).evac.repeatTimer = s.evac.repeatTimer
    ∧ (s.createForMuster a).evac.panels = s.evac.panels ∧ (s.createForMuster a).evac.sos = s.evac.sos
    ∧ (s.createForMuster a).evac.routes = s.evac.routes ∧ (s.createForMuster a).evac.lines = s.evac.lines
    ∧ (s.createForMuster a).evac.doorTick = s.evac.doorTick ∧ (s.createForMuster a).supply = s.supply
    ∧ (s.createForMuster a).integ = s.integ ∧ (s.createForMuster a).mgmt.parameters = s.mgmt.parameters
    ∧ (s.createForMuster a).mgmt.statusTimer = s.mgmt.statusTimer
    ∧ (s.createForMuster a).mgmt.isolated = s.mgmt.isolated
    ∧ (s.createForMuster a).mgmt.isolationTimer = s.mgmt.isolationTimer
    ∧ (s.createForMuster a).mgmt.restartPending = s.mgmt.restartPending
    ∧ (s.createForMuster a).mgmt.counters = s.mgmt.counters
    ∧ ∀ pt, ((s.createForMuster a).net.port pt).up = (s.net.port pt).up := by
  unfold State.createForMuster
  repeat' split
  all_goals simp

@[simp] theorem State.learn_frame (s : State) (a : Addr) (l : Location) :
    (s.learn a l).pending = s.pending ∧ (s.learn a l).now = s.now ∧ (s.learn a l).samples = s.samples
    ∧ (s.learn a l).scratch = s.scratch ∧ (s.learn a l).net.straps = s.net.straps
    ∧ (s.learn a l).net.banks = s.net.banks ∧ (s.learn a l).net.relayTick = s.net.relayTick
    ∧ (s.learn a l).poller = s.poller ∧ (s.learn a l).air = s.air ∧ (s.learn a l).table.pins = s.table.pins
    ∧ (s.learn a l).table.watches = s.table.watches ∧ (s.learn a l).table.ageTick = s.table.ageTick
    ∧ (s.learn a l).calls = s.calls ∧ (s.learn a l).seg.state = s.seg.state
    ∧ (s.learn a l).seg.holder = s.seg.holder ∧ (s.learn a l).seg.causes = s.seg.causes
    ∧ (s.learn a l).seg.queue = s.seg.queue ∧ (s.learn a l).seg.lease = s.seg.lease
    ∧ (s.learn a l).evac.state = s.evac.state ∧ (s.learn a l).evac.repeatTimer = s.evac.repeatTimer
    ∧ (s.learn a l).evac.panels = s.evac.panels ∧ (s.learn a l).evac.sos = s.evac.sos
    ∧ (s.learn a l).evac.routes = s.evac.routes ∧ (s.learn a l).evac.lines = s.evac.lines
    ∧ (s.learn a l).evac.doorTick = s.evac.doorTick ∧ (s.learn a l).supply = s.supply
    ∧ (s.learn a l).integ = s.integ ∧ (s.learn a l).mgmt.parameters = s.mgmt.parameters
    ∧ (s.learn a l).mgmt.statusTimer = s.mgmt.statusTimer ∧ (s.learn a l).mgmt.isolated = s.mgmt.isolated
    ∧ (s.learn a l).mgmt.isolationTimer = s.mgmt.isolationTimer
    ∧ (s.learn a l).mgmt.restartPending = s.mgmt.restartPending
    ∧ (s.learn a l).mgmt.counters = s.mgmt.counters
    ∧ ∀ pt, ((s.learn a l).net.port pt).up = (s.net.port pt).up := by
  unfold State.learn
  repeat' split
  all_goals simp

@[simp] theorem State.learnAnnounce_frame (s : State) (a : Addr) (l : Location) (attach : Addr) :
    (s.learnAnnounce a l attach).pending = s.pending ∧ (s.learnAnnounce a l attach).now = s.now
    ∧ (s.learnAnnounce a l attach).samples = s.samples ∧ (s.learnAnnounce a l attach).scratch = s.scratch
    ∧ (s.learnAnnounce a l attach).net.straps = s.net.straps
    ∧ (s.learnAnnounce a l attach).net.banks = s.net.banks
    ∧ (s.learnAnnounce a l attach).net.relayTick = s.net.relayTick
    ∧ (s.learnAnnounce a l attach).poller = s.poller ∧ (s.learnAnnounce a l attach).air = s.air
    ∧ (s.learnAnnounce a l attach).table.pins = s.table.pins
    ∧ (s.learnAnnounce a l attach).table.watches = s.table.watches
    ∧ (s.learnAnnounce a l attach).table.ageTick = s.table.ageTick
    ∧ (s.learnAnnounce a l attach).calls = s.calls ∧ (s.learnAnnounce a l attach).seg.state = s.seg.state
    ∧ (s.learnAnnounce a l attach).seg.holder = s.seg.holder
    ∧ (s.learnAnnounce a l attach).seg.causes = s.seg.causes
    ∧ (s.learnAnnounce a l attach).seg.queue = s.seg.queue
    ∧ (s.learnAnnounce a l attach).seg.lease = s.seg.lease
    ∧ (s.learnAnnounce a l attach).evac.state = s.evac.state
    ∧ (s.learnAnnounce a l attach).evac.repeatTimer = s.evac.repeatTimer
    ∧ (s.learnAnnounce a l attach).evac.panels = s.evac.panels
    ∧ (s.learnAnnounce a l attach).evac.sos = s.evac.sos
    ∧ (s.learnAnnounce a l attach).evac.routes = s.evac.routes
    ∧ (s.learnAnnounce a l attach).evac.lines = s.evac.lines
    ∧ (s.learnAnnounce a l attach).evac.doorTick = s.evac.doorTick
    ∧ (s.learnAnnounce a l attach).supply = s.supply ∧ (s.learnAnnounce a l attach).integ = s.integ
    ∧ (s.learnAnnounce a l attach).mgmt.parameters = s.mgmt.parameters
    ∧ (s.learnAnnounce a l attach).mgmt.statusTimer = s.mgmt.statusTimer
    ∧ (s.learnAnnounce a l attach).mgmt.isolated = s.mgmt.isolated
    ∧ (s.learnAnnounce a l attach).mgmt.isolationTimer = s.mgmt.isolationTimer
    ∧ (s.learnAnnounce a l attach).mgmt.restartPending = s.mgmt.restartPending
    ∧ (s.learnAnnounce a l attach).mgmt.counters = s.mgmt.counters
    ∧ ∀ pt, ((s.learnAnnounce a l attach).net.port pt).up = (s.net.port pt).up := by
  unfold State.learnAnnounce
  repeat' split
  all_goals simp

@[simp] theorem State.learnFrame_frame (s : State) (p : Port) (f : Frame) :
    (s.learnFrame p f).pending = s.pending ∧ (s.learnFrame p f).now = s.now
    ∧ (s.learnFrame p f).samples = s.samples ∧ (s.learnFrame p f).scratch = s.scratch
    ∧ (s.learnFrame p f).net.straps = s.net.straps ∧ (s.learnFrame p f).net.banks = s.net.banks
    ∧ (s.learnFrame p f).net.relayTick = s.net.relayTick ∧ (s.learnFrame p f).poller = s.poller
    ∧ (s.learnFrame p f).air = s.air ∧ (s.learnFrame p f).table.pins = s.table.pins
    ∧ (s.learnFrame p f).table.watches = s.table.watches
    ∧ (s.learnFrame p f).table.ageTick = s.table.ageTick
    ∧ (s.learnFrame p f).calls.permits = s.calls.permits
    ∧ (s.learnFrame p f).calls.counters = s.calls.counters ∧ (s.learnFrame p f).seg.state = s.seg.state
    ∧ (s.learnFrame p f).seg.holder = s.seg.holder ∧ (s.learnFrame p f).seg.causes = s.seg.causes
    ∧ (s.learnFrame p f).seg.queue = s.seg.queue ∧ (s.learnFrame p f).seg.lease = s.seg.lease
    ∧ (s.learnFrame p f).evac.state = s.evac.state
    ∧ (s.learnFrame p f).evac.repeatTimer = s.evac.repeatTimer
    ∧ (s.learnFrame p f).evac.panels = s.evac.panels ∧ (s.learnFrame p f).evac.sos = s.evac.sos
    ∧ (s.learnFrame p f).evac.routes = s.evac.routes ∧ (s.learnFrame p f).evac.lines = s.evac.lines
    ∧ (s.learnFrame p f).evac.doorTick = s.evac.doorTick ∧ (s.learnFrame p f).supply = s.supply
    ∧ (s.learnFrame p f).integ = s.integ ∧ (s.learnFrame p f).mgmt.parameters = s.mgmt.parameters
    ∧ (s.learnFrame p f).mgmt.statusTimer = s.mgmt.statusTimer
    ∧ (s.learnFrame p f).mgmt.isolated = s.mgmt.isolated
    ∧ (s.learnFrame p f).mgmt.isolationTimer = s.mgmt.isolationTimer
    ∧ (s.learnFrame p f).mgmt.restartPending = s.mgmt.restartPending
    ∧ (s.learnFrame p f).mgmt.counters = s.mgmt.counters
    ∧ ∀ pt, ((s.learnFrame p f).net.port pt).up = (s.net.port pt).up := by
  unfold State.learnFrame
  simp only
  repeat' split
  all_goals simp

@[simp] theorem State.loadPinWindow_frame (s : State) (i : Fin 4) (w : PinWindow) :
    (s.loadPinWindow i w).pending = s.pending ∧ (s.loadPinWindow i w).now = s.now
    ∧ (s.loadPinWindow i w).samples = s.samples ∧ (s.loadPinWindow i w).scratch = s.scratch
    ∧ (s.loadPinWindow i w).net = s.net ∧ (s.loadPinWindow i w).poller = s.poller
    ∧ (s.loadPinWindow i w).air = s.air ∧ (s.loadPinWindow i w).table.watches = s.table.watches
    ∧ (s.loadPinWindow i w).table.ageTick = s.table.ageTick
    ∧ (s.loadPinWindow i w).table.counters = s.table.counters ∧ (s.loadPinWindow i w).calls = s.calls
    ∧ (s.loadPinWindow i w).seg = s.seg ∧ (s.loadPinWindow i w).evac = s.evac
    ∧ (s.loadPinWindow i w).supply = s.supply ∧ (s.loadPinWindow i w).integ = s.integ
    ∧ (s.loadPinWindow i w).mgmt = s.mgmt := by
  unfold State.loadPinWindow
  simp

@[simp] theorem State.timeOut_frame (s : State) (e : Entry) :
    (s.timeOut e).pending = s.pending ∧ (s.timeOut e).now = s.now ∧ (s.timeOut e).samples = s.samples
    ∧ (s.timeOut e).scratch = s.scratch ∧ (s.timeOut e).net.straps = s.net.straps
    ∧ (s.timeOut e).net.banks = s.net.banks ∧ (s.timeOut e).net.relayTick = s.net.relayTick
    ∧ (s.timeOut e).poller = s.poller ∧ (s.timeOut e).air = s.air ∧ (s.timeOut e).table.pins = s.table.pins
    ∧ (s.timeOut e).table.watches = s.table.watches ∧ (s.timeOut e).table.ageTick = s.table.ageTick
    ∧ (s.timeOut e).calls = s.calls ∧ (s.timeOut e).seg.state = s.seg.state
    ∧ (s.timeOut e).seg.holder = s.seg.holder ∧ (s.timeOut e).seg.causes = s.seg.causes
    ∧ (s.timeOut e).seg.queue = s.seg.queue ∧ (s.timeOut e).seg.lease = s.seg.lease
    ∧ (s.timeOut e).evac.state = s.evac.state ∧ (s.timeOut e).evac.repeatTimer = s.evac.repeatTimer
    ∧ (s.timeOut e).evac.panels = s.evac.panels ∧ (s.timeOut e).evac.sos = s.evac.sos
    ∧ (s.timeOut e).evac.routes = s.evac.routes ∧ (s.timeOut e).evac.lines = s.evac.lines
    ∧ (s.timeOut e).evac.doorTick = s.evac.doorTick ∧ (s.timeOut e).supply = s.supply
    ∧ (s.timeOut e).integ = s.integ ∧ (s.timeOut e).mgmt = s.mgmt
    ∧ ∀ pt, ((s.timeOut e).net.port pt).up = (s.net.port pt).up := by
  unfold State.timeOut
  repeat' split
  all_goals simp

@[simp] theorem State.ageEntry_frame (s : State) (a : Addr) :
    (s.ageEntry a).pending = s.pending ∧ (s.ageEntry a).now = s.now ∧ (s.ageEntry a).samples = s.samples
    ∧ (s.ageEntry a).scratch = s.scratch ∧ (s.ageEntry a).net.straps = s.net.straps
    ∧ (s.ageEntry a).net.banks = s.net.banks ∧ (s.ageEntry a).net.relayTick = s.net.relayTick
    ∧ (s.ageEntry a).poller = s.poller ∧ (s.ageEntry a).air = s.air
    ∧ (s.ageEntry a).table.pins = s.table.pins ∧ (s.ageEntry a).table.watches = s.table.watches
    ∧ (s.ageEntry a).table.ageTick = s.table.ageTick ∧ (s.ageEntry a).calls = s.calls
    ∧ (s.ageEntry a).seg.state = s.seg.state ∧ (s.ageEntry a).seg.holder = s.seg.holder
    ∧ (s.ageEntry a).seg.causes = s.seg.causes ∧ (s.ageEntry a).seg.queue = s.seg.queue
    ∧ (s.ageEntry a).seg.lease = s.seg.lease ∧ (s.ageEntry a).evac.state = s.evac.state
    ∧ (s.ageEntry a).evac.repeatTimer = s.evac.repeatTimer ∧ (s.ageEntry a).evac.panels = s.evac.panels
    ∧ (s.ageEntry a).evac.sos = s.evac.sos ∧ (s.ageEntry a).evac.routes = s.evac.routes
    ∧ (s.ageEntry a).evac.lines = s.evac.lines ∧ (s.ageEntry a).evac.doorTick = s.evac.doorTick
    ∧ (s.ageEntry a).supply = s.supply ∧ (s.ageEntry a).integ = s.integ ∧ (s.ageEntry a).mgmt = s.mgmt
    ∧ ∀ pt, ((s.ageEntry a).net.port pt).up = (s.net.port pt).up := by
  unfold State.ageEntry
  repeat' split
  all_goals simp

@[simp] theorem State.ageTable_frame (s : State) :
    s.ageTable.pending = s.pending ∧ s.ageTable.now = s.now ∧ s.ageTable.samples = s.samples
    ∧ s.ageTable.scratch = s.scratch ∧ s.ageTable.net.straps = s.net.straps
    ∧ s.ageTable.net.banks = s.net.banks ∧ s.ageTable.net.relayTick = s.net.relayTick
    ∧ s.ageTable.poller = s.poller ∧ s.ageTable.air = s.air ∧ s.ageTable.table.pins = s.table.pins
    ∧ s.ageTable.table.watches = s.table.watches ∧ s.ageTable.table.ageTick = s.table.ageTick
    ∧ s.ageTable.calls = s.calls ∧ s.ageTable.seg.state = s.seg.state ∧ s.ageTable.seg.holder = s.seg.holder
    ∧ s.ageTable.seg.causes = s.seg.causes ∧ s.ageTable.seg.queue = s.seg.queue
    ∧ s.ageTable.seg.lease = s.seg.lease ∧ s.ageTable.evac.state = s.evac.state
    ∧ s.ageTable.evac.repeatTimer = s.evac.repeatTimer ∧ s.ageTable.evac.panels = s.evac.panels
    ∧ s.ageTable.evac.sos = s.evac.sos ∧ s.ageTable.evac.routes = s.evac.routes
    ∧ s.ageTable.evac.lines = s.evac.lines ∧ s.ageTable.evac.doorTick = s.evac.doorTick
    ∧ s.ageTable.supply = s.supply ∧ s.ageTable.integ = s.integ ∧ s.ageTable.mgmt = s.mgmt
    ∧ ∀ pt, (s.ageTable.net.port pt).up = (s.net.port pt).up := by
  have h := fun (l : List Addr) (b : State) =>
    foldl_rel (R := fun s t : State => t.pending = s.pending ∧ t.now = s.now ∧ t.samples = s.samples ∧ t.scratch = s.scratch ∧ t.net.straps = s.net.straps ∧ t.net.banks = s.net.banks ∧ t.net.relayTick = s.net.relayTick ∧ t.poller = s.poller ∧ t.air = s.air ∧ t.table.pins = s.table.pins ∧ t.table.watches = s.table.watches ∧ t.table.ageTick = s.table.ageTick ∧ t.calls = s.calls ∧ t.seg.state = s.seg.state ∧ t.seg.holder = s.seg.holder ∧ t.seg.causes = s.seg.causes ∧ t.seg.queue = s.seg.queue ∧ t.seg.lease = s.seg.lease ∧ t.evac.state = s.evac.state ∧ t.evac.repeatTimer = s.evac.repeatTimer ∧ t.evac.panels = s.evac.panels ∧ t.evac.sos = s.evac.sos ∧ t.evac.routes = s.evac.routes ∧ t.evac.lines = s.evac.lines ∧ t.evac.doorTick = s.evac.doorTick ∧ t.supply = s.supply ∧ t.integ = s.integ ∧ t.mgmt = s.mgmt ∧ ∀ pt, (t.net.port pt).up = (s.net.port pt).up)
      (by simp) (by intro a b c h k; simp_all) (f := State.ageEntry) (by intro b a; simp) l b
  have k := h (s.table.entries.map (fun e => e.address)) (s.setEntries (s.table.entries.map Entry.older))
  simpa [State.ageTable, Function.comp_def, Entry.older] using k

@[simp] theorem State.forgetVia_frame (s : State) (p : Backbone) :
    (s.forgetVia p).pending = s.pending ∧ (s.forgetVia p).now = s.now ∧ (s.forgetVia p).samples = s.samples
    ∧ (s.forgetVia p).scratch = s.scratch ∧ (s.forgetVia p).net = s.net ∧ (s.forgetVia p).poller = s.poller
    ∧ (s.forgetVia p).air = s.air ∧ (s.forgetVia p).table.pins = s.table.pins
    ∧ (s.forgetVia p).table.watches = s.table.watches ∧ (s.forgetVia p).table.ageTick = s.table.ageTick
    ∧ (s.forgetVia p).table.counters = s.table.counters ∧ (s.forgetVia p).calls = s.calls
    ∧ (s.forgetVia p).seg = s.seg ∧ (s.forgetVia p).evac = s.evac ∧ (s.forgetVia p).supply = s.supply
    ∧ (s.forgetVia p).integ = s.integ ∧ (s.forgetVia p).mgmt = s.mgmt := by
  unfold State.forgetVia
  simp

@[simp] theorem State.drive_frame (s : State) :
    s.drive.pending = s.pending ∧ s.drive.now = s.now ∧ s.drive.samples = s.samples
    ∧ s.drive.scratch = s.scratch ∧ s.drive.net = s.net ∧ s.drive.poller = s.poller
    ∧ s.drive.air.channels = s.air.channels ∧ s.drive.air.zone = s.air.zone
    ∧ s.drive.air.refuge = s.air.refuge ∧ s.drive.air.reportTimer = s.air.reportTimer
    ∧ s.drive.table = s.table ∧ s.drive.calls = s.calls ∧ s.drive.seg = s.seg
    ∧ s.drive.evac.state = s.evac.state ∧ s.drive.evac.repeatTimer = s.evac.repeatTimer
    ∧ s.drive.evac.panels = s.evac.panels ∧ s.drive.evac.sos = s.evac.sos
    ∧ s.drive.evac.routes = s.evac.routes ∧ s.drive.evac.doorTick = s.evac.doorTick
    ∧ s.drive.evac.counters = s.evac.counters ∧ s.drive.supply = s.supply ∧ s.drive.integ = s.integ
    ∧ s.drive.mgmt = s.mgmt := by
  unfold State.drive
  simp

@[simp] theorem State.startRepeat_frame (s : State) :
    s.startRepeat.pending = s.pending ∧ s.startRepeat.now = s.now ∧ s.startRepeat.samples = s.samples
    ∧ s.startRepeat.scratch = s.scratch ∧ s.startRepeat.net = s.net ∧ s.startRepeat.poller = s.poller
    ∧ s.startRepeat.air = s.air ∧ s.startRepeat.table = s.table ∧ s.startRepeat.calls = s.calls
    ∧ s.startRepeat.seg = s.seg ∧ s.startRepeat.evac.state = s.evac.state
    ∧ s.startRepeat.evac.panels = s.evac.panels ∧ s.startRepeat.evac.sos = s.evac.sos
    ∧ s.startRepeat.evac.routes = s.evac.routes ∧ s.startRepeat.evac.lines = s.evac.lines
    ∧ s.startRepeat.evac.doorTick = s.evac.doorTick ∧ s.startRepeat.evac.counters = s.evac.counters
    ∧ s.startRepeat.supply = s.supply ∧ s.startRepeat.integ = s.integ ∧ s.startRepeat.mgmt = s.mgmt := by
  unfold State.startRepeat
  simp

@[simp] theorem State.discardOrder_frame (s : State) :
    s.discardOrder.pending = s.pending ∧ s.discardOrder.now = s.now ∧ s.discardOrder.samples = s.samples
    ∧ s.discardOrder.scratch = s.scratch ∧ s.discardOrder.net = s.net ∧ s.discardOrder.poller = s.poller
    ∧ s.discardOrder.air = s.air ∧ s.discardOrder.table = s.table ∧ s.discardOrder.calls = s.calls
    ∧ s.discardOrder.seg = s.seg ∧ s.discardOrder.evac.state = s.evac.state
    ∧ s.discardOrder.evac.repeatTimer = s.evac.repeatTimer ∧ s.discardOrder.evac.panels = s.evac.panels
    ∧ s.discardOrder.evac.sos = s.evac.sos ∧ s.discardOrder.evac.routes = s.evac.routes
    ∧ s.discardOrder.evac.lines = s.evac.lines ∧ s.discardOrder.evac.doorTick = s.evac.doorTick
    ∧ s.discardOrder.supply = s.supply ∧ s.discardOrder.integ = s.integ ∧ s.discardOrder.mgmt = s.mgmt := by
  unfold State.discardOrder
  simp

@[simp] theorem State.noticeRound_frame (s : State) :
    s.noticeRound.pending = s.pending ∧ s.noticeRound.now = s.now ∧ s.noticeRound.samples = s.samples
    ∧ s.noticeRound.scratch = s.scratch ∧ s.noticeRound.net.straps = s.net.straps
    ∧ s.noticeRound.net.banks = s.net.banks ∧ s.noticeRound.net.relayTick = s.net.relayTick
    ∧ s.noticeRound.poller = s.poller ∧ s.noticeRound.air = s.air ∧ s.noticeRound.table = s.table
    ∧ s.noticeRound.calls = s.calls ∧ s.noticeRound.seg = s.seg ∧ s.noticeRound.evac.state = s.evac.state
    ∧ s.noticeRound.evac.repeatTimer = s.evac.repeatTimer ∧ s.noticeRound.evac.panels = s.evac.panels
    ∧ s.noticeRound.evac.sos = s.evac.sos ∧ s.noticeRound.evac.routes = s.evac.routes
    ∧ s.noticeRound.evac.lines = s.evac.lines ∧ s.noticeRound.evac.doorTick = s.evac.doorTick
    ∧ s.noticeRound.supply = s.supply ∧ s.noticeRound.integ = s.integ ∧ s.noticeRound.mgmt = s.mgmt
    ∧ ∀ pt, (s.noticeRound.net.port pt).up = (s.net.port pt).up := by
  unfold State.noticeRound
  exact foldl_rel (R := fun s t : State => t.pending = s.pending ∧ t.now = s.now ∧ t.samples = s.samples ∧ t.scratch = s.scratch ∧ t.net.straps = s.net.straps ∧ t.net.banks = s.net.banks ∧ t.net.relayTick = s.net.relayTick ∧ t.poller = s.poller ∧ t.air = s.air ∧ t.table = s.table ∧ t.calls = s.calls ∧ t.seg = s.seg ∧ t.evac.state = s.evac.state ∧ t.evac.repeatTimer = s.evac.repeatTimer ∧ t.evac.panels = s.evac.panels ∧ t.evac.sos = s.evac.sos ∧ t.evac.routes = s.evac.routes ∧ t.evac.lines = s.evac.lines ∧ t.evac.doorTick = s.evac.doorTick ∧ t.supply = s.supply ∧ t.integ = s.integ ∧ t.mgmt = s.mgmt ∧ ∀ pt, (t.net.port pt).up = (s.net.port pt).up)
    (by simp) (by intro a b c h k; simp_all) (by intro b a; simp) _ s

@[simp] theorem State.musterReport_frame (s : State) :
    s.musterReport.pending = s.pending ∧ s.musterReport.now = s.now ∧ s.musterReport.samples = s.samples
    ∧ s.musterReport.net.straps = s.net.straps ∧ s.musterReport.net.banks = s.net.banks
    ∧ s.musterReport.net.relayTick = s.net.relayTick ∧ s.musterReport.poller = s.poller
    ∧ s.musterReport.air = s.air ∧ s.musterReport.table = s.table ∧ s.musterReport.calls = s.calls
    ∧ s.musterReport.seg = s.seg ∧ s.musterReport.evac.state = s.evac.state
    ∧ s.musterReport.evac.repeatTimer = s.evac.repeatTimer ∧ s.musterReport.evac.panels = s.evac.panels
    ∧ s.musterReport.evac.sos = s.evac.sos ∧ s.musterReport.evac.routes = s.evac.routes
    ∧ s.musterReport.evac.lines = s.evac.lines ∧ s.musterReport.evac.doorTick = s.evac.doorTick
    ∧ s.musterReport.supply = s.supply ∧ s.musterReport.integ = s.integ ∧ s.musterReport.mgmt = s.mgmt
    ∧ ∀ pt, (s.musterReport.net.port pt).up = (s.net.port pt).up := by
  unfold State.musterReport
  simp only [State.originateCounted]
  repeat' split
  all_goals simp

@[simp] theorem State.musterFollows_frame (s : State) (before : Tally) :
    (s.musterFollows before).pending = s.pending ∧ (s.musterFollows before).now = s.now
    ∧ (s.musterFollows before).samples = s.samples ∧ (s.musterFollows before).net.straps = s.net.straps
    ∧ (s.musterFollows before).net.banks = s.net.banks
    ∧ (s.musterFollows before).net.relayTick = s.net.relayTick ∧ (s.musterFollows before).poller = s.poller
    ∧ (s.musterFollows before).air = s.air ∧ (s.musterFollows before).table = s.table
    ∧ (s.musterFollows before).calls = s.calls ∧ (s.musterFollows before).seg = s.seg
    ∧ (s.musterFollows before).evac.state = s.evac.state
    ∧ (s.musterFollows before).evac.repeatTimer = s.evac.repeatTimer
    ∧ (s.musterFollows before).evac.panels = s.evac.panels ∧ (s.musterFollows before).evac.sos = s.evac.sos
    ∧ (s.musterFollows before).evac.routes = s.evac.routes
    ∧ (s.musterFollows before).evac.lines = s.evac.lines
    ∧ (s.musterFollows before).evac.doorTick = s.evac.doorTick ∧ (s.musterFollows before).supply = s.supply
    ∧ (s.musterFollows before).integ = s.integ ∧ (s.musterFollows before).mgmt = s.mgmt
    ∧ ∀ pt, ((s.musterFollows before).net.port pt).up = (s.net.port pt).up := by
  unfold State.musterFollows
  repeat' split
  all_goals simp

@[simp] theorem State.setMark_frame (s : State) (a : Addr) (m : Muster) :
    (s.setMark a m).pending = s.pending ∧ (s.setMark a m).now = s.now ∧ (s.setMark a m).samples = s.samples
    ∧ (s.setMark a m).scratch = s.scratch ∧ (s.setMark a m).net = s.net ∧ (s.setMark a m).poller = s.poller
    ∧ (s.setMark a m).air = s.air ∧ (s.setMark a m).table.pins = s.table.pins
    ∧ (s.setMark a m).table.watches = s.table.watches ∧ (s.setMark a m).table.ageTick = s.table.ageTick
    ∧ (s.setMark a m).table.counters = s.table.counters ∧ (s.setMark a m).calls = s.calls
    ∧ (s.setMark a m).seg = s.seg ∧ (s.setMark a m).evac = s.evac ∧ (s.setMark a m).supply = s.supply
    ∧ (s.setMark a m).integ = s.integ ∧ (s.setMark a m).mgmt = s.mgmt := by
  unfold State.setMark
  repeat' split
  all_goals simp

@[simp] theorem State.tagUnit_frame (s : State) (a : Addr) :
    (s.tagUnit a).pending = s.pending ∧ (s.tagUnit a).now = s.now ∧ (s.tagUnit a).samples = s.samples
    ∧ (s.tagUnit a).scratch = s.scratch ∧ (s.tagUnit a).net.straps = s.net.straps
    ∧ (s.tagUnit a).net.banks = s.net.banks ∧ (s.tagUnit a).net.relayTick = s.net.relayTick
    ∧ (s.tagUnit a).poller = s.poller ∧ (s.tagUnit a).air = s.air ∧ (s.tagUnit a).table.pins = s.table.pins
    ∧ (s.tagUnit a).table.watches = s.table.watches ∧ (s.tagUnit a).table.ageTick = s.table.ageTick
    ∧ (s.tagUnit a).calls = s.calls ∧ (s.tagUnit a).seg.state = s.seg.state
    ∧ (s.tagUnit a).seg.holder = s.seg.holder ∧ (s.tagUnit a).seg.causes = s.seg.causes
    ∧ (s.tagUnit a).seg.queue = s.seg.queue ∧ (s.tagUnit a).seg.lease = s.seg.lease
    ∧ (s.tagUnit a).evac.state = s.evac.state ∧ (s.tagUnit a).evac.repeatTimer = s.evac.repeatTimer
    ∧ (s.tagUnit a).evac.panels = s.evac.panels ∧ (s.tagUnit a).evac.sos = s.evac.sos
    ∧ (s.tagUnit a).evac.routes = s.evac.routes ∧ (s.tagUnit a).evac.lines = s.evac.lines
    ∧ (s.tagUnit a).evac.doorTick = s.evac.doorTick ∧ (s.tagUnit a).supply = s.supply
    ∧ (s.tagUnit a).integ = s.integ ∧ (s.tagUnit a).mgmt.parameters = s.mgmt.parameters
    ∧ (s.tagUnit a).mgmt.statusTimer = s.mgmt.statusTimer ∧ (s.tagUnit a).mgmt.isolated = s.mgmt.isolated
    ∧ (s.tagUnit a).mgmt.isolationTimer = s.mgmt.isolationTimer
    ∧ (s.tagUnit a).mgmt.restartPending = s.mgmt.restartPending
    ∧ (s.tagUnit a).mgmt.counters = s.mgmt.counters
    ∧ ∀ pt, ((s.tagUnit a).net.port pt).up = (s.net.port pt).up := by
  unfold State.tagUnit
  simp

@[simp] theorem State.untagUnit_frame (s : State) (a : Addr) :
    (s.untagUnit a).pending = s.pending ∧ (s.untagUnit a).now = s.now ∧ (s.untagUnit a).samples = s.samples
    ∧ (s.untagUnit a).scratch = s.scratch ∧ (s.untagUnit a).net = s.net ∧ (s.untagUnit a).poller = s.poller
    ∧ (s.untagUnit a).air = s.air ∧ (s.untagUnit a).table.pins = s.table.pins
    ∧ (s.untagUnit a).table.watches = s.table.watches ∧ (s.untagUnit a).table.ageTick = s.table.ageTick
    ∧ (s.untagUnit a).table.counters = s.table.counters ∧ (s.untagUnit a).calls = s.calls
    ∧ (s.untagUnit a).seg = s.seg ∧ (s.untagUnit a).evac = s.evac ∧ (s.untagUnit a).supply = s.supply
    ∧ (s.untagUnit a).integ = s.integ ∧ (s.untagUnit a).mgmt = s.mgmt := by
  unfold State.untagUnit
  repeat' split
  all_goals simp

@[simp] theorem State.applyTags_frame (s : State) (tags : List Addr) :
    (s.applyTags tags).pending = s.pending ∧ (s.applyTags tags).now = s.now
    ∧ (s.applyTags tags).samples = s.samples ∧ (s.applyTags tags).scratch = s.scratch
    ∧ (s.applyTags tags).net.straps = s.net.straps ∧ (s.applyTags tags).net.banks = s.net.banks
    ∧ (s.applyTags tags).net.relayTick = s.net.relayTick ∧ (s.applyTags tags).poller = s.poller
    ∧ (s.applyTags tags).air = s.air ∧ (s.applyTags tags).table.pins = s.table.pins
    ∧ (s.applyTags tags).table.watches = s.table.watches
    ∧ (s.applyTags tags).table.ageTick = s.table.ageTick ∧ (s.applyTags tags).calls = s.calls
    ∧ (s.applyTags tags).seg.state = s.seg.state ∧ (s.applyTags tags).seg.holder = s.seg.holder
    ∧ (s.applyTags tags).seg.causes = s.seg.causes ∧ (s.applyTags tags).seg.queue = s.seg.queue
    ∧ (s.applyTags tags).seg.lease = s.seg.lease ∧ (s.applyTags tags).evac.state = s.evac.state
    ∧ (s.applyTags tags).evac.repeatTimer = s.evac.repeatTimer
    ∧ (s.applyTags tags).evac.panels = s.evac.panels ∧ (s.applyTags tags).evac.sos = s.evac.sos
    ∧ (s.applyTags tags).evac.routes = s.evac.routes ∧ (s.applyTags tags).evac.lines = s.evac.lines
    ∧ (s.applyTags tags).evac.doorTick = s.evac.doorTick ∧ (s.applyTags tags).supply = s.supply
    ∧ (s.applyTags tags).integ = s.integ ∧ (s.applyTags tags).mgmt.parameters = s.mgmt.parameters
    ∧ (s.applyTags tags).mgmt.statusTimer = s.mgmt.statusTimer
    ∧ (s.applyTags tags).mgmt.isolated = s.mgmt.isolated
    ∧ (s.applyTags tags).mgmt.isolationTimer = s.mgmt.isolationTimer
    ∧ (s.applyTags tags).mgmt.restartPending = s.mgmt.restartPending
    ∧ (s.applyTags tags).mgmt.counters = s.mgmt.counters
    ∧ ∀ pt, ((s.applyTags tags).net.port pt).up = (s.net.port pt).up := by
  unfold State.applyTags
  exact foldl_rel (R := fun s t : State => t.pending = s.pending ∧ t.now = s.now ∧ t.samples = s.samples ∧ t.scratch = s.scratch ∧ t.net.straps = s.net.straps ∧ t.net.banks = s.net.banks ∧ t.net.relayTick = s.net.relayTick ∧ t.poller = s.poller ∧ t.air = s.air ∧ t.table.pins = s.table.pins ∧ t.table.watches = s.table.watches ∧ t.table.ageTick = s.table.ageTick ∧ t.calls = s.calls ∧ t.seg.state = s.seg.state ∧ t.seg.holder = s.seg.holder ∧ t.seg.causes = s.seg.causes ∧ t.seg.queue = s.seg.queue ∧ t.seg.lease = s.seg.lease ∧ t.evac.state = s.evac.state ∧ t.evac.repeatTimer = s.evac.repeatTimer ∧ t.evac.panels = s.evac.panels ∧ t.evac.sos = s.evac.sos ∧ t.evac.routes = s.evac.routes ∧ t.evac.lines = s.evac.lines ∧ t.evac.doorTick = s.evac.doorTick ∧ t.supply = s.supply ∧ t.integ = s.integ ∧ t.mgmt.parameters = s.mgmt.parameters ∧ t.mgmt.statusTimer = s.mgmt.statusTimer ∧ t.mgmt.isolated = s.mgmt.isolated ∧ t.mgmt.isolationTimer = s.mgmt.isolationTimer ∧ t.mgmt.restartPending = s.mgmt.restartPending ∧ t.mgmt.counters = s.mgmt.counters ∧ ∀ pt, (t.net.port pt).up = (s.net.port pt).up)
    (by simp) (by intro a b c h k; simp_all) (by intro b a; simp) _ s

@[simp] theorem State.releaseTags_frame (s : State) (old : List Addr) :
    (s.releaseTags old).pending = s.pending ∧ (s.releaseTags old).now = s.now
    ∧ (s.releaseTags old).samples = s.samples ∧ (s.releaseTags old).scratch = s.scratch
    ∧ (s.releaseTags old).net = s.net ∧ (s.releaseTags old).poller = s.poller
    ∧ (s.releaseTags old).air = s.air ∧ (s.releaseTags old).table.pins = s.table.pins
    ∧ (s.releaseTags old).table.watches = s.table.watches
    ∧ (s.releaseTags old).table.ageTick = s.table.ageTick
    ∧ (s.releaseTags old).table.counters = s.table.counters ∧ (s.releaseTags old).calls = s.calls
    ∧ (s.releaseTags old).seg = s.seg ∧ (s.releaseTags old).evac = s.evac
    ∧ (s.releaseTags old).supply = s.supply ∧ (s.releaseTags old).integ = s.integ
    ∧ (s.releaseTags old).mgmt = s.mgmt := by
  unfold State.releaseTags
  exact foldl_rel (R := fun s t : State => t.pending = s.pending ∧ t.now = s.now ∧ t.samples = s.samples ∧ t.scratch = s.scratch ∧ t.net = s.net ∧ t.poller = s.poller ∧ t.air = s.air ∧ t.table.pins = s.table.pins ∧ t.table.watches = s.table.watches ∧ t.table.ageTick = s.table.ageTick ∧ t.table.counters = s.table.counters ∧ t.calls = s.calls ∧ t.seg = s.seg ∧ t.evac = s.evac ∧ t.supply = s.supply ∧ t.integ = s.integ ∧ t.mgmt = s.mgmt)
    (by simp) (by intro a b c h k; simp_all) (by intro b a; simp) _ s

@[simp] theorem State.testBreach_frame (s : State) (i : Fin 8) :
    (s.testBreach i).pending = s.pending ∧ (s.testBreach i).now = s.now
    ∧ (s.testBreach i).samples = s.samples ∧ (s.testBreach i).scratch = s.scratch
    ∧ (s.testBreach i).net.straps = s.net.straps ∧ (s.testBreach i).net.banks = s.net.banks
    ∧ (s.testBreach i).net.relayTick = s.net.relayTick ∧ (s.testBreach i).poller = s.poller
    ∧ (s.testBreach i).air = s.air ∧ (s.testBreach i).table = s.table ∧ (s.testBreach i).calls = s.calls
    ∧ (s.testBreach i).seg = s.seg ∧ (s.testBreach i).evac.state = s.evac.state
    ∧ (s.testBreach i).evac.repeatTimer = s.evac.repeatTimer ∧ (s.testBreach i).evac.sos = s.evac.sos
    ∧ (s.testBreach i).evac.routes = s.evac.routes ∧ (s.testBreach i).evac.lines = s.evac.lines
    ∧ (s.testBreach i).evac.doorTick = s.evac.doorTick ∧ (s.testBreach i).supply = s.supply
    ∧ (s.testBreach i).integ = s.integ ∧ (s.testBreach i).mgmt.parameters = s.mgmt.parameters
    ∧ (s.testBreach i).mgmt.statusTimer = s.mgmt.statusTimer
    ∧ (s.testBreach i).mgmt.isolated = s.mgmt.isolated
    ∧ (s.testBreach i).mgmt.isolationTimer = s.mgmt.isolationTimer
    ∧ (s.testBreach i).mgmt.restartPending = s.mgmt.restartPending
    ∧ (s.testBreach i).mgmt.counters = s.mgmt.counters
    ∧ ∀ pt, ((s.testBreach i).net.port pt).up = (s.net.port pt).up := by
  unfold State.testBreach
  repeat' split
  all_goals simp

@[simp] theorem State.testBreaches_frame (s : State) :
    s.testBreaches.pending = s.pending ∧ s.testBreaches.now = s.now ∧ s.testBreaches.samples = s.samples
    ∧ s.testBreaches.scratch = s.scratch ∧ s.testBreaches.net.straps = s.net.straps
    ∧ s.testBreaches.net.banks = s.net.banks ∧ s.testBreaches.net.relayTick = s.net.relayTick
    ∧ s.testBreaches.poller = s.poller ∧ s.testBreaches.air = s.air ∧ s.testBreaches.table = s.table
    ∧ s.testBreaches.calls = s.calls ∧ s.testBreaches.seg = s.seg ∧ s.testBreaches.evac.state = s.evac.state
    ∧ s.testBreaches.evac.repeatTimer = s.evac.repeatTimer ∧ s.testBreaches.evac.sos = s.evac.sos
    ∧ s.testBreaches.evac.routes = s.evac.routes ∧ s.testBreaches.evac.lines = s.evac.lines
    ∧ s.testBreaches.evac.doorTick = s.evac.doorTick ∧ s.testBreaches.supply = s.supply
    ∧ s.testBreaches.integ = s.integ ∧ s.testBreaches.mgmt.parameters = s.mgmt.parameters
    ∧ s.testBreaches.mgmt.statusTimer = s.mgmt.statusTimer ∧ s.testBreaches.mgmt.isolated = s.mgmt.isolated
    ∧ s.testBreaches.mgmt.isolationTimer = s.mgmt.isolationTimer
    ∧ s.testBreaches.mgmt.restartPending = s.mgmt.restartPending
    ∧ s.testBreaches.mgmt.counters = s.mgmt.counters
    ∧ ∀ pt, (s.testBreaches.net.port pt).up = (s.net.port pt).up := by
  unfold State.testBreaches
  exact foldl_rel (R := fun s t : State => t.pending = s.pending ∧ t.now = s.now ∧ t.samples = s.samples ∧ t.scratch = s.scratch ∧ t.net.straps = s.net.straps ∧ t.net.banks = s.net.banks ∧ t.net.relayTick = s.net.relayTick ∧ t.poller = s.poller ∧ t.air = s.air ∧ t.table = s.table ∧ t.calls = s.calls ∧ t.seg = s.seg ∧ t.evac.state = s.evac.state ∧ t.evac.repeatTimer = s.evac.repeatTimer ∧ t.evac.sos = s.evac.sos ∧ t.evac.routes = s.evac.routes ∧ t.evac.lines = s.evac.lines ∧ t.evac.doorTick = s.evac.doorTick ∧ t.supply = s.supply ∧ t.integ = s.integ ∧ t.mgmt.parameters = s.mgmt.parameters ∧ t.mgmt.statusTimer = s.mgmt.statusTimer ∧ t.mgmt.isolated = s.mgmt.isolated ∧ t.mgmt.isolationTimer = s.mgmt.isolationTimer ∧ t.mgmt.restartPending = s.mgmt.restartPending ∧ t.mgmt.counters = s.mgmt.counters ∧ ∀ pt, (t.net.port pt).up = (s.net.port pt).up)
    (by simp) (by intro a b c h k; simp_all) (by intro b a; simp) _ s

/-- The stored tag lists applied one after the other. -/
@[simp] theorem State.applyAllTags_frame (s : State) :
    (pollIndices.foldl (fun s i => s.applyTags (s.panel i).tags) s).pending = s.pending
    ∧ (pollIndices.foldl (fun s i => s.applyTags (s.panel i).tags) s).now = s.now
    ∧ (pollIndices.foldl (fun s i => s.applyTags (s.panel i).tags) s).samples = s.samples
    ∧ (pollIndices.foldl (fun s i => s.applyTags (s.panel i).tags) s).scratch = s.scratch
    ∧ (pollIndices.foldl (fun s i => s.applyTags (s.panel i).tags) s).net.straps = s.net.straps
    ∧ (pollIndices.foldl (fun s i => s.applyTags (s.panel i).tags) s).net.banks = s.net.banks
    ∧ (pollIndices.foldl (fun s i => s.applyTags (s.panel i).tags) s).net.relayTick = s.net.relayTick
    ∧ (pollIndices.foldl (fun s i => s.applyTags (s.panel i).tags) s).poller = s.poller
    ∧ (pollIndices.foldl (fun s i => s.applyTags (s.panel i).tags) s).air = s.air
    ∧ (pollIndices.foldl (fun s i => s.applyTags (s.panel i).tags) s).table.pins = s.table.pins
    ∧ (pollIndices.foldl (fun s i => s.applyTags (s.panel i).tags) s).table.watches = s.table.watches
    ∧ (pollIndices.foldl (fun s i => s.applyTags (s.panel i).tags) s).table.ageTick = s.table.ageTick
    ∧ (pollIndices.foldl (fun s i => s.applyTags (s.panel i).tags) s).calls = s.calls
    ∧ (pollIndices.foldl (fun s i => s.applyTags (s.panel i).tags) s).seg.state = s.seg.state
    ∧ (pollIndices.foldl (fun s i => s.applyTags (s.panel i).tags) s).seg.holder = s.seg.holder
    ∧ (pollIndices.foldl (fun s i => s.applyTags (s.panel i).tags) s).seg.causes = s.seg.causes
    ∧ (pollIndices.foldl (fun s i => s.applyTags (s.panel i).tags) s).seg.queue = s.seg.queue
    ∧ (pollIndices.foldl (fun s i => s.applyTags (s.panel i).tags) s).seg.lease = s.seg.lease
    ∧ (pollIndices.foldl (fun s i => s.applyTags (s.panel i).tags) s).evac.state = s.evac.state
    ∧ (pollIndices.foldl (fun s i => s.applyTags (s.panel i).tags) s).evac.repeatTimer = s.evac.repeatTimer
    ∧ (pollIndices.foldl (fun s i => s.applyTags (s.panel i).tags) s).evac.panels = s.evac.panels
    ∧ (pollIndices.foldl (fun s i => s.applyTags (s.panel i).tags) s).evac.sos = s.evac.sos
    ∧ (pollIndices.foldl (fun s i => s.applyTags (s.panel i).tags) s).evac.routes = s.evac.routes
    ∧ (pollIndices.foldl (fun s i => s.applyTags (s.panel i).tags) s).evac.lines = s.evac.lines
    ∧ (pollIndices.foldl (fun s i => s.applyTags (s.panel i).tags) s).evac.doorTick = s.evac.doorTick
    ∧ (pollIndices.foldl (fun s i => s.applyTags (s.panel i).tags) s).supply = s.supply
    ∧ (pollIndices.foldl (fun s i => s.applyTags (s.panel i).tags) s).integ = s.integ
    ∧ (pollIndices.foldl (fun s i => s.applyTags (s.panel i).tags) s).mgmt.parameters = s.mgmt.parameters
    ∧ (pollIndices.foldl (fun s i => s.applyTags (s.panel i).tags) s).mgmt.statusTimer = s.mgmt.statusTimer
    ∧ (pollIndices.foldl (fun s i => s.applyTags (s.panel i).tags) s).mgmt.isolated = s.mgmt.isolated
    ∧ (pollIndices.foldl (fun s i => s.applyTags (s.panel i).tags) s).mgmt.isolationTimer = s.mgmt.isolationTimer
    ∧ (pollIndices.foldl (fun s i => s.applyTags (s.panel i).tags) s).mgmt.restartPending = s.mgmt.restartPending
    ∧ (pollIndices.foldl (fun s i => s.applyTags (s.panel i).tags) s).mgmt.counters = s.mgmt.counters
    ∧ ∀ pt, ((pollIndices.foldl (fun s i => s.applyTags (s.panel i).tags) s).net.port pt).up = (s.net.port pt).up :=
  foldl_rel (R := fun s t : State => t.pending = s.pending ∧ t.now = s.now ∧ t.samples = s.samples ∧ t.scratch = s.scratch ∧ t.net.straps = s.net.straps ∧ t.net.banks = s.net.banks ∧ t.net.relayTick = s.net.relayTick ∧ t.poller = s.poller ∧ t.air = s.air ∧ t.table.pins = s.table.pins ∧ t.table.watches = s.table.watches ∧ t.table.ageTick = s.table.ageTick ∧ t.calls = s.calls ∧ t.seg.state = s.seg.state ∧ t.seg.holder = s.seg.holder ∧ t.seg.causes = s.seg.causes ∧ t.seg.queue = s.seg.queue ∧ t.seg.lease = s.seg.lease ∧ t.evac.state = s.evac.state ∧ t.evac.repeatTimer = s.evac.repeatTimer ∧ t.evac.panels = s.evac.panels ∧ t.evac.sos = s.evac.sos ∧ t.evac.routes = s.evac.routes ∧ t.evac.lines = s.evac.lines ∧ t.evac.doorTick = s.evac.doorTick ∧ t.supply = s.supply ∧ t.integ = s.integ ∧ t.mgmt.parameters = s.mgmt.parameters ∧ t.mgmt.statusTimer = s.mgmt.statusTimer ∧ t.mgmt.isolated = s.mgmt.isolated ∧ t.mgmt.isolationTimer = s.mgmt.isolationTimer ∧ t.mgmt.restartPending = s.mgmt.restartPending ∧ t.mgmt.counters = s.mgmt.counters ∧ ∀ pt, (t.net.port pt).up = (s.net.port pt).up)
    (by simp) (by intro a b c h k; simp_all) (by intro b a; simp) _ s

@[simp] theorem State.enterEvacuate_frame (s : State) :
    s.enterEvacuate.pending = s.pending ∧ s.enterEvacuate.now = s.now ∧ s.enterEvacuate.samples = s.samples
    ∧ s.enterEvacuate.net.straps = s.net.straps ∧ s.enterEvacuate.net.banks = s.net.banks
    ∧ s.enterEvacuate.net.relayTick = s.net.relayTick ∧ s.enterEvacuate.poller = s.poller
    ∧ s.enterEvacuate.air = s.air ∧ s.enterEvacuate.table.pins = s.table.pins
    ∧ s.enterEvacuate.table.watches = s.table.watches ∧ s.enterEvacuate.table.ageTick = s.table.ageTick
    ∧ s.enterEvacuate.calls.permits = s.calls.permits ∧ s.enterEvacuate.seg.state = s.seg.state
    ∧ s.enterEvacuate.seg.holder = s.seg.holder ∧ s.enterEvacuate.seg.causes = s.seg.causes
    ∧ s.enterEvacuate.seg.queue = s.seg.queue ∧ s.enterEvacuate.seg.lease = s.seg.lease
    ∧ s.enterEvacuate.evac.sos = s.evac.sos ∧ s.enterEvacuate.evac.routes = s.evac.routes
    ∧ s.enterEvacuate.evac.lines = s.evac.lines ∧ s.enterEvacuate.evac.doorTick = s.evac.doorTick
    ∧ s.enterEvacuate.supply = s.supply ∧ s.enterEvacuate.integ = s.integ
    ∧ s.enterEvacuate.mgmt.parameters = s.mgmt.parameters
    ∧ s.enterEvacuate.mgmt.statusTimer = s.mgmt.statusTimer
    ∧ s.enterEvacuate.mgmt.isolated = s.mgmt.isolated
    ∧ s.enterEvacuate.mgmt.isolationTimer = s.mgmt.isolationTimer
    ∧ s.enterEvacuate.mgmt.restartPending = s.mgmt.restartPending
    ∧ s.enterEvacuate.mgmt.counters = s.mgmt.counters
    ∧ ∀ pt, (s.enterEvacuate.net.port pt).up = (s.net.port pt).up := by
  simp [State.enterEvacuate]

@[simp] theorem State.leaveEvacuate_frame (s : State) :
    s.leaveEvacuate.pending = s.pending ∧ s.leaveEvacuate.now = s.now ∧ s.leaveEvacuate.samples = s.samples
    ∧ s.leaveEvacuate.net.straps = s.net.straps ∧ s.leaveEvacuate.net.banks = s.net.banks
    ∧ s.leaveEvacuate.net.relayTick = s.net.relayTick ∧ s.leaveEvacuate.poller = s.poller
    ∧ s.leaveEvacuate.air = s.air ∧ s.leaveEvacuate.table.pins = s.table.pins
    ∧ s.leaveEvacuate.table.watches = s.table.watches ∧ s.leaveEvacuate.table.ageTick = s.table.ageTick
    ∧ s.leaveEvacuate.table.counters = s.table.counters ∧ s.leaveEvacuate.calls = s.calls
    ∧ s.leaveEvacuate.seg = s.seg ∧ s.leaveEvacuate.evac.panels = s.evac.panels
    ∧ s.leaveEvacuate.evac.sos = s.evac.sos ∧ s.leaveEvacuate.evac.routes = s.evac.routes
    ∧ s.leaveEvacuate.evac.lines = s.evac.lines ∧ s.leaveEvacuate.evac.doorTick = s.evac.doorTick
    ∧ s.leaveEvacuate.supply = s.supply ∧ s.leaveEvacuate.integ = s.integ
    ∧ s.leaveEvacuate.mgmt.parameters = s.mgmt.parameters
    ∧ s.leaveEvacuate.mgmt.statusTimer = s.mgmt.statusTimer
    ∧ s.leaveEvacuate.mgmt.isolated = s.mgmt.isolated
    ∧ s.leaveEvacuate.mgmt.isolationTimer = s.mgmt.isolationTimer
    ∧ s.leaveEvacuate.mgmt.restartPending = s.mgmt.restartPending
    ∧ s.leaveEvacuate.mgmt.counters = s.mgmt.counters
    ∧ ∀ pt, (s.leaveEvacuate.net.port pt).up = (s.net.port pt).up := by
  unfold State.leaveEvacuate
  simp

@[simp] theorem State.testOwnGrade_frame (s : State) :
    s.testOwnGrade.pending = s.pending ∧ s.testOwnGrade.now = s.now ∧ s.testOwnGrade.samples = s.samples
    ∧ s.testOwnGrade.net.straps = s.net.straps ∧ s.testOwnGrade.net.banks = s.net.banks
    ∧ s.testOwnGrade.net.relayTick = s.net.relayTick ∧ s.testOwnGrade.poller = s.poller
    ∧ s.testOwnGrade.air = s.air ∧ s.testOwnGrade.table.pins = s.table.pins
    ∧ s.testOwnGrade.table.watches = s.table.watches ∧ s.testOwnGrade.table.ageTick = s.table.ageTick
    ∧ s.testOwnGrade.calls.permits = s.calls.permits ∧ s.testOwnGrade.seg.state = s.seg.state
    ∧ s.testOwnGrade.seg.holder = s.seg.holder ∧ s.testOwnGrade.seg.causes = s.seg.causes
    ∧ s.testOwnGrade.seg.queue = s.seg.queue ∧ s.testOwnGrade.seg.lease = s.seg.lease
    ∧ s.testOwnGrade.evac.sos = s.evac.sos ∧ s.testOwnGrade.evac.routes = s.evac.routes
    ∧ s.testOwnGrade.evac.lines = s.evac.lines ∧ s.testOwnGrade.evac.doorTick = s.evac.doorTick
    ∧ s.testOwnGrade.supply = s.supply ∧ s.testOwnGrade.integ = s.integ
    ∧ s.testOwnGrade.mgmt.parameters = s.mgmt.parameters
    ∧ s.testOwnGrade.mgmt.statusTimer = s.mgmt.statusTimer ∧ s.testOwnGrade.mgmt.isolated = s.mgmt.isolated
    ∧ s.testOwnGrade.mgmt.isolationTimer = s.mgmt.isolationTimer
    ∧ s.testOwnGrade.mgmt.restartPending = s.mgmt.restartPending
    ∧ s.testOwnGrade.mgmt.counters = s.mgmt.counters
    ∧ ∀ pt, (s.testOwnGrade.net.port pt).up = (s.net.port pt).up := by
  unfold State.testOwnGrade
  repeat' split
  all_goals simp

@[simp] theorem State.evacZone_frame (s : State) :
    s.evacZone.pending = s.pending ∧ s.evacZone.now = s.now ∧ s.evacZone.samples = s.samples
    ∧ s.evacZone.net.straps = s.net.straps ∧ s.evacZone.net.banks = s.net.banks
    ∧ s.evacZone.net.relayTick = s.net.relayTick ∧ s.evacZone.poller = s.poller ∧ s.evacZone.air = s.air
    ∧ s.evacZone.table.pins = s.table.pins ∧ s.evacZone.table.watches = s.table.watches
    ∧ s.evacZone.table.ageTick = s.table.ageTick ∧ s.evacZone.calls.permits = s.calls.permits
    ∧ s.evacZone.seg.state = s.seg.state ∧ s.evacZone.seg.holder = s.seg.holder
    ∧ s.evacZone.seg.causes = s.seg.causes ∧ s.evacZone.seg.queue = s.seg.queue
    ∧ s.evacZone.seg.lease = s.seg.lease ∧ s.evacZone.evac.sos = s.evac.sos
    ∧ s.evacZone.evac.routes = s.evac.routes ∧ s.evacZone.evac.lines = s.evac.lines
    ∧ s.evacZone.evac.doorTick = s.evac.doorTick ∧ s.evacZone.supply = s.supply ∧ s.evacZone.integ = s.integ
    ∧ s.evacZone.mgmt.parameters = s.mgmt.parameters ∧ s.evacZone.mgmt.statusTimer = s.mgmt.statusTimer
    ∧ s.evacZone.mgmt.isolated = s.mgmt.isolated ∧ s.evacZone.mgmt.isolationTimer = s.mgmt.isolationTimer
    ∧ s.evacZone.mgmt.restartPending = s.mgmt.restartPending ∧ s.evacZone.mgmt.counters = s.mgmt.counters
    ∧ ∀ pt, (s.evacZone.net.port pt).up = (s.net.port pt).up := by
  unfold State.evacZone
  simp

@[simp] theorem State.orderedOut_frame (s : State) :
    s.orderedOut.pending = s.pending ∧ s.orderedOut.now = s.now ∧ s.orderedOut.samples = s.samples
    ∧ s.orderedOut.net.straps = s.net.straps ∧ s.orderedOut.net.banks = s.net.banks
    ∧ s.orderedOut.net.relayTick = s.net.relayTick ∧ s.orderedOut.poller = s.poller
    ∧ s.orderedOut.air = s.air ∧ s.orderedOut.table.pins = s.table.pins
    ∧ s.orderedOut.table.watches = s.table.watches ∧ s.orderedOut.table.ageTick = s.table.ageTick
    ∧ s.orderedOut.calls.permits = s.calls.permits ∧ s.orderedOut.seg.state = s.seg.state
    ∧ s.orderedOut.seg.holder = s.seg.holder ∧ s.orderedOut.seg.causes = s.seg.causes
    ∧ s.orderedOut.seg.queue = s.seg.queue ∧ s.orderedOut.seg.lease = s.seg.lease
    ∧ s.orderedOut.evac.sos = s.evac.sos ∧ s.orderedOut.evac.routes = s.evac.routes
    ∧ s.orderedOut.evac.lines = s.evac.lines ∧ s.orderedOut.evac.doorTick = s.evac.doorTick
    ∧ s.orderedOut.supply = s.supply ∧ s.orderedOut.integ = s.integ
    ∧ s.orderedOut.mgmt.parameters = s.mgmt.parameters ∧ s.orderedOut.mgmt.statusTimer = s.mgmt.statusTimer
    ∧ s.orderedOut.mgmt.isolated = s.mgmt.isolated
    ∧ s.orderedOut.mgmt.isolationTimer = s.mgmt.isolationTimer
    ∧ s.orderedOut.mgmt.restartPending = s.mgmt.restartPending
    ∧ s.orderedOut.mgmt.counters = s.mgmt.counters
    ∧ ∀ pt, (s.orderedOut.net.port pt).up = (s.net.port pt).up := by
  unfold State.orderedOut
  repeat' split
  all_goals simp

@[simp] theorem State.stoodDown_frame (s : State) :
    s.stoodDown.1.pending = s.pending ∧ s.stoodDown.1.now = s.now ∧ s.stoodDown.1.samples = s.samples
    ∧ s.stoodDown.1.net.straps = s.net.straps ∧ s.stoodDown.1.net.banks = s.net.banks
    ∧ s.stoodDown.1.net.relayTick = s.net.relayTick ∧ s.stoodDown.1.poller = s.poller
    ∧ s.stoodDown.1.air = s.air ∧ s.stoodDown.1.table.pins = s.table.pins
    ∧ s.stoodDown.1.table.watches = s.table.watches ∧ s.stoodDown.1.table.ageTick = s.table.ageTick
    ∧ s.stoodDown.1.table.counters = s.table.counters ∧ s.stoodDown.1.calls = s.calls
    ∧ s.stoodDown.1.seg = s.seg ∧ s.stoodDown.1.evac.panels = s.evac.panels
    ∧ s.stoodDown.1.evac.sos = s.evac.sos ∧ s.stoodDown.1.evac.routes = s.evac.routes
    ∧ s.stoodDown.1.evac.lines = s.evac.lines ∧ s.stoodDown.1.evac.doorTick = s.evac.doorTick
    ∧ s.stoodDown.1.supply = s.supply ∧ s.stoodDown.1.integ = s.integ
    ∧ s.stoodDown.1.mgmt.parameters = s.mgmt.parameters
    ∧ s.stoodDown.1.mgmt.statusTimer = s.mgmt.statusTimer ∧ s.stoodDown.1.mgmt.isolated = s.mgmt.isolated
    ∧ s.stoodDown.1.mgmt.isolationTimer = s.mgmt.isolationTimer
    ∧ s.stoodDown.1.mgmt.restartPending = s.mgmt.restartPending
    ∧ s.stoodDown.1.mgmt.counters = s.mgmt.counters
    ∧ ∀ pt, (s.stoodDown.1.net.port pt).up = (s.net.port pt).up := by
  unfold State.stoodDown
  repeat' split
  all_goals simp

@[simp] theorem State.evacuateOrder_frame (s : State) (f : Frame) :
    (s.evacuateOrder f).pending = s.pending ∧ (s.evacuateOrder f).now = s.now
    ∧ (s.evacuateOrder f).samples = s.samples ∧ (s.evacuateOrder f).net.straps = s.net.straps
    ∧ (s.evacuateOrder f).net.banks = s.net.banks ∧ (s.evacuateOrder f).net.relayTick = s.net.relayTick
    ∧ (s.evacuateOrder f).poller = s.poller ∧ (s.evacuateOrder f).air = s.air
    ∧ (s.evacuateOrder f).table.pins = s.table.pins ∧ (s.evacuateOrder f).table.watches = s.table.watches
    ∧ (s.evacuateOrder f).table.ageTick = s.table.ageTick
    ∧ (s.evacuateOrder f).calls.permits = s.calls.permits ∧ (s.evacuateOrder f).seg.state = s.seg.state
    ∧ (s.evacuateOrder f).seg.holder = s.seg.holder ∧ (s.evacuateOrder f).seg.causes = s.seg.causes
    ∧ (s.evacuateOrder f).seg.queue = s.seg.queue ∧ (s.evacuateOrder f).seg.lease = s.seg.lease
    ∧ (s.evacuateOrder f).evac.sos = s.evac.sos ∧ (s.evacuateOrder f).evac.routes = s.evac.routes
    ∧ (s.evacuateOrder f).evac.lines = s.evac.lines ∧ (s.evacuateOrder f).evac.doorTick = s.evac.doorTick
    ∧ (s.evacuateOrder f).supply = s.supply ∧ (s.evacuateOrder f).integ = s.integ
    ∧ (s.evacuateOrder f).mgmt.parameters = s.mgmt.parameters
    ∧ (s.evacuateOrder f).mgmt.statusTimer = s.mgmt.statusTimer
    ∧ (s.evacuateOrder f).mgmt.isolated = s.mgmt.isolated
    ∧ (s.evacuateOrder f).mgmt.isolationTimer = s.mgmt.isolationTimer
    ∧ (s.evacuateOrder f).mgmt.restartPending = s.mgmt.restartPending
    ∧ (s.evacuateOrder f).mgmt.counters = s.mgmt.counters
    ∧ ∀ pt, ((s.evacuateOrder f).net.port pt).up = (s.net.port pt).up := by
  unfold State.evacuateOrder
  repeat' split
  all_goals simp

@[simp] theorem State.standDownOrder_frame (s : State) (f : Frame) :
    (s.standDownOrder f).pending = s.pending ∧ (s.standDownOrder f).now = s.now
    ∧ (s.standDownOrder f).samples = s.samples ∧ (s.standDownOrder f).net.straps = s.net.straps
    ∧ (s.standDownOrder f).net.banks = s.net.banks ∧ (s.standDownOrder f).net.relayTick = s.net.relayTick
    ∧ (s.standDownOrder f).poller = s.poller ∧ (s.standDownOrder f).air = s.air
    ∧ (s.standDownOrder f).table.pins = s.table.pins ∧ (s.standDownOrder f).table.watches = s.table.watches
    ∧ (s.standDownOrder f).table.ageTick = s.table.ageTick
    ∧ (s.standDownOrder f).table.counters = s.table.counters ∧ (s.standDownOrder f).calls = s.calls
    ∧ (s.standDownOrder f).seg = s.seg ∧ (s.standDownOrder f).evac.panels = s.evac.panels
    ∧ (s.standDownOrder f).evac.sos = s.evac.sos ∧ (s.standDownOrder f).evac.routes = s.evac.routes
    ∧ (s.standDownOrder f).evac.lines = s.evac.lines ∧ (s.standDownOrder f).evac.doorTick = s.evac.doorTick
    ∧ (s.standDownOrder f).supply = s.supply ∧ (s.standDownOrder f).integ = s.integ
    ∧ (s.standDownOrder f).mgmt.parameters = s.mgmt.parameters
    ∧ (s.standDownOrder f).mgmt.statusTimer = s.mgmt.statusTimer
    ∧ (s.standDownOrder f).mgmt.isolated = s.mgmt.isolated
    ∧ (s.standDownOrder f).mgmt.isolationTimer = s.mgmt.isolationTimer
    ∧ (s.standDownOrder f).mgmt.restartPending = s.mgmt.restartPending
    ∧ (s.standDownOrder f).mgmt.counters = s.mgmt.counters
    ∧ ∀ pt, ((s.standDownOrder f).net.port pt).up = (s.net.port pt).up := by
  unfold State.standDownOrder
  repeat' split
  all_goals simp

@[simp] theorem State.zoneGradeNotice_frame (s : State) (f : Frame) :
    (s.zoneGradeNotice f).pending = s.pending ∧ (s.zoneGradeNotice f).now = s.now
    ∧ (s.zoneGradeNotice f).samples = s.samples ∧ (s.zoneGradeNotice f).net.straps = s.net.straps
    ∧ (s.zoneGradeNotice f).net.banks = s.net.banks ∧ (s.zoneGradeNotice f).net.relayTick = s.net.relayTick
    ∧ (s.zoneGradeNotice f).poller = s.poller ∧ (s.zoneGradeNotice f).air = s.air
    ∧ (s.zoneGradeNotice f).table.pins = s.table.pins
    ∧ (s.zoneGradeNotice f).table.watches = s.table.watches
    ∧ (s.zoneGradeNotice f).table.ageTick = s.table.ageTick
    ∧ (s.zoneGradeNotice f).calls.permits = s.calls.permits ∧ (s.zoneGradeNotice f).seg.state = s.seg.state
    ∧ (s.zoneGradeNotice f).seg.holder = s.seg.holder ∧ (s.zoneGradeNotice f).seg.causes = s.seg.causes
    ∧ (s.zoneGradeNotice f).seg.queue = s.seg.queue ∧ (s.zoneGradeNotice f).seg.lease = s.seg.lease
    ∧ (s.zoneGradeNotice f).evac.sos = s.evac.sos ∧ (s.zoneGradeNotice f).evac.routes = s.evac.routes
    ∧ (s.zoneGradeNotice f).evac.lines = s.evac.lines
    ∧ (s.zoneGradeNotice f).evac.doorTick = s.evac.doorTick ∧ (s.zoneGradeNotice f).supply = s.supply
    ∧ (s.zoneGradeNotice f).integ = s.integ ∧ (s.zoneGradeNotice f).mgmt.parameters = s.mgmt.parameters
    ∧ (s.zoneGradeNotice f).mgmt.statusTimer = s.mgmt.statusTimer
    ∧ (s.zoneGradeNotice f).mgmt.isolated = s.mgmt.isolated
    ∧ (s.zoneGradeNotice f).mgmt.isolationTimer = s.mgmt.isolationTimer
    ∧ (s.zoneGradeNotice f).mgmt.restartPending = s.mgmt.restartPending
    ∧ (s.zoneGradeNotice f).mgmt.counters = s.mgmt.counters
    ∧ ∀ pt, ((s.zoneGradeNotice f).net.port pt).up = (s.net.port pt).up := by
  unfold State.zoneGradeNotice
  repeat' split
  all_goals simp

@[simp] theorem State.evacAck_frame (s : State) (f : Frame) :
    (s.evacAck f).pending = s.pending ∧ (s.evacAck f).now = s.now ∧ (s.evacAck f).samples = s.samples
    ∧ (s.evacAck f).scratch = s.scratch ∧ (s.evacAck f).net = s.net ∧ (s.evacAck f).poller = s.poller
    ∧ (s.evacAck f).air = s.air ∧ (s.evacAck f).table.pins = s.table.pins
    ∧ (s.evacAck f).table.watches = s.table.watches ∧ (s.evacAck f).table.ageTick = s.table.ageTick
    ∧ (s.evacAck f).table.counters = s.table.counters ∧ (s.evacAck f).calls = s.calls
    ∧ (s.evacAck f).seg = s.seg ∧ (s.evacAck f).evac.state = s.evac.state
    ∧ (s.evacAck f).evac.repeatTimer = s.evac.repeatTimer ∧ (s.evacAck f).evac.panels = s.evac.panels
    ∧ (s.evacAck f).evac.sos = s.evac.sos ∧ (s.evacAck f).evac.routes = s.evac.routes
    ∧ (s.evacAck f).evac.lines = s.evac.lines ∧ (s.evacAck f).evac.doorTick = s.evac.doorTick
    ∧ (s.evacAck f).supply = s.supply ∧ (s.evacAck f).integ = s.integ ∧ (s.evacAck f).mgmt = s.mgmt := by
  unfold State.evacAck
  simp only
  repeat' split
  all_goals simp

@[simp] theorem State.storeSos_frame (s : State) (a : Addr) :
    (s.storeSos a).pending = s.pending ∧ (s.storeSos a).now = s.now ∧ (s.storeSos a).samples = s.samples
    ∧ (s.storeSos a).scratch = s.scratch ∧ (s.storeSos a).net = s.net ∧ (s.storeSos a).poller = s.poller
    ∧ (s.storeSos a).air = s.air ∧ (s.storeSos a).table = s.table ∧ (s.storeSos a).calls = s.calls
    ∧ (s.storeSos a).seg = s.seg ∧ (s.storeSos a).evac.state = s.evac.state
    ∧ (s.storeSos a).evac.repeatTimer = s.evac.repeatTimer ∧ (s.storeSos a).evac.panels = s.evac.panels
    ∧ (s.storeSos a).evac.routes = s.evac.routes ∧ (s.storeSos a).evac.lines = s.evac.lines
    ∧ (s.storeSos a).evac.doorTick = s.evac.doorTick ∧ (s.storeSos a).supply = s.supply
    ∧ (s.storeSos a).integ = s.integ ∧ (s.storeSos a).mgmt.parameters = s.mgmt.parameters
    ∧ (s.storeSos a).mgmt.statusTimer = s.mgmt.statusTimer ∧ (s.storeSos a).mgmt.isolated = s.mgmt.isolated
    ∧ (s.storeSos a).mgmt.isolationTimer = s.mgmt.isolationTimer
    ∧ (s.storeSos a).mgmt.restartPending = s.mgmt.restartPending
    ∧ (s.storeSos a).mgmt.counters = s.mgmt.counters := by
  unfold State.storeSos
  repeat' split
  all_goals simp

@[simp] theorem State.sosFrame_frame (s : State) (f : Frame) :
    (s.sosFrame f).pending = s.pending ∧ (s.sosFrame f).now = s.now ∧ (s.sosFrame f).samples = s.samples
    ∧ (s.sosFrame f).scratch = s.scratch ∧ (s.sosFrame f).net = s.net ∧ (s.sosFrame f).poller = s.poller
    ∧ (s.sosFrame f).air = s.air ∧ (s.sosFrame f).table = s.table ∧ (s.sosFrame f).calls = s.calls
    ∧ (s.sosFrame f).seg = s.seg ∧ (s.sosFrame f).evac.state = s.evac.state
    ∧ (s.sosFrame f).evac.repeatTimer = s.evac.repeatTimer ∧ (s.sosFrame f).evac.panels = s.evac.panels
    ∧ (s.sosFrame f).evac.routes = s.evac.routes ∧ (s.sosFrame f).evac.lines = s.evac.lines
    ∧ (s.sosFrame f).evac.doorTick = s.evac.doorTick ∧ (s.sosFrame f).supply = s.supply
    ∧ (s.sosFrame f).integ = s.integ ∧ (s.sosFrame f).mgmt.parameters = s.mgmt.parameters
    ∧ (s.sosFrame f).mgmt.statusTimer = s.mgmt.statusTimer ∧ (s.sosFrame f).mgmt.isolated = s.mgmt.isolated
    ∧ (s.sosFrame f).mgmt.isolationTimer = s.mgmt.isolationTimer
    ∧ (s.sosFrame f).mgmt.restartPending = s.mgmt.restartPending
    ∧ (s.sosFrame f).mgmt.counters = s.mgmt.counters := by
  unfold State.sosFrame
  repeat' split
  all_goals simp

@[simp] theorem State.sosCancel_frame (s : State) (f : Frame) :
    (s.sosCancel f).pending = s.pending ∧ (s.sosCancel f).now = s.now ∧ (s.sosCancel f).samples = s.samples
    ∧ (s.sosCancel f).scratch = s.scratch ∧ (s.sosCancel f).net = s.net ∧ (s.sosCancel f).poller = s.poller
    ∧ (s.sosCancel f).air = s.air ∧ (s.sosCancel f).table = s.table ∧ (s.sosCancel f).calls = s.calls
    ∧ (s.sosCancel f).seg = s.seg ∧ (s.sosCancel f).evac.state = s.evac.state
    ∧ (s.sosCancel f).evac.repeatTimer = s.evac.repeatTimer ∧ (s.sosCancel f).evac.panels = s.evac.panels
    ∧ (s.sosCancel f).evac.routes = s.evac.routes ∧ (s.sosCancel f).evac.lines = s.evac.lines
    ∧ (s.sosCancel f).evac.doorTick = s.evac.doorTick ∧ (s.sosCancel f).supply = s.supply
    ∧ (s.sosCancel f).integ = s.integ ∧ (s.sosCancel f).mgmt = s.mgmt := by
  unfold State.sosCancel
  repeat' split
  all_goals simp

@[simp] theorem State.storePanel_frame (s : State) (i : Fin 8) (c : PanelContents) :
    (s.storePanel i c).pending = s.pending ∧ (s.storePanel i c).now = s.now
    ∧ (s.storePanel i c).samples = s.samples ∧ (s.storePanel i c).scratch = s.scratch
    ∧ (s.storePanel i c).net.straps = s.net.straps ∧ (s.storePanel i c).net.banks = s.net.banks
    ∧ (s.storePanel i c).net.relayTick = s.net.relayTick ∧ (s.storePanel i c).poller = s.poller
    ∧ (s.storePanel i c).air = s.air ∧ (s.storePanel i c).table.pins = s.table.pins
    ∧ (s.storePanel i c).table.watches = s.table.watches
    ∧ (s.storePanel i c).table.ageTick = s.table.ageTick ∧ (s.storePanel i c).calls = s.calls
    ∧ (s.storePanel i c).seg.state = s.seg.state ∧ (s.storePanel i c).seg.holder = s.seg.holder
    ∧ (s.storePanel i c).seg.causes = s.seg.causes ∧ (s.storePanel i c).seg.queue = s.seg.queue
    ∧ (s.storePanel i c).seg.lease = s.seg.lease ∧ (s.storePanel i c).evac.state = s.evac.state
    ∧ (s.storePanel i c).evac.repeatTimer = s.evac.repeatTimer ∧ (s.storePanel i c).evac.sos = s.evac.sos
    ∧ (s.storePanel i c).evac.routes = s.evac.routes ∧ (s.storePanel i c).evac.lines = s.evac.lines
    ∧ (s.storePanel i c).evac.doorTick = s.evac.doorTick ∧ (s.storePanel i c).supply = s.supply
    ∧ (s.storePanel i c).integ = s.integ ∧ (s.storePanel i c).mgmt.parameters = s.mgmt.parameters
    ∧ (s.storePanel i c).mgmt.statusTimer = s.mgmt.statusTimer
    ∧ (s.storePanel i c).mgmt.isolated = s.mgmt.isolated
    ∧ (s.storePanel i c).mgmt.isolationTimer = s.mgmt.isolationTimer
    ∧ (s.storePanel i c).mgmt.restartPending = s.mgmt.restartPending
    ∧ (s.storePanel i c).mgmt.counters = s.mgmt.counters
    ∧ ∀ pt, ((s.storePanel i c).net.port pt).up = (s.net.port pt).up := by
  unfold State.storePanel
  simp only
  repeat' split
  all_goals simp

@[simp] theorem State.emptyPanel_frame (s : State) (i : Fin 8) :
    (s.emptyPanel i).pending = s.pending ∧ (s.emptyPanel i).now = s.now
    ∧ (s.emptyPanel i).samples = s.samples ∧ (s.emptyPanel i).scratch = s.scratch
    ∧ (s.emptyPanel i).net = s.net ∧ (s.emptyPanel i).poller = s.poller ∧ (s.emptyPanel i).air = s.air
    ∧ (s.emptyPanel i).table.pins = s.table.pins ∧ (s.emptyPanel i).table.watches = s.table.watches
    ∧ (s.emptyPanel i).table.ageTick = s.table.ageTick ∧ (s.emptyPanel i).table.counters = s.table.counters
    ∧ (s.emptyPanel i).calls = s.calls ∧ (s.emptyPanel i).seg = s.seg
    ∧ (s.emptyPanel i).evac.state = s.evac.state ∧ (s.emptyPanel i).evac.repeatTimer = s.evac.repeatTimer
    ∧ (s.emptyPanel i).evac.sos = s.evac.sos ∧ (s.emptyPanel i).evac.routes = s.evac.routes
    ∧ (s.emptyPanel i).evac.lines = s.evac.lines ∧ (s.emptyPanel i).evac.doorTick = s.evac.doorTick
    ∧ (s.emptyPanel i).evac.counters = s.evac.counters ∧ (s.emptyPanel i).supply = s.supply
    ∧ (s.emptyPanel i).integ = s.integ ∧ (s.emptyPanel i).mgmt = s.mgmt := by
  unfold State.emptyPanel
  simp only
  repeat' split
  all_goals simp

@[simp] theorem State.ageDoors_frame (s : State) :
    s.ageDoors.pending = s.pending ∧ s.ageDoors.now = s.now ∧ s.ageDoors.samples = s.samples
    ∧ s.ageDoors.scratch = s.scratch ∧ s.ageDoors.net.straps = s.net.straps
    ∧ s.ageDoors.net.banks = s.net.banks ∧ s.ageDoors.net.relayTick = s.net.relayTick
    ∧ s.ageDoors.poller = s.poller ∧ s.ageDoors.air = s.air ∧ s.ageDoors.table = s.table
    ∧ s.ageDoors.calls = s.calls ∧ s.ageDoors.seg = s.seg ∧ s.ageDoors.evac.state = s.evac.state
    ∧ s.ageDoors.evac.repeatTimer = s.evac.repeatTimer ∧ s.ageDoors.evac.sos = s.evac.sos
    ∧ s.ageDoors.evac.routes = s.evac.routes ∧ s.ageDoors.evac.lines = s.evac.lines
    ∧ s.ageDoors.evac.doorTick = s.evac.doorTick ∧ s.ageDoors.supply = s.supply ∧ s.ageDoors.integ = s.integ
    ∧ s.ageDoors.mgmt.parameters = s.mgmt.parameters ∧ s.ageDoors.mgmt.statusTimer = s.mgmt.statusTimer
    ∧ s.ageDoors.mgmt.isolated = s.mgmt.isolated ∧ s.ageDoors.mgmt.isolationTimer = s.mgmt.isolationTimer
    ∧ s.ageDoors.mgmt.restartPending = s.mgmt.restartPending ∧ s.ageDoors.mgmt.counters = s.mgmt.counters
    ∧ ∀ pt, (s.ageDoors.net.port pt).up = (s.net.port pt).up := by
  unfold State.ageDoors
  simp

@[simp] theorem State.repeatExpires_frame (s : State) :
    s.repeatExpires.pending = s.pending ∧ s.repeatExpires.now = s.now ∧ s.repeatExpires.samples = s.samples
    ∧ s.repeatExpires.scratch = s.scratch ∧ s.repeatExpires.net.straps = s.net.straps
    ∧ s.repeatExpires.net.banks = s.net.banks ∧ s.repeatExpires.net.relayTick = s.net.relayTick
    ∧ s.repeatExpires.poller = s.poller ∧ s.repeatExpires.air = s.air ∧ s.repeatExpires.table = s.table
    ∧ s.repeatExpires.calls = s.calls ∧ s.repeatExpires.seg = s.seg
    ∧ s.repeatExpires.evac.state = s.evac.state ∧ s.repeatExpires.evac.panels = s.evac.panels
    ∧ s.repeatExpires.evac.sos = s.evac.sos ∧ s.repeatExpires.evac.routes = s.evac.routes
    ∧ s.repeatExpires.evac.lines = s.evac.lines ∧ s.repeatExpires.evac.doorTick = s.evac.doorTick
    ∧ s.repeatExpires.supply = s.supply ∧ s.repeatExpires.integ = s.integ ∧ s.repeatExpires.mgmt = s.mgmt
    ∧ ∀ pt, (s.repeatExpires.net.port pt).up = (s.net.port pt).up := by
  unfold State.repeatExpires
  repeat' split
  all_goals simp

@[simp] theorem State.updateChannel_frame (s : State) (c : Fin 16) (x : Channel) :
    (s.updateChannel c x).pending = s.pending ∧ (s.updateChannel c x).now = s.now
    ∧ (s.updateChannel c x).samples = s.samples ∧ (s.updateChannel c x).scratch = s.scratch
    ∧ (s.updateChannel c x).net = s.net ∧ (s.updateChannel c x).poller = s.poller
    ∧ (s.updateChannel c x).air.zone = s.air.zone ∧ (s.updateChannel c x).air.refuge = s.air.refuge
    ∧ (s.updateChannel c x).air.tripOutput = s.air.tripOutput
    ∧ (s.updateChannel c x).air.reportTimer = s.air.reportTimer ∧ (s.updateChannel c x).table = s.table
    ∧ (s.updateChannel c x).calls = s.calls ∧ (s.updateChannel c x).seg = s.seg
    ∧ (s.updateChannel c x).evac = s.evac ∧ (s.updateChannel c x).supply = s.supply
    ∧ (s.updateChannel c x).integ = s.integ ∧ (s.updateChannel c x).mgmt.parameters = s.mgmt.parameters
    ∧ (s.updateChannel c x).mgmt.statusTimer = s.mgmt.statusTimer
    ∧ (s.updateChannel c x).mgmt.isolated = s.mgmt.isolated
    ∧ (s.updateChannel c x).mgmt.isolationTimer = s.mgmt.isolationTimer
    ∧ (s.updateChannel c x).mgmt.restartPending = s.mgmt.restartPending
    ∧ (s.updateChannel c x).mgmt.counters = s.mgmt.counters := by
  unfold State.updateChannel
  simp only
  repeat' split
  all_goals simp

@[simp] theorem State.startReportTimer_frame (s : State) :
    s.startReportTimer.pending = s.pending ∧ s.startReportTimer.now = s.now
    ∧ s.startReportTimer.samples = s.samples ∧ s.startReportTimer.scratch = s.scratch
    ∧ s.startReportTimer.net.straps = s.net.straps ∧ s.startReportTimer.net.banks = s.net.banks
    ∧ s.startReportTimer.net.relayTick = s.net.relayTick ∧ s.startReportTimer.poller = s.poller
    ∧ s.startReportTimer.air.channels = s.air.channels ∧ s.startReportTimer.air.zone = s.air.zone
    ∧ s.startReportTimer.air.refuge = s.air.refuge ∧ s.startReportTimer.air.tripOutput = s.air.tripOutput
    ∧ s.startReportTimer.table = s.table ∧ s.startReportTimer.calls = s.calls
    ∧ s.startReportTimer.seg = s.seg ∧ s.startReportTimer.evac = s.evac
    ∧ s.startReportTimer.supply = s.supply ∧ s.startReportTimer.integ = s.integ
    ∧ s.startReportTimer.mgmt = s.mgmt ∧ ∀ pt, (s.startReportTimer.net.port pt).up = (s.net.port pt).up := by
  unfold State.startReportTimer
  simp

@[simp] theorem State.airReport_frame (s : State) :
    s.airReport.pending = s.pending ∧ s.airReport.now = s.now ∧ s.airReport.samples = s.samples
    ∧ s.airReport.scratch = s.scratch ∧ s.airReport.net.straps = s.net.straps
    ∧ s.airReport.net.banks = s.net.banks ∧ s.airReport.net.relayTick = s.net.relayTick
    ∧ s.airReport.poller = s.poller ∧ s.airReport.air.channels = s.air.channels
    ∧ s.airReport.air.zone = s.air.zone ∧ s.airReport.air.refuge = s.air.refuge
    ∧ s.airReport.air.tripOutput = s.air.tripOutput ∧ s.airReport.table = s.table
    ∧ s.airReport.calls = s.calls ∧ s.airReport.seg = s.seg ∧ s.airReport.evac = s.evac
    ∧ s.airReport.supply = s.supply ∧ s.airReport.integ = s.integ ∧ s.airReport.mgmt = s.mgmt
    ∧ ∀ pt, (s.airReport.net.port pt).up = (s.net.port pt).up := by
  unfold State.airReport
  simp

@[simp] theorem State.gradeNotices_frame (s : State) (zone refuge : Bool) :
    (s.gradeNotices zone refuge).pending = s.pending ∧ (s.gradeNotices zone refuge).now = s.now
    ∧ (s.gradeNotices zone refuge).samples = s.samples ∧ (s.gradeNotices zone refuge).scratch = s.scratch
    ∧ (s.gradeNotices zone refuge).net.straps = s.net.straps
    ∧ (s.gradeNotices zone refuge).net.banks = s.net.banks
    ∧ (s.gradeNotices zone refuge).net.relayTick = s.net.relayTick
    ∧ (s.gradeNotices zone refuge).poller = s.poller
    ∧ (s.gradeNotices zone refuge).air.channels = s.air.channels
    ∧ (s.gradeNotices zone refuge).air.zone = s.air.zone
    ∧ (s.gradeNotices zone refuge).air.refuge = s.air.refuge
    ∧ (s.gradeNotices zone refuge).air.tripOutput = s.air.tripOutput
    ∧ (s.gradeNotices zone refuge).table = s.table ∧ (s.gradeNotices zone refuge).calls = s.calls
    ∧ (s.gradeNotices zone refuge).seg = s.seg ∧ (s.gradeNotices zone refuge).evac = s.evac
    ∧ (s.gradeNotices zone refuge).supply = s.supply ∧ (s.gradeNotices zone refuge).integ = s.integ
    ∧ (s.gradeNotices zone refuge).mgmt = s.mgmt
    ∧ ∀ pt, ((s.gradeNotices zone refuge).net.port pt).up = (s.net.port pt).up := by
  unfold State.gradeNotices
  repeat' split
  all_goals simp

@[simp] theorem State.regrade_frame (s : State) :
    s.regrade.pending = s.pending ∧ s.regrade.now = s.now ∧ s.regrade.samples = s.samples
    ∧ s.regrade.net.straps = s.net.straps ∧ s.regrade.net.banks = s.net.banks
    ∧ s.regrade.net.relayTick = s.net.relayTick ∧ s.regrade.poller = s.poller
    ∧ s.regrade.table.pins = s.table.pins ∧ s.regrade.table.watches = s.table.watches
    ∧ s.regrade.table.ageTick = s.table.ageTick ∧ s.regrade.calls.permits = s.calls.permits
    ∧ s.regrade.evac.sos = s.evac.sos ∧ s.regrade.evac.routes = s.evac.routes
    ∧ s.regrade.evac.lines = s.evac.lines ∧ s.regrade.evac.doorTick = s.evac.doorTick
    ∧ s.regrade.supply = s.supply ∧ s.regrade.integ = s.integ
    ∧ s.regrade.mgmt.parameters = s.mgmt.parameters ∧ s.regrade.mgmt.statusTimer = s.mgmt.statusTimer
    ∧ s.regrade.mgmt.isolated = s.mgmt.isolated ∧ s.regrade.mgmt.isolationTimer = s.mgmt.isolationTimer
    ∧ s.regrade.mgmt.restartPending = s.mgmt.restartPending ∧ s.regrade.mgmt.counters = s.mgmt.counters
    ∧ ∀ pt, (s.regrade.net.port pt).up = (s.net.port pt).up := by
  unfold State.regrade
  simp only
  repeat' split
  all_goals simp

@[simp] theorem State.takeReading_frame (s : State) (c : Fin 16) (r : Reading) :
    (s.takeReading c r).pending = s.pending ∧ (s.takeReading c r).now = s.now
    ∧ (s.takeReading c r).samples = s.samples ∧ (s.takeReading c r).scratch = s.scratch
    ∧ (s.takeReading c r).net = s.net ∧ (s.takeReading c r).poller = s.poller
    ∧ (s.takeReading c r).air.zone = s.air.zone ∧ (s.takeReading c r).air.refuge = s.air.refuge
    ∧ (s.takeReading c r).air.tripOutput = s.air.tripOutput
    ∧ (s.takeReading c r).air.reportTimer = s.air.reportTimer ∧ (s.takeReading c r).table = s.table
    ∧ (s.takeReading c r).calls = s.calls ∧ (s.takeReading c r).seg = s.seg
    ∧ (s.takeReading c r).evac = s.evac ∧ (s.takeReading c r).supply = s.supply
    ∧ (s.takeReading c r).integ = s.integ ∧ (s.takeReading c r).mgmt.parameters = s.mgmt.parameters
    ∧ (s.takeReading c r).mgmt.statusTimer = s.mgmt.statusTimer
    ∧ (s.takeReading c r).mgmt.isolated = s.mgmt.isolated
    ∧ (s.takeReading c r).mgmt.isolationTimer = s.mgmt.isolationTimer
    ∧ (s.takeReading c r).mgmt.restartPending = s.mgmt.restartPending
    ∧ (s.takeReading c r).mgmt.counters = s.mgmt.counters := by
  unfold State.takeReading
  repeat' split
  all_goals simp

@[simp] theorem State.takeReadings_frame (s : State) (i : Fin 8) (first second : Reading) :
    (s.takeReadings i first second).pending = s.pending ∧ (s.takeReadings i first second).now = s.now
    ∧ (s.takeReadings i first second).samples = s.samples
    ∧ (s.takeReadings i first second).net.straps = s.net.straps
    ∧ (s.takeReadings i first second).net.banks = s.net.banks
    ∧ (s.takeReadings i first second).net.relayTick = s.net.relayTick
    ∧ (s.takeReadings i first second).poller = s.poller
    ∧ (s.takeReadings i first second).table.pins = s.table.pins
    ∧ (s.takeReadings i first second).table.watches = s.table.watches
    ∧ (s.takeReadings i first second).table.ageTick = s.table.ageTick
    ∧ (s.takeReadings i first second).calls.permits = s.calls.permits
    ∧ (s.takeReadings i first second).evac.sos = s.evac.sos
    ∧ (s.takeReadings i first second).evac.routes = s.evac.routes
    ∧ (s.takeReadings i first second).evac.lines = s.evac.lines
    ∧ (s.takeReadings i first second).evac.doorTick = s.evac.doorTick
    ∧ (s.takeReadings i first second).supply = s.supply ∧ (s.takeReadings i first second).integ = s.integ
    ∧ (s.takeReadings i first second).mgmt.parameters = s.mgmt.parameters
    ∧ (s.takeReadings i first second).mgmt.statusTimer = s.mgmt.statusTimer
    ∧ (s.takeReadings i first second).mgmt.isolated = s.mgmt.isolated
    ∧ (s.takeReadings i first second).mgmt.isolationTimer = s.mgmt.isolationTimer
    ∧ (s.takeReadings i first second).mgmt.restartPending = s.mgmt.restartPending
    ∧ (s.takeReadings i first second).mgmt.counters = s.mgmt.counters
    ∧ ∀ pt, ((s.takeReadings i first second).net.port pt).up = (s.net.port pt).up := by
  unfold State.takeReadings
  simp

@[simp] theorem State.refreshChannel_frame (s : State) (c : Fin 16) :
    (s.refreshChannel c).pending = s.pending ∧ (s.refreshChannel c).now = s.now
    ∧ (s.refreshChannel c).samples = s.samples ∧ (s.refreshChannel c).scratch = s.scratch
    ∧ (s.refreshChannel c).net = s.net ∧ (s.refreshChannel c).poller = s.poller
    ∧ (s.refreshChannel c).air.zone = s.air.zone ∧ (s.refreshChannel c).air.refuge = s.air.refuge
    ∧ (s.refreshChannel c).air.tripOutput = s.air.tripOutput
    ∧ (s.refreshChannel c).air.reportTimer = s.air.reportTimer ∧ (s.refreshChannel c).table = s.table
    ∧ (s.refreshChannel c).calls = s.calls ∧ (s.refreshChannel c).seg = s.seg
    ∧ (s.refreshChannel c).evac = s.evac ∧ (s.refreshChannel c).supply = s.supply
    ∧ (s.refreshChannel c).integ = s.integ ∧ (s.refreshChannel c).mgmt.parameters = s.mgmt.parameters
    ∧ (s.refreshChannel c).mgmt.statusTimer = s.mgmt.statusTimer
    ∧ (s.refreshChannel c).mgmt.isolated = s.mgmt.isolated
    ∧ (s.refreshChannel c).mgmt.isolationTimer = s.mgmt.isolationTimer
    ∧ (s.refreshChannel c).mgmt.restartPending = s.mgmt.restartPending
    ∧ (s.refreshChannel c).mgmt.counters = s.mgmt.counters := by
  unfold State.refreshChannel
  simp

@[simp] theorem State.deviceGone_frame (s : State) (i : Fin 8) :
    (s.deviceGone i).pending = s.pending ∧ (s.deviceGone i).now = s.now
    ∧ (s.deviceGone i).samples = s.samples ∧ (s.deviceGone i).net.straps = s.net.straps
    ∧ (s.deviceGone i).net.banks = s.net.banks ∧ (s.deviceGone i).net.relayTick = s.net.relayTick
    ∧ (s.deviceGone i).poller = s.poller ∧ (s.deviceGone i).table.pins = s.table.pins
    ∧ (s.deviceGone i).table.watches = s.table.watches ∧ (s.deviceGone i).table.ageTick = s.table.ageTick
    ∧ (s.deviceGone i).calls.permits = s.calls.permits ∧ (s.deviceGone i).evac.sos = s.evac.sos
    ∧ (s.deviceGone i).evac.routes = s.evac.routes ∧ (s.deviceGone i).evac.lines = s.evac.lines
    ∧ (s.deviceGone i).evac.doorTick = s.evac.doorTick ∧ (s.deviceGone i).supply = s.supply
    ∧ (s.deviceGone i).integ = s.integ ∧ (s.deviceGone i).mgmt.parameters = s.mgmt.parameters
    ∧ (s.deviceGone i).mgmt.statusTimer = s.mgmt.statusTimer
    ∧ (s.deviceGone i).mgmt.isolated = s.mgmt.isolated
    ∧ (s.deviceGone i).mgmt.isolationTimer = s.mgmt.isolationTimer
    ∧ (s.deviceGone i).mgmt.restartPending = s.mgmt.restartPending
    ∧ (s.deviceGone i).mgmt.counters = s.mgmt.counters
    ∧ ∀ pt, ((s.deviceGone i).net.port pt).up = (s.net.port pt).up := by
  unfold State.deviceGone
  simp

@[simp] theorem State.staleExpires_frame (s : State) (c : Fin 16) :
    (s.staleExpires c).pending = s.pending ∧ (s.staleExpires c).now = s.now
    ∧ (s.staleExpires c).samples = s.samples ∧ (s.staleExpires c).net.straps = s.net.straps
    ∧ (s.staleExpires c).net.banks = s.net.banks ∧ (s.staleExpires c).net.relayTick = s.net.relayTick
    ∧ (s.staleExpires c).poller = s.poller ∧ (s.staleExpires c).table.pins = s.table.pins
    ∧ (s.staleExpires c).table.watches = s.table.watches
    ∧ (s.staleExpires c).table.ageTick = s.table.ageTick
    ∧ (s.staleExpires c).calls.permits = s.calls.permits ∧ (s.staleExpires c).evac.sos = s.evac.sos
    ∧ (s.staleExpires c).evac.routes = s.evac.routes ∧ (s.staleExpires c).evac.lines = s.evac.lines
    ∧ (s.staleExpires c).evac.doorTick = s.evac.doorTick ∧ (s.staleExpires c).supply = s.supply
    ∧ (s.staleExpires c).integ = s.integ ∧ (s.staleExpires c).mgmt.parameters = s.mgmt.parameters
    ∧ (s.staleExpires c).mgmt.statusTimer = s.mgmt.statusTimer
    ∧ (s.staleExpires c).mgmt.isolated = s.mgmt.isolated
    ∧ (s.staleExpires c).mgmt.isolationTimer = s.mgmt.isolationTimer
    ∧ (s.staleExpires c).mgmt.restartPending = s.mgmt.restartPending
    ∧ (s.staleExpires c).mgmt.counters = s.mgmt.counters
    ∧ ∀ pt, ((s.staleExpires c).net.port pt).up = (s.net.port pt).up := by
  unfold State.staleExpires
  simp

@[simp] theorem State.airReportExpires_frame (s : State) :
    s.airReportExpires.pending = s.pending ∧ s.airReportExpires.now = s.now
    ∧ s.airReportExpires.samples = s.samples ∧ s.airReportExpires.scratch = s.scratch
    ∧ s.airReportExpires.net.straps = s.net.straps ∧ s.airReportExpires.net.banks = s.net.banks
    ∧ s.airReportExpires.net.relayTick = s.net.relayTick ∧ s.airReportExpires.poller = s.poller
    ∧ s.airReportExpires.air.channels = s.air.channels ∧ s.airReportExpires.air.zone = s.air.zone
    ∧ s.airReportExpires.air.refuge = s.air.refuge ∧ s.airReportExpires.air.tripOutput = s.air.tripOutput
    ∧ s.airReportExpires.table = s.table ∧ s.airReportExpires.calls = s.calls
    ∧ s.airReportExpires.seg = s.seg ∧ s.airReportExpires.evac = s.evac
    ∧ s.airReportExpires.supply = s.supply ∧ s.airReportExpires.integ = s.integ
    ∧ s.airReportExpires.mgmt = s.mgmt ∧ ∀ pt, (s.airReportExpires.net.port pt).up = (s.net.port pt).up := by
  unfold State.airReportExpires
  simp

@[simp] theorem State.respond_frame (s : State) (rq : Request) (cause : Cause) (data : List Byte) :
    (s.respond rq cause data).pending = s.pending ∧ (s.respond rq cause data).now = s.now
    ∧ (s.respond rq cause data).samples = s.samples ∧ (s.respond rq cause data).scratch = s.scratch
    ∧ (s.respond rq cause data).net.straps = s.net.straps
    ∧ (s.respond rq cause data).net.banks = s.net.banks
    ∧ (s.respond rq cause data).net.relayTick = s.net.relayTick
    ∧ (s.respond rq cause data).poller = s.poller ∧ (s.respond rq cause data).air = s.air
    ∧ (s.respond rq cause data).table = s.table ∧ (s.respond rq cause data).calls = s.calls
    ∧ (s.respond rq cause data).seg = s.seg ∧ (s.respond rq cause data).evac = s.evac
    ∧ (s.respond rq cause data).supply = s.supply ∧ (s.respond rq cause data).integ = s.integ
    ∧ (s.respond rq cause data).mgmt.parameters = s.mgmt.parameters
    ∧ (s.respond rq cause data).mgmt.attention = s.mgmt.attention
    ∧ (s.respond rq cause data).mgmt.statusTimer = s.mgmt.statusTimer
    ∧ (s.respond rq cause data).mgmt.isolated = s.mgmt.isolated
    ∧ (s.respond rq cause data).mgmt.isolationTimer = s.mgmt.isolationTimer
    ∧ (s.respond rq cause data).mgmt.restartPending = s.mgmt.restartPending
    ∧ ∀ pt, ((s.respond rq cause data).net.port pt).up = (s.net.port pt).up := by
  unfold State.respond
  repeat' split
  all_goals simp

@[simp] theorem State.endTest_frame (s : State) (c : Fin 16) (o : TestOutcome) :
    (s.endTest c o).pending = s.pending ∧ (s.endTest c o).now = s.now ∧ (s.endTest c o).samples = s.samples
    ∧ (s.endTest c o).scratch = s.scratch ∧ (s.endTest c o).net.straps = s.net.straps
    ∧ (s.endTest c o).net.banks = s.net.banks ∧ (s.endTest c o).net.relayTick = s.net.relayTick
    ∧ (s.endTest c o).poller = s.poller ∧ (s.endTest c o).air.zone = s.air.zone
    ∧ (s.endTest c o).air.refuge = s.air.refuge ∧ (s.endTest c o).air.tripOutput = s.air.tripOutput
    ∧ (s.endTest c o).air.reportTimer = s.air.reportTimer ∧ (s.endTest c o).table = s.table
    ∧ (s.endTest c o).calls = s.calls ∧ (s.endTest c o).seg = s.seg ∧ (s.endTest c o).evac = s.evac
    ∧ (s.endTest c o).supply = s.supply ∧ (s.endTest c o).integ = s.integ
    ∧ (s.endTest c o).mgmt.parameters = s.mgmt.parameters
    ∧ (s.endTest c o).mgmt.statusTimer = s.mgmt.statusTimer
    ∧ (s.endTest c o).mgmt.isolated = s.mgmt.isolated
    ∧ (s.endTest c o).mgmt.isolationTimer = s.mgmt.isolationTimer
    ∧ (s.endTest c o).mgmt.restartPending = s.mgmt.restartPending
    ∧ ∀ pt, ((s.endTest c o).net.port pt).up = (s.net.port pt).up := by
  unfold State.endTest
  repeat' split
  all_goals simp

@[simp] theorem State.feedTest_frame (s : State) (c : Fin 16) :
    (s.feedTest c).pending = s.pending ∧ (s.feedTest c).now = s.now ∧ (s.feedTest c).samples = s.samples
    ∧ (s.feedTest c).scratch = s.scratch ∧ (s.feedTest c).net.straps = s.net.straps
    ∧ (s.feedTest c).net.banks = s.net.banks ∧ (s.feedTest c).net.relayTick = s.net.relayTick
    ∧ (s.feedTest c).poller = s.poller ∧ (s.feedTest c).air.zone = s.air.zone
    ∧ (s.feedTest c).air.refuge = s.air.refuge ∧ (s.feedTest c).air.tripOutput = s.air.tripOutput
    ∧ (s.feedTest c).air.reportTimer = s.air.reportTimer ∧ (s.feedTest c).table = s.table
    ∧ (s.feedTest c).calls = s.calls ∧ (s.feedTest c).seg = s.seg ∧ (s.feedTest c).evac = s.evac
    ∧ (s.feedTest c).supply = s.supply ∧ (s.feedTest c).integ = s.integ
    ∧ (s.feedTest c).mgmt.parameters = s.mgmt.parameters
    ∧ (s.feedTest c).mgmt.statusTimer = s.mgmt.statusTimer ∧ (s.feedTest c).mgmt.isolated = s.mgmt.isolated
    ∧ (s.feedTest c).mgmt.isolationTimer = s.mgmt.isolationTimer
    ∧ (s.feedTest c).mgmt.restartPending = s.mgmt.restartPending
    ∧ ∀ pt, ((s.feedTest c).net.port pt).up = (s.net.port pt).up := by
  unfold State.feedTest
  simp only
  repeat' split
  all_goals simp

@[simp] theorem State.feedTests_frame (s : State) (i : Fin 8) :
    (s.feedTests i).pending = s.pending ∧ (s.feedTests i).now = s.now ∧ (s.feedTests i).samples = s.samples
    ∧ (s.feedTests i).scratch = s.scratch ∧ (s.feedTests i).net.straps = s.net.straps
    ∧ (s.feedTests i).net.banks = s.net.banks ∧ (s.feedTests i).net.relayTick = s.net.relayTick
    ∧ (s.feedTests i).poller = s.poller ∧ (s.feedTests i).air.zone = s.air.zone
    ∧ (s.feedTests i).air.refuge = s.air.refuge ∧ (s.feedTests i).air.tripOutput = s.air.tripOutput
    ∧ (s.feedTests i).air.reportTimer = s.air.reportTimer ∧ (s.feedTests i).table = s.table
    ∧ (s.feedTests i).calls = s.calls ∧ (s.feedTests i).seg = s.seg ∧ (s.feedTests i).evac = s.evac
    ∧ (s.feedTests i).supply = s.supply ∧ (s.feedTests i).integ = s.integ
    ∧ (s.feedTests i).mgmt.parameters = s.mgmt.parameters
    ∧ (s.feedTests i).mgmt.statusTimer = s.mgmt.statusTimer
    ∧ (s.feedTests i).mgmt.isolated = s.mgmt.isolated
    ∧ (s.feedTests i).mgmt.isolationTimer = s.mgmt.isolationTimer
    ∧ (s.feedTests i).mgmt.restartPending = s.mgmt.restartPending
    ∧ ∀ pt, ((s.feedTests i).net.port pt).up = (s.net.port pt).up := by
  unfold State.feedTests
  simp

@[simp] theorem State.abortTests_frame (s : State) (i : Fin 8) :
    (s.abortTests i).pending = s.pending ∧ (s.abortTests i).now = s.now
    ∧ (s.abortTests i).samples = s.samples ∧ (s.abortTests i).scratch = s.scratch
    ∧ (s.abortTests i).net.straps = s.net.straps ∧ (s.abortTests i).net.banks = s.net.banks
    ∧ (s.abortTests i).net.relayTick = s.net.relayTick ∧ (s.abortTests i).poller = s.poller
    ∧ (s.abortTests i).air.zone = s.air.zone ∧ (s.abortTests i).air.refuge = s.air.refuge
    ∧ (s.abortTests i).air.tripOutput = s.air.tripOutput
    ∧ (s.abortTests i).air.reportTimer = s.air.reportTimer ∧ (s.abortTests i).table = s.table
    ∧ (s.abortTests i).calls = s.calls ∧ (s.abortTests i).seg = s.seg ∧ (s.abortTests i).evac = s.evac
    ∧ (s.abortTests i).supply = s.supply ∧ (s.abortTests i).integ = s.integ
    ∧ (s.abortTests i).mgmt.parameters = s.mgmt.parameters
    ∧ (s.abortTests i).mgmt.statusTimer = s.mgmt.statusTimer
    ∧ (s.abortTests i).mgmt.isolated = s.mgmt.isolated
    ∧ (s.abortTests i).mgmt.isolationTimer = s.mgmt.isolationTimer
    ∧ (s.abortTests i).mgmt.restartPending = s.mgmt.restartPending
    ∧ ∀ pt, ((s.abortTests i).net.port pt).up = (s.net.port pt).up := by
  unfold State.abortTests
  simp

@[simp] theorem State.loadChannelRecord_frame (s : State) (c : Fin 16) (r : ChannelRecord) :
    (s.loadChannelRecord c r).pending = s.pending ∧ (s.loadChannelRecord c r).now = s.now
    ∧ (s.loadChannelRecord c r).samples = s.samples ∧ (s.loadChannelRecord c r).net.straps = s.net.straps
    ∧ (s.loadChannelRecord c r).net.banks = s.net.banks
    ∧ (s.loadChannelRecord c r).net.relayTick = s.net.relayTick
    ∧ (s.loadChannelRecord c r).poller = s.poller ∧ (s.loadChannelRecord c r).table.pins = s.table.pins
    ∧ (s.loadChannelRecord c r).table.watches = s.table.watches
    ∧ (s.loadChannelRecord c r).table.ageTick = s.table.ageTick
    ∧ (s.loadChannelRecord c r).calls.permits = s.calls.permits
    ∧ (s.loadChannelRecord c r).evac.sos = s.evac.sos
    ∧ (s.loadChannelRecord c r).evac.routes = s.evac.routes
    ∧ (s.loadChannelRecord c r).evac.lines = s.evac.lines
    ∧ (s.loadChannelRecord c r).evac.doorTick = s.evac.doorTick
    ∧ (s.loadChannelRecord c r).supply = s.supply ∧ (s.loadChannelRecord c r).integ = s.integ
    ∧ (s.loadChannelRecord c r).mgmt.parameters = s.mgmt.parameters
    ∧ (s.loadChannelRecord c r).mgmt.statusTimer = s.mgmt.statusTimer
    ∧ (s.loadChannelRecord c r).mgmt.isolated = s.mgmt.isolated
    ∧ (s.loadChannelRecord c r).mgmt.isolationTimer = s.mgmt.isolationTimer
    ∧ (s.loadChannelRecord c r).mgmt.restartPending = s.mgmt.restartPending
    ∧ ∀ pt, ((s.loadChannelRecord c r).net.port pt).up = (s.net.port pt).up := by
  unfold State.loadChannelRecord
  simp

@[simp] theorem State.releaseTrip_frame (s : State) (c : Fin 16) :
    (s.releaseTrip c).pending = s.pending ∧ (s.releaseTrip c).now = s.now
    ∧ (s.releaseTrip c).samples = s.samples ∧ (s.releaseTrip c).net.straps = s.net.straps
    ∧ (s.releaseTrip c).net.banks = s.net.banks ∧ (s.releaseTrip c).net.relayTick = s.net.relayTick
    ∧ (s.releaseTrip c).poller = s.poller ∧ (s.releaseTrip c).table.pins = s.table.pins
    ∧ (s.releaseTrip c).table.watches = s.table.watches ∧ (s.releaseTrip c).table.ageTick = s.table.ageTick
    ∧ (s.releaseTrip c).calls.permits = s.calls.permits ∧ (s.releaseTrip c).evac.sos = s.evac.sos
    ∧ (s.releaseTrip c).evac.routes = s.evac.routes ∧ (s.releaseTrip c).evac.lines = s.evac.lines
    ∧ (s.releaseTrip c).evac.doorTick = s.evac.doorTick ∧ (s.releaseTrip c).supply = s.supply
    ∧ (s.releaseTrip c).integ = s.integ ∧ (s.releaseTrip c).mgmt.parameters = s.mgmt.parameters
    ∧ (s.releaseTrip c).mgmt.statusTimer = s.mgmt.statusTimer
    ∧ (s.releaseTrip c).mgmt.isolated = s.mgmt.isolated
    ∧ (s.releaseTrip c).mgmt.isolationTimer = s.mgmt.isolationTimer
    ∧ (s.releaseTrip c).mgmt.restartPending = s.mgmt.restartPending
    ∧ (s.releaseTrip c).mgmt.counters = s.mgmt.counters
    ∧ ∀ pt, ((s.releaseTrip c).net.port pt).up = (s.net.port pt).up := by
  unfold State.releaseTrip
  simp

/-- Every channel restarted, one after the other. -/
@[simp] theorem State.restartChannels_frame (s : State) :

    (channelIndices.foldl (fun s c => s.updateChannel c ((s.channel c).restart s.now)) s).pending = s.pending
    ∧ (channelIndices.foldl (fun s c => s.updateChannel c ((s.channel c).restart s.now)) s).now = s.now
    ∧ (channelIndices.foldl (fun s c => s.updateChannel c ((s.channel c).restart s.now)) s).samples = s.samples
    ∧ (channelIndices.foldl (fun s c => s.updateChannel c ((s.channel c).restart s.now)) s).scratch = s.scratch
    ∧ (channelIndices.foldl (fun s c => s.updateChannel c ((s.channel c).restart s.now)) s).net = s.net
    ∧ (channelIndices.foldl (fun s c => s.updateChannel c ((s.channel c).restart s.now)) s).poller = s.poller
    ∧ (channelIndices.foldl (fun s c => s.updateChannel c ((s.channel c).restart s.now)) s).air.zone = s.air.zone
    ∧ (channelIndices.foldl (fun s c => s.updateChannel c ((s.channel c).restart s.now)) s).air.refuge = s.air.refuge
    ∧ (channelIndices.foldl (fun s c => s.updateChannel c ((s.channel c).restart s.now)) s).air.tripOutput = s.air.tripOutput
    ∧ (channelIndices.foldl (fun s c => s.updateChannel c ((s.channel c).restart s.now)) s).air.reportTimer = s.air.reportTimer
    ∧ (channelIndices.foldl (fun s c => s.updateChannel c ((s.channel c).restart s.now)) s).table = s.table
    ∧ (channelIndices.foldl (fun s c => s.updateChannel c ((s.channel c).restart s.now)) s).calls = s.calls
    ∧ (channelIndices.foldl (fun s c => s.updateChannel c ((s.channel c).restart s.now)) s).seg = s.seg
    ∧ (channelIndices.foldl (fun s c => s.updateChannel c ((s.channel c).restart s.now)) s).evac = s.evac
    ∧ (channelIndices.foldl (fun s c => s.updateChannel c ((s.channel c).restart s.now)) s).supply = s.supply
    ∧ (channelIndices.foldl (fun s c => s.updateChannel c ((s.channel c).restart s.now)) s).integ = s.integ
    ∧ (channelIndices.foldl (fun s c => s.updateChannel c ((s.channel c).restart s.now)) s).mgmt.parameters = s.mgmt.parameters
    ∧ (channelIndices.foldl (fun s c => s.updateChannel c ((s.channel c).restart s.now)) s).mgmt.statusTimer = s.mgmt.statusTimer
    ∧ (channelIndices.foldl (fun s c => s.updateChannel c ((s.channel c).restart s.now)) s).mgmt.isolated = s.mgmt.isolated
    ∧ (channelIndices.foldl (fun s c => s.updateChannel c ((s.channel c).restart s.now)) s).mgmt.isolationTimer = s.mgmt.isolationTimer
    ∧ (channelIndices.foldl (fun s c => s.updateChannel c ((s.channel c).restart s.now)) s).mgmt.restartPending = s.mgmt.restartPending
    ∧ (channelIndices.foldl (fun s c => s.updateChannel c ((s.channel c).restart s.now)) s).mgmt.counters = s.mgmt.counters :=
  foldl_rel (R := fun s t : State => t.pending = s.pending ∧ t.now = s.now ∧ t.samples = s.samples ∧ t.scratch = s.scratch ∧ t.net = s.net ∧ t.poller = s.poller ∧ t.air.zone = s.air.zone ∧ t.air.refuge = s.air.refuge ∧ t.air.tripOutput = s.air.tripOutput ∧ t.air.reportTimer = s.air.reportTimer ∧ t.table = s.table ∧ t.calls = s.calls ∧ t.seg = s.seg ∧ t.evac = s.evac ∧ t.supply = s.supply ∧ t.integ = s.integ ∧ t.mgmt.parameters = s.mgmt.parameters ∧ t.mgmt.statusTimer = s.mgmt.statusTimer ∧ t.mgmt.isolated = s.mgmt.isolated ∧ t.mgmt.isolationTimer = s.mgmt.isolationTimer ∧ t.mgmt.restartPending = s.mgmt.restartPending ∧ t.mgmt.counters = s.mgmt.counters)
    (by simp) (by intro a b c h k; simp_all) (by intro b a; simp) _ s

@[simp] theorem State.restartAir_frame (s : State) :
    s.restartAir.pending = s.pending ∧ s.restartAir.now = s.now ∧ s.restartAir.samples = s.samples
    ∧ s.restartAir.net.straps = s.net.straps ∧ s.restartAir.net.banks = s.net.banks
    ∧ s.restartAir.net.relayTick = s.net.relayTick ∧ s.restartAir.poller = s.poller
    ∧ s.restartAir.table.pins = s.table.pins ∧ s.restartAir.table.watches = s.table.watches
    ∧ s.restartAir.table.ageTick = s.table.ageTick ∧ s.restartAir.calls.permits = s.calls.permits
    ∧ s.restartAir.evac.sos = s.evac.sos ∧ s.restartAir.evac.routes = s.evac.routes
    ∧ s.restartAir.evac.lines = s.evac.lines ∧ s.restartAir.evac.doorTick = s.evac.doorTick
    ∧ s.restartAir.supply = s.supply ∧ s.restartAir.integ = s.integ
    ∧ s.restartAir.mgmt.parameters = s.mgmt.parameters ∧ s.restartAir.mgmt.statusTimer = s.mgmt.statusTimer
    ∧ s.restartAir.mgmt.isolated = s.mgmt.isolated
    ∧ s.restartAir.mgmt.isolationTimer = s.mgmt.isolationTimer
    ∧ s.restartAir.mgmt.restartPending = s.mgmt.restartPending
    ∧ s.restartAir.mgmt.counters = s.mgmt.counters
    ∧ ∀ pt, (s.restartAir.net.port pt).up = (s.net.port pt).up := by
  simp [State.restartAir]

@[simp] theorem State.setIntegrity_frame (s : State) (x : IntegrityState) :
    (s.setIntegrity x).pending = s.pending ∧ (s.setIntegrity x).now = s.now
    ∧ (s.setIntegrity x).samples = s.samples ∧ (s.setIntegrity x).net.straps = s.net.straps
    ∧ (s.setIntegrity x).net.banks = s.net.banks ∧ (s.setIntegrity x).net.relayTick = s.net.relayTick
    ∧ (s.setIntegrity x).poller = s.poller ∧ (s.setIntegrity x).table.pins = s.table.pins
    ∧ (s.setIntegrity x).table.watches = s.table.watches
    ∧ (s.setIntegrity x).table.ageTick = s.table.ageTick
    ∧ (s.setIntegrity x).calls.permits = s.calls.permits ∧ (s.setIntegrity x).evac.sos = s.evac.sos
    ∧ (s.setIntegrity x).evac.routes = s.evac.routes ∧ (s.setIntegrity x).evac.lines = s.evac.lines
    ∧ (s.setIntegrity x).evac.doorTick = s.evac.doorTick ∧ (s.setIntegrity x).supply = s.supply
    ∧ (s.setIntegrity x).integ.storedCheck = s.integ.storedCheck
    ∧ (s.setIntegrity x).integ.lastCheck = s.integ.lastCheck
    ∧ (s.setIntegrity x).integ.position = s.integ.position
    ∧ (s.setIntegrity x).integ.runningCrc = s.integ.runningCrc
    ∧ (s.setIntegrity x).integ.scanTimer = s.integ.scanTimer
    ∧ (s.setIntegrity x).integ.suspensionTimer = s.integ.suspensionTimer
    ∧ (s.setIntegrity x).integ.counters = s.integ.counters
    ∧ (s.setIntegrity x).mgmt.parameters = s.mgmt.parameters
    ∧ (s.setIntegrity x).mgmt.statusTimer = s.mgmt.statusTimer
    ∧ (s.setIntegrity x).mgmt.isolated = s.mgmt.isolated
    ∧ (s.setIntegrity x).mgmt.isolationTimer = s.mgmt.isolationTimer
    ∧ (s.setIntegrity x).mgmt.restartPending = s.mgmt.restartPending
    ∧ (s.setIntegrity x).mgmt.counters = s.mgmt.counters
    ∧ ∀ pt, ((s.setIntegrity x).net.port pt).up = (s.net.port pt).up := by
  unfold State.setIntegrity
  repeat' split
  all_goals simp

@[simp] theorem State.suspendScan_frame (s : State) :
    s.suspendScan.pending = s.pending ∧ s.suspendScan.now = s.now ∧ s.suspendScan.samples = s.samples
    ∧ s.suspendScan.scratch = s.scratch ∧ s.suspendScan.net = s.net ∧ s.suspendScan.poller = s.poller
    ∧ s.suspendScan.air = s.air ∧ s.suspendScan.table = s.table ∧ s.suspendScan.calls = s.calls
    ∧ s.suspendScan.seg = s.seg ∧ s.suspendScan.evac = s.evac ∧ s.suspendScan.supply = s.supply
    ∧ s.suspendScan.integ.storedCheck = s.integ.storedCheck
    ∧ s.suspendScan.integ.lastCheck = s.integ.lastCheck ∧ s.suspendScan.mgmt = s.mgmt := by
  unfold State.suspendScan
  repeat' split
  all_goals simp

@[simp] theorem State.protectedWrite_frame (s : State) :
    s.protectedWrite.pending = s.pending ∧ s.protectedWrite.now = s.now
    ∧ s.protectedWrite.samples = s.samples ∧ s.protectedWrite.net.straps = s.net.straps
    ∧ s.protectedWrite.net.banks = s.net.banks ∧ s.protectedWrite.net.relayTick = s.net.relayTick
    ∧ s.protectedWrite.poller = s.poller ∧ s.protectedWrite.table.pins = s.table.pins
    ∧ s.protectedWrite.table.watches = s.table.watches ∧ s.protectedWrite.table.ageTick = s.table.ageTick
    ∧ s.protectedWrite.calls.permits = s.calls.permits ∧ s.protectedWrite.evac.sos = s.evac.sos
    ∧ s.protectedWrite.evac.routes = s.evac.routes ∧ s.protectedWrite.evac.lines = s.evac.lines
    ∧ s.protectedWrite.evac.doorTick = s.evac.doorTick ∧ s.protectedWrite.supply = s.supply
    ∧ s.protectedWrite.integ.storedCheck = s.integ.storedCheck
    ∧ s.protectedWrite.integ.lastCheck = s.integ.lastCheck
    ∧ s.protectedWrite.mgmt.parameters = s.mgmt.parameters
    ∧ s.protectedWrite.mgmt.statusTimer = s.mgmt.statusTimer
    ∧ s.protectedWrite.mgmt.isolated = s.mgmt.isolated
    ∧ s.protectedWrite.mgmt.isolationTimer = s.mgmt.isolationTimer
    ∧ s.protectedWrite.mgmt.restartPending = s.mgmt.restartPending
    ∧ s.protectedWrite.mgmt.counters = s.mgmt.counters
    ∧ ∀ pt, (s.protectedWrite.net.port pt).up = (s.net.port pt).up := by
  unfold State.protectedWrite
  repeat' split
  all_goals simp

@[simp] theorem State.setStoredCheck_frame (s : State) (value : Word) :
    (s.setStoredCheck value).pending = s.pending ∧ (s.setStoredCheck value).now = s.now
    ∧ (s.setStoredCheck value).samples = s.samples ∧ (s.setStoredCheck value).net.straps = s.net.straps
    ∧ (s.setStoredCheck value).net.banks = s.net.banks
    ∧ (s.setStoredCheck value).net.relayTick = s.net.relayTick ∧ (s.setStoredCheck value).poller = s.poller
    ∧ (s.setStoredCheck value).table.pins = s.table.pins
    ∧ (s.setStoredCheck value).table.watches = s.table.watches
    ∧ (s.setStoredCheck value).table.ageTick = s.table.ageTick
    ∧ (s.setStoredCheck value).calls.permits = s.calls.permits
    ∧ (s.setStoredCheck value).evac.sos = s.evac.sos ∧ (s.setStoredCheck value).evac.routes = s.evac.routes
    ∧ (s.setStoredCheck value).evac.lines = s.evac.lines
    ∧ (s.setStoredCheck value).evac.doorTick = s.evac.doorTick ∧ (s.setStoredCheck value).supply = s.supply
    ∧ (s.setStoredCheck value).integ.lastCheck = s.integ.lastCheck
    ∧ (s.setStoredCheck value).integ.counters = s.integ.counters
    ∧ (s.setStoredCheck value).mgmt.parameters = s.mgmt.parameters
    ∧ (s.setStoredCheck value).mgmt.statusTimer = s.mgmt.statusTimer
    ∧ (s.setStoredCheck value).mgmt.isolated = s.mgmt.isolated
    ∧ (s.setStoredCheck value).mgmt.isolationTimer = s.mgmt.isolationTimer
    ∧ (s.setStoredCheck value).mgmt.restartPending = s.mgmt.restartPending
    ∧ (s.setStoredCheck value).mgmt.counters = s.mgmt.counters
    ∧ ∀ pt, ((s.setStoredCheck value).net.port pt).up = (s.net.port pt).up := by
  unfold State.setStoredCheck
  simp

@[simp] theorem State.compare_frame (s : State) (check : Word) :
    (s.compare check).pending = s.pending ∧ (s.compare check).now = s.now
    ∧ (s.compare check).samples = s.samples ∧ (s.compare check).net.straps = s.net.straps
    ∧ (s.compare check).net.banks = s.net.banks ∧ (s.compare check).net.relayTick = s.net.relayTick
    ∧ (s.compare check).poller = s.poller ∧ (s.compare check).table.pins = s.table.pins
    ∧ (s.compare check).table.watches = s.table.watches ∧ (s.compare check).table.ageTick = s.table.ageTick
    ∧ (s.compare check).calls.permits = s.calls.permits ∧ (s.compare check).evac.sos = s.evac.sos
    ∧ (s.compare check).evac.routes = s.evac.routes ∧ (s.compare check).evac.lines = s.evac.lines
    ∧ (s.compare check).evac.doorTick = s.evac.doorTick ∧ (s.compare check).supply = s.supply
    ∧ (s.compare check).integ.storedCheck = s.integ.storedCheck
    ∧ (s.compare check).integ.position = s.integ.position
    ∧ (s.compare check).integ.runningCrc = s.integ.runningCrc
    ∧ (s.compare check).integ.scanTimer = s.integ.scanTimer
    ∧ (s.compare check).integ.suspensionTimer = s.integ.suspensionTimer
    ∧ (s.compare check).mgmt.parameters = s.mgmt.parameters
    ∧ (s.compare check).mgmt.statusTimer = s.mgmt.statusTimer
    ∧ (s.compare check).mgmt.isolated = s.mgmt.isolated
    ∧ (s.compare check).mgmt.isolationTimer = s.mgmt.isolationTimer
    ∧ (s.compare check).mgmt.restartPending = s.mgmt.restartPending
    ∧ (s.compare check).mgmt.counters = s.mgmt.counters
    ∧ ∀ pt, ((s.compare check).net.port pt).up = (s.net.port pt).up := by
  unfold State.compare
  simp only
  repeat' split
  all_goals simp

@[simp] theorem State.scanStep_frame (s : State) :
    s.scanStep.pending = s.pending ∧ s.scanStep.now = s.now ∧ s.scanStep.samples = s.samples
    ∧ s.scanStep.net.straps = s.net.straps ∧ s.scanStep.net.banks = s.net.banks
    ∧ s.scanStep.net.relayTick = s.net.relayTick ∧ s.scanStep.poller = s.poller
    ∧ s.scanStep.table.pins = s.table.pins ∧ s.scanStep.table.watches = s.table.watches
    ∧ s.scanStep.table.ageTick = s.table.ageTick ∧ s.scanStep.calls.permits = s.calls.permits
    ∧ s.scanStep.evac.sos = s.evac.sos ∧ s.scanStep.evac.routes = s.evac.routes
    ∧ s.scanStep.evac.lines = s.evac.lines ∧ s.scanStep.evac.doorTick = s.evac.doorTick
    ∧ s.scanStep.supply = s.supply ∧ s.scanStep.integ.storedCheck = s.integ.storedCheck
    ∧ s.scanStep.integ.suspensionTimer = s.integ.suspensionTimer
    ∧ s.scanStep.mgmt.parameters = s.mgmt.parameters ∧ s.scanStep.mgmt.statusTimer = s.mgmt.statusTimer
    ∧ s.scanStep.mgmt.isolated = s.mgmt.isolated ∧ s.scanStep.mgmt.isolationTimer = s.mgmt.isolationTimer
    ∧ s.scanStep.mgmt.restartPending = s.mgmt.restartPending ∧ s.scanStep.mgmt.counters = s.mgmt.counters
    ∧ ∀ pt, (s.scanStep.net.port pt).up = (s.net.port pt).up := by
  unfold State.scanStep
  repeat' split
  all_goals simp

@[simp] theorem State.suspensionExpires_frame (s : State) :
    s.suspensionExpires.pending = s.pending ∧ s.suspensionExpires.now = s.now
    ∧ s.suspensionExpires.samples = s.samples ∧ s.suspensionExpires.net.straps = s.net.straps
    ∧ s.suspensionExpires.net.banks = s.net.banks ∧ s.suspensionExpires.net.relayTick = s.net.relayTick
    ∧ s.suspensionExpires.poller = s.poller ∧ s.suspensionExpires.table.pins = s.table.pins
    ∧ s.suspensionExpires.table.watches = s.table.watches
    ∧ s.suspensionExpires.table.ageTick = s.table.ageTick
    ∧ s.suspensionExpires.calls.permits = s.calls.permits ∧ s.suspensionExpires.evac.sos = s.evac.sos
    ∧ s.suspensionExpires.evac.routes = s.evac.routes ∧ s.suspensionExpires.evac.lines = s.evac.lines
    ∧ s.suspensionExpires.evac.doorTick = s.evac.doorTick ∧ s.suspensionExpires.supply = s.supply
    ∧ s.suspensionExpires.integ.storedCheck = s.integ.storedCheck
    ∧ s.suspensionExpires.integ.lastCheck = s.integ.lastCheck
    ∧ s.suspensionExpires.mgmt.parameters = s.mgmt.parameters
    ∧ s.suspensionExpires.mgmt.statusTimer = s.mgmt.statusTimer
    ∧ s.suspensionExpires.mgmt.isolated = s.mgmt.isolated
    ∧ s.suspensionExpires.mgmt.isolationTimer = s.mgmt.isolationTimer
    ∧ s.suspensionExpires.mgmt.restartPending = s.mgmt.restartPending
    ∧ s.suspensionExpires.mgmt.counters = s.mgmt.counters
    ∧ ∀ pt, (s.suspensionExpires.net.port pt).up = (s.net.port pt).up := by
  unfold State.suspensionExpires
  simp

@[simp] theorem State.restartIntegrity_frame (s : State) :
    s.restartIntegrity.pending = s.pending ∧ s.restartIntegrity.now = s.now
    ∧ s.restartIntegrity.samples = s.samples ∧ s.restartIntegrity.scratch = s.scratch
    ∧ s.restartIntegrity.net = s.net ∧ s.restartIntegrity.poller = s.poller ∧ s.restartIntegrity.air = s.air
    ∧ s.restartIntegrity.table = s.table ∧ s.restartIntegrity.calls = s.calls
    ∧ s.restartIntegrity.seg = s.seg ∧ s.restartIntegrity.evac = s.evac
    ∧ s.restartIntegrity.supply = s.supply ∧ s.restartIntegrity.integ.storedCheck = s.integ.storedCheck
    ∧ s.restartIntegrity.integ.counters = s.integ.counters ∧ s.restartIntegrity.mgmt = s.mgmt := by
  unfold State.restartIntegrity
  simp

@[simp] theorem State.startIsolation_frame (s : State) :
    s.startIsolation.pending = s.pending ∧ s.startIsolation.now = s.now
    ∧ s.startIsolation.samples = s.samples ∧ s.startIsolation.scratch = s.scratch
    ∧ s.startIsolation.net = s.net ∧ s.startIsolation.poller = s.poller ∧ s.startIsolation.air = s.air
    ∧ s.startIsolation.table = s.table ∧ s.startIsolation.calls = s.calls ∧ s.startIsolation.seg = s.seg
    ∧ s.startIsolation.evac = s.evac ∧ s.startIsolation.supply = s.supply ∧ s.startIsolation.integ = s.integ
    ∧ s.startIsolation.mgmt.parameters = s.mgmt.parameters
    ∧ s.startIsolation.mgmt.attention = s.mgmt.attention
    ∧ s.startIsolation.mgmt.statusTimer = s.mgmt.statusTimer
    ∧ s.startIsolation.mgmt.isolated = s.mgmt.isolated
    ∧ s.startIsolation.mgmt.restartPending = s.mgmt.restartPending
    ∧ s.startIsolation.mgmt.counters = s.mgmt.counters := by
  unfold State.startIsolation
  simp

@[simp] theorem State.isolationExpires_frame (s : State) :
    s.isolationExpires.pending = s.pending ∧ s.isolationExpires.now = s.now
    ∧ s.isolationExpires.samples = s.samples ∧ s.isolationExpires.scratch = s.scratch
    ∧ s.isolationExpires.net = s.net ∧ s.isolationExpires.poller = s.poller ∧ s.isolationExpires.air = s.air
    ∧ s.isolationExpires.table = s.table ∧ s.isolationExpires.calls = s.calls
    ∧ s.isolationExpires.seg = s.seg ∧ s.isolationExpires.evac = s.evac
    ∧ s.isolationExpires.supply = s.supply ∧ s.isolationExpires.integ.state = s.integ.state
    ∧ s.isolationExpires.integ.storedCheck = s.integ.storedCheck
    ∧ s.isolationExpires.integ.lastCheck = s.integ.lastCheck
    ∧ s.isolationExpires.integ.position = s.integ.position
    ∧ s.isolationExpires.integ.runningCrc = s.integ.runningCrc
    ∧ s.isolationExpires.integ.scanTimer = s.integ.scanTimer
    ∧ s.isolationExpires.integ.suspensionTimer = s.integ.suspensionTimer
    ∧ s.isolationExpires.mgmt.parameters = s.mgmt.parameters
    ∧ s.isolationExpires.mgmt.statusTimer = s.mgmt.statusTimer
    ∧ s.isolationExpires.mgmt.restartPending = s.mgmt.restartPending
    ∧ s.isolationExpires.mgmt.counters = s.mgmt.counters := by
  unfold State.isolationExpires
  simp

@[simp] theorem State.restartIsolation_frame (s : State) :
    s.restartIsolation.pending = s.pending ∧ s.restartIsolation.now = s.now
    ∧ s.restartIsolation.samples = s.samples ∧ s.restartIsolation.scratch = s.scratch
    ∧ s.restartIsolation.net = s.net ∧ s.restartIsolation.poller = s.poller ∧ s.restartIsolation.air = s.air
    ∧ s.restartIsolation.table = s.table ∧ s.restartIsolation.calls = s.calls
    ∧ s.restartIsolation.seg = s.seg ∧ s.restartIsolation.evac = s.evac
    ∧ s.restartIsolation.supply = s.supply ∧ s.restartIsolation.integ = s.integ
    ∧ s.restartIsolation.mgmt.parameters = s.mgmt.parameters
    ∧ s.restartIsolation.mgmt.attention = s.mgmt.attention
    ∧ s.restartIsolation.mgmt.statusTimer = s.mgmt.statusTimer
    ∧ s.restartIsolation.mgmt.restartPending = s.mgmt.restartPending
    ∧ s.restartIsolation.mgmt.counters = s.mgmt.counters := by
  unfold State.restartIsolation
  simp

@[simp] theorem State.reshed_frame (s : State) :
    s.reshed.pending = s.pending ∧ s.reshed.now = s.now ∧ s.reshed.samples = s.samples
    ∧ s.reshed.scratch = s.scratch ∧ s.reshed.net.straps = s.net.straps ∧ s.reshed.net.banks = s.net.banks
    ∧ s.reshed.net.relayTick = s.net.relayTick ∧ s.reshed.poller = s.poller ∧ s.reshed.air = s.air
    ∧ s.reshed.table = s.table ∧ s.reshed.calls.permits = s.calls.permits ∧ s.reshed.seg = s.seg
    ∧ s.reshed.evac = s.evac ∧ s.reshed.supply.sample = s.supply.sample
    ∧ s.reshed.supply.entries = s.supply.entries ∧ s.reshed.supply.sampleTick = s.supply.sampleTick
    ∧ s.reshed.integ = s.integ ∧ s.reshed.mgmt.parameters = s.mgmt.parameters
    ∧ s.reshed.mgmt.statusTimer = s.mgmt.statusTimer ∧ s.reshed.mgmt.isolated = s.mgmt.isolated
    ∧ s.reshed.mgmt.isolationTimer = s.mgmt.isolationTimer
    ∧ s.reshed.mgmt.restartPending = s.mgmt.restartPending ∧ s.reshed.mgmt.counters = s.mgmt.counters
    ∧ ∀ pt, (s.reshed.net.port pt).up = (s.net.port pt).up := by
  unfold State.reshed
  simp only
  repeat' split
  all_goals simp

@[simp] theorem State.takeSample_frame (s : State) (x : Sample) :
    (s.takeSample x).pending = s.pending ∧ (s.takeSample x).now = s.now
    ∧ (s.takeSample x).samples = s.samples ∧ (s.takeSample x).scratch = s.scratch
    ∧ (s.takeSample x).net.straps = s.net.straps ∧ (s.takeSample x).net.banks = s.net.banks
    ∧ (s.takeSample x).net.relayTick = s.net.relayTick ∧ (s.takeSample x).poller = s.poller
    ∧ (s.takeSample x).air = s.air ∧ (s.takeSample x).table = s.table
    ∧ (s.takeSample x).calls.permits = s.calls.permits ∧ (s.takeSample x).seg = s.seg
    ∧ (s.takeSample x).evac = s.evac ∧ (s.takeSample x).supply.sampleTick = s.supply.sampleTick
    ∧ (s.takeSample x).integ = s.integ ∧ (s.takeSample x).mgmt.parameters = s.mgmt.parameters
    ∧ (s.takeSample x).mgmt.statusTimer = s.mgmt.statusTimer
    ∧ (s.takeSample x).mgmt.isolated = s.mgmt.isolated
    ∧ (s.takeSample x).mgmt.isolationTimer = s.mgmt.isolationTimer
    ∧ (s.takeSample x).mgmt.restartPending = s.mgmt.restartPending
    ∧ (s.takeSample x).mgmt.counters = s.mgmt.counters
    ∧ ∀ pt, ((s.takeSample x).net.port pt).up = (s.net.port pt).up := by
  unfold State.takeSample
  simp

@[simp] theorem State.loadShedEntry_frame (s : State) (i : Fin 4) (c : ShedConfig) :
    (s.loadShedEntry i c).pending = s.pending ∧ (s.loadShedEntry i c).now = s.now
    ∧ (s.loadShedEntry i c).samples = s.samples ∧ (s.loadShedEntry i c).scratch = s.scratch
    ∧ (s.loadShedEntry i c).net.straps = s.net.straps ∧ (s.loadShedEntry i c).net.banks = s.net.banks
    ∧ (s.loadShedEntry i c).net.relayTick = s.net.relayTick ∧ (s.loadShedEntry i c).poller = s.poller
    ∧ (s.loadShedEntry i c).air = s.air ∧ (s.loadShedEntry i c).table = s.table
    ∧ (s.loadShedEntry i c).calls.permits = s.calls.permits ∧ (s.loadShedEntry i c).seg = s.seg
    ∧ (s.loadShedEntry i c).evac = s.evac ∧ (s.loadShedEntry i c).supply.sample = s.supply.sample
    ∧ (s.loadShedEntry i c).supply.sampleTick = s.supply.sampleTick ∧ (s.loadShedEntry i c).integ = s.integ
    ∧ (s.loadShedEntry i c).mgmt.parameters = s.mgmt.parameters
    ∧ (s.loadShedEntry i c).mgmt.statusTimer = s.mgmt.statusTimer
    ∧ (s.loadShedEntry i c).mgmt.isolated = s.mgmt.isolated
    ∧ (s.loadShedEntry i c).mgmt.isolationTimer = s.mgmt.isolationTimer
    ∧ (s.loadShedEntry i c).mgmt.restartPending = s.mgmt.restartPending
    ∧ (s.loadShedEntry i c).mgmt.counters = s.mgmt.counters
    ∧ ∀ pt, ((s.loadShedEntry i c).net.port pt).up = (s.net.port pt).up := by
  unfold State.loadShedEntry
  simp

@[simp] theorem State.sendPoll_frame (s : State) (i : Fin 8) :
    (s.sendPoll i).pending = s.pending ∧ (s.sendPoll i).now = s.now ∧ (s.sendPoll i).samples = s.samples
    ∧ (s.sendPoll i).scratch = s.scratch ∧ (s.sendPoll i).net = s.net ∧ (s.sendPoll i).air = s.air
    ∧ (s.sendPoll i).table = s.table ∧ (s.sendPoll i).calls = s.calls ∧ (s.sendPoll i).seg = s.seg
    ∧ (s.sendPoll i).evac = s.evac ∧ (s.sendPoll i).supply = s.supply ∧ (s.sendPoll i).integ = s.integ
    ∧ (s.sendPoll i).mgmt = s.mgmt := by
  unfold State.sendPoll
  simp

@[simp] theorem State.nextPoll_frame (s : State) :
    s.nextPoll.pending = s.pending ∧ s.nextPoll.now = s.now ∧ s.nextPoll.samples = s.samples
    ∧ s.nextPoll.scratch = s.scratch ∧ s.nextPoll.net = s.net ∧ s.nextPoll.air = s.air
    ∧ s.nextPoll.table = s.table ∧ s.nextPoll.calls = s.calls ∧ s.nextPoll.seg = s.seg
    ∧ s.nextPoll.evac = s.evac ∧ s.nextPoll.supply = s.supply ∧ s.nextPoll.integ = s.integ
    ∧ s.nextPoll.mgmt = s.mgmt := by
  unfold State.nextPoll
  repeat' split
  all_goals simp

@[simp] theorem State.badReply_frame (s : State) :
    s.badReply.pending = s.pending ∧ s.badReply.now = s.now ∧ s.badReply.samples = s.samples
    ∧ s.badReply.scratch = s.scratch ∧ s.badReply.net = s.net ∧ s.badReply.poller.records = s.poller.records
    ∧ s.badReply.poller.inFlight = s.poller.inFlight ∧ s.badReply.poller.replyTimer = s.poller.replyTimer
    ∧ s.badReply.poller.sequence = s.poller.sequence ∧ s.badReply.air = s.air ∧ s.badReply.table = s.table
    ∧ s.badReply.calls = s.calls ∧ s.badReply.seg = s.seg ∧ s.badReply.evac = s.evac
    ∧ s.badReply.supply = s.supply ∧ s.badReply.integ = s.integ ∧ s.badReply.mgmt = s.mgmt := by
  unfold State.badReply
  simp

@[simp] theorem State.lateReply_frame (s : State) :
    s.lateReply.pending = s.pending ∧ s.lateReply.now = s.now ∧ s.lateReply.samples = s.samples
    ∧ s.lateReply.scratch = s.scratch ∧ s.lateReply.net = s.net
    ∧ s.lateReply.poller.records = s.poller.records ∧ s.lateReply.poller.inFlight = s.poller.inFlight
    ∧ s.lateReply.poller.replyTimer = s.poller.replyTimer ∧ s.lateReply.poller.sequence = s.poller.sequence
    ∧ s.lateReply.air = s.air ∧ s.lateReply.table = s.table ∧ s.lateReply.calls = s.calls
    ∧ s.lateReply.seg = s.seg ∧ s.lateReply.evac = s.evac ∧ s.lateReply.supply = s.supply
    ∧ s.lateReply.integ = s.integ ∧ s.lateReply.mgmt = s.mgmt := by
  unfold State.lateReply
  simp

@[simp] theorem State.misaddressedReply_frame (s : State) :
    s.misaddressedReply.pending = s.pending ∧ s.misaddressedReply.now = s.now
    ∧ s.misaddressedReply.samples = s.samples ∧ s.misaddressedReply.scratch = s.scratch
    ∧ s.misaddressedReply.net = s.net ∧ s.misaddressedReply.poller.records = s.poller.records
    ∧ s.misaddressedReply.poller.inFlight = s.poller.inFlight
    ∧ s.misaddressedReply.poller.replyTimer = s.poller.replyTimer
    ∧ s.misaddressedReply.poller.sequence = s.poller.sequence ∧ s.misaddressedReply.air = s.air
    ∧ s.misaddressedReply.table = s.table ∧ s.misaddressedReply.calls = s.calls
    ∧ s.misaddressedReply.seg = s.seg ∧ s.misaddressedReply.evac = s.evac
    ∧ s.misaddressedReply.supply = s.supply ∧ s.misaddressedReply.integ = s.integ
    ∧ s.misaddressedReply.mgmt = s.mgmt := by
  unfold State.misaddressedReply
  simp

@[simp] theorem State.handPanel_frame (s : State) (i : Fin 8) (p : Option PanelContents) :
    (s.handPanel i p).pending = s.pending ∧ (s.handPanel i p).now = s.now
    ∧ (s.handPanel i p).samples = s.samples ∧ (s.handPanel i p).scratch = s.scratch
    ∧ (s.handPanel i p).net.straps = s.net.straps ∧ (s.handPanel i p).net.banks = s.net.banks
    ∧ (s.handPanel i p).net.relayTick = s.net.relayTick ∧ (s.handPanel i p).poller = s.poller
    ∧ (s.handPanel i p).air = s.air ∧ (s.handPanel i p).table.pins = s.table.pins
    ∧ (s.handPanel i p).table.watches = s.table.watches ∧ (s.handPanel i p).table.ageTick = s.table.ageTick
    ∧ (s.handPanel i p).calls = s.calls ∧ (s.handPanel i p).seg.state = s.seg.state
    ∧ (s.handPanel i p).seg.holder = s.seg.holder ∧ (s.handPanel i p).seg.causes = s.seg.causes
    ∧ (s.handPanel i p).seg.queue = s.seg.queue ∧ (s.handPanel i p).seg.lease = s.seg.lease
    ∧ (s.handPanel i p).evac.state = s.evac.state ∧ (s.handPanel i p).evac.repeatTimer = s.evac.repeatTimer
    ∧ (s.handPanel i p).evac.sos = s.evac.sos ∧ (s.handPanel i p).evac.routes = s.evac.routes
    ∧ (s.handPanel i p).evac.lines = s.evac.lines ∧ (s.handPanel i p).evac.doorTick = s.evac.doorTick
    ∧ (s.handPanel i p).supply = s.supply ∧ (s.handPanel i p).integ = s.integ
    ∧ (s.handPanel i p).mgmt.parameters = s.mgmt.parameters
    ∧ (s.handPanel i p).mgmt.statusTimer = s.mgmt.statusTimer
    ∧ (s.handPanel i p).mgmt.isolated = s.mgmt.isolated
    ∧ (s.handPanel i p).mgmt.isolationTimer = s.mgmt.isolationTimer
    ∧ (s.handPanel i p).mgmt.restartPending = s.mgmt.restartPending
    ∧ (s.handPanel i p).mgmt.counters = s.mgmt.counters
    ∧ ∀ pt, ((s.handPanel i p).net.port pt).up = (s.net.port pt).up := by
  unfold State.handPanel
  repeat' split
  all_goals simp

@[simp] theorem State.takeReply_frame (s : State) (i : Fin 8) (r : Reply) :
    (s.takeReply i r).pending = s.pending ∧ (s.takeReply i r).now = s.now
    ∧ (s.takeReply i r).samples = s.samples ∧ (s.takeReply i r).net.straps = s.net.straps
    ∧ (s.takeReply i r).net.banks = s.net.banks ∧ (s.takeReply i r).net.relayTick = s.net.relayTick
    ∧ (s.takeReply i r).table.pins = s.table.pins ∧ (s.takeReply i r).table.watches = s.table.watches
    ∧ (s.takeReply i r).table.ageTick = s.table.ageTick ∧ (s.takeReply i r).calls.permits = s.calls.permits
    ∧ (s.takeReply i r).evac.sos = s.evac.sos ∧ (s.takeReply i r).evac.routes = s.evac.routes
    ∧ (s.takeReply i r).evac.lines = s.evac.lines ∧ (s.takeReply i r).evac.doorTick = s.evac.doorTick
    ∧ (s.takeReply i r).supply = s.supply ∧ (s.takeReply i r).integ = s.integ
    ∧ (s.takeReply i r).mgmt.parameters = s.mgmt.parameters
    ∧ (s.takeReply i r).mgmt.statusTimer = s.mgmt.statusTimer
    ∧ (s.takeReply i r).mgmt.isolated = s.mgmt.isolated
    ∧ (s.takeReply i r).mgmt.isolationTimer = s.mgmt.isolationTimer
    ∧ (s.takeReply i r).mgmt.restartPending = s.mgmt.restartPending
    ∧ ∀ pt, ((s.takeReply i r).net.port pt).up = (s.net.port pt).up := by
  unfold State.takeReply
  simp

@[simp] theorem State.matchReply_frame (s : State) (r : Reply) :
    (s.matchReply r).pending = s.pending ∧ (s.matchReply r).now = s.now
    ∧ (s.matchReply r).samples = s.samples ∧ (s.matchReply r).net.straps = s.net.straps
    ∧ (s.matchReply r).net.banks = s.net.banks ∧ (s.matchReply r).net.relayTick = s.net.relayTick
    ∧ (s.matchReply r).table.pins = s.table.pins ∧ (s.matchReply r).table.watches = s.table.watches
    ∧ (s.matchReply r).table.ageTick = s.table.ageTick ∧ (s.matchReply r).calls.permits = s.calls.permits
    ∧ (s.matchReply r).evac.sos = s.evac.sos ∧ (s.matchReply r).evac.routes = s.evac.routes
    ∧ (s.matchReply r).evac.lines = s.evac.lines ∧ (s.matchReply r).evac.doorTick = s.evac.doorTick
    ∧ (s.matchReply r).supply = s.supply ∧ (s.matchReply r).integ = s.integ
    ∧ (s.matchReply r).mgmt.parameters = s.mgmt.parameters
    ∧ (s.matchReply r).mgmt.statusTimer = s.mgmt.statusTimer
    ∧ (s.matchReply r).mgmt.isolated = s.mgmt.isolated
    ∧ (s.matchReply r).mgmt.isolationTimer = s.mgmt.isolationTimer
    ∧ (s.matchReply r).mgmt.restartPending = s.mgmt.restartPending
    ∧ ∀ pt, ((s.matchReply r).net.port pt).up = (s.net.port pt).up := by
  unfold State.matchReply
  repeat' split
  all_goals simp

@[simp] theorem State.lineMessage_frame (s : State) (bytes : List Byte) :
    (s.lineMessage bytes).pending = s.pending ∧ (s.lineMessage bytes).now = s.now
    ∧ (s.lineMessage bytes).samples = s.samples ∧ (s.lineMessage bytes).net.straps = s.net.straps
    ∧ (s.lineMessage bytes).net.banks = s.net.banks ∧ (s.lineMessage bytes).net.relayTick = s.net.relayTick
    ∧ (s.lineMessage bytes).table.pins = s.table.pins
    ∧ (s.lineMessage bytes).table.watches = s.table.watches
    ∧ (s.lineMessage bytes).table.ageTick = s.table.ageTick
    ∧ (s.lineMessage bytes).calls.permits = s.calls.permits ∧ (s.lineMessage bytes).evac.sos = s.evac.sos
    ∧ (s.lineMessage bytes).evac.routes = s.evac.routes ∧ (s.lineMessage bytes).evac.lines = s.evac.lines
    ∧ (s.lineMessage bytes).evac.doorTick = s.evac.doorTick ∧ (s.lineMessage bytes).supply = s.supply
    ∧ (s.lineMessage bytes).integ = s.integ ∧ (s.lineMessage bytes).mgmt.parameters = s.mgmt.parameters
    ∧ (s.lineMessage bytes).mgmt.statusTimer = s.mgmt.statusTimer
    ∧ (s.lineMessage bytes).mgmt.isolated = s.mgmt.isolated
    ∧ (s.lineMessage bytes).mgmt.isolationTimer = s.mgmt.isolationTimer
    ∧ (s.lineMessage bytes).mgmt.restartPending = s.mgmt.restartPending
    ∧ ∀ pt, ((s.lineMessage bytes).net.port pt).up = (s.net.port pt).up := by
  unfold State.lineMessage
  repeat' split
  all_goals simp

@[simp] theorem State.missReply_frame (s : State) (i : Fin 8) :
    (s.missReply i).pending = s.pending ∧ (s.missReply i).now = s.now ∧ (s.missReply i).samples = s.samples
    ∧ (s.missReply i).net.straps = s.net.straps ∧ (s.missReply i).net.banks = s.net.banks
    ∧ (s.missReply i).net.relayTick = s.net.relayTick ∧ (s.missReply i).table.pins = s.table.pins
    ∧ (s.missReply i).table.watches = s.table.watches ∧ (s.missReply i).table.ageTick = s.table.ageTick
    ∧ (s.missReply i).calls.permits = s.calls.permits ∧ (s.missReply i).evac.sos = s.evac.sos
    ∧ (s.missReply i).evac.routes = s.evac.routes ∧ (s.missReply i).evac.lines = s.evac.lines
    ∧ (s.missReply i).evac.doorTick = s.evac.doorTick ∧ (s.missReply i).supply = s.supply
    ∧ (s.missReply i).integ = s.integ ∧ (s.missReply i).mgmt.parameters = s.mgmt.parameters
    ∧ (s.missReply i).mgmt.statusTimer = s.mgmt.statusTimer
    ∧ (s.missReply i).mgmt.isolated = s.mgmt.isolated
    ∧ (s.missReply i).mgmt.isolationTimer = s.mgmt.isolationTimer
    ∧ (s.missReply i).mgmt.restartPending = s.mgmt.restartPending
    ∧ ∀ pt, ((s.missReply i).net.port pt).up = (s.net.port pt).up := by
  unfold State.missReply
  simp only
  repeat' split
  all_goals simp

@[simp] theorem State.loadPollRecord_frame (s : State) (i : Fin 8) (c : PollConfig) :
    (s.loadPollRecord i c).pending = s.pending ∧ (s.loadPollRecord i c).now = s.now
    ∧ (s.loadPollRecord i c).samples = s.samples ∧ (s.loadPollRecord i c).scratch = s.scratch
    ∧ (s.loadPollRecord i c).net.straps = s.net.straps ∧ (s.loadPollRecord i c).net.banks = s.net.banks
    ∧ (s.loadPollRecord i c).net.relayTick = s.net.relayTick ∧ (s.loadPollRecord i c).air.zone = s.air.zone
    ∧ (s.loadPollRecord i c).air.refuge = s.air.refuge
    ∧ (s.loadPollRecord i c).air.tripOutput = s.air.tripOutput
    ∧ (s.loadPollRecord i c).air.reportTimer = s.air.reportTimer
    ∧ (s.loadPollRecord i c).table.pins = s.table.pins
    ∧ (s.loadPollRecord i c).table.watches = s.table.watches
    ∧ (s.loadPollRecord i c).table.ageTick = s.table.ageTick
    ∧ (s.loadPollRecord i c).table.counters = s.table.counters ∧ (s.loadPollRecord i c).calls = s.calls
    ∧ (s.loadPollRecord i c).seg = s.seg ∧ (s.loadPollRecord i c).evac.state = s.evac.state
    ∧ (s.loadPollRecord i c).evac.repeatTimer = s.evac.repeatTimer
    ∧ (s.loadPollRecord i c).evac.sos = s.evac.sos ∧ (s.loadPollRecord i c).evac.routes = s.evac.routes
    ∧ (s.loadPollRecord i c).evac.lines = s.evac.lines
    ∧ (s.loadPollRecord i c).evac.doorTick = s.evac.doorTick
    ∧ (s.loadPollRecord i c).evac.counters = s.evac.counters ∧ (s.loadPollRecord i c).supply = s.supply
    ∧ (s.loadPollRecord i c).integ = s.integ ∧ (s.loadPollRecord i c).mgmt.parameters = s.mgmt.parameters
    ∧ (s.loadPollRecord i c).mgmt.statusTimer = s.mgmt.statusTimer
    ∧ (s.loadPollRecord i c).mgmt.isolated = s.mgmt.isolated
    ∧ (s.loadPollRecord i c).mgmt.isolationTimer = s.mgmt.isolationTimer
    ∧ (s.loadPollRecord i c).mgmt.restartPending = s.mgmt.restartPending
    ∧ ∀ pt, ((s.loadPollRecord i c).net.port pt).up = (s.net.port pt).up := by
  unfold State.loadPollRecord
  repeat' split
  all_goals simp

@[simp] theorem State.startStatus_frame (s : State) :
    s.startStatus.pending = s.pending ∧ s.startStatus.now = s.now ∧ s.startStatus.samples = s.samples
    ∧ s.startStatus.scratch = s.scratch ∧ s.startStatus.net = s.net ∧ s.startStatus.poller = s.poller
    ∧ s.startStatus.air = s.air ∧ s.startStatus.table = s.table ∧ s.startStatus.calls = s.calls
    ∧ s.startStatus.seg = s.seg ∧ s.startStatus.evac = s.evac ∧ s.startStatus.supply = s.supply
    ∧ s.startStatus.integ = s.integ ∧ s.startStatus.mgmt.parameters = s.mgmt.parameters
    ∧ s.startStatus.mgmt.attention = s.mgmt.attention ∧ s.startStatus.mgmt.isolated = s.mgmt.isolated
    ∧ s.startStatus.mgmt.isolationTimer = s.mgmt.isolationTimer
    ∧ s.startStatus.mgmt.restartPending = s.mgmt.restartPending
    ∧ s.startStatus.mgmt.counters = s.mgmt.counters := by
  unfold State.startStatus
  simp

@[simp] theorem State.sendStatus_frame (s : State) :
    s.sendStatus.pending = s.pending ∧ s.sendStatus.now = s.now ∧ s.sendStatus.samples = s.samples
    ∧ s.sendStatus.scratch = s.scratch ∧ s.sendStatus.net.straps = s.net.straps
    ∧ s.sendStatus.net.banks = s.net.banks ∧ s.sendStatus.net.relayTick = s.net.relayTick
    ∧ s.sendStatus.poller = s.poller ∧ s.sendStatus.air = s.air ∧ s.sendStatus.table = s.table
    ∧ s.sendStatus.calls = s.calls ∧ s.sendStatus.seg = s.seg ∧ s.sendStatus.evac = s.evac
    ∧ s.sendStatus.supply = s.supply ∧ s.sendStatus.integ = s.integ
    ∧ s.sendStatus.mgmt.parameters = s.mgmt.parameters ∧ s.sendStatus.mgmt.attention = s.mgmt.attention
    ∧ s.sendStatus.mgmt.statusTimer = s.mgmt.statusTimer ∧ s.sendStatus.mgmt.isolated = s.mgmt.isolated
    ∧ s.sendStatus.mgmt.isolationTimer = s.mgmt.isolationTimer
    ∧ s.sendStatus.mgmt.restartPending = s.mgmt.restartPending
    ∧ ∀ pt, (s.sendStatus.net.port pt).up = (s.net.port pt).up := by
  unfold State.sendStatus
  repeat' split
  all_goals simp

@[simp] theorem State.statusExpires_frame (s : State) :
    s.statusExpires.pending = s.pending ∧ s.statusExpires.now = s.now ∧ s.statusExpires.samples = s.samples
    ∧ s.statusExpires.scratch = s.scratch ∧ s.statusExpires.net.straps = s.net.straps
    ∧ s.statusExpires.net.banks = s.net.banks ∧ s.statusExpires.net.relayTick = s.net.relayTick
    ∧ s.statusExpires.poller = s.poller ∧ s.statusExpires.air = s.air ∧ s.statusExpires.table = s.table
    ∧ s.statusExpires.calls = s.calls ∧ s.statusExpires.seg = s.seg ∧ s.statusExpires.evac = s.evac
    ∧ s.statusExpires.supply = s.supply ∧ s.statusExpires.integ = s.integ
    ∧ s.statusExpires.mgmt.parameters = s.mgmt.parameters
    ∧ s.statusExpires.mgmt.attention = s.mgmt.attention ∧ s.statusExpires.mgmt.isolated = s.mgmt.isolated
    ∧ s.statusExpires.mgmt.isolationTimer = s.mgmt.isolationTimer
    ∧ s.statusExpires.mgmt.restartPending = s.mgmt.restartPending
    ∧ ∀ pt, (s.statusExpires.net.port pt).up = (s.net.port pt).up := by
  unfold State.statusExpires
  simp

@[simp] theorem State.restartMgmt_frame (s : State) :
    s.restartMgmt.pending = s.pending ∧ s.restartMgmt.now = s.now ∧ s.restartMgmt.samples = s.samples
    ∧ s.restartMgmt.scratch = s.scratch ∧ s.restartMgmt.net = s.net ∧ s.restartMgmt.poller = s.poller
    ∧ s.restartMgmt.air = s.air ∧ s.restartMgmt.table = s.table ∧ s.restartMgmt.calls = s.calls
    ∧ s.restartMgmt.seg = s.seg ∧ s.restartMgmt.evac = s.evac ∧ s.restartMgmt.supply = s.supply
    ∧ s.restartMgmt.integ = s.integ ∧ s.restartMgmt.mgmt.parameters = s.mgmt.parameters
    ∧ s.restartMgmt.mgmt.isolated = s.mgmt.isolated
    ∧ s.restartMgmt.mgmt.isolationTimer = s.mgmt.isolationTimer
    ∧ s.restartMgmt.mgmt.counters = s.mgmt.counters := by
  unfold State.restartMgmt
  simp

@[simp] theorem State.linkChanged_frame (s : State) (p : Backbone) (up : Bool) :
    (s.linkChanged p up).pending = s.pending ∧ (s.linkChanged p up).now = s.now
    ∧ (s.linkChanged p up).samples = s.samples ∧ (s.linkChanged p up).scratch = s.scratch
    ∧ (s.linkChanged p up).net.straps = s.net.straps ∧ (s.linkChanged p up).net.banks = s.net.banks
    ∧ (s.linkChanged p up).net.relayTick = s.net.relayTick ∧ (s.linkChanged p up).poller = s.poller
    ∧ (s.linkChanged p up).air = s.air ∧ (s.linkChanged p up).table = s.table
    ∧ (s.linkChanged p up).calls = s.calls ∧ (s.linkChanged p up).seg = s.seg
    ∧ (s.linkChanged p up).evac = s.evac ∧ (s.linkChanged p up).supply = s.supply
    ∧ (s.linkChanged p up).integ = s.integ ∧ (s.linkChanged p up).mgmt.parameters = s.mgmt.parameters
    ∧ (s.linkChanged p up).mgmt.statusTimer = s.mgmt.statusTimer
    ∧ (s.linkChanged p up).mgmt.isolated = s.mgmt.isolated
    ∧ (s.linkChanged p up).mgmt.isolationTimer = s.mgmt.isolationTimer
    ∧ (s.linkChanged p up).mgmt.restartPending = s.mgmt.restartPending
    ∧ (s.linkChanged p up).mgmt.counters = s.mgmt.counters := by
  unfold State.linkChanged
  simp

@[simp] theorem State.goUp_frame (s : State) (p : Backbone) :
    (s.goUp p).pending = s.pending ∧ (s.goUp p).now = s.now ∧ (s.goUp p).samples = s.samples
    ∧ (s.goUp p).scratch = s.scratch ∧ (s.goUp p).net.straps = s.net.straps
    ∧ (s.goUp p).net.banks = s.net.banks ∧ (s.goUp p).net.relayTick = s.net.relayTick
    ∧ (s.goUp p).poller = s.poller ∧ (s.goUp p).air = s.air ∧ (s.goUp p).table = s.table
    ∧ (s.goUp p).calls = s.calls ∧ (s.goUp p).seg = s.seg ∧ (s.goUp p).evac = s.evac
    ∧ (s.goUp p).supply = s.supply ∧ (s.goUp p).integ = s.integ
    ∧ (s.goUp p).mgmt.parameters = s.mgmt.parameters ∧ (s.goUp p).mgmt.statusTimer = s.mgmt.statusTimer
    ∧ (s.goUp p).mgmt.isolated = s.mgmt.isolated ∧ (s.goUp p).mgmt.isolationTimer = s.mgmt.isolationTimer
    ∧ (s.goUp p).mgmt.restartPending = s.mgmt.restartPending ∧ (s.goUp p).mgmt.counters = s.mgmt.counters := by
  unfold State.goUp
  repeat' split
  all_goals simp

@[simp] theorem State.loadChannel_frame (s : State) (x : Word) (f : ChannelFields) :
    (s.loadChannel x f).1.pending = s.pending ∧ (s.loadChannel x f).1.now = s.now
    ∧ (s.loadChannel x f).1.samples = s.samples ∧ (s.loadChannel x f).1.net.straps = s.net.straps
    ∧ (s.loadChannel x f).1.net.banks = s.net.banks ∧ (s.loadChannel x f).1.net.relayTick = s.net.relayTick
    ∧ (s.loadChannel x f).1.poller = s.poller ∧ (s.loadChannel x f).1.table.pins = s.table.pins
    ∧ (s.loadChannel x f).1.table.watches = s.table.watches
    ∧ (s.loadChannel x f).1.table.ageTick = s.table.ageTick
    ∧ (s.loadChannel x f).1.calls.permits = s.calls.permits ∧ (s.loadChannel x f).1.evac.sos = s.evac.sos
    ∧ (s.loadChannel x f).1.evac.routes = s.evac.routes ∧ (s.loadChannel x f).1.evac.lines = s.evac.lines
    ∧ (s.loadChannel x f).1.evac.doorTick = s.evac.doorTick ∧ (s.loadChannel x f).1.supply = s.supply
    ∧ (s.loadChannel x f).1.integ.storedCheck = s.integ.storedCheck
    ∧ (s.loadChannel x f).1.integ.lastCheck = s.integ.lastCheck
    ∧ (s.loadChannel x f).1.mgmt.parameters = s.mgmt.parameters
    ∧ (s.loadChannel x f).1.mgmt.statusTimer = s.mgmt.statusTimer
    ∧ (s.loadChannel x f).1.mgmt.isolated = s.mgmt.isolated
    ∧ (s.loadChannel x f).1.mgmt.isolationTimer = s.mgmt.isolationTimer
    ∧ (s.loadChannel x f).1.mgmt.restartPending = s.mgmt.restartPending
    ∧ ∀ pt, ((s.loadChannel x f).1.net.port pt).up = (s.net.port pt).up := by
  unfold State.loadChannel
  simp only [loaded]
  repeat' split
  all_goals simp

@[simp] theorem State.loadPoll_frame (s : State) (x : Word) (f : PollFields) :
    (s.loadPoll x f).1.pending = s.pending ∧ (s.loadPoll x f).1.now = s.now
    ∧ (s.loadPoll x f).1.samples = s.samples ∧ (s.loadPoll x f).1.scratch = s.scratch
    ∧ (s.loadPoll x f).1.net.straps = s.net.straps ∧ (s.loadPoll x f).1.net.banks = s.net.banks
    ∧ (s.loadPoll x f).1.net.relayTick = s.net.relayTick ∧ (s.loadPoll x f).1.air.zone = s.air.zone
    ∧ (s.loadPoll x f).1.air.refuge = s.air.refuge ∧ (s.loadPoll x f).1.air.tripOutput = s.air.tripOutput
    ∧ (s.loadPoll x f).1.air.reportTimer = s.air.reportTimer ∧ (s.loadPoll x f).1.table.pins = s.table.pins
    ∧ (s.loadPoll x f).1.table.watches = s.table.watches
    ∧ (s.loadPoll x f).1.table.ageTick = s.table.ageTick
    ∧ (s.loadPoll x f).1.table.counters = s.table.counters ∧ (s.loadPoll x f).1.calls = s.calls
    ∧ (s.loadPoll x f).1.seg = s.seg ∧ (s.loadPoll x f).1.evac.state = s.evac.state
    ∧ (s.loadPoll x f).1.evac.repeatTimer = s.evac.repeatTimer ∧ (s.loadPoll x f).1.evac.sos = s.evac.sos
    ∧ (s.loadPoll x f).1.evac.routes = s.evac.routes ∧ (s.loadPoll x f).1.evac.lines = s.evac.lines
    ∧ (s.loadPoll x f).1.evac.doorTick = s.evac.doorTick
    ∧ (s.loadPoll x f).1.evac.counters = s.evac.counters ∧ (s.loadPoll x f).1.supply = s.supply
    ∧ (s.loadPoll x f).1.integ = s.integ ∧ (s.loadPoll x f).1.mgmt.parameters = s.mgmt.parameters
    ∧ (s.loadPoll x f).1.mgmt.statusTimer = s.mgmt.statusTimer
    ∧ (s.loadPoll x f).1.mgmt.isolated = s.mgmt.isolated
    ∧ (s.loadPoll x f).1.mgmt.isolationTimer = s.mgmt.isolationTimer
    ∧ (s.loadPoll x f).1.mgmt.restartPending = s.mgmt.restartPending
    ∧ ∀ pt, ((s.loadPoll x f).1.net.port pt).up = (s.net.port pt).up := by
  unfold State.loadPoll
  simp only [loaded]
  repeat' split
  all_goals simp

@[simp] theorem State.loadPin_frame (s : State) (x : Word) (f : PinFields) :
    (s.loadPin x f).1.pending = s.pending ∧ (s.loadPin x f).1.now = s.now
    ∧ (s.loadPin x f).1.samples = s.samples ∧ (s.loadPin x f).1.net.straps = s.net.straps
    ∧ (s.loadPin x f).1.net.banks = s.net.banks ∧ (s.loadPin x f).1.net.relayTick = s.net.relayTick
    ∧ (s.loadPin x f).1.poller = s.poller ∧ (s.loadPin x f).1.table.watches = s.table.watches
    ∧ (s.loadPin x f).1.table.ageTick = s.table.ageTick ∧ (s.loadPin x f).1.calls.permits = s.calls.permits
    ∧ (s.loadPin x f).1.evac.sos = s.evac.sos ∧ (s.loadPin x f).1.evac.routes = s.evac.routes
    ∧ (s.loadPin x f).1.evac.lines = s.evac.lines ∧ (s.loadPin x f).1.evac.doorTick = s.evac.doorTick
    ∧ (s.loadPin x f).1.supply = s.supply ∧ (s.loadPin x f).1.integ.storedCheck = s.integ.storedCheck
    ∧ (s.loadPin x f).1.integ.lastCheck = s.integ.lastCheck
    ∧ (s.loadPin x f).1.mgmt.parameters = s.mgmt.parameters
    ∧ (s.loadPin x f).1.mgmt.statusTimer = s.mgmt.statusTimer
    ∧ (s.loadPin x f).1.mgmt.isolated = s.mgmt.isolated
    ∧ (s.loadPin x f).1.mgmt.isolationTimer = s.mgmt.isolationTimer
    ∧ (s.loadPin x f).1.mgmt.restartPending = s.mgmt.restartPending
    ∧ (s.loadPin x f).1.mgmt.counters = s.mgmt.counters
    ∧ ∀ pt, ((s.loadPin x f).1.net.port pt).up = (s.net.port pt).up := by
  unfold State.loadPin
  simp only [loaded]
  repeat' split
  all_goals simp

@[simp] theorem State.loadWatch_frame (s : State) (x : Word) (f : WatchFields) :
    (s.loadWatch x f).1.pending = s.pending ∧ (s.loadWatch x f).1.now = s.now
    ∧ (s.loadWatch x f).1.samples = s.samples ∧ (s.loadWatch x f).1.scratch = s.scratch
    ∧ (s.loadWatch x f).1.net = s.net ∧ (s.loadWatch x f).1.poller = s.poller
    ∧ (s.loadWatch x f).1.air = s.air ∧ (s.loadWatch x f).1.table.entries = s.table.entries
    ∧ (s.loadWatch x f).1.table.pins = s.table.pins ∧ (s.loadWatch x f).1.table.ageTick = s.table.ageTick
    ∧ (s.loadWatch x f).1.table.counters = s.table.counters ∧ (s.loadWatch x f).1.calls = s.calls
    ∧ (s.loadWatch x f).1.seg = s.seg ∧ (s.loadWatch x f).1.evac = s.evac
    ∧ (s.loadWatch x f).1.supply = s.supply ∧ (s.loadWatch x f).1.integ = s.integ
    ∧ (s.loadWatch x f).1.mgmt = s.mgmt := by
  unfold State.loadWatch
  simp only [loaded]
  repeat' split
  all_goals simp

@[simp] theorem State.loadPermit_frame (s : State) (x : Word) (f : PermitFields) :
    (s.loadPermit x f).1.pending = s.pending ∧ (s.loadPermit x f).1.now = s.now
    ∧ (s.loadPermit x f).1.samples = s.samples ∧ (s.loadPermit x f).1.net.straps = s.net.straps
    ∧ (s.loadPermit x f).1.net.banks = s.net.banks ∧ (s.loadPermit x f).1.net.relayTick = s.net.relayTick
    ∧ (s.loadPermit x f).1.poller = s.poller ∧ (s.loadPermit x f).1.table.pins = s.table.pins
    ∧ (s.loadPermit x f).1.table.watches = s.table.watches
    ∧ (s.loadPermit x f).1.table.ageTick = s.table.ageTick ∧ (s.loadPermit x f).1.evac.sos = s.evac.sos
    ∧ (s.loadPermit x f).1.evac.routes = s.evac.routes ∧ (s.loadPermit x f).1.evac.lines = s.evac.lines
    ∧ (s.loadPermit x f).1.evac.doorTick = s.evac.doorTick ∧ (s.loadPermit x f).1.supply = s.supply
    ∧ (s.loadPermit x f).1.integ.storedCheck = s.integ.storedCheck
    ∧ (s.loadPermit x f).1.integ.lastCheck = s.integ.lastCheck
    ∧ (s.loadPermit x f).1.mgmt.parameters = s.mgmt.parameters
    ∧ (s.loadPermit x f).1.mgmt.statusTimer = s.mgmt.statusTimer
    ∧ (s.loadPermit x f).1.mgmt.isolated = s.mgmt.isolated
    ∧ (s.loadPermit x f).1.mgmt.isolationTimer = s.mgmt.isolationTimer
    ∧ (s.loadPermit x f).1.mgmt.restartPending = s.mgmt.restartPending
    ∧ (s.loadPermit x f).1.mgmt.counters = s.mgmt.counters
    ∧ ∀ pt, ((s.loadPermit x f).1.net.port pt).up = (s.net.port pt).up := by
  unfold State.loadPermit
  simp only [loaded]
  repeat' split
  all_goals simp

@[simp] theorem State.loadRoute_frame (s : State) (x : Word) (f : RouteFields) :
    (s.loadRoute x f).1.pending = s.pending ∧ (s.loadRoute x f).1.now = s.now
    ∧ (s.loadRoute x f).1.samples = s.samples ∧ (s.loadRoute x f).1.net.straps = s.net.straps
    ∧ (s.loadRoute x f).1.net.banks = s.net.banks ∧ (s.loadRoute x f).1.net.relayTick = s.net.relayTick
    ∧ (s.loadRoute x f).1.poller = s.poller ∧ (s.loadRoute x f).1.table.pins = s.table.pins
    ∧ (s.loadRoute x f).1.table.watches = s.table.watches
    ∧ (s.loadRoute x f).1.table.ageTick = s.table.ageTick
    ∧ (s.loadRoute x f).1.calls.permits = s.calls.permits ∧ (s.loadRoute x f).1.evac.sos = s.evac.sos
    ∧ (s.loadRoute x f).1.evac.lines = s.evac.lines ∧ (s.loadRoute x f).1.evac.doorTick = s.evac.doorTick
    ∧ (s.loadRoute x f).1.supply = s.supply ∧ (s.loadRoute x f).1.integ.storedCheck = s.integ.storedCheck
    ∧ (s.loadRoute x f).1.integ.lastCheck = s.integ.lastCheck
    ∧ (s.loadRoute x f).1.mgmt.parameters = s.mgmt.parameters
    ∧ (s.loadRoute x f).1.mgmt.statusTimer = s.mgmt.statusTimer
    ∧ (s.loadRoute x f).1.mgmt.isolated = s.mgmt.isolated
    ∧ (s.loadRoute x f).1.mgmt.isolationTimer = s.mgmt.isolationTimer
    ∧ (s.loadRoute x f).1.mgmt.restartPending = s.mgmt.restartPending
    ∧ (s.loadRoute x f).1.mgmt.counters = s.mgmt.counters
    ∧ ∀ pt, ((s.loadRoute x f).1.net.port pt).up = (s.net.port pt).up := by
  unfold State.loadRoute
  simp only [loaded]
  repeat' split
  all_goals simp

@[simp] theorem State.loadPlan_frame (s : State) (x : Word) (value : Byte) :
    (s.loadPlan x value).1.pending = s.pending ∧ (s.loadPlan x value).1.now = s.now
    ∧ (s.loadPlan x value).1.samples = s.samples ∧ (s.loadPlan x value).1.scratch = s.scratch
    ∧ (s.loadPlan x value).1.net.straps = s.net.straps
    ∧ (s.loadPlan x value).1.net.relayTick = s.net.relayTick ∧ (s.loadPlan x value).1.poller = s.poller
    ∧ (s.loadPlan x value).1.air = s.air ∧ (s.loadPlan x value).1.table = s.table
    ∧ (s.loadPlan x value).1.calls = s.calls ∧ (s.loadPlan x value).1.seg = s.seg
    ∧ (s.loadPlan x value).1.evac = s.evac ∧ (s.loadPlan x value).1.supply = s.supply
    ∧ (s.loadPlan x value).1.integ = s.integ ∧ (s.loadPlan x value).1.mgmt = s.mgmt
    ∧ ∀ pt, ((s.loadPlan x value).1.net.port pt).up = (s.net.port pt).up := by
  unfold State.loadPlan
  simp only [loaded]
  repeat' split
  all_goals first | (simp; done) | (simp; intro pt; cases pt <;> rfl)

@[simp] theorem State.loadShed_frame (s : State) (x : Word) (f : ShedFields) :
    (s.loadShed x f).1.pending = s.pending ∧ (s.loadShed x f).1.now = s.now
    ∧ (s.loadShed x f).1.samples = s.samples ∧ (s.loadShed x f).1.net.straps = s.net.straps
    ∧ (s.loadShed x f).1.net.banks = s.net.banks ∧ (s.loadShed x f).1.net.relayTick = s.net.relayTick
    ∧ (s.loadShed x f).1.poller = s.poller ∧ (s.loadShed x f).1.table.pins = s.table.pins
    ∧ (s.loadShed x f).1.table.watches = s.table.watches
    ∧ (s.loadShed x f).1.table.ageTick = s.table.ageTick
    ∧ (s.loadShed x f).1.calls.permits = s.calls.permits ∧ (s.loadShed x f).1.evac.sos = s.evac.sos
    ∧ (s.loadShed x f).1.evac.routes = s.evac.routes ∧ (s.loadShed x f).1.evac.lines = s.evac.lines
    ∧ (s.loadShed x f).1.evac.doorTick = s.evac.doorTick
    ∧ (s.loadShed x f).1.supply.sample = s.supply.sample
    ∧ (s.loadShed x f).1.supply.sampleTick = s.supply.sampleTick
    ∧ (s.loadShed x f).1.integ.storedCheck = s.integ.storedCheck
    ∧ (s.loadShed x f).1.integ.lastCheck = s.integ.lastCheck
    ∧ (s.loadShed x f).1.mgmt.parameters = s.mgmt.parameters
    ∧ (s.loadShed x f).1.mgmt.statusTimer = s.mgmt.statusTimer
    ∧ (s.loadShed x f).1.mgmt.isolated = s.mgmt.isolated
    ∧ (s.loadShed x f).1.mgmt.isolationTimer = s.mgmt.isolationTimer
    ∧ (s.loadShed x f).1.mgmt.restartPending = s.mgmt.restartPending
    ∧ (s.loadShed x f).1.mgmt.counters = s.mgmt.counters
    ∧ ∀ pt, ((s.loadShed x f).1.net.port pt).up = (s.net.port pt).up := by
  unfold State.loadShed
  simp only [loaded]
  repeat' split
  all_goals simp

@[simp] theorem State.takeParameters_frame (s : State) (p : Parameters) :
    (s.takeParameters p).pending = s.pending ∧ (s.takeParameters p).now = s.now
    ∧ (s.takeParameters p).samples = s.samples ∧ (s.takeParameters p).net.straps = s.net.straps
    ∧ (s.takeParameters p).net.banks = s.net.banks ∧ (s.takeParameters p).net.relayTick = s.net.relayTick
    ∧ (s.takeParameters p).poller = s.poller ∧ (s.takeParameters p).air.channels = s.air.channels
    ∧ (s.takeParameters p).air.zone = s.air.zone ∧ (s.takeParameters p).air.refuge = s.air.refuge
    ∧ (s.takeParameters p).air.tripOutput = s.air.tripOutput
    ∧ (s.takeParameters p).table.pins = s.table.pins ∧ (s.takeParameters p).table.watches = s.table.watches
    ∧ (s.takeParameters p).table.ageTick = s.table.ageTick
    ∧ (s.takeParameters p).calls.permits = s.calls.permits ∧ (s.takeParameters p).seg.state = s.seg.state
    ∧ (s.takeParameters p).seg.holder = s.seg.holder ∧ (s.takeParameters p).seg.causes = s.seg.causes
    ∧ (s.takeParameters p).seg.queue = s.seg.queue ∧ (s.takeParameters p).seg.lease = s.seg.lease
    ∧ (s.takeParameters p).evac.sos = s.evac.sos ∧ (s.takeParameters p).evac.routes = s.evac.routes
    ∧ (s.takeParameters p).evac.lines = s.evac.lines ∧ (s.takeParameters p).evac.doorTick = s.evac.doorTick
    ∧ (s.takeParameters p).supply = s.supply ∧ (s.takeParameters p).integ = s.integ
    ∧ (s.takeParameters p).mgmt.isolated = s.mgmt.isolated
    ∧ (s.takeParameters p).mgmt.restartPending = s.mgmt.restartPending
    ∧ (s.takeParameters p).mgmt.counters = s.mgmt.counters
    ∧ ∀ pt, ((s.takeParameters p).net.port pt).up = (s.net.port pt).up := by
  simp [State.takeParameters, Group.all]

@[simp] theorem State.loadParameters_frame (s : State) (f : ParameterFields) :
    (s.loadParameters f).1.pending = s.pending ∧ (s.loadParameters f).1.now = s.now
    ∧ (s.loadParameters f).1.samples = s.samples ∧ (s.loadParameters f).1.net.straps = s.net.straps
    ∧ (s.loadParameters f).1.net.banks = s.net.banks
    ∧ (s.loadParameters f).1.net.relayTick = s.net.relayTick ∧ (s.loadParameters f).1.poller = s.poller
    ∧ (s.loadParameters f).1.air.channels = s.air.channels ∧ (s.loadParameters f).1.air.zone = s.air.zone
    ∧ (s.loadParameters f).1.air.refuge = s.air.refuge
    ∧ (s.loadParameters f).1.air.tripOutput = s.air.tripOutput
    ∧ (s.loadParameters f).1.table.pins = s.table.pins
    ∧ (s.loadParameters f).1.table.watches = s.table.watches
    ∧ (s.loadParameters f).1.table.ageTick = s.table.ageTick
    ∧ (s.loadParameters f).1.calls.permits = s.calls.permits
    ∧ (s.loadParameters f).1.seg.state = s.seg.state ∧ (s.loadParameters f).1.seg.holder = s.seg.holder
    ∧ (s.loadParameters f).1.seg.causes = s.seg.causes ∧ (s.loadParameters f).1.seg.queue = s.seg.queue
    ∧ (s.loadParameters f).1.seg.lease = s.seg.lease ∧ (s.loadParameters f).1.evac.sos = s.evac.sos
    ∧ (s.loadParameters f).1.evac.routes = s.evac.routes ∧ (s.loadParameters f).1.evac.lines = s.evac.lines
    ∧ (s.loadParameters f).1.evac.doorTick = s.evac.doorTick ∧ (s.loadParameters f).1.supply = s.supply
    ∧ (s.loadParameters f).1.integ = s.integ ∧ (s.loadParameters f).1.mgmt.isolated = s.mgmt.isolated
    ∧ (s.loadParameters f).1.mgmt.restartPending = s.mgmt.restartPending
    ∧ (s.loadParameters f).1.mgmt.counters = s.mgmt.counters
    ∧ ∀ pt, ((s.loadParameters f).1.net.port pt).up = (s.net.port pt).up := by
  unfold State.loadParameters
  simp only [loaded]
  repeat' split
  all_goals simp

@[simp] theorem State.setCheck_frame (s : State) (value : Word) :
    (s.setCheck value).1.pending = s.pending ∧ (s.setCheck value).1.now = s.now
    ∧ (s.setCheck value).1.samples = s.samples ∧ (s.setCheck value).1.net.straps = s.net.straps
    ∧ (s.setCheck value).1.net.banks = s.net.banks ∧ (s.setCheck value).1.net.relayTick = s.net.relayTick
    ∧ (s.setCheck value).1.poller = s.poller ∧ (s.setCheck value).1.table.pins = s.table.pins
    ∧ (s.setCheck value).1.table.watches = s.table.watches
    ∧ (s.setCheck value).1.table.ageTick = s.table.ageTick
    ∧ (s.setCheck value).1.calls.permits = s.calls.permits ∧ (s.setCheck value).1.evac.sos = s.evac.sos
    ∧ (s.setCheck value).1.evac.routes = s.evac.routes ∧ (s.setCheck value).1.evac.lines = s.evac.lines
    ∧ (s.setCheck value).1.evac.doorTick = s.evac.doorTick ∧ (s.setCheck value).1.supply = s.supply
    ∧ (s.setCheck value).1.integ.lastCheck = s.integ.lastCheck
    ∧ (s.setCheck value).1.integ.counters = s.integ.counters
    ∧ (s.setCheck value).1.mgmt.parameters = s.mgmt.parameters
    ∧ (s.setCheck value).1.mgmt.statusTimer = s.mgmt.statusTimer
    ∧ (s.setCheck value).1.mgmt.isolated = s.mgmt.isolated
    ∧ (s.setCheck value).1.mgmt.isolationTimer = s.mgmt.isolationTimer
    ∧ (s.setCheck value).1.mgmt.restartPending = s.mgmt.restartPending
    ∧ (s.setCheck value).1.mgmt.counters = s.mgmt.counters
    ∧ ∀ pt, ((s.setCheck value).1.net.port pt).up = (s.net.port pt).up := by
  unfold State.setCheck
  simp only [loaded]
  simp

@[simp] theorem State.selectPlan_frame (s : State) (bank : Byte) :
    (s.selectPlan bank).1.pending = s.pending ∧ (s.selectPlan bank).1.now = s.now
    ∧ (s.selectPlan bank).1.samples = s.samples ∧ (s.selectPlan bank).1.scratch = s.scratch
    ∧ (s.selectPlan bank).1.net.straps = s.net.straps ∧ (s.selectPlan bank).1.net.banks = s.net.banks
    ∧ (s.selectPlan bank).1.net.relayTick = s.net.relayTick ∧ (s.selectPlan bank).1.poller = s.poller
    ∧ (s.selectPlan bank).1.air = s.air ∧ (s.selectPlan bank).1.table = s.table
    ∧ (s.selectPlan bank).1.calls = s.calls ∧ (s.selectPlan bank).1.seg = s.seg
    ∧ (s.selectPlan bank).1.evac = s.evac ∧ (s.selectPlan bank).1.supply = s.supply
    ∧ (s.selectPlan bank).1.integ = s.integ ∧ (s.selectPlan bank).1.mgmt = s.mgmt
    ∧ ∀ pt, ((s.selectPlan bank).1.net.port pt).up = (s.net.port pt).up := by
  unfold State.selectPlan
  simp only [loaded]
  repeat' split
  all_goals first | (simp; done) | (simp; intro pt; cases pt <;> rfl)

@[simp] theorem State.resetTrip_frame (s : State) (channel : Byte) :
    (s.resetTrip channel).1.pending = s.pending ∧ (s.resetTrip channel).1.now = s.now
    ∧ (s.resetTrip channel).1.samples = s.samples ∧ (s.resetTrip channel).1.net.straps = s.net.straps
    ∧ (s.resetTrip channel).1.net.banks = s.net.banks
    ∧ (s.resetTrip channel).1.net.relayTick = s.net.relayTick ∧ (s.resetTrip channel).1.poller = s.poller
    ∧ (s.resetTrip channel).1.table.pins = s.table.pins
    ∧ (s.resetTrip channel).1.table.watches = s.table.watches
    ∧ (s.resetTrip channel).1.table.ageTick = s.table.ageTick
    ∧ (s.resetTrip channel).1.calls.permits = s.calls.permits
    ∧ (s.resetTrip channel).1.evac.sos = s.evac.sos ∧ (s.resetTrip channel).1.evac.routes = s.evac.routes
    ∧ (s.resetTrip channel).1.evac.lines = s.evac.lines
    ∧ (s.resetTrip channel).1.evac.doorTick = s.evac.doorTick ∧ (s.resetTrip channel).1.supply = s.supply
    ∧ (s.resetTrip channel).1.integ = s.integ ∧ (s.resetTrip channel).1.mgmt.parameters = s.mgmt.parameters
    ∧ (s.resetTrip channel).1.mgmt.statusTimer = s.mgmt.statusTimer
    ∧ (s.resetTrip channel).1.mgmt.isolated = s.mgmt.isolated
    ∧ (s.resetTrip channel).1.mgmt.isolationTimer = s.mgmt.isolationTimer
    ∧ (s.resetTrip channel).1.mgmt.restartPending = s.mgmt.restartPending
    ∧ (s.resetTrip channel).1.mgmt.counters = s.mgmt.counters
    ∧ ∀ pt, ((s.resetTrip channel).1.net.port pt).up = (s.net.port pt).up := by
  unfold State.resetTrip
  simp only [loaded]
  repeat' split
  all_goals simp

@[simp] theorem State.testChannel_frame (s : State) (rq : Request) (channel : Byte) (value : Word) (count : Byte) :
    (s.testChannel rq channel value count).1.pending = s.pending
    ∧ (s.testChannel rq channel value count).1.now = s.now
    ∧ (s.testChannel rq channel value count).1.samples = s.samples
    ∧ (s.testChannel rq channel value count).1.scratch = s.scratch
    ∧ (s.testChannel rq channel value count).1.net = s.net
    ∧ (s.testChannel rq channel value count).1.poller = s.poller
    ∧ (s.testChannel rq channel value count).1.air.zone = s.air.zone
    ∧ (s.testChannel rq channel value count).1.air.refuge = s.air.refuge
    ∧ (s.testChannel rq channel value count).1.air.tripOutput = s.air.tripOutput
    ∧ (s.testChannel rq channel value count).1.air.reportTimer = s.air.reportTimer
    ∧ (s.testChannel rq channel value count).1.table = s.table
    ∧ (s.testChannel rq channel value count).1.calls = s.calls
    ∧ (s.testChannel rq channel value count).1.seg = s.seg
    ∧ (s.testChannel rq channel value count).1.evac = s.evac
    ∧ (s.testChannel rq channel value count).1.supply = s.supply
    ∧ (s.testChannel rq channel value count).1.integ = s.integ
    ∧ (s.testChannel rq channel value count).1.mgmt = s.mgmt := by
  unfold State.testChannel
  simp only
  repeat' split
  all_goals simp

@[simp] theorem State.evacuateRequest_frame (s : State) :
    s.evacuateRequest.1.pending = s.pending ∧ s.evacuateRequest.1.now = s.now
    ∧ s.evacuateRequest.1.samples = s.samples ∧ s.evacuateRequest.1.net.straps = s.net.straps
    ∧ s.evacuateRequest.1.net.banks = s.net.banks ∧ s.evacuateRequest.1.net.relayTick = s.net.relayTick
    ∧ s.evacuateRequest.1.poller = s.poller ∧ s.evacuateRequest.1.air = s.air
    ∧ s.evacuateRequest.1.table.pins = s.table.pins ∧ s.evacuateRequest.1.table.watches = s.table.watches
    ∧ s.evacuateRequest.1.table.ageTick = s.table.ageTick
    ∧ s.evacuateRequest.1.calls.permits = s.calls.permits ∧ s.evacuateRequest.1.seg.state = s.seg.state
    ∧ s.evacuateRequest.1.seg.holder = s.seg.holder ∧ s.evacuateRequest.1.seg.causes = s.seg.causes
    ∧ s.evacuateRequest.1.seg.queue = s.seg.queue ∧ s.evacuateRequest.1.seg.lease = s.seg.lease
    ∧ s.evacuateRequest.1.evac.sos = s.evac.sos ∧ s.evacuateRequest.1.evac.routes = s.evac.routes
    ∧ s.evacuateRequest.1.evac.lines = s.evac.lines ∧ s.evacuateRequest.1.evac.doorTick = s.evac.doorTick
    ∧ s.evacuateRequest.1.supply = s.supply ∧ s.evacuateRequest.1.integ = s.integ
    ∧ s.evacuateRequest.1.mgmt.parameters = s.mgmt.parameters
    ∧ s.evacuateRequest.1.mgmt.statusTimer = s.mgmt.statusTimer
    ∧ s.evacuateRequest.1.mgmt.isolated = s.mgmt.isolated
    ∧ s.evacuateRequest.1.mgmt.isolationTimer = s.mgmt.isolationTimer
    ∧ s.evacuateRequest.1.mgmt.restartPending = s.mgmt.restartPending
    ∧ s.evacuateRequest.1.mgmt.counters = s.mgmt.counters
    ∧ ∀ pt, (s.evacuateRequest.1.net.port pt).up = (s.net.port pt).up := by
  unfold State.evacuateRequest
  simp only [loaded]
  simp

@[simp] theorem State.standDownRequest_frame (s : State) :
    s.standDownRequest.1.pending = s.pending ∧ s.standDownRequest.1.now = s.now
    ∧ s.standDownRequest.1.samples = s.samples ∧ s.standDownRequest.1.net.straps = s.net.straps
    ∧ s.standDownRequest.1.net.banks = s.net.banks ∧ s.standDownRequest.1.net.relayTick = s.net.relayTick
    ∧ s.standDownRequest.1.poller = s.poller ∧ s.standDownRequest.1.air = s.air
    ∧ s.standDownRequest.1.table.pins = s.table.pins ∧ s.standDownRequest.1.table.watches = s.table.watches
    ∧ s.standDownRequest.1.table.ageTick = s.table.ageTick
    ∧ s.standDownRequest.1.table.counters = s.table.counters ∧ s.standDownRequest.1.calls = s.calls
    ∧ s.standDownRequest.1.seg = s.seg ∧ s.standDownRequest.1.evac.panels = s.evac.panels
    ∧ s.standDownRequest.1.evac.sos = s.evac.sos ∧ s.standDownRequest.1.evac.routes = s.evac.routes
    ∧ s.standDownRequest.1.evac.lines = s.evac.lines ∧ s.standDownRequest.1.evac.doorTick = s.evac.doorTick
    ∧ s.standDownRequest.1.supply = s.supply ∧ s.standDownRequest.1.integ = s.integ
    ∧ s.standDownRequest.1.mgmt.parameters = s.mgmt.parameters
    ∧ s.standDownRequest.1.mgmt.statusTimer = s.mgmt.statusTimer
    ∧ s.standDownRequest.1.mgmt.isolated = s.mgmt.isolated
    ∧ s.standDownRequest.1.mgmt.isolationTimer = s.mgmt.isolationTimer
    ∧ s.standDownRequest.1.mgmt.restartPending = s.mgmt.restartPending
    ∧ s.standDownRequest.1.mgmt.counters = s.mgmt.counters
    ∧ ∀ pt, (s.standDownRequest.1.net.port pt).up = (s.net.port pt).up := by
  unfold State.standDownRequest
  have k := State.stoodDown_frame s
  generalize s.stoodDown = x at k ⊢
  obtain ⟨t, _ | _⟩ := x <;> exact k

@[simp] theorem State.closeSegment_frame (s : State) :
    s.closeSegment.1.pending = s.pending ∧ s.closeSegment.1.now = s.now
    ∧ s.closeSegment.1.samples = s.samples ∧ s.closeSegment.1.net.straps = s.net.straps
    ∧ s.closeSegment.1.net.banks = s.net.banks ∧ s.closeSegment.1.net.relayTick = s.net.relayTick
    ∧ s.closeSegment.1.poller = s.poller ∧ s.closeSegment.1.air = s.air ∧ s.closeSegment.1.table = s.table
    ∧ s.closeSegment.1.calls = s.calls ∧ s.closeSegment.1.seg.minerCount = s.seg.minerCount
    ∧ s.closeSegment.1.evac = s.evac ∧ s.closeSegment.1.supply = s.supply ∧ s.closeSegment.1.integ = s.integ
    ∧ s.closeSegment.1.mgmt.parameters = s.mgmt.parameters
    ∧ s.closeSegment.1.mgmt.statusTimer = s.mgmt.statusTimer
    ∧ s.closeSegment.1.mgmt.isolated = s.mgmt.isolated
    ∧ s.closeSegment.1.mgmt.isolationTimer = s.mgmt.isolationTimer
    ∧ s.closeSegment.1.mgmt.restartPending = s.mgmt.restartPending
    ∧ s.closeSegment.1.mgmt.counters = s.mgmt.counters
    ∧ ∀ pt, (s.closeSegment.1.net.port pt).up = (s.net.port pt).up := by
  unfold State.closeSegment
  simp only [loaded]
  simp

@[simp] theorem State.openSegment_frame (s : State) :
    s.openSegment.1.pending = s.pending ∧ s.openSegment.1.now = s.now ∧ s.openSegment.1.samples = s.samples
    ∧ s.openSegment.1.net.straps = s.net.straps ∧ s.openSegment.1.net.banks = s.net.banks
    ∧ s.openSegment.1.net.relayTick = s.net.relayTick ∧ s.openSegment.1.poller = s.poller
    ∧ s.openSegment.1.air = s.air ∧ s.openSegment.1.table = s.table ∧ s.openSegment.1.calls = s.calls
    ∧ s.openSegment.1.seg.minerCount = s.seg.minerCount ∧ s.openSegment.1.evac = s.evac
    ∧ s.openSegment.1.supply = s.supply ∧ s.openSegment.1.integ = s.integ
    ∧ s.openSegment.1.mgmt.parameters = s.mgmt.parameters
    ∧ s.openSegment.1.mgmt.statusTimer = s.mgmt.statusTimer
    ∧ s.openSegment.1.mgmt.isolated = s.mgmt.isolated
    ∧ s.openSegment.1.mgmt.isolationTimer = s.mgmt.isolationTimer
    ∧ s.openSegment.1.mgmt.restartPending = s.mgmt.restartPending
    ∧ s.openSegment.1.mgmt.counters = s.mgmt.counters
    ∧ ∀ pt, (s.openSegment.1.net.port pt).up = (s.net.port pt).up := by
  unfold State.openSegment
  simp only [loaded]
  simp

@[simp] theorem State.releaseSegment_frame (s : State) :
    s.releaseSegment.1.pending = s.pending ∧ s.releaseSegment.1.now = s.now
    ∧ s.releaseSegment.1.samples = s.samples ∧ s.releaseSegment.1.net.straps = s.net.straps
    ∧ s.releaseSegment.1.net.banks = s.net.banks ∧ s.releaseSegment.1.net.relayTick = s.net.relayTick
    ∧ s.releaseSegment.1.poller = s.poller ∧ s.releaseSegment.1.air = s.air
    ∧ s.releaseSegment.1.table = s.table ∧ s.releaseSegment.1.calls = s.calls
    ∧ s.releaseSegment.1.seg.causes = s.seg.causes ∧ s.releaseSegment.1.seg.minerCount = s.seg.minerCount
    ∧ s.releaseSegment.1.evac = s.evac ∧ s.releaseSegment.1.supply = s.supply
    ∧ s.releaseSegment.1.integ = s.integ ∧ s.releaseSegment.1.mgmt.parameters = s.mgmt.parameters
    ∧ s.releaseSegment.1.mgmt.statusTimer = s.mgmt.statusTimer
    ∧ s.releaseSegment.1.mgmt.isolated = s.mgmt.isolated
    ∧ s.releaseSegment.1.mgmt.isolationTimer = s.mgmt.isolationTimer
    ∧ s.releaseSegment.1.mgmt.restartPending = s.mgmt.restartPending
    ∧ s.releaseSegment.1.mgmt.counters = s.mgmt.counters
    ∧ ∀ pt, (s.releaseSegment.1.net.port pt).up = (s.net.port pt).up := by
  unfold State.releaseSegment
  simp only [loaded]
  repeat' split
  all_goals simp

@[simp] theorem State.cancelSos_frame (s : State) (unit : Word) :
    (s.cancelSos unit).1.pending = s.pending ∧ (s.cancelSos unit).1.now = s.now
    ∧ (s.cancelSos unit).1.samples = s.samples ∧ (s.cancelSos unit).1.scratch = s.scratch
    ∧ (s.cancelSos unit).1.net = s.net ∧ (s.cancelSos unit).1.poller = s.poller
    ∧ (s.cancelSos unit).1.air = s.air ∧ (s.cancelSos unit).1.table = s.table
    ∧ (s.cancelSos unit).1.calls = s.calls ∧ (s.cancelSos unit).1.seg = s.seg
    ∧ (s.cancelSos unit).1.evac.state = s.evac.state
    ∧ (s.cancelSos unit).1.evac.repeatTimer = s.evac.repeatTimer
    ∧ (s.cancelSos unit).1.evac.panels = s.evac.panels ∧ (s.cancelSos unit).1.evac.routes = s.evac.routes
    ∧ (s.cancelSos unit).1.evac.lines = s.evac.lines ∧ (s.cancelSos unit).1.evac.doorTick = s.evac.doorTick
    ∧ (s.cancelSos unit).1.evac.counters = s.evac.counters ∧ (s.cancelSos unit).1.supply = s.supply
    ∧ (s.cancelSos unit).1.integ = s.integ ∧ (s.cancelSos unit).1.mgmt = s.mgmt := by
  unfold State.cancelSos
  repeat' split
  all_goals simp

@[simp] theorem State.clearFlags_frame (s : State) (group : Byte) (flags : BitVec 56) :
    (s.clearFlags group flags).1.pending = s.pending ∧ (s.clearFlags group flags).1.now = s.now
    ∧ (s.clearFlags group flags).1.samples = s.samples ∧ (s.clearFlags group flags).1.scratch = s.scratch
    ∧ (s.clearFlags group flags).1.net = s.net ∧ (s.clearFlags group flags).1.poller = s.poller
    ∧ (s.clearFlags group flags).1.air = s.air ∧ (s.clearFlags group flags).1.table = s.table
    ∧ (s.clearFlags group flags).1.calls = s.calls ∧ (s.clearFlags group flags).1.seg = s.seg
    ∧ (s.clearFlags group flags).1.evac = s.evac ∧ (s.clearFlags group flags).1.supply = s.supply
    ∧ (s.clearFlags group flags).1.integ = s.integ
    ∧ (s.clearFlags group flags).1.mgmt.parameters = s.mgmt.parameters
    ∧ (s.clearFlags group flags).1.mgmt.statusTimer = s.mgmt.statusTimer
    ∧ (s.clearFlags group flags).1.mgmt.isolated = s.mgmt.isolated
    ∧ (s.clearFlags group flags).1.mgmt.isolationTimer = s.mgmt.isolationTimer
    ∧ (s.clearFlags group flags).1.mgmt.restartPending = s.mgmt.restartPending
    ∧ (s.clearFlags group flags).1.mgmt.counters = s.mgmt.counters := by
  unfold State.clearFlags
  repeat' split
  all_goals simp

@[simp] theorem State.ackAttention_frame (s : State) (group : Byte) :
    (s.ackAttention group).1.pending = s.pending ∧ (s.ackAttention group).1.now = s.now
    ∧ (s.ackAttention group).1.samples = s.samples ∧ (s.ackAttention group).1.scratch = s.scratch
    ∧ (s.ackAttention group).1.net = s.net ∧ (s.ackAttention group).1.poller = s.poller
    ∧ (s.ackAttention group).1.air = s.air ∧ (s.ackAttention group).1.table = s.table
    ∧ (s.ackAttention group).1.calls = s.calls ∧ (s.ackAttention group).1.seg = s.seg
    ∧ (s.ackAttention group).1.evac = s.evac ∧ (s.ackAttention group).1.supply = s.supply
    ∧ (s.ackAttention group).1.integ = s.integ
    ∧ (s.ackAttention group).1.mgmt.parameters = s.mgmt.parameters
    ∧ (s.ackAttention group).1.mgmt.statusTimer = s.mgmt.statusTimer
    ∧ (s.ackAttention group).1.mgmt.isolated = s.mgmt.isolated
    ∧ (s.ackAttention group).1.mgmt.isolationTimer = s.mgmt.isolationTimer
    ∧ (s.ackAttention group).1.mgmt.restartPending = s.mgmt.restartPending
    ∧ (s.ackAttention group).1.mgmt.counters = s.mgmt.counters := by
  unfold State.ackAttention
  simp only [loaded]
  repeat' split
  all_goals simp

@[simp] theorem State.clearCounters_frame (s : State) :
    s.clearCounters.1.pending = s.pending ∧ s.clearCounters.1.now = s.now
    ∧ s.clearCounters.1.samples = s.samples ∧ s.clearCounters.1.scratch = s.scratch
    ∧ s.clearCounters.1.net.straps = s.net.straps ∧ s.clearCounters.1.net.banks = s.net.banks
    ∧ s.clearCounters.1.net.relayTick = s.net.relayTick
    ∧ s.clearCounters.1.poller.records = s.poller.records
    ∧ s.clearCounters.1.poller.inFlight = s.poller.inFlight
    ∧ s.clearCounters.1.poller.replyTimer = s.poller.replyTimer
    ∧ s.clearCounters.1.poller.sequence = s.poller.sequence ∧ s.clearCounters.1.air = s.air
    ∧ s.clearCounters.1.table.entries = s.table.entries ∧ s.clearCounters.1.table.pins = s.table.pins
    ∧ s.clearCounters.1.table.watches = s.table.watches ∧ s.clearCounters.1.table.ageTick = s.table.ageTick
    ∧ s.clearCounters.1.calls.startList = s.calls.startList
    ∧ s.clearCounters.1.calls.permits = s.calls.permits ∧ s.clearCounters.1.seg.state = s.seg.state
    ∧ s.clearCounters.1.seg.holder = s.seg.holder ∧ s.clearCounters.1.seg.causes = s.seg.causes
    ∧ s.clearCounters.1.seg.queue = s.seg.queue ∧ s.clearCounters.1.seg.lease = s.seg.lease
    ∧ s.clearCounters.1.seg.minerCount = s.seg.minerCount
    ∧ s.clearCounters.1.seg.holderHere = s.seg.holderHere ∧ s.clearCounters.1.evac.state = s.evac.state
    ∧ s.clearCounters.1.evac.repeatTimer = s.evac.repeatTimer
    ∧ s.clearCounters.1.evac.panels = s.evac.panels ∧ s.clearCounters.1.evac.sos = s.evac.sos
    ∧ s.clearCounters.1.evac.routes = s.evac.routes ∧ s.clearCounters.1.evac.lines = s.evac.lines
    ∧ s.clearCounters.1.evac.doorTick = s.evac.doorTick ∧ s.clearCounters.1.supply.sample = s.supply.sample
    ∧ s.clearCounters.1.supply.entries = s.supply.entries
    ∧ s.clearCounters.1.supply.shedLevel = s.supply.shedLevel
    ∧ s.clearCounters.1.supply.sampleTick = s.supply.sampleTick
    ∧ s.clearCounters.1.integ.state = s.integ.state
    ∧ s.clearCounters.1.integ.storedCheck = s.integ.storedCheck
    ∧ s.clearCounters.1.integ.lastCheck = s.integ.lastCheck
    ∧ s.clearCounters.1.integ.position = s.integ.position
    ∧ s.clearCounters.1.integ.runningCrc = s.integ.runningCrc
    ∧ s.clearCounters.1.integ.scanTimer = s.integ.scanTimer
    ∧ s.clearCounters.1.integ.suspensionTimer = s.integ.suspensionTimer
    ∧ s.clearCounters.1.mgmt.parameters = s.mgmt.parameters
    ∧ s.clearCounters.1.mgmt.attention = s.mgmt.attention
    ∧ s.clearCounters.1.mgmt.statusTimer = s.mgmt.statusTimer
    ∧ s.clearCounters.1.mgmt.isolated = s.mgmt.isolated
    ∧ s.clearCounters.1.mgmt.isolationTimer = s.mgmt.isolationTimer
    ∧ s.clearCounters.1.mgmt.restartPending = s.mgmt.restartPending
    ∧ ∀ pt, (s.clearCounters.1.net.port pt).up = (s.net.port pt).up := by
  unfold State.clearCounters
  simp only [loaded]
  simp
  intro pt; cases pt <;> rfl

@[simp] theorem State.answer_frame (s : State) (rq : Request) (v : Verdict) :
    (s.answer rq v).pending = s.pending ∧ (s.answer rq v).now = s.now ∧ (s.answer rq v).samples = s.samples
    ∧ (s.answer rq v).scratch = s.scratch ∧ (s.answer rq v).net.straps = s.net.straps
    ∧ (s.answer rq v).net.banks = s.net.banks ∧ (s.answer rq v).net.relayTick = s.net.relayTick
    ∧ (s.answer rq v).poller = s.poller ∧ (s.answer rq v).air = s.air ∧ (s.answer rq v).table = s.table
    ∧ (s.answer rq v).calls = s.calls ∧ (s.answer rq v).seg = s.seg ∧ (s.answer rq v).evac = s.evac
    ∧ (s.answer rq v).supply = s.supply ∧ (s.answer rq v).integ = s.integ
    ∧ (s.answer rq v).mgmt.parameters = s.mgmt.parameters
    ∧ (s.answer rq v).mgmt.attention = s.mgmt.attention
    ∧ (s.answer rq v).mgmt.statusTimer = s.mgmt.statusTimer
    ∧ (s.answer rq v).mgmt.isolated = s.mgmt.isolated
    ∧ (s.answer rq v).mgmt.isolationTimer = s.mgmt.isolationTimer
    ∧ (s.answer rq v).mgmt.restartPending = s.mgmt.restartPending
    ∧ ∀ pt, ((s.answer rq v).net.port pt).up = (s.net.port pt).up := by
  cases v <;> simp [State.answer]

end Sys2Proof.Machine
end

