-- ==== Sys2Proof/Laws/Events.lean ====
section
/-! SUPPORT. What an event can do: its work, then its end; and what a request that reaches the management unit
comes to. -/

namespace Sys2Proof.Machine

/-- An event is its work on the state without marks, then its end (R147, R155). -/
theorem State.event_eq (s : State) (work : State → State) :
    s.event work = (work { s with scratch := {} }).concluded s.tally := rfl

/-- An expiry's work runs from the state whose clock has reached the timer's moment. -/
theorem State.expire_some (s : State) (d : Nat) (work : State → State) :
    s.expire (some d) work = work (s.reach d) := rfl

/-- A stopped timer does not expire. -/
theorem State.expire_none (s : State) (work : State → State) : s.expire none work = s := rfl

/-- The tally is read from the station entries. -/
theorem State.tally_of_entries {s t : State} (h : s.table.entries = t.table.entries) : s.tally = t.tally := by
  unfold State.tally; rw [h]

/-- An event that leaves the tally as it was, or the node in QUIET, sends no MUSTER REPORT at its end. -/
theorem State.concluded_eq_settled {s : State} {t : Tally} (h : s.tally = t ∨ s.evac.state = .quiet) :
    s.concluded t = s.settled := by
  unfold State.concluded State.settled State.musterFollows
  rcases h with h | h <;> simp [h]

/-- A request that the management unit accepts: what its handler makes of the state in which it has been
counted, the answer, and the end of the event. -/
theorem State.requestEvent_accepted {s : State} {rq : Request} (h : s.Accepts rq) (r : Bool) (f : Handler) :
    s.requestEvent rq r f
      = .next (((f s.asTaken).1.answer rq (f s.asTaken).2).concluded s.tally) := by
  obtain ⟨h1, h2, h3⟩ := h
  obtain ⟨own, h1⟩ := Option.isSome_iff_exists.mp h1
  have e : s.requestEvent rq r f
      = .next (({ s with scratch := {} }.surfaceHeard.takeRequest rq r f).concluded s.tally) := by
    simp only [State.requestEvent, State.event_eq, h2, if_true]
  have n : { s with scratch := {} }.surfaceHeard.nodeAddr? = some own := h1
  have g : ({ s with scratch := {} }.surfaceHeard.countMgmt
      (fun k => { k with requestsTaken := k.requestsTaken + 1 })) = s.asTaken := rfl
  have p : (s.asTaken.mgmt.restartPending && !r) = false := by
    show (s.mgmt.restartPending && !r) = false
    rw [h3]; rfl
  rw [e]
  simp only [State.takeRequest, n, h2, if_true, State.carryOut, g, p, Bool.false_eq_true, if_false]

/-- A request that is answered DONE by a handler that keeps the station entries. -/
theorem State.requestEvent_done {s t : State} {rq : Request} (h : s.Accepts rq) {r : Bool} {f : Handler}
    {data : List Byte} (hf : f s.asTaken = (t, .done data)) :
    s.requestEvent rq r f = .next ((t.answerDone rq data).concluded s.tally) := by
  rw [State.requestEvent_accepted h, hf]; rfl

/-- A request that is refused by a handler, which leaves the state as it was. -/
theorem State.requestEvent_refused {s : State} {rq : Request} (h : s.Accepts rq) {r : Bool} {f : Handler}
    {c : Cause} (hc : c ≠ .none) (hf : f s.asTaken = (s.asTaken, .refused c)) :
    s.requestEvent rq r f = .next (s.asTaken.answerRefused rq c).settled := by
  rw [State.requestEvent_accepted h, hf]
  have e : (s.asTaken.answer rq (.refused c)) = s.asTaken.answerRefused rq c := by
    simp [State.answer, State.respond, hc, State.answerRefused, State.countMgmt, msgResponse]
  rw [e, State.concluded_eq_settled]
  exact .inl (State.tally_of_entries rfl)

end Sys2Proof.Machine
end

