-- ==== Sys2Proof/Laws/Factory.lean ====
section
/-! SUPPORT. The factory check is the check of the factory tables (R176, R178). -/

namespace Sys2Proof.Machine

/-- A check fed two runs of bytes is the check fed the one and then the other. -/
theorem crcFrom_append (c : Word) (a b : List Byte) : crcFrom c (a ++ b) = crcFrom (crcFrom c a) b := by
  simp [crcFrom, List.foldl_append]

/-- The canonical bytes of the factory tables are 816 (R177). -/
theorem factoryBytes_length : factoryBytes.length = 816 := by decide +kernel

set_option maxRecDepth 100000 in
theorem factoryCheck_channels_a :
    crcFrom 0xFFFF ((List.replicate 4 ChannelRecord.factory).flatMap (fun r => recordBytes r.words))
      = 18915 := by decide +kernel

set_option maxRecDepth 100000 in
theorem factoryCheck_channels_b :
    crcFrom 18915 ((List.replicate 4 ChannelRecord.factory).flatMap (fun r => recordBytes r.words))
      = 31980 := by decide +kernel

set_option maxRecDepth 100000 in
theorem factoryCheck_channels_c :
    crcFrom 31980 ((List.replicate 4 ChannelRecord.factory).flatMap (fun r => recordBytes r.words))
      = 39254 := by decide +kernel

set_option maxRecDepth 100000 in
theorem factoryCheck_channels_d :
    crcFrom 39254 ((List.replicate 4 ChannelRecord.factory).flatMap (fun r => recordBytes r.words))
      = 5623 := by decide +kernel

set_option maxRecDepth 100000 in
theorem factoryCheck_routes :
    crcFrom 5623 (factoryRoutes.toList.flatMap (fun r => recordBytes r.words)) = 12148 := by
  decide +kernel

set_option maxRecDepth 100000 in
theorem factoryCheck_rest :
    crcFrom 12148 (factoryShed.toList.flatMap (fun e => recordBytes e.config.words)
      ++ ((List.replicate 4 PinWindow.factory).flatMap (fun w => recordBytes w.words)
      ++ (List.replicate 4 PermitRange.factory).flatMap (fun r => recordBytes r.words)))
      = factoryCheck := by decide +kernel

/-- Sixteen records are four runs of four. -/
theorem sixteen_flatMap {α β : Type} (a : α) (f : α → List β) :
    (List.replicate 16 a).flatMap f = (List.replicate 4 a).flatMap f ++ ((List.replicate 4 a).flatMap f
      ++ ((List.replicate 4 a).flatMap f ++ (List.replicate 4 a).flatMap f)) := by
  simp [List.replicate]

/-- The stored check at COLD START is the check of the factory tables (R176, R178). -/
theorem factoryCheck_eq : crc factoryBytes = factoryCheck := by
  rw [crc, factoryBytes, sixteen_flatMap]
  simp only [List.append_assoc, crcFrom_append] at *
  rw [factoryCheck_channels_a, factoryCheck_channels_b, factoryCheck_channels_c, factoryCheck_channels_d,
    factoryCheck_routes]
  have h := factoryCheck_rest
  simpa only [crcFrom_append] using h

/-- The protected records after reset are the factory records in canonical order (R177). -/
theorem scannedBytes_reset : State.reset.scannedBytes 39 = factoryBytes := by decide +kernel

end Sys2Proof.Machine
end

