-- ==== Sys2Proof/Laws/PerInstr.lean ====
section
/-! SUPPORT. The family `Taken`, one lemma for each command: a well-formed command that is a request is one the
management unit carries out right after reset. -/

namespace Sys2Proof.Laws

open Sys2Proof.Machine

/-- The surface range of WellFormed is the station kind of R1. -/
theorem isSurface_of_isSurfaceAddr {a : Addr} (h : isSurfaceAddr a = true) : isSurface a = true := by
  simp only [isSurfaceAddr, Bool.and_eq_true, decide_eq_true_eq] at h
  simp only [isSurface, stationKind, beq_iff_eq]
  repeat' split
  all_goals first | rfl | omega

/-- A well-formed request is one the management unit carries out right after reset. -/
def Taken.Statement (i : Instr) : Prop :=
  i.wellFormed = true → ∀ rq, i.request? = some rq → State.reset.Accepts rq

/-- A command that is no request has nothing to say. -/
theorem taken_of_event {i : Instr} (h : i.request? = none) : Taken.Statement i := by
  intro _ rq k
  rw [h] at k
  cases k

/-- A request's well-formedness is its source's. -/
theorem taken_of_request {i : Instr} {rq : Request} (h : i.request? = some rq) : Taken.Statement i := by
  intro w rq' k
  have e : rq = rq' := Option.some.inj (h.symm.trans k)
  subst e
  have s : isSurfaceAddr rq.source = true := by
    simp only [Instr.wellFormed, Instr.requestFromSurface, h, Bool.and_eq_true] at w
    exact w.2
  exact ⟨by decide, isSurface_of_isSurfaceAddr s, by decide⟩

theorem Taken.coldStart (straps : Byte) (outbyeUp inbyeUp : Bool) : Taken.Statement (.coldStart straps outbyeUp inbyeUp) := taken_of_event rfl
theorem Taken.frameReceived (port : Port) (bytes : List Byte) : Taken.Statement (.frameReceived port bytes) := taken_of_event rfl
theorem Taken.frameSent (port : Port) : Taken.Statement (.frameSent port) := taken_of_event rfl
theorem Taken.linkDown (port : Backbone) : Taken.Statement (.linkDown port) := taken_of_event rfl
theorem Taken.linkUp (port : Backbone) : Taken.Statement (.linkUp port) := taken_of_event rfl
theorem Taken.lineMessageReceived (bytes : List Byte) : Taken.Statement (.lineMessageReceived bytes) := taken_of_event rfl
theorem Taken.replyTimerExpiry : Taken.Statement .replyTimerExpiry := taken_of_event rfl
theorem Taken.recordDue : Taken.Statement .recordDue := taken_of_event rfl
theorem Taken.staleTimerExpiry (channel : Fin 16) : Taken.Statement (.staleTimerExpiry channel) := taken_of_event rfl
theorem Taken.airReportTimerExpiry : Taken.Statement .airReportTimerExpiry := taken_of_event rfl
theorem Taken.ageTick : Taken.Statement .ageTick := taken_of_event rfl
theorem Taken.relayAgeTick : Taken.Statement .relayAgeTick := taken_of_event rfl
theorem Taken.setupTimerExpiry (leg : Fin 8) : Taken.Statement (.setupTimerExpiry leg) := taken_of_event rfl
theorem Taken.leaseTimerExpiry : Taken.Statement .leaseTimerExpiry := taken_of_event rfl
theorem Taken.repeatTimerExpiry : Taken.Statement .repeatTimerExpiry := taken_of_event rfl
theorem Taken.doorTick : Taken.Statement .doorTick := taken_of_event rfl
theorem Taken.supplySample (mainsPresent : Bool) (battery : Nat) (temperature : Int) : Taken.Statement (.supplySample mainsPresent battery temperature) := taken_of_event rfl
theorem Taken.scanStep : Taken.Statement .scanStep := taken_of_event rfl
theorem Taken.suspensionTimerExpiry : Taken.Statement .suspensionTimerExpiry := taken_of_event rfl
theorem Taken.isolationTimerExpiry : Taken.Statement .isolationTimerExpiry := taken_of_event rfl
theorem Taken.statusTimerExpiry : Taken.Statement .statusTimerExpiry := taken_of_event rfl
theorem Taken.outputCadenceToggle (output : Output) : Taken.Statement (.outputCadenceToggle output) := taken_of_event rfl
theorem Taken.readRecordChannel (rq : Request) (index : Word) : Taken.Statement (.readRecordChannel rq index) := taken_of_request rfl
theorem Taken.readRecordPoll (rq : Request) (index : Word) : Taken.Statement (.readRecordPoll rq index) := taken_of_request rfl
theorem Taken.readRecordPoller (rq : Request) (index : Word) : Taken.Statement (.readRecordPoller rq index) := taken_of_request rfl
theorem Taken.readRecordStation (rq : Request) (index : Word) : Taken.Statement (.readRecordStation rq index) := taken_of_request rfl
theorem Taken.readRecordStationSummary (rq : Request) (index : Word) : Taken.Statement (.readRecordStationSummary rq index) := taken_of_request rfl
theorem Taken.readRecordPin (rq : Request) (index : Word) : Taken.Statement (.readRecordPin rq index) := taken_of_request rfl
theorem Taken.readRecordWatch (rq : Request) (index : Word) : Taken.Statement (.readRecordWatch rq index) := taken_of_request rfl
theorem Taken.readRecordPort (rq : Request) (index : Word) : Taken.Statement (.readRecordPort rq index) := taken_of_request rfl
theorem Taken.readRecordLeg (rq : Request) (index : Word) : Taken.Statement (.readRecordLeg rq index) := taken_of_request rfl
theorem Taken.readRecordCalls (rq : Request) (index : Word) : Taken.Statement (.readRecordCalls rq index) := taken_of_request rfl
theorem Taken.readRecordPermit (rq : Request) (index : Word) : Taken.Statement (.readRecordPermit rq index) := taken_of_request rfl
theorem Taken.readRecordSegment (rq : Request) (index : Word) : Taken.Statement (.readRecordSegment rq index) := taken_of_request rfl
theorem Taken.readRecordPanel (rq : Request) (index : Word) : Taken.Statement (.readRecordPanel rq index) := taken_of_request rfl
theorem Taken.readRecordEvacuation (rq : Request) (index : Word) : Taken.Statement (.readRecordEvacuation rq index) := taken_of_request rfl
theorem Taken.readRecordRoute (rq : Request) (index : Word) : Taken.Statement (.readRecordRoute rq index) := taken_of_request rfl
theorem Taken.readRecordOutputs (rq : Request) (index : Word) : Taken.Statement (.readRecordOutputs rq index) := taken_of_request rfl
theorem Taken.readRecordPlan (rq : Request) (index : Word) : Taken.Statement (.readRecordPlan rq index) := taken_of_request rfl
theorem Taken.readRecordEgress (rq : Request) (index : Word) : Taken.Statement (.readRecordEgress rq index) := taken_of_request rfl
theorem Taken.readRecordShed (rq : Request) (index : Word) : Taken.Statement (.readRecordShed rq index) := taken_of_request rfl
theorem Taken.readRecordSupply (rq : Request) (index : Word) : Taken.Statement (.readRecordSupply rq index) := taken_of_request rfl
theorem Taken.readRecordIntegrity (rq : Request) (index : Word) : Taken.Statement (.readRecordIntegrity rq index) := taken_of_request rfl
theorem Taken.readRecordParameters (rq : Request) (index : Word) : Taken.Statement (.readRecordParameters rq index) := taken_of_request rfl
theorem Taken.readRecordFlags (rq : Request) (index : Word) : Taken.Statement (.readRecordFlags rq index) := taken_of_request rfl
theorem Taken.readRecordManagement (rq : Request) (index : Word) : Taken.Statement (.readRecordManagement rq index) := taken_of_request rfl
theorem Taken.loadRecordChannel (rq : Request) (index : Word) (fields : ChannelFields) : Taken.Statement (.loadRecordChannel rq index fields) := taken_of_request rfl
theorem Taken.loadRecordPoll (rq : Request) (index : Word) (fields : PollFields) : Taken.Statement (.loadRecordPoll rq index fields) := taken_of_request rfl
theorem Taken.loadRecordPin (rq : Request) (index : Word) (fields : PinFields) : Taken.Statement (.loadRecordPin rq index fields) := taken_of_request rfl
theorem Taken.loadRecordWatch (rq : Request) (index : Word) (fields : WatchFields) : Taken.Statement (.loadRecordWatch rq index fields) := taken_of_request rfl
theorem Taken.loadRecordPermit (rq : Request) (index : Word) (fields : PermitFields) : Taken.Statement (.loadRecordPermit rq index fields) := taken_of_request rfl
theorem Taken.loadRecordRoute (rq : Request) (index : Word) (fields : RouteFields) : Taken.Statement (.loadRecordRoute rq index fields) := taken_of_request rfl
theorem Taken.loadRecordPlan (rq : Request) (index : Word) (value : Byte) : Taken.Statement (.loadRecordPlan rq index value) := taken_of_request rfl
theorem Taken.loadRecordShed (rq : Request) (index : Word) (fields : ShedFields) : Taken.Statement (.loadRecordShed rq index fields) := taken_of_request rfl
theorem Taken.loadRecordParameters (rq : Request) (index : Word) (fields : ParameterFields) : Taken.Statement (.loadRecordParameters rq index fields) := taken_of_request rfl
theorem Taken.setCheck (rq : Request) (value : Word) : Taken.Statement (.setCheck rq value) := taken_of_request rfl
theorem Taken.selectPlan (rq : Request) (bank : Byte) : Taken.Statement (.selectPlan rq bank) := taken_of_request rfl
theorem Taken.resetTrip (rq : Request) (channel : Byte) : Taken.Statement (.resetTrip rq channel) := taken_of_request rfl
theorem Taken.testChannel (rq : Request) (channel : Byte) (value : Word) (count : Byte) : Taken.Statement (.testChannel rq channel value count) := taken_of_request rfl
theorem Taken.evacuate (rq : Request) : Taken.Statement (.evacuate rq) := taken_of_request rfl
theorem Taken.standDown (rq : Request) : Taken.Statement (.standDown rq) := taken_of_request rfl
theorem Taken.closeSegment (rq : Request) : Taken.Statement (.closeSegment rq) := taken_of_request rfl
theorem Taken.openSegment (rq : Request) : Taken.Statement (.openSegment rq) := taken_of_request rfl
theorem Taken.releaseSegment (rq : Request) : Taken.Statement (.releaseSegment rq) := taken_of_request rfl
theorem Taken.cancelSos (rq : Request) (unit : Word) : Taken.Statement (.cancelSos rq unit) := taken_of_request rfl
theorem Taken.clearFlags (rq : Request) (group : Byte) (flags : BitVec 56) : Taken.Statement (.clearFlags rq group flags) := taken_of_request rfl
theorem Taken.ackAttention (rq : Request) (group : Byte) : Taken.Statement (.ackAttention rq group) := taken_of_request rfl
theorem Taken.clearCounters (rq : Request) : Taken.Statement (.clearCounters rq) := taken_of_request rfl
theorem Taken.restart (rq : Request) : Taken.Statement (.restart rq) := taken_of_request rfl

end Sys2Proof.Laws
end

