-- ==== Sys2Proof/Tests/Slice0.lean ====
section
/-! SUPPORT. Tests: what WellFormed refuses, worked examples of the manual on small states, and for every
statement with hypotheses a state and operands that meet them. Expected values come from the manual's worked
cases and tables, or from hand work on its rules; each test names its source. -/

namespace Sys2Proof.Tests

set_option Elab.async false
set_option synthInstance.maxHeartbeats 400000
set_option synthInstance.maxSize 4000

open Sys2Proof.Machine

/-! ### Helpers -/

/-- The state after a command; every command answers a next state. -/
def after (i : Instr) (s : State) : State :=
  match exec i s with
  | .next t => t
  | .fault _ => s
  | .refused _ => s

/-- The state after a step, if the step answers one. -/
def stepped (s : State) : Option State :=
  match step s with
  | .next t => some t
  | .fault _ => none
  | .refused _ => none

/-- A request from the control station on OUTBYE. -/
def rq : Request := ⟨1, 0xFFF0, .outbye⟩

/-- The machine after a cold start, some milliseconds on. -/
def base : State := { State.reset with now := 5 }

/-- A grade entry that is enabled. -/
def entry (level band hold : Nat) : EntryConfig := ⟨true, level, band, hold⟩

/-- The CH4 channel of the worked grading case (section 1.5). -/
def methane : ChannelRecord :=
  { ChannelRecord.factory with
    enabled := true, offset := 400, gain := 139, shift := 2
    alert := entry 100 10 2, alarm := entry 125 10 3, trip := entry 200 20 2 }

/-- That channel, LIVE with an average. -/
def live (a : Nat) (alert alarm trip : EntryState) : Channel :=
  { Channel.cold with
    record := methane, state := .live, lastStatus := some .ok, staleTimer := some 30000, value := a
    average := some a, alert := alert, alarm := alarm, trip := trip, effective := highestSet alert alarm trip }

/-- Channel 0 is that channel, and record 0 polls its device, whose poll of sequence 1 is in flight. -/
def polling (x : Channel) : State :=
  let s := base.setChannel 0 x
  let s := s.setPollRecord 0 ⟨⟨true, 0x1010, .gasHead, ⟨.s1, 1⟩⟩, .responding, 0, some 1000⟩
  { s with poller := { s.poller with
      inFlight := some ⟨0, 0x1010, 1, pollWire 0x1010 1⟩, replyTimer := some 50, sequence := 1 } }

/-- A GAS REPLY of device 0x1010 with a sequence and a raw count for channel 0 (R77). -/
def gasReply (seq : Byte) (raw : Word) : Instr :=
  .lineMessageReceived (withCheck ([2, 0x10, 0x10, seq] ++ wordBytes raw ++ [0] ++ wordBytes 400 ++ [0]))

/-- The fields of an enabled channel record of the load check examples (section 1.2). -/
def fields (gas : Word) (alert alarm trip : EntryFields) : ChannelFields :=
  { enabled := 1, scope := 0, gas := gas, offset := 400, gain := 139, shift := 2
    alert := alert, alarm := alarm, trip := trip, faultAction := 1, stale := 0x9E }

/-- A grade entry of those examples that is not enabled. -/
def offEntry : EntryFields := ⟨0, 1, 0, 1⟩

/-- The bytes of a backbone frame (R72). -/
def frame (cls kind dest src seq : Nat) (payload : List Byte) : List Byte :=
  withCheck ([BitVec.ofNat 8 (cls * 32 + kind), 0xF8] ++ wordBytes (BitVec.ofNat 16 dest)
    ++ wordBytes (BitVec.ofNat 16 src) ++ [BitVec.ofNat 8 seq, BitVec.ofNat 8 payload.length] ++ payload)

/-- An attached miner unit's entry at RADIO_HERE. -/
def miner (a : Addr) (m : Muster) : Entry := ⟨a, .radioHere, 0, false, m, some 7⟩

/-- A state with station entries. -/
def withEntries (s : State) (l : List Entry) : State := s.setEntries l

/-- A leg that counts. -/
def leg (state : LegState) (p : Priority) (timer : Timer) : Leg :=
  { Leg.cold with
    state := state, callId := ⟨7, 3⟩, localParty := 0x2345, remoteParty := 0xFFF1, priority := p
    setupTimer := timer }

/-- A frame of a kind. -/
def kindFrame (k : FrameKind) (dest src : Addr) (payload : List Byte) : Frame :=
  ⟨k.codes.1, k.codes.2, 5, dest, src, 3, payload⟩

/-- The cause of the last refusal queued or in transmission on OUTBYE: the third byte of its payload. -/
def lastCause (s : State) : Option Byte :=
  match s.net.outbye.egress.sending with
  | some t => t.frame.payload[2]?
  | none => none

/-! ### WellFormed refuses -/

theorem test_wellFormed_emptyFrame : (Instr.frameReceived .radio []).wellFormed = false := by decide

theorem test_wellFormed_emptyLineMessage : (Instr.lineMessageReceived []).wellFormed = false := by decide

theorem test_wellFormed_requestFromNode : (Instr.evacuate ⟨1, 0x0008, .inbye⟩).wellFormed = false := by decide

theorem test_wellFormed_good : (Instr.evacuate rq).wellFormed = true := by decide

/-- No row has bits (assumption 2). -/
theorem test_decode_none : decodeTableWord 16 0 = none := by decide

/-! ### Air (chapter 1) -/

/-- Worked conversion: 1330 gives 126, 404 gives 1, 403 gives 0, 4095 with the widest setting is clamped. -/
theorem test_convert : convert 400 139 10000 1330 = 126 ∧ convert 400 139 10000 404 = 1
    ∧ convert 400 139 10000 403 = 0 ∧ convert 0 65535 10000 4095 = 10000 ∧ convert 400 512 10000 401 = 1 := by
  decide

/-- R14's note: with k = 4 the average stalls at 52 under 45; the worked case's steps 100 to 107, 125 to 94. -/
theorem test_smooth : smooth 4 (some 52) 45 = 52 ∧ smooth 2 (some 100) 126 = 107
    ∧ smooth 2 (some 125) 0 = 94 ∧ smooth 0 (some 3) 9 = 9 ∧ smooth 4 none 9 = 9 := by decide

/-- Worked grading case, sample 1: average 107, ALERT SET with run 0, effective and zone grade ALERT. -/
theorem test_lineMessage_grades :
    let t := after (gasReply 1 1330) (polling (live 100 ⟨false, 1⟩ ⟨false, 0⟩ ⟨false, 0⟩))
    (t.channel 0).average = some 107 ∧ (t.channel 0).alert = ⟨true, 0⟩ ∧ t.air.zone = .alert
      ∧ (t.evac.lines.get .strobe).pattern = .slow := by decide +kernel

/-- Section 2.6's sequence at 3085: a good reply with no poll in flight is late. -/
theorem test_lineMessage_late : (after (gasReply 10 1330) base).poller.counters.lateReplies = 1 := by
  decide +kernel

/-- Section 2.6's sequence at 3070: the third miss makes the record SILENT and its channel FAULT. -/
theorem test_replyTimer_silent :
    let s := polling (live 100 ⟨false, 1⟩ ⟨false, 0⟩ ⟨false, 0⟩)
    let t := after .replyTimerExpiry (s.setPollRecord 0 { s.pollRecord 0 with misses := 2 })
    (t.pollRecord 0).state = .silent ∧ (t.channel 0).state = .fault ∧ t.air.zone = .alarm := by decide +kernel

/-- Load check examples: H ≥ L is BAD_BAND, an order broken is BAD_ORDER, CO above its full scale BAD_VALUE. -/
theorem test_loadChannel_refused :
    lastCause (after (.loadRecordChannel rq 0 (fields 0 ⟨1, 100, 100, 1⟩ offEntry offEntry)) base) = some 4
    ∧ lastCause (after (.loadRecordChannel rq 0 (fields 0 ⟨1, 150, 10, 1⟩ ⟨1, 125, 10, 1⟩ offEntry)) base)
        = some 5
    ∧ lastCause (after (.loadRecordChannel rq 0 (fields 1 offEntry ⟨1, 2100, 10, 1⟩ offEntry)) base)
        = some 3 := by decide +kernel

/-- Load check examples: the methane record is accepted; the scanner is SUSPENDED and the channel WARMING. -/
theorem test_loadChannel_accepted :
    let t := after (.loadRecordChannel rq 0 (fields 0 ⟨1, 100, 10, 2⟩ ⟨1, 125, 10, 3⟩ ⟨1, 200, 20, 2⟩)) base
    t.integ.state = .suspended ∧ (t.channel 0).state = .warming ∧ t.air.zone = .alert := by decide +kernel

/-- The trip reset procedure, step 3: 168 meets the clear condition of 200 with band 20, 180 does not. -/
theorem test_resetTrip :
    let s (a : Nat) : State := { base.setChannel 0 (live a ⟨true, 0⟩ ⟨true, 0⟩ ⟨true, 0⟩) with
      air := { (base.setChannel 0 (live a ⟨true, 0⟩ ⟨true, 0⟩ ⟨true, 0⟩)).air with
        zone := .trip, tripOutput := true } }
    (after (.resetTrip rq 0) (s 168)).air.tripOutput = false
      ∧ (after (.resetTrip rq 0) (s 168)).air.zone = .alarm
      ∧ lastCause (after (.resetTrip rq 0) (s 180)) = some 8 := by decide +kernel

/-- Worked test case: the first sample of the test, fed after a poll, gives the shadow average 107, run 1. -/
theorem test_testChannel_firstSample :
    let s := after (.testChannel rq 0 126 12) (polling (live 100 ⟨false, 1⟩ ⟨false, 0⟩ ⟨false, 0⟩))
    ((after (gasReply 1 1000) s).channel 0).test.map (fun t => (t.fed, t.average, t.alert))
      = some (1, some 107, ⟨false, 1⟩) := by decide +kernel

/-- R33: a test of one sample completes with its poll; 90 moved by (9910 + 2) / 4 is 2568, and the RESPONSE gives
COMPLETE, one sample, the shadow average, no entry SET (ALERT's hold count is 2) and NORMAL. -/
theorem test_testChannel_completes :
    let s := after (.testChannel rq 0 10000 1) (polling (live 90 ⟨false, 0⟩ ⟨false, 0⟩ ⟨false, 0⟩))
    let t := after (gasReply 1 1000) s
    (t.channel 0).test = none ∧ t.flagSet Flag.testDone = true
      ∧ t.net.outbye.egress.sending.map (fun x => x.frame.payload)
        = some [1, 0, 0, 0, 1, 0x0A, 0x08, 0, 0, 0, 0] := by decide +kernel

/-- R21 and R18: a channel whose stale timer expires is in FAULT and claims its fault action. -/
theorem test_staleTimer :
    let t := after (.staleTimerExpiry 0) (polling (live 90 ⟨false, 0⟩ ⟨false, 0⟩ ⟨false, 0⟩))
    (t.channel 0).state = .fault ∧ t.air.zone = .alarm ∧ t.seg.causes.air = true := by decide +kernel

/-- R29 and R30: that change sets GRADE_UP, and its ZONE GRADE carries ALARM with channel 0 as its cause. -/
theorem test_staleTimer_notices :
    let t := after (.staleTimerExpiry 0) (polling (live 90 ⟨false, 0⟩ ⟨false, 0⟩ ⟨false, 0⟩))
    t.flagSet (Flag.gradeUp 0) = true ∧ t.flagSet (Flag.gradeDown 0) = false
      ∧ t.net.outbye.egress.sending.map (fun x => x.frame.payload) = some [0, 7, 2, 0]
      ∧ t.net.outbye.egress.queues.air.map (fun f => f.payload.take 4) = [[2, 0, 1, 0]] := by decide +kernel

/-- R31: the air report timer runs 10 s again; the control station is unknown, so both backbone ports send. -/
theorem test_airReportTimer :
    let t := after .airReportTimerExpiry base
    t.air.reportTimer = some 20000
      ∧ t.net.outbye.egress.sending.map (fun x => x.frame.payload) = some [0, 0, 0] := by decide +kernel

/-! ### Poller (chapter 2) -/

/-- R38, R40, R77: an accepted load is due at once, so the first POLL goes out with sequence 1. -/
theorem test_loadPoll_polls :
    (after (.loadRecordPoll rq 0 ⟨1, 0x1010, 0, 0x81⟩) base).poller.inFlight.map (fun f => f.wire.take 4)
      = some [1, 0x10, 0x10, 1] := by decide +kernel

/-- R37 step 2: a timer setting with count 0 is refused. -/
theorem test_loadPoll_refused :
    lastCause (after (.loadRecordPoll rq 0 ⟨1, 0x1010, 0, 0x80⟩) base) = some 3 := by decide +kernel

/-- Section 2.6's sequence at 1000: record 0 is due, polled, and due again at 2000. -/
theorem test_recordDue :
    let s := polling (live 90 ⟨false, 0⟩ ⟨false, 0⟩ ⟨false, 0⟩)
    let t := after .recordDue { s with poller := { s.poller with inFlight := none, replyTimer := none } }
    t.now = 1000 ∧ (t.pollRecord 0).due = some 2000 ∧ t.poller.replyTimer = some 1050 := by decide +kernel

/-! ### Station table (chapter 3) -/

/-- The walk inbye, time 42: a unit's entry at RADIO_HERE reaches age 30 and is removed. -/
theorem test_ageTick :
    let t := after .ageTick (withEntries base [{ miner 0x2345 .none with age := 29 }])
    t.table.entries = [] ∧ t.table.counters.agedOut = 1 := by decide +kernel

/-- R67: an enabled watch on this node's own address is refused; one on a unit is stored. -/
theorem test_loadWatch :
    lastCause (after (.loadRecordWatch rq 0 ⟨1, 7⟩) base) = some 3
    ∧ (after (.loadRecordWatch rq 3 ⟨1, 0x2345⟩) base).table.watches[3] = ⟨true, 0x2345⟩ := by decide +kernel

/-- R60, R62: a valid window pins the entries it names. -/
theorem test_loadPin :
    (after (.loadRecordPin rq 0 ⟨1, 0x2000, 0xF000⟩)
      (withEntries base [miner 0x2345 .none, miner 0x3010 .none])).table.entries.map (fun e => e.pinned)
      = [true, false] := by decide +kernel

/-! ### Frames and ports (chapters 4 and 8) -/

/-- One alarm round a loop, steps 2 and 5: node 8's alarm is delivered once; its duplicate is dropped, counted
and teaches the other direction. -/
theorem test_frameReceived_duplicate :
    let f : List Byte := frame 0 1 0xFFFF 8 41 [0, 8, 0, 0xFF]
    let s := after (.frameReceived .inbye f) base
    let t := after (.frameReceived .outbye f) s
    s.net.relay.map (fun e => (e.origin, e.seq)) = [(8, 41)]
      ∧ s.table.entries.map (fun e => e.location) = [.viaInbye]
      ∧ t.net.outbye.counters.duplicateAlarms = 1
      ∧ t.table.entries.map (fun e => e.location) = [.viaOutbye] := by decide +kernel

/-- R78: a frame with a wrong check is counted and reaches nothing. -/
theorem test_frameReceived_badCheck :
    let t := after (.frameReceived .inbye [0x01, 0xF8, 0xFF, 0xFF, 0, 8, 41, 0, 0, 0]) base
    t.net.inbye.counters.checkErrors = 1 ∧ t.table.entries = [] := by decide +kernel

/-- R93 and the layout of R72: an alarm that is forwarded leaves with one hop less. -/
theorem test_frameReceived_hop :
    (after (.frameReceived .inbye (frame 0 1 0xFFFF 8 41 [0, 8, 0, 0xFF])) base).net.outbye.egress.sending.map
      (fun x => x.wire.take 2) = some [0x01, 0xF0] := by decide +kernel

/-- The bank switch, choice 10: END wraps, the pending bank is taken, and its entry 1 serves TELEM. -/
theorem test_frameSent_wrap :
    let f : Frame := ⟨.telem, 1, 30, 9, 8, 1, [1]⟩
    let e : Egress := { queues := { telem := [f] }, sending := some ⟨f, [], false⟩, position := 8
                        pendingBank := some .one }
    let s := { base with net := { base.net with
      outbye := { base.net.outbye with egress := e }
      banks := { base.net.banks with one := base.net.banks.one.set 1 .telem } } }
    let x := (after (.frameSent .outbye) s).net.outbye.egress
    x.active = .one ∧ x.position = 2 ∧ x.pendingBank = none := by decide +kernel

/-- R90, R161: a port that goes DOWN flushes and moves its entries to UNKNOWN. -/
theorem test_linkDown :
    let t := after (.linkDown .inbye) (withEntries base [⟨8, .viaInbye, 3, false, .none, none⟩])
    t.net.inbye.up = false ∧ t.table.entries.map (fun e => e.location) = [.unknown]
      ∧ t.net.inbye.counters.linkChanges = 1 := by decide +kernel

/-- R90: a port that comes UP sets LINK_CHANGE. -/
theorem test_linkUp :
    (after (.linkUp .inbye) (after (.linkDown .inbye) base)).net.inbye.counters.linkChanges = 2 := by
  decide +kernel

/-- R83: a relay entry goes at age 30. -/
theorem test_relayAgeTick :
    (after .relayAgeTick { base with net := { base.net with relay := [⟨8, 1, 29⟩, ⟨8, 2, 28⟩] } }).net.relay
      = [⟨8, 2, 29⟩] := by decide +kernel

/-- R165 and the plan procedure, step 3: every port takes the pending bank, and a write is then refused. -/
theorem test_selectPlan :
    let t := after (.selectPlan rq 1) base
    t.net.radio.egress.pendingBank = some .one
      ∧ (after (.loadRecordPlan rq 256 1) t).mgmt.counters.requestsRefused = 1 := by decide +kernel

/-- R166: ALARM is refused as a plan entry, and the idle bank takes VOICE. -/
theorem test_loadPlan :
    lastCause (after (.loadRecordPlan rq 256 0) base) = some 3
    ∧ (after (.loadRecordPlan rq 0x011F 1) base).net.banks.one[31] = .voice := by decide +kernel

/-- Battery through the shed table, samples c and h. -/
theorem test_supplySample :
    let s := after (.supplySample false 10990 41) base
    s.supply.shedLevel = 1 ∧ (after (.supplySample true 12100 43) s).supply.shedLevel = 0 := by decide +kernel

/-- Battery through the shed table, sample e: 10520 lies in the gap of 10400, and 10600 ends it. -/
theorem test_supplySample_gap :
    let s := after (.supplySample false 10380 41) base
    (after (.supplySample false 10520 41) s).supply.shedLevel = 2
      ∧ (after (.supplySample false 10600 41) s).supply.shedLevel = 1 := by decide +kernel

/-- R169: a temperature gate of 125 is out of range, one of 124 is not. -/
theorem test_loadShed :
    lastCause (after (.loadRecordShed rq 3 ⟨1, 1, 125, 2⟩) base) = some 3
    ∧ (after (.loadRecordShed rq 3 ⟨1, 1, 124, 2⟩) base).supply.entries[3].config.gate = 124 := by
  decide +kernel

/-! ### Calls (chapter 5) -/

/-- R114's table: 250 then 4 passes (difference 10), 4 then 133 does not (129), a duplicate does not. -/
theorem test_voiceNewer : voiceNewer (some 250) 4 = true ∧ voiceNewer (some 4) 133 = false
    ∧ voiceNewer (some 201) 201 = false ∧ voiceNewer (some 201) 199 = false
    ∧ voiceNewer none 200 = true := by decide

/-- R106: a setup timer's expiry clears the leg with NO_ANSWER. -/
theorem test_setupTimer :
    let s := (base.setLeg 0 (leg .ringing .urgent (some 30000))).setStartList [0]
    let t := after (.setupTimerExpiry 0) s
    (t.leg 0).state = .idle ∧ (t.leg 0).lastCause = some .noAnswer ∧ t.calls.counters.setupTimeouts = 1 := by
  decide +kernel

/-- R98: shed level 2 leaves no ROUTINE leg. -/
theorem test_supplySample_clearsLegs :
    let s := (base.setLeg 0 (leg .active .routine none)).setStartList [0]
    ((after (.supplySample false 10380 20) s).leg 0).lastCause = some .shed := by decide +kernel

/-- R99: a range whose high is below its low is refused. -/
theorem test_loadPermit : lastCause (after (.loadRecordPermit rq 0 ⟨5, 4, 1, 1⟩) base) = some 3 := by
  decide +kernel

/-! ### Segment (chapter 6) -/

/-- Queue, drain and trip, time 5: OPEN SEGMENT frees the segment that a cold start closed. -/
theorem test_openSegment : (after (.openSegment rq) base).seg.state = .free := by decide +kernel

/-- R131, R129: CLOSE SEGMENT closes a free segment. -/
theorem test_closeSegment : (after (.closeSegment rq) (after (.openSegment rq) base)).seg.state = .closed := by
  decide +kernel

/-- A truck lease loss, time 20: HELD becomes LOST and the queue is kept. -/
theorem test_leaseTimer :
    let s : State := { base with seg := { base.seg with
      state := .held, causes := ⟨false, false, false⟩, holder := some ⟨0x8131, .inbye⟩
      queue := [⟨0x8144, .inbye⟩], lease := some 20000 } }
    (after .leaseTimerExpiry s).seg.state = .lost
      ∧ (after (.releaseSegment rq) (after .leaseTimerExpiry s)).seg.holder = some ⟨0x8144, .inbye⟩ := by
  decide +kernel

/-- R132: RELEASE SEGMENT of a segment that is not LOST is refused with NOT_LOST. -/
theorem test_releaseSegment : lastCause (after (.releaseSegment rq) base) = some 10 := by decide +kernel

/-! ### Evacuation and outputs (chapter 7) -/

/-- Following, muster and a breach, time 0: the ordered node notifies its miners and sirens go FAST. -/
theorem test_evacuate :
    let t := after (.evacuate rq) (withEntries base [miner 0x2345 .none, miner 0x2410 .none])
    t.evac.state = .evacuate ∧ t.evac.counters.noticesSent = 2 ∧ (t.evac.lines.get .siren).pattern = .fast := by
  decide +kernel

/-- R141: node 8's ALARM is followed at distance 1, node 9's is not. -/
theorem test_frameReceived_follows :
    (after (.frameReceived .inbye (frame 0 1 0xFFFF 8 41 [0, 8, 2, 0xFF])) base).evac.state = .evacuate
    ∧ (after (.frameReceived .inbye (frame 0 1 0xFFFF 9 41 [0, 9, 2, 0xFF])) base).evac.state = .quiet := by
  decide +kernel

/-- R143: STAND DOWN leaves EVACUATE and clears the marks. -/
theorem test_standDown :
    let t := after (.standDown rq) (after (.evacuate rq) (withEntries base [miner 0x2345 .none]))
    t.evac.state = .quiet ∧ t.evac.repeatTimer = none ∧ t.evac.counters.musterReports = 2 := by decide +kernel

/-- Following, muster and a breach, time 10: only the unmustered are notified. -/
theorem test_repeatTimer :
    let s := withEntries base [miner 0x2345 .notified, miner 0x2600 .none]
    let t := after .repeatTimerExpiry { s with evac := { s.evac with
      state := .evacuate, repeatTimer := some 5000 } }
    t.evac.counters.noticesSent = 1 ∧ t.evac.repeatTimer = some 10000 := by decide +kernel

/-- Following, muster and a breach, time 38: the age of an open door reaches 30. -/
theorem test_doorTick :
    let s := base.setPanel 2 ⟨true, .opened, 0, [], .mains, 29, false⟩
    let t := after .doorTick { s with
      air := { s.air with zone := .alarm }, evac := { s.evac with state := .evacuate } }
    (t.panel 2).breach = true ∧ t.evac.counters.breaches = 1 := by decide +kernel

/-- R152, R190: CANCEL SOS says whether the unit was there. -/
theorem test_cancelSos :
    let t := after (.cancelSos rq 0x2345) { base with evac := { base.evac with sos := [0x2410, 0x2345] } }
    t.evac.sos = [0x2410] ∧ t.net.outbye.egress.sending.map (fun x => x.frame.payload) = some [1, 0, 0, 1] := by
  decide +kernel

/-- R154: a pattern above STEADY is refused. -/
theorem test_loadRoute : lastCause (after (.loadRecordRoute rq 3 ⟨4, 0, 0, 0⟩) base) = some 3 := by
  decide +kernel

/-- R155: a FAST line changes its level every 250 ms. -/
theorem test_outputCadence :
    let s := after (.evacuate rq) base
    let t := after (.outputCadenceToggle .siren) s
    (s.evac.lines.get .siren).asserted = true ∧ (t.evac.lines.get .siren).asserted = false
      ∧ (t.evac.lines.get .siren).cadence = some 505 := by decide +kernel

/-! ### Integrity, isolation, management (chapters 9 and 10) -/

/-- A scan interrupted: step 12 takes channel 11. -/
theorem test_scanStep :
    (after .scanStep { base with integ := { base.integ with position := 11 } }).integ.position = 12 := by
  decide +kernel

/-- A scan interrupted: SET CHECK stops the suspension timer and starts a scan 10 ms before its first step. -/
theorem test_setCheck :
    let t := after (.setCheck rq 0x1234) { base with integ := { base.integ with
      state := .suspended, suspensionTimer := some 60125, scanTimer := none } }
    t.integ.state = .checking ∧ t.integ.suspensionTimer = none ∧ t.integ.scanTimer = some 15 := by
  decide +kernel

/-- A table change under suspension, no check at all: FAULT at 60 s lifts the zone grade to ALARM. -/
theorem test_suspensionTimer :
    let t := after .suspensionTimerExpiry { base with integ := { base.integ with
      state := .suspended, suspensionTimer := some 60125, scanTimer := none } }
    t.integ.state = .fault ∧ t.air.zone = .alarm ∧ t.evac.state = .evacuate := by decide +kernel

/-- R202's last sentence: at 15 s the node is isolated, and FAULT_LINE goes SLOW (R186). -/
theorem test_isolationTimer :
    let t := after .isolationTimerExpiry base
    t.mgmt.isolated = true ∧ t.now = 15000 ∧ (t.evac.lines.get .faultLine).pattern = .slow := by decide +kernel

/-- R202: the first NODE STATUS carries report count 1. -/
theorem test_statusTimer :
    let t := after .statusTimerExpiry base
    t.mgmt.statusTimer = some 10000
      ∧ t.net.outbye.egress.sending.map (fun x => x.frame.payload.drop 16) = some [0, 0, 0, 1] := by
  decide +kernel

/-- R196, R190: CLEAR FLAGS of NODE clears COLD_STARTED and answers what stays; the summary stays (R195). -/
theorem test_clearFlags :
    let t := after (.clearFlags rq 4 0x40) base
    t.mgmt.attention.node = ⟨0, true⟩
      ∧ t.net.outbye.egress.sending.map (fun x => x.frame.payload) = some [1, 0, 0, 0] := by decide +kernel

/-- R197: ACK ATTENTION is refused with FLAGS_SET while COLD_STARTED stands. -/
theorem test_ackAttention : lastCause (after (.ackAttention rq 4) base) = some 13 := by decide +kernel

/-- R199: CLEAR COUNTERS is counted after the clearing. -/
theorem test_clearCounters :
    let t := after (.clearCounters rq) { base with supply := { base.supply with counters := ⟨3, 4⟩ } }
    t.supply.counters = {} ∧ t.mgmt.counters.requestsTaken = 1 := by decide +kernel

/-- R200: RESTART is carried out when its response has been sent, and RESTARTED stands alone. -/
theorem test_restart :
    let s := after (.restart rq) base
    let t := after (.frameSent .outbye) s
    s.mgmt.restartPending = true ∧ t.mgmt.restartPending = false ∧ t.mgmt.attention.node.flags = 0x20 := by
  decide +kernel

/-- R194, R98: PARAMETERS with a trigger grade of TRIP; a count of 0 in the lease is refused. -/
def parameters (lease : Byte) : ParameterFields :=
  { control := 0xFFF0, presence := 0x9E, route := 0xDE, setup := 0x9E, lease := lease, airReport := 0
    status := 0x85, isolation := 0x8F, repeatTime := 0x85, door := 0x9E, trigger := 3, follow := 1, airMask := 0
    callMask := 0, truckMask := 0, refugeMask := 0, nodeMask := 0 }

/-- R193, R31: a count of 0 disables the AIR REPORT and is refused for the lease. -/
theorem test_loadParameters :
    (after (.loadRecordParameters rq 0 (parameters 0x94)) base).air.reportTimer = none
    ∧ lastCause (after (.loadRecordParameters rq 0 (parameters 0x80)) base) = some 3 := by decide +kernel

/-- R93: cold start reads the straps and the links. -/
theorem test_coldStart :
    let t := after (.coldStart 200 false true) (after (.evacuate rq) base)
    t.nodeAddr? = some 200 ∧ t.net.outbye.up = false ∧ t.evac.state = .quiet
      ∧ t.mgmt.attention.node.flags = 0x40 := by decide +kernel

/-- R190, R192: READ RECORD POLL of the factory record. -/
theorem test_readPoll :
    (after (.readRecordPoll rq 7) base).net.outbye.egress.sending.map (fun x => x.frame.payload)
      = some [1, 0, 0, 1, 0, 7, 0, 0x10, 0x00, 0, 0x81, 0, 0, 0] := by decide +kernel

/-- R191: READ RECORD of an index outside the table is BAD_INDEX; MANAGEMENT shows the request counted. -/
theorem test_readBadIndex :
    lastCause (after (.readRecordRoute rq 11) base) = some 2
    ∧ (after (.readRecordManagement rq 0) base).net.outbye.egress.sending.map
        (fun x => (x.frame.payload.drop 6).take 4) = some [0, 0, 0, 1] := by decide +kernel

/-! ### Witnesses: every statement's hypotheses are met

`base` accepts requests; a witness names the clause it is for. -/

/-- A state that meets every promise, and a step from it: for the statements about every step. -/
theorem witness_everyStep : base.Safe ∧ stepped base = some { base with now := 6 } := by
  decide +kernel

/-- EmptyQueueRunsEarliestTimer: no moment has come; and one has (the scan's, at 10). -/
theorem witness_emptyQueue : base.pending = [] ∧ (∀ x ∈ base.timers, ∀ d ∈ x.1, base.now < d)
    ∧ (some 10, Instr.scanStep) ∈ { base with now := 10 }.timers := by decide +kernel

/-- ProtectedRecordsAreOneByteString: the last index of each table. -/
theorem witness_protectedRecords : (10 : Word).toNat = (10 : Fin 11).val ∧ (3 : Word).toNat = (3 : Fin 4).val := by
  decide

/-- SmoothingStepsTowardTheValue: both ends of the shift, and values at full scale. -/
theorem witness_smoothing : 0 ≤ 4 ∧ (1 ≤ 4 ∧ 4 ≤ 4) ∧ 10000 ≤ 10000 ∧ ((52 : Int) - 45).natAbs < 2 ^ (4 - 1)
    ∧ ¬ ((53 : Int) - 45).natAbs < 2 ^ (4 - 1) := by decide

/-- EntriesNeedTheirHoldCount: a disabled entry; runs below and at the hold count, both ways; averages in the
band. -/
theorem witness_entries :
    (EntryConfig.factory.enabled = false)
    ∧ ((entry 100 10 2).enabled = true ∧ 1 ≤ (entry 100 10 2).hold)
    ∧ (∀ a ∈ [100], (entry 100 10 2).beyond .rising a = true) ∧ [100].length < (entry 100 10 2).hold
    ∧ (∀ a ∈ [100, 101], (entry 100 10 2).beyond .rising a = true) ∧ [100, 101].length = (entry 100 10 2).hold
    ∧ (∀ a ∈ [89, 0], (entry 100 10 2).clears .rising a = true) ∧ [89, 0].length = (entry 100 10 2).hold
    ∧ (entry 100 10 2).beyond .rising 99 = false ∧ (entry 100 10 2).clears .rising 90 = false := by decide

/-- A channel whose TRIP is latched. -/
def latched (a : Option Nat) : State :=
  base.setChannel 15 { live 200 ⟨true, 0⟩ ⟨true, 0⟩ ⟨true, 0⟩ with average := a }

/-- LoadChannelRefusals: each refusal of R9, at the first index outside the table and at the last inside. -/
theorem witness_loadChannelRefusals :
    base.Accepts rq ∧ 16 ≤ (16 : Word).toNat ∧ (15 : Word).toNat = (15 : Fin 16).val
    ∧ ((latched none).Accepts rq ∧ ((latched none).channel 15).trip.set = true)
    ∧ (base.channel 15).trip.set = false
    ∧ ¬ ChannelInRange (fields 4 offEntry offEntry offEntry)
    ∧ (ChannelInRange (fields 2 ⟨1, 2480, 20, 1⟩ offEntry offEntry)
        ∧ ChannelPlain (fields 2 ⟨1, 2480, 20, 1⟩ offEntry offEntry)
        ∧ ¬ BandsPass (fields 2 ⟨1, 2480, 20, 1⟩ offEntry offEntry))
    ∧ (ChannelInRange (fields 0 ⟨1, 150, 10, 16⟩ ⟨1, 125, 10, 1⟩ offEntry)
        ∧ ChannelPlain (fields 0 ⟨1, 150, 10, 16⟩ ⟨1, 125, 10, 1⟩ offEntry)
        ∧ BandsPass (fields 0 ⟨1, 150, 10, 16⟩ ⟨1, 125, 10, 1⟩ offEntry)
        ∧ ¬ OrdersPass (fields 0 ⟨1, 150, 10, 16⟩ ⟨1, 125, 10, 1⟩ offEntry)) := by decide +kernel

/-- The fields of the methane record, enabled or not. -/
def methaneFields (enabled : Word) : ChannelFields :=
  { fields 0 ⟨1, 100, 10, 2⟩ ⟨1, 125, 10, 3⟩ ⟨1, 200, 20, 2⟩ with enabled := enabled }

/-- The device of record 7, channels 14 and 15, is SILENT. -/
def silentDevice : State :=
  base.setPollRecord 7 ⟨⟨true, 0x1010, .gasHead, ⟨.s1, 1⟩⟩, .silent, 3, some 1000⟩

/-- LoadChannelRestartsChannel: enabled and not, with a device that is SILENT and one that is not. -/
theorem witness_loadChannelRestarts :
    (∀ f ∈ [methaneFields 0, methaneFields 1], ChannelInRange f ∧ ChannelPlain f ∧ BandsPass f ∧ OrdersPass f)
    ∧ base.Accepts rq ∧ (base.channel 15).trip.set = false ∧ base.deviceSilent 15 = false
    ∧ silentDevice.Accepts rq ∧ (silentDevice.channel 15).trip.set = false ∧ silentDevice.deviceSilent 15 = true := by
  decide +kernel

/-- ResetTripReleasesLatch: every row of R28. -/
theorem witness_resetTrip :
    16 ≤ (16 : Byte).toNat ∧ (15 : Byte).toNat = (15 : Fin 16).val
    ∧ (base.Accepts rq ∧ (base.channel 15).trip.set = false)
    ∧ ((latched none).Accepts rq ∧ ((latched none).channel 15).trip.set = true
        ∧ ((latched none).channel 15).average = none)
    ∧ ((latched (some 180)).channel 15).record.trip.clears .rising 180 = false
    ∧ ((latched (some 179)).channel 15).record.trip.clears .rising 179 = true
    ∧ (latched (some 179)).Accepts rq ∧ ((latched (some 179)).channel 15).average = some 179 := by decide +kernel

/-- A channel under test. -/
def tested : State := after (.testChannel rq 0 10000 32) (polling (live 90 ⟨false, 0⟩ ⟨false, 0⟩ ⟨false, 0⟩))

/-- TestChannelBuildsShadow: under test, disabled, out of range on either side, and accepted at both ends. -/
theorem witness_testChannel :
    16 ≤ (16 : Byte).toNat ∧ (tested.Accepts rq ∧ (tested.channel 0).test.isSome = true)
    ∧ ((base.channel 0).test = none ∧ (base.channel 0).record.enabled = false)
    ∧ (polling (live 90 ⟨false, 0⟩ ⟨false, 0⟩ ⟨false, 0⟩)).Accepts rq
    ∧ ((polling (live 90 ⟨false, 0⟩ ⟨false, 0⟩ ⟨false, 0⟩)).channel 0).record.enabled = true
    ∧ methane.gas.fullScale < (10001 : Word).toNat ∧ (10000 : Word).toNat ≤ methane.gas.fullScale
    ∧ (0 : Byte).toNat < 1 ∧ 32 < (33 : Byte).toNat ∧ 1 ≤ (1 : Byte).toNat ∧ (32 : Byte).toNat ≤ 32 := by
  decide +kernel

/-- StaleTimerPutsChannelInFault: a stopped timer; a running one of an enabled channel. -/
theorem witness_staleTimer :
    (base.channel 0).staleTimer = none
    ∧ (((polling (live 90 ⟨false, 0⟩ ⟨false, 0⟩ ⟨false, 0⟩)).channel 0).staleTimer = some 30000
      ∧ ((polling (live 90 ⟨false, 0⟩ ⟨false, 0⟩ ⟨false, 0⟩)).channel 0).record.enabled = true
      ∧ ((polling (live 90 ⟨false, 0⟩ ⟨false, 0⟩ ⟨false, 0⟩)).channel 0).state ≠ .fault
      ∧ ((polling (live 90 ⟨false, 0⟩ ⟨false, 0⟩ ⟨false, 0⟩)).channel 0).effective = .normal) := by decide +kernel

/-- ReportTimersSendReports: the three timers run after a cold start. -/
theorem witness_reportTimers :
    base.air.reportTimer = some 10000 ∧ base.mgmt.isolationTimer = some 15000
      ∧ base.mgmt.statusTimer = some 5000 ∧ base.nodeAddr?.isSome = true := by decide +kernel

/-- A node whose straps give it no address. -/
def nameless : State := { base with net := { base.net with straps := 0 } }

/-- A node with a restart pending. -/
def restarting : State := after (.restart rq) base

/-- RequestsJudgedBeforeTheyAct: each of the four ways. -/
theorem witness_requestsJudged :
    (Instr.evacuate ⟨1, 8, .inbye⟩).request? = some ⟨1, 8, .inbye⟩ ∧ isSurface 8 = false
    ∧ (Instr.evacuate rq).request? = some rq ∧ isSurface rq.source = true
    ∧ nameless.nodeAddr? = none ∧ base.nodeAddr?.isSome = true
    ∧ (restarting.nodeAddr?.isSome = true ∧ restarting.mgmt.restartPending = true) := by decide +kernel

/-- A REQUEST frame: the request code and the arguments after tag 5. -/
def requestFrame (bytes : List Byte) : Frame := kindFrame .request 7 0xFFF0 (5 :: bytes)

/-- RequestsJudgedBeforeTheyAct, requests in frames: a request frame, and the two sizes of a flag set. -/
theorem witness_requestFrame :
    ((requestFrame [7]).cls = .mgmt ∧ (requestFrame [7]).kind = 1 ∧ (requestFrame [7]).src = rq.source
      ∧ (requestFrame [7]).payload = (5 : Byte) :: requestBytes (.evacuate rq))
    ∧ ((Instr.clearFlags rq 0 (BitVec.allOnes 56)).request? = some rq ∧ ¬ 1 ≤ (0 : Byte).toNat)
    ∧ ((Instr.clearFlags rq 4 127).request? = some rq ∧ (127 : BitVec 56).toNat < 256) := by decide +kernel

/-- Section 10.2 and R191: TEST CHANNEL 3 with value 1000 and 5 samples, CLEAR FLAGS of AIR flag 48 (bit 0 of byte
6) and LOAD RECORD WATCH 1, byte by byte. -/
theorem test_requestBytes :
    requestBytes (.testChannel rq 3 1000 5) = [6, 3, 0x03, 0xE8, 5]
    ∧ askedOf rq 6 [3, 0x03, 0xE8, 5] = .command (.testChannel rq 3 1000 5)
    ∧ requestBytes (.clearFlags rq 0 0x1000000000000) = [13, 0, 0, 0, 0, 0, 0, 0, 1]
    ∧ askedOf rq 13 [0, 0, 0, 0, 0, 0, 0, 1] = .command (.clearFlags rq 0 0x1000000000000)
    ∧ requestBytes (.loadRecordWatch rq 1 ⟨1, 0x2345⟩) = [2, 6, 0, 1, 1, 0x23, 0x45]
    ∧ askedOf rq 2 [6, 0, 1, 1, 0x23, 0x45] = .command (.loadRecordWatch rq 1 ⟨1, 0x2345⟩) := by decide +kernel

/-- RequestsJudgedBeforeTheyAct, refused requests: for every clause the bytes after the tag, at the ends of their
ranges. BAD_VALUE 3: a READ too short and too long, a LOAD too short, a LOAD of CHANNEL 15 a byte short, of PLAN 1:31
without its value, SET CHECK a byte short, CLEAR FLAGS without its group, for AIR and for NODE a byte off.
BAD_TABLE 1: tables 24 and 2. BAD_INDEX 2: CHANNEL 16, PLAN 2:0 and 0:32, group 5. -/
theorem test_deliver_requestRefusals :
    [[1, 0, 0], [1, 0, 0, 0, 0], [2, 0, 0], [2, 0, 0, 15] ++ List.replicate 39 0, [2, 16, 1, 31], [3, 0], [13],
        [13, 0, 0], [13, 4], [1, 24, 0, 0], [2, 2, 0, 0], [2, 0, 0, 16], [2, 16, 2, 0, 0], [2, 16, 0, 32, 0],
        [13, 5, 0]].map (fun l => lastCause (base.deliver .outbye (requestFrame l)))
      = (List.replicate 9 3 ++ [1, 1, 2, 2, 2, 2]).map some := by decide +kernel

/-- RequestsJudgedBeforeTheyAct, refused requests: the state, the source and the request codes outside the catalogue,
which are PAYLOAD ERRORS. -/
theorem witness_requestRefusals :
    isSurface (requestFrame [17]).src = true ∧ base.nodeAddr?.isSome = true ∧ base.mgmt.restartPending = false
    ∧ 16 < (17 : Byte).toNat ∧ (wordOf 0 15).toNat = 15 ∧ (wordOf 0 16).toNat = 16
    ∧ ([[0], [17]].map (fun l => (base.deliver .outbye (requestFrame l)).net.outbye.counters.payloadErrors))
      = [1, 1] := by decide +kernel

/-- IndexedReadsAnswerAndChangeNothing: the last index of each table and the first outside it. -/
theorem witness_indexedReads :
    base.Accepts rq ∧ (15 : Word).toNat = (15 : Fin 16).val ∧ (7 : Word).toNat = (7 : Fin 8).val
    ∧ (3 : Word).toNat = (3 : Fin 4).val ∧ portOfCode (2 : Word).toNat = some .radio
    ∧ (10 : Word).toNat = (10 : Fin 11).val ∧ (0x011F : Word).toNat = 256 * Bank.one.code + (31 : Fin 32).val
    ∧ Group.ofCode (4 : Word).toNat = some .node
    ∧ 16 ≤ (16 : Word).toNat ∧ 8 ≤ (8 : Word).toNat ∧ 4 ≤ (4 : Word).toNat ∧ 3 ≤ (3 : Word).toNat
    ∧ 11 ≤ (11 : Word).toNat ∧ 512 ≤ (512 : Word).toNat ∧ 32 ≤ (0x20 : Word).toNat % 256 ∧ 5 ≤ (5 : Word).toNat := by
  decide +kernel

/-- Two entries in address order. -/
def twoEntries : State := withEntries base [miner 0x2345 .none, miner 0x2410 .none]

/-- WholeReadsAnswerAndChangeNothing: an address at an entry, and one above the last. -/
theorem witness_wholeReads :
    twoEntries.Accepts rq ∧ twoEntries.table.entries.Pairwise (fun a b => a.address.toNat < b.address.toNat)
    ∧ (miner 0x2410 .none ∈ twoEntries.table.entries ∧ (0x2410 : Word).toNat ≤ (miner 0x2410 .none).address.toNat
        ∧ ∀ d ∈ twoEntries.table.entries, (0x2410 : Word).toNat ≤ d.address.toNat →
          (miner 0x2410 .none).address.toNat ≤ d.address.toNat)
    ∧ (∀ e ∈ twoEntries.table.entries, e.address.toNat < (0x2411 : Word).toNat) := by decide +kernel

/-- LoadPollChecksAndRestartsRecord: an address taken by another record; the ends of the address range; an
accepted load of the record being polled and of another, enabled and not. -/
theorem witness_loadPoll :
    let s := polling (live 90 ⟨false, 0⟩ ⟨false, 0⟩ ⟨false, 0⟩)
    s.Accepts rq ∧ 8 ≤ (8 : Word).toNat ∧ (7 : Word).toNat = (7 : Fin 8).val
    ∧ (0x0FFF : Word).toNat < 0x1000 ∧ 0x1FFF < (0x2000 : Word).toNat ∧ 2 ≤ (2 : Byte).toNat
    ∧ (0x80 : Byte).toNat % 32 = 0
    ∧ (∃ j, j ≠ (7 : Fin 8) ∧ (s.pollRecord j).config.enabled = true
        ∧ (s.pollRecord j).config.address = (0x1010 : Word))
    ∧ (∀ j, j ≠ (7 : Fin 8) → (s.pollRecord j).config.enabled = true →
        (s.pollRecord j).config.address ≠ (0x1FFF : Word))
    ∧ 0x1000 ≤ (0x1000 : Word).toNat ∧ (0x1FFF : Word).toNat ≤ 0x1FFF ∧ (1 : Byte).toNat < 2
    ∧ (0x81 : Byte).toNat % 32 ≠ 0 ∧ s.pollingFor 0 = true ∧ s.pollingFor 7 = false := by decide +kernel

/-- LoadWatchReplacesEntry: its refusals and both kinds of accepted load. -/
theorem witness_loadWatch :
    base.Accepts rq ∧ 4 ≤ (4 : Word).toNat ∧ (3 : Word).toNat = (3 : Fin 4).val
    ∧ (stationKind 0xFFFF).isNone = true ∧ base.nodeAddr? = some 7
    ∧ (stationKind 0x2345).isSome = true ∧ base.nodeAddr? ≠ some 0x2345 := by decide +kernel

/-- PlansSelectedAndLoaded: a bank outside, each bank; an entry outside, ALARM and 7 as values; a bank in use and
one that is not. -/
theorem witness_plans :
    base.Accepts rq ∧ 2 ≤ (2 : Byte).toNat ∧ Bank.one.code = (1 : Byte).toNat
    ∧ 512 ≤ (512 : Word).toNat ∧ 32 ≤ (0x0120 : Word).toNat % 256
    ∧ (0x011F : Word).toNat = 256 * Bank.one.code + (31 : Fin 32).val
    ∧ (0 : Byte).toNat = 0 ∧ 6 < (7 : Byte).toNat ∧ PlanEntry.stop.code = (6 : Byte).toNat
    ∧ (base.net.port .radio).egress.active = .zero
    ∧ (∀ p ∈ [Port.outbye, .inbye, .radio],
        (base.net.port p).egress.active ≠ .one ∧ (base.net.port p).egress.pendingBank ≠ some .one) := by
  decide +kernel

/-- LoadsOfProtectedRecords: the indexes, a range whose ends are one address, the strongest pattern, a scanner not
in FAULT under grades that follow. -/
theorem witness_protectedLoads :
    base.Accepts rq ∧ base.GradesFollow ∧ base.integ.state ≠ .fault
    ∧ 4 ≤ (4 : Word).toNat ∧ (3 : Word).toNat = (3 : Fin 4).val ∧ (1 : Word).toNat < 2
    ∧ (4 : Word).toNat < (5 : Word).toNat ∧ (5 : Word).toNat ≤ (5 : Word).toNat
    ∧ 11 ≤ (11 : Word).toNat ∧ (10 : Word).toNat = (10 : Fin 11).val ∧ 4 ≤ (4 : Word).toNat
    ∧ Pattern.steady.code = (3 : Word).toNat := by decide +kernel

/-- LoadsOfProtectedRecords, the zone grade: a scanner in CHECKING and one in FAULT. -/
theorem witness_protectedLoads_fault :
    let s : State := { base with integ := { base.integ with state := .fault } }
    s.Accepts rq ∧ s.integ.state ≠ .suspended ∧ base.integ.state ≠ .suspended := by decide +kernel

/-- LoadShedJudgesAfresh: the gates at the ends of their ranges, and the first ones outside. -/
theorem witness_loadShed :
    base.Accepts rq ∧ 4 ≤ (4 : Word).toNat ∧ (3 : Word).toNat = (3 : Fin 4).val
    ∧ 2 ≤ (2 : Word).toNat ∧ (0 : Word).toNat < 1 ∧ 16183 < (16184 : Word).toNat
    ∧ (BitVec.ofInt 16 (-38)).toInt < -37 ∧ 124 < (125 : Word).toInt ∧ (4 : Word).toNat > 3
    ∧ (1 ≤ ((16183 : Word).toNat : Int) ∧ ((16183 : Word).toNat : Int) ≤ 16183)
    ∧ (-37 ≤ (BitVec.ofInt 16 (-37)).toInt ∧ (124 : Word).toInt ≤ 124) ∧ (3 : Word).toNat ≤ 3 := by decide +kernel

/-- LoadParametersTakesEffect: a field outside its values, and an accepted record, with a zone grade below the
trigger in QUIET and one at it. -/
theorem witness_loadParameters :
    base.Accepts rq ∧ (parameters 0x80).lease.toNat % 32 = 0
    ∧ isSurface (parameters 0x94).control = true ∧ (parameters 0x94).presence.toNat % 32 ≠ 0
    ∧ (parameters 0x94).route.toNat % 32 ≠ 0 ∧ (parameters 0x94).setup.toNat % 32 ≠ 0
    ∧ (parameters 0x94).lease.toNat % 32 ≠ 0 ∧ (parameters 0x94).repeatTime.toNat % 32 ≠ 0
    ∧ (parameters 0x94).door.toNat % 32 ≠ 0 ∧ (parameters 0x94).follow.toNat ≤ 7 ∧ (parameters 0x94).trigger = 3
    ∧ base.evac.state = .quiet ∧ base.air.zone.atLeast .trip = false
    ∧ ({ base with air := { base.air with zone := .trip } } : State).air.zone.atLeast .trip = true := by
  decide +kernel

/-- SetCheckRestartsScan: from CHECKING and from another state. -/
theorem witness_setCheck :
    base.Accepts rq ∧ base.GradesFollow ∧ base.integ.state ≠ .fault
    ∧ (after (.loadRecordPin rq 0 ⟨1, 0, 0⟩) base).integ.state ≠ .checking
    ∧ (after (.loadRecordPin rq 0 ⟨1, 0, 0⟩) base).Accepts rq := by decide +kernel

/-- A node in EVACUATE. -/
def evacuating : State := after (.evacuate rq) twoEntries

/-- EvacuateAndStandDownRequests: QUIET, EVACUATE below the trigger, EVACUATE at it. -/
theorem witness_evacuate :
    base.Accepts rq ∧ base.evac.state = .quiet
    ∧ evacuating.Accepts rq ∧ evacuating.evac.state = .evacuate
    ∧ evacuating.air.zone.atLeast evacuating.params.trigger = false
    ∧ ({ evacuating with air := { evacuating.air with zone := .alarm } } : State).air.zone.atLeast .alarm = true := by
  decide +kernel

/-- A node in EVACUATE whose zone grade is at the trigger. -/
def evacuatingAtTrigger : State := { evacuating with air := { evacuating.air with zone := .alarm } }

/-- An order of the control station for a scope. -/
def order (k : FrameKind) (scope : List Addr) : Frame :=
  kindFrame k 0xFFFF 0xFFF0 (wordBytes 0xFFF0 ++ [byteOf scope.length] ++ scope.flatMap wordBytes)

/-- EvacuateAndStandDownRequests, the order frames: an empty scope, one that names this node at the eighth place,
one that does not, and one of nine; an issuer that is not the source and one that is no surface station; in QUIET,
in EVACUATE below the trigger and at it. -/
theorem witness_orders :
    (order .evacuateOrder []).kind? = some .evacuateOrder ∧ (order .standDownOrder []).kind? = some .standDownOrder
    ∧ isSurface 0xFFF0 = true ∧ isSurface 0x0008 = false ∧ (0xFFF1 : Addr) ≠ 0xFFF0
    ∧ ([1, 2, 3, 4, 5, 6, 8, 7] : List Addr).length ≤ 8 ∧ (7 : Addr) ∈ ([1, 2, 3, 4, 5, 6, 8, 7] : List Addr)
    ∧ ¬ ((7 : Addr) ∈ ([8] : List Addr)) ∧ ¬ (List.replicate 9 (7 : Addr)).length ≤ 8
    ∧ base.nodeAddr? = some 7 ∧ base.evac.state = .quiet
    ∧ evacuating.nodeAddr? = some 7 ∧ evacuating.evac.state = .evacuate
    ∧ evacuating.air.zone.atLeast evacuating.params.trigger = false
    ∧ evacuatingAtTrigger.nodeAddr? = some 7 ∧ evacuatingAtTrigger.evac.state = .evacuate
    ∧ evacuatingAtTrigger.air.zone.atLeast evacuatingAtTrigger.params.trigger = true := by decide +kernel

/-- EvacuateAndStandDownRequests, a ZONE GRADE frame: from its own node and another's; at the follow distance of 1
on either side and beyond it; at the trigger and below it. -/
theorem witness_zoneGrade :
    (kindFrame .zoneGrade 0xFFFF 8 [0, 8, 2, 0xFF]).kind? = some .zoneGrade
    ∧ wordBytes 8 ++ [byteOf Grade.alarm.code, 0xFF] = [0, 8, 2, 0xFF]
    ∧ base.nodeAddr? = some 7 ∧ base.params.follow = 1
    ∧ ((8 : Addr).toNat ≤ (7 : Addr).toNat + 1 ∧ (7 : Addr).toNat ≤ (6 : Addr).toNat + 1)
    ∧ ¬ (9 : Addr).toNat ≤ (7 : Addr).toNat + 1 ∧ (9 : Addr) ≠ 8
    ∧ Grade.alarm.atLeast base.params.trigger = true ∧ Grade.alert.atLeast base.params.trigger = false
    ∧ base.evac.state = .quiet ∧ evacuating.evac.state = .evacuate := by decide +kernel

/-- A node whose ROUTINE leg falls in EVACUATE, whose refuge door stood open for the allowance at ALARM, and whose
refuge holds a miner with an entry and one without. -/
def threatened : State :=
  let s := (twoEntries.setLeg 0 (leg .active .routine none)).setStartList [0]
  let s := s.setPanel 2 ⟨true, .opened, 2, [0x2345, 0x2500], .mains, 30, false⟩
  { s with air := { s.air with zone := .alarm } }

/-- EvacuateAndStandDownRequests, what entering EVACUATE leaves: with a leg that falls, a breach that is due, tagged
miners and room for them; and with none of these. -/
theorem witness_evacuated :
    threatened.CallsSound ∧ threatened.fallsBelow 1 0 = true
    ∧ threatened.params.door.ms ≤ (threatened.panel 2).doorAge * 1000 ∧ (threatened.panel 2).breach = false
    ∧ threatened.table.entries.Pairwise (fun a b => a.address.toNat < b.address.toNat)
    ∧ (∀ e ∈ threatened.table.entries, e.mark = .none)
    ∧ (threatened.entry? 0x2345).isSome = true ∧ threatened.entry? 0x2500 = none
    ∧ threatened.nodeAddr? = some 7
    ∧ threatened.table.entries.length + (pollIndices.map (fun i => (threatened.panel i).tags.length)).sum ≤ 128
    ∧ (twoEntries.CallsSound ∧ (∀ i, twoEntries.fallsBelow 1 i = false) ∧ ∀ i, twoEntries.panel i = Panel.empty) := by
  decide +kernel

/-- EvacuateAndStandDownRequests, the node's own grade: in QUIET at the trigger and below it, and in EVACUATE. -/
theorem witness_ownGrade :
    (threatened.evac.state = .quiet ∧ threatened.air.zone.atLeast threatened.params.trigger = true
      ∧ threatened.nodeAddr? = some 7)
    ∧ (base.evac.state = .quiet ∧ base.air.zone.atLeast base.params.trigger = false)
    ∧ evacuating.evac.state = .evacuate := by decide +kernel

/-- What that node then shows: R142's steps, the breach of R150 and the tags of R149. -/
theorem test_frameReceived_evacuates :
    let t := threatened.deliver .outbye (order .evacuateOrder [7])
    t.evac.state = .evacuate ∧ (t.leg 0).lastCause = some .evacuating ∧ (t.panel 2).breach = true
      ∧ t.table.entries.map (fun e => (e.address, e.mark))
        = [(0x2345, .inRefuge), (0x2410, .none), (0x2500, .inRefuge)] := by decide +kernel

/-- A segment state. -/
def segment (x : SegmentState) (causes : Causes) (holder : Option Truck) (queue : List Truck) (lease : Timer) :
    State :=
  { base with
    air := { base.air with zone := if causes.air then .alarm else .normal }
    seg := { base.seg with state := x, causes := causes, holder := holder, queue := queue, lease := lease } }

/-- A held segment with a vehicle waiting. -/
def heldSegment : State :=
  segment .held ⟨false, false, false⟩ (some ⟨0x8120, .inbye⟩) [⟨0x8131, .outbye⟩] (some 20000)

/-- A lost segment, with or without a cause, with or without a queue. -/
def lostSegment (surface : Bool) (queue : List Truck) : State :=
  segment .lost ⟨false, surface, false⟩ (some ⟨0x8120, .inbye⟩) queue none

/-- A draining segment, closed by the surface. -/
def drainingSegment : State := segment .draining ⟨false, true, false⟩ (some ⟨0x8120, .inbye⟩) [] (some 20000)

/-- SegmentClosedOpenedReleased: each clause. -/
theorem witness_segment :
    (base.Accepts rq ∧ base.SegmentSound ∧ base.seg.causes.any = true ∧ base.seg.causes.air = false
      ∧ base.seg.state ≠ .lost)
    ∧ (heldSegment.Accepts rq ∧ heldSegment.SegmentSound ∧ heldSegment.seg.causes.any = false)
    ∧ (drainingSegment.Accepts rq ∧ drainingSegment.SegmentSound ∧ drainingSegment.seg.causes.any = true
      ∧ drainingSegment.seg.causes.air = false)
    ∧ (segment .closed ⟨true, false, true⟩ none [] none).seg.causes.air = true
    ∧ (∀ x ∈ [lostSegment true [], lostSegment false [], lostSegment false [⟨0x8131, .inbye⟩]],
        x.Accepts rq ∧ x.seg.state = .lost ∧ x.seg.holder = some ⟨0x8120, .inbye⟩)
    ∧ (lostSegment true []).seg.causes.any = true ∧ (lostSegment false []).seg.causes.any = false := by
  decide +kernel

/-- SegmentClosedOpenedReleased, a new zone grade: one that closes a held segment, one that reaches TRIP while it
drains, one that opens it again, and one that changes no cause. -/
theorem witness_segmentZone :
    let graded (s : State) (g : Grade) : State := { s with air := { s.air with zone := g } }
    let closed := segment .draining ⟨true, false, false⟩ (some ⟨0x8120, .inbye⟩) [] (some 20000)
    (heldSegment.nodeAddr?.isSome = true ∧ (graded (graded heldSegment .alarm) .normal).SegmentSound
      ∧ heldSegment.seg.causes.any = false)
    ∧ ((graded (graded closed .trip) .alarm).SegmentSound ∧ closed.seg.state = .draining
      ∧ closed.seg.holder = some ⟨0x8120, .inbye⟩)
    ∧ (graded (graded closed .alert) .alarm).SegmentSound ∧ closed.seg.causes.any = true
    ∧ (({ closed.seg.causes with air := false } : Causes).any = false) := by decide +kernel

/-- R129 and R130: ALARM drains a held segment with one WITHDRAW and refuses its queue; TRIP withdraws the holder a
second time. -/
theorem test_segZone :
    let graded (s : State) (g : Grade) : State := { s with air := { s.air with zone := g } }
    let t := (graded heldSegment .alarm).segZone .normal .alarm
    let u := ({ graded t .trip with scratch := {} } : State).segZone .alarm .trip
    (t.seg.state, t.seg.queue, t.seg.counters.withdrawsSent, t.seg.counters.entryRefusals) = (.draining, [], 1, 1)
    ∧ (u.seg.state, u.seg.counters.withdrawsSent) = (.draining, 2) := by decide +kernel

/-- CancelSosRemovesOrigin: miner units at both ends of their range, an address that is none, a miner's own frame
and another's. -/
theorem witness_cancelSos :
    base.Accepts rq ∧ isMiner 0x2000 = true ∧ isMiner 0x7FFF = true ∧ isMiner 0x1FFF = false
    ∧ (isMiner 0x2345 = true ∧ wordBytes 0x2345 = [0x23, 0x45])
    ∧ ¬ (isMiner 0x8120 = true) := by decide +kernel

/-- The SOS list of a length, and a miner unit attached here. -/
def sosList (n : Nat) : State :=
  let s := withEntries base [miner 0x2345 .none]
  { s with evac := { s.evac with sos := (List.range n).map (fun k => BitVec.ofNat 16 (0x3000 + k)) } }

/-- CancelSosRemovesOrigin, SOS frames: a miner's own, a vehicle's and one for another; attached here and not; in a
list of 7, in a list of 8, and there already. -/
theorem witness_sos :
    (kindFrame .sos 0xFFFF 0x2345 [0x23, 0x45]).kind? = some .sos
    ∧ (kindFrame .sosCancel 0xFFFF 0x2345 [0x23, 0x45]).kind? = some .sosCancel
    ∧ isMiner 0x2345 = true ∧ wordBytes 0x2345 = [0x23, 0x45] ∧ isMiner 0x8120 = false
    ∧ ((sosList 7).entry? 0x2345).map (fun e => (e.location, e.attach)) = some (.radioHere, some 7)
    ∧ (sosList 7).nodeAddr? = some 7 ∧ (sosList 7).entry? 0x2410 = none
    ∧ (0x2345 : Addr) ∉ (sosList 8).evac.sos ∧ (0x3007 : Addr) ∈ (sosList 8).evac.sos
    ∧ (sosList 7).evac.sos.length < 8 ∧ 8 ≤ (sosList 8).evac.sos.length := by decide +kernel

/-- R151's table: an eighth origin is appended at the young end, a ninth overflows. -/
theorem test_frameReceived_sos :
    let t (n : Nat) := (sosList n).deliver .radio (kindFrame .sos 0xFFFF 0x2345 [0x23, 0x45])
    (t 7).evac.sos = (sosList 7).evac.sos ++ [0x2345] ∧ (t 8).evac.sos = (sosList 8).evac.sos
      ∧ (t 8).evac.counters.sosOverflows = 1 ∧ (t 8).flagSet Flag.sosOverflow = true := by decide +kernel

/-- CancelSosRemovesOrigin, EVAC ACK frames: from a unit with an entry; one that names another node; in QUIET; from
a unit without an entry. -/
theorem witness_evacAck :
    (kindFrame .evacAck 7 0x2345 [0x23, 0x45, 0, 7]).kind? = some .evacAck
    ∧ wordBytes 0x2345 ++ wordBytes 7 = [0x23, 0x45, 0, 7] ∧ isMiner 0x2345 = true ∧ (8 : Addr) ≠ 7
    ∧ evacuating.nodeAddr? = some 7 ∧ evacuating.evac.state = .evacuate ∧ twoEntries.evac.state = .quiet
    ∧ evacuating.table.entries.Pairwise (fun a b => a.address.toNat < b.address.toNat)
    ∧ (evacuating.table.entries.map (fun e => (e.address, e.mark))) = [(0x2345, .none), (0x2410, .none)] := by
  decide +kernel

/-- FlagsRaisedClearedAcknowledged: the groups' ends, a group with an unmasked flag set and one with none. -/
theorem witness_flags :
    base.Accepts rq ∧ 4 < (5 : Byte).toNat ∧ Group.ofCode (4 : Byte).toNat = some .node
    ∧ (base.flags .node).flags &&& ~~~ (base.params.masks.get .node) ≠ 0
    ∧ (base.flags .air).flags &&& ~~~ (base.params.masks.get .air) = 0
    ∧ Flag.testDone.number < Flag.testDone.group.count := by decide +kernel

/-- ClearCountersClearsOnlyCounters. -/
theorem witness_clearCounters : twoEntries.Accepts rq := by decide +kernel

/-- OUTBYE is DOWN. -/
def outbyeDown : State := after (.linkDown .outbye) base

/-- A restart whose response is in transmission, in EVACUATE. -/
def restartingEvacuating : State := { restarting with evac := { restarting.evac with state := .evacuate } }

/-- RestartAnswersThenRestarts: each clause. -/
theorem witness_restart :
    (base.nodeAddr? = some 7 ∧ isSurface rq.source = true ∧ base.evac.state = .quiet
      ∧ base.mgmt.restartPending = false ∧ (base.net.port rq.port).up = true)
    ∧ (evacuating.nodeAddr? = some 7 ∧ evacuating.evac.state = .evacuate)
    ∧ (restarting.nodeAddr? = some 7 ∧ restarting.evac.state = .quiet ∧ restarting.mgmt.restartPending = true)
    ∧ (outbyeDown.nodeAddr? = some 7 ∧ outbyeDown.evac.state = .quiet ∧ outbyeDown.mgmt.restartPending = false
      ∧ (outbyeDown.net.port rq.port).up = false)
    ∧ (restarting.net.port .outbye).egress.sending.map (fun t => t.restart) = some true
    ∧ (restartingEvacuating.net.port .outbye).egress.sending.map (fun t => t.restart) = some true
    ∧ restartingEvacuating.evac.state = .evacuate := by decide +kernel

/-- A node that polls a LIVE channel of normal grade, with a restart's response in transmission. -/
def restartingPoller : State :=
  after (.restart rq) (polling (live 90 ⟨false, 0⟩ ⟨false, 0⟩ ⟨false, 0⟩))

/-- RestartAnswersThenRestarts, what a restart leaves: one that keeps the zone grade, and one that changes it
(channel 0 goes from LIVE to WARMING); enabled and disabled records and channels; a sound segment that is CLOSED,
HELD and DRAINING. -/
theorem witness_restartedFrom :
    (after (.frameSent .outbye) restarting).air.zone = restarting.air.zone
    ∧ (after (.frameSent .outbye) restarting).air.refuge = restarting.air.refuge
    ∧ restarting.SegmentSound ∧ (∀ i : Fin 8, (restarting.pollRecord i).config.enabled = false)
    ∧ (after (.frameSent .outbye) restartingPoller).air.zone ≠ restartingPoller.air.zone
    ∧ restartingPoller.evac.state = .quiet ∧ restartingPoller.mgmt.restartPending = true
    ∧ (restartingPoller.pollRecord 0).config.enabled = true
    ∧ (∀ j : Fin 8, j.val < 0 → (restartingPoller.pollRecord j).config.enabled = false)
    ∧ (restartingPoller.channel 0).record.enabled = true ∧ (restartingPoller.channel 1).record.enabled = false
    ∧ (segment .held ⟨false, false, false⟩ (some ⟨0x8120, .inbye⟩) [] (some 20000)).SegmentSound
    ∧ (segment .draining ⟨false, true, false⟩ (some ⟨0x8120, .inbye⟩) [] (some 20000)).SegmentSound := by
  decide +kernel

/-- Two records that are due, the second one first. -/
def dueRecords : State :=
  (base.setPollRecord 0 ⟨⟨true, 0x1010, .gasHead, ⟨.s1, 1⟩⟩, .idleUnseen, 0, some 30⟩).setPollRecord 7
    ⟨⟨true, 0x1011, .gasHead, ⟨.s1, 1⟩⟩, .idleUnseen, 0, some 20⟩

/-- RecordDueSendsPoll: the earliest of two records; a poll in flight; no enabled record. -/
theorem witness_recordDue :
    (dueRecords.poller.inFlight = none ∧ (dueRecords.pollRecord 7).config.enabled = true
      ∧ (dueRecords.pollRecord 7).due = some 20
      ∧ ∀ j : Fin 8, (dueRecords.pollRecord j).config.enabled = true → ∀ e ∈ (dueRecords.pollRecord j).due,
          20 < e ∨ 20 = e ∧ 7 ≤ j.val)
    ∧ (polling (live 90 ⟨false, 0⟩ ⟨false, 0⟩ ⟨false, 0⟩)).poller.inFlight.isSome = true
    ∧ (∀ i : Fin 8, (base.pollRecord i).config.enabled = false) := by decide +kernel

/-- A polled panel and its reply. -/
def panelPolling : State :=
  let s := polling (live 90 ⟨false, 0⟩ ⟨false, 0⟩ ⟨false, 0⟩)
  s.setPollRecord 0 { s.pollRecord 0 with config := ⟨true, 0x1010, .refugePanel, ⟨.s1, 2⟩⟩ }

/-- A GAS REPLY and a PANEL REPLY of device 0x1010, sequence 1. -/
def replies : List (List Byte) :=
  [withCheck [2, 0x10, 0x10, 1, 0x05, 0x32, 0, 0x10, 0, 0],
   withCheck [3, 0x10, 0x10, 1, 1, 2, 1, 0x24, 0x10, 0x05, 0x32, 0, 0x01, 0x90, 2, 0]]

/-- LineMessagesClassified and TakenReplyFeedsChannels: a bad check, a good one that is no reply, replies to
another device, of another sequence, of each kind; a raw count of 4096 in channel 1. -/
theorem witness_lineMessages :
    checkGood [1, 2, 3] = false ∧ checkGood (withCheck [1, 2]) = true ∧ replyOf (withCheck [1, 2]) = none
    ∧ (∀ m ∈ replies, checkGood m = true
        ∧ (replyOf m).map (fun r => (r.address, r.seq)) = some (0x1010, 1))
    ∧ replies.map (fun m => (replyOf m).map (fun r => r.panel.isSome)) = [some false, some true]
    ∧ (replyOf (replies.getD 0 [])).map (fun r => r.second.raw) = some 0x1000
    ∧ base.poller.inFlight = none
    ∧ (∀ s ∈ [polling (live 90 ⟨false, 0⟩ ⟨false, 0⟩ ⟨false, 0⟩), panelPolling],
        s.poller.inFlight.map (fun f => (f.address, f.seq, f.index)) = some (0x1010, 1, 0))
    ∧ ((polling (live 90 ⟨false, 0⟩ ⟨false, 0⟩ ⟨false, 0⟩)).pollRecord 0).config.kind = .gasHead
    ∧ (panelPolling.pollRecord 0).config.kind = .refugePanel
    ∧ (replyOf (withCheck [2, 0x10, 0x11, 1, 0, 0, 0, 0, 0, 0])).map (fun r => r.address) = some 0x1011
    ∧ (replyOf (withCheck [2, 0x10, 0x10, 2, 0, 0, 0, 0, 0, 0])).map (fun r => r.seq) = some 2 := by
  decide +kernel

/-- MissedRepliesMakeSilent: a poll in flight, its first miss and its third. -/
theorem witness_missed :
    let s := polling (live 90 ⟨false, 0⟩ ⟨false, 0⟩ ⟨false, 0⟩)
    s.poller.inFlight.isSome = true ∧ s.poller.replyTimer = some 50 ∧ (s.pollRecord 0).misses = 0
    ∧ (s.pollRecord 0).state ≠ .silent ∧ 3 ≤ min 255 (2 + 1) := by decide +kernel

/-- TakenReplyFeedsChannels, panel contents: in QUIET, and in EVACUATE with entries in order. -/
theorem witness_panelStored :
    base.evac.state = .quiet ∧ evacuating.evac.state = .evacuate
    ∧ evacuating.table.entries.Pairwise (fun a b => a.address.toNat < b.address.toNat) := by decide +kernel

/-- R148 and R149: in EVACUATE a new tag list makes its units IN_REFUGE, the old list's other unit NOTIFIED, and a supply
that falls to BATTERY sets PANEL_BATTERY. -/
theorem test_handPanel :
    let s := evacuating.handPanel 2 (some ⟨.opened, 1, [0x2345], .mains⟩)
    let t := s.handPanel 2 (some ⟨.opened, 1, [0x2410, 0x2410, 0x8120], .battery⟩)
    t.table.entries.map (fun e => (e.address, e.mark)) = [(0x2345, .notified), (0x2410, .inRefuge)]
    ∧ ((t.panel 2).tags, t.flagSet Flag.panelBattery, s.flagSet Flag.panelBattery) = ([0x2410], true, false) := by
  decide +kernel

/-- A held segment whose holder is at RADIO_HERE with two miner units, one of them about to time out. -/
def crowded : State :=
  withEntries { heldSegment with seg := { heldSegment.seg with minerCount := 2, holderHere := true } }
    [{ miner 0x2345 .none with age := 29 }, miner 0x2410 .none, ⟨0x8120, .radioHere, 0, false, .none, some 7⟩]

/-- AgeTickRemovesOrForgets: entries in order, and a local population that the arbiter follows. -/
theorem witness_ageTick :
    twoEntries.table.entries.Pairwise (fun a b => a.address.toNat < b.address.toNat)
    ∧ crowded.PopulationFollowed ∧ crowded.nodeAddr?.isSome = true ∧ crowded.seg.holderHere = true
    ∧ crowded.seg.holder = some ⟨0x8120, .inbye⟩ := by decide +kernel

/-- R134: a miner who ages out of RADIO_HERE is one PROXIMITY notice to the holder, with the new count. -/
theorem test_ageTick_proximity :
    let t := after .ageTick crowded
    (t.seg.minerCount, t.seg.counters.proximityNotices) = (1, 1)
    ∧ t.net.radio.egress.sending.map (fun x => (x.frame.dest, x.frame.payload)) = some (0x8120, [1]) := by
  decide +kernel

/-- EntryGrantedAndLeased, the local population: no holder near; the condition on, and off for want of a miner; the
holder's own arrival, and another vehicle's. -/
theorem witness_proximity :
    heldSegment.seg.holderHere = false ∧ crowded.nodeAddr?.isSome = true ∧ crowded.seg.holder.isSome = true
    ∧ crowded.seg.holderHere = true ∧ 1 ≤ crowded.seg.minerCount ∧ heldSegment.seg.minerCount = 0
    ∧ crowded.seg.holder = some ⟨0x8120, .inbye⟩ ∧ (0x8120 : Addr) ≠ 0x8131 := by decide +kernel

/-- R134: the condition's start tells the holder and each miner unit here; a further miner's arrival tells the holder
and that miner; a vehicle granted at RADIO_HERE starts it. -/
theorem test_proximity :
    let quiet := { crowded with seg := { crowded.seg with holderHere := false } }
    ((quiet.segVehicle 0x8120 true).seg.counters.proximityNotices,
      (crowded.segMinerArrives 0x2500).seg.counters.proximityNotices,
      (quiet.segMinerArrives 0x2500).seg.counters.proximityNotices,
      (crowded.grantTo ⟨0x8120, .inbye⟩).seg.counters.proximityNotices,
      (quiet.grantTo ⟨0x8120, .inbye⟩).seg.counters.proximityNotices) = (3, 2, 0, 0, 3) := by decide +kernel

/-- A full table of miner units, pinned or not. -/
def fullTable (pinned : Bool) : State :=
  withEntries base ((List.range 128).map (fun n =>
    { miner (BitVec.ofNat 16 (0x2001 + n)) .none with age := n, pinned := pinned && decide (n < 104) }))

/-- FullTableEvictsOrFails: the first two clauses' victim, the last of 128; a table of which no entry is
removable, each a miner with a mark in EVACUATE; and a table with 104 pinned entries in QUIET. -/
theorem witness_fullTable :
    (fullTable false).table.entries.length = 128
    ∧ (fullTable false).table.entries.Pairwise (fun a b => a.address.toNat < b.address.toNat)
    ∧ (fullTable false).nodeAddr? ≠ some 0x8120 ∧ (fullTable false).entry? 0x8120 = none
    ∧ ((fullTable false).table.entries[127]?).map (fun v => ((fullTable false).removable v, v.age))
        = some (true, 127)
    ∧ ((fullTable false).table.entries.all (fun e => decide (e.age ≤ 127)))
    ∧ (pinnedCount (fullTable true).table.entries ≤ 104 ∧ (fullTable true).evac.state = .quiet
      ∧ (fullTable true).seg.queue.length ≤ 4) := by decide +kernel

/-- FullTableEvictsOrFails, the second clause: miners with marks in EVACUATE, none of them removable. -/
theorem witness_fullTable_fails :
    let s : State := { withEntries base ((List.range 128).map (fun n =>
      miner (BitVec.ofNat 16 (0x2001 + n)) .notified)) with evac := { base.evac with state := .evacuate } }
    s.table.entries.length = 128 ∧ (s.table.entries.all (fun e => !s.removable e)) = true := by decide +kernel

/-- FullTableEvictsOrFails, a creation with room: the node's own address, and the 128th entry. -/
theorem witness_createEntry :
    let s := withEntries base ((fullTable true).table.entries.take 127)
    s.table.entries.Pairwise (fun a b => a.address.toNat < b.address.toNat) ∧ s.table.entries.length < 128
    ∧ s.nodeAddr? = some 7 ∧ s.nodeAddr? ≠ some 0x8120 ∧ s.entry? 0x8120 = none := by decide +kernel

/-- FullTableEvictsOrFails, the hand-offs: the last of the full table, at RADIO_HERE, gives way to a new address. -/
theorem witness_handOff :
    (∃ e ∈ (fullTable false).table.entries, e.address = 0x2080 ∧ e.location = .radioHere
      ∧ (fullTable false).removable e = true
      ∧ ∀ y ∈ (fullTable false).table.entries, y.age < e.age ∨ y.age = e.age ∧ e.address.toNat ≤ y.address.toNat)
    ∧ (fullTable false).nodeAddr? = some 7 ∧ (fullTable false).entry? 0x8120 = none := by
  refine ⟨⟨{ miner 0x2080 .none with age := 127 }, ?_, ?_⟩, by decide +kernel, by decide +kernel⟩ <;> decide +kernel

/-- A unit's ANNOUNCE of an attach node. -/
def announce (unit attach : Addr) : Frame := kindFrame .announce 7 unit (wordBytes unit ++ wordBytes attach)

/-- Units fresh and stale at RADIO_HERE and one VIA_INBYE; the first is watched and has a call with the third. -/
def units : State :=
  let s := withEntries base [{ miner 0x2345 .none with age := 29 }, { miner 0x2410 .none with age := 30 },
    { miner 0x2600 .none with location := .viaInbye }]
  let s := { s with table := { s.table with watches := s.table.watches.set 3 ⟨true, 0x2345⟩ } }
  ((s.setLeg 0 { leg .originating .urgent (some 30000) with partner := some 1 }).setLeg 1
    { leg .ringing .urgent (some 30000) with partner := some 0, localParty := 0x2600 }).setStartList [0, 1]

/-- FullTableEvictsOrFails, the learn step: a frame of the node's own; of an address without an entry; of a fresh
RADIO_HERE entry, of one whose age has reached the presence timeout, and of one elsewhere; an ANNOUNCE for another
unit, of a station that is no unit, naming no node, naming the attach node, and naming another. -/
theorem witness_learn :
    units.table.entries.Pairwise (fun a b => a.address.toNat < b.address.toNat)
    ∧ (units.nodeAddr? = some 7 ∧ units.entry? 7 = none ∧ units.entry? 0x8120 = none)
    ∧ [(0x2345 : Addr), 0x2410, 0x2600].map (fun a => (units.entry? a).map (fun e => (e.location, e.age)))
        = [some (.radioHere, 29), some (.radioHere, 30), some (.viaInbye, 0)]
    ∧ (29 * 1000 < units.params.presence.ms ∧ units.params.presence.ms ≤ 30 * 1000)
    ∧ ((kindFrame .sos 0xFFFF 0x2345 [0x23, 0x45]).kind? ≠ some .announce
      ∧ (announce 0x2345 8).kind? = some .announce ∧ (announce 0x2345 8).payload.length = 4)
    ∧ (isMiner 0x2345 = true ∧ isVehicle 0x8120 = true ∧ isMiner 0x1010 = false ∧ isVehicle 0x1010 = false
      ∧ isNode 8 = true ∧ isNode 0x00FB = false)
    ∧ (units.entry? 0x2345).map (fun e => e.attach) = some (some 7)
    ∧ (units.table.watches[3].enabled = true ∧ units.table.watches[3].address = 0x2345)
    ∧ ((units.leg 0).localParty = 0x2345 ∧ (units.leg 0).state ≠ .idle ∧ (units.leg 0).partner = some 1)
    ∧ (units.leg 2).localParty ≠ 0x2345 := by decide +kernel

/-- R54, R113: a unit that announces another node is moved there, and its call and its partner's go with MOVED. -/
theorem test_frameReceived_announce :
    let t := units.heard .outbye (announce 0x2345 8)
    (t.entry? 0x2345).map (fun e => (e.location, e.age, e.attach)) = some (.viaOutbye, 0, some 8)
      ∧ (t.leg 0).lastCause = some .moved ∧ (t.leg 1).lastCause = some .moved ∧ t.calls.startList = [] := by
  decide +kernel

/-- FrameArrivalChecksInOrder: too short, a wrong check, class 6, an address that is none, a stray via node, and
an accepted frame. -/
theorem witness_frameArrival :
    (outbyeDown.net.port .outbye).up = false ∧ (base.net.port .radio).up = true
    ∧ ¬ (8 + 2 ≤ (frame 0 1 8 6 1 []).dropLast.length)
    ∧ (8 + 2 ≤ (frame 0 1 8 6 1 []).length ∧ (frame 0 1 8 6 1 []).length = 8 + 0 + 2)
    ∧ ([0x01, 0xF8, 0xFF, 0xFF, 0, 8, 41, 0, 0, 0] : List Byte).drop 8
        ≠ wordBytes (crc ([0x01, 0xF8, 0xFF, 0xFF, 0, 8, 41, 0] : List Byte))
    ∧ (frame 0 1 8 6 1 []).drop 8 = wordBytes (crc ((frame 0 1 8 6 1 []).take 8))
    ∧ ((frame 6 1 8 6 1 []).getD 0 0).toNat / 32 = 6
    ∧ (stationKind 0).isNone = true ∧ (stationKind 0x0006).isSome = true ∧ (stationKind 0x9000).isNone = true
    ∧ (TrafficClass.voice.code.toNat = (0x21 : Byte).toNat / 32 ∧ (8 : Byte) ≠ 0
      ∧ base.nodeAddr? ≠ some ((8 : Byte).setWidth 16) ∧ base.nodeAddr? = some ((7 : Byte).setWidth 16)) := by
  decide +kernel

/-- A frame of the walk. -/
def alarm (dest src : Addr) (hop : BitVec 5) : Frame := ⟨.alarm, 1, hop, dest, src, 41, [0, 8, 0, 0xFF]⟩

/-- A node that holds the key (8, 41), and stations at each location. -/
def relaying : State :=
  withEntries { base with net := { base.net with relay := [⟨8, 41, 0⟩] } }
    [⟨5, .viaOutbye, 0, false, .none, none⟩, ⟨8, .viaInbye, 0, false, .none, none⟩,
     ⟨0x1010, .fieldHere, 0, false, .none, none⟩, ⟨0x2345, .radioHere, 0, false, .none, some 7⟩,
     ⟨0xFFF1, .unknown, 0, false, .none, none⟩]

/-- WalkForwardsFrames: a duplicate, an own return, a new key, another class; every location and a broadcast. -/
theorem witness_walk :
    (∃ x ∈ relaying.net.relay, x.origin = (alarm 5 8 3).src ∧ x.seq = (alarm 5 8 3).seq)
    ∧ (¬ ∃ x ∈ relaying.net.relay, x.origin = (alarm 5 7 3).src ∧ x.seq = (alarm 5 7 3).seq)
    ∧ relaying.nodeAddr? = some (alarm 5 7 3).src ∧ relaying.nodeAddr? ≠ some (alarm 5 6 3).src
    ∧ ({ alarm 5 6 3 with cls := .mgmt } : Frame).cls ≠ .alarm
    ∧ (alarm broadcast 6 0).dest = broadcast ∧ relaying.nodeAddr? ≠ some broadcast
    ∧ relaying.entry? 9 = none
    ∧ [(5 : Addr), 8, 0x1010, 0x2345, 0xFFF1].map (fun a => (relaying.entry? a).map (fun e => e.location))
        = [some .viaOutbye, some .viaInbye, some .fieldHere, some .radioHere, some .unknown] := by decide +kernel

/-- A node with INBYE DOWN and OUTBYE UP. -/
def inbyeDown : State := after (.linkDown .inbye) base

/-- WalkForwardsFrames, a broadcast without a port to go out of (a MGMT frame from OUTBYE with INBYE DOWN), whose copy
fits and whose copy does not; and the copies of local delivery: for this node, of an unknown kind, not fitting, of a
kind without an owner, of the leg table's, and a BEACON of a surface station's and of another's. -/
theorem witness_delivery :
    (inbyeDown.net.port .inbye).up = false ∧ inbyeDown.nodeAddr? ≠ some broadcast
    ∧ ((kindFrame .beacon broadcast 0xFFF0 []).kind? = some .beacon ∧ FrameKind.beacon.takesPayload []
      ∧ ¬ FrameKind.beacon.takesPayload [1] ∧ (kindFrame .beacon broadcast 0xFFF0 [1]).hop ≠ 0)
    ∧ base.nodeAddr? = some 7 ∧ (kindsIn .alarm)[(8 : BitVec 5).toNat - 1]? = none
    ∧ ¬ FrameKind.zoneGrade.takesPayload [0, 8, 4, 0] ∧ FrameKind.refugeAir.takesPayload [0, 8, 3]
    ∧ FrameKind.voice.takesPayload [7, 3, 9] ∧ isSurface 0xFFF0 = true ∧ isSurface 0x2345 = false
    ∧ nameless.nodeAddr? = none := by
  refine ⟨by decide +kernel, by decide +kernel, ⟨by decide +kernel, rfl, ?_, by decide +kernel⟩, by decide +kernel,
    by decide +kernel, ?_, ⟨rfl, by decide⟩, ⟨by decide, by decide⟩, by decide +kernel, by decide +kernel,
    by decide +kernel⟩
  · exact List.cons_ne_nil _ _
  · exact fun h => absurd h.2 (by decide)

/-- R76, R87 and R88: a broadcast with no port to go out of counts NO ROUTE exactly where its copy does not fit. -/
theorem test_deliver_noRoute :
    [[], [1]].map (fun l =>
        let t := inbyeDown.dispose .outbye (kindFrame .beacon broadcast 0xFFF0 l)
        (t.net.outbye.counters.noRoute, t.net.outbye.counters.payloadErrors, t.mgmt.counters.beacons))
      = [(0, 0, 1), (1, 1, 0)] := by decide +kernel

/-- WalkForwardsFrames, the leg table's inspection: one that passes and one that holds; a frame that is no call frame,
and a call frame whose payload does not fit. -/
theorem witness_inspected :
    (base.inspect .outbye (kindFrame .beacon broadcast 0xFFF0 [])).2 = true
    ∧ (base.inspect .radio (kindFrame .callSetup 0xFFF1 0x2345 (wordBytes 0x0701 ++ wordBytes 0x2345
        ++ wordBytes 0xFFF1 ++ [0]))).2 = false
    ∧ (kindFrame .beacon broadcast 0xFFF0 []).kind? = some .beacon
    ∧ ¬ FrameKind.callClear.takesPayload [7, 3, 11] := by
  refine ⟨by decide +kernel, by decide +kernel, by decide +kernel, fun h => absurd h.2 (by decide)⟩

/-- A queue of a length. -/
def queueOf (c : TrafficClass) (n : Nat) : List Frame :=
  (List.range n).map (fun k => ⟨c, 1, 3, 9, BitVec.ofNat 16 (0x2000 + k), 0, []⟩)

/-- QueuePolicies: a queued report of the source, with and without room; queues one short of full and full. -/
theorem witness_queues :
    (queueOf .air 8 = queueOf .air 7 ++ ⟨.air, 1, 3, 9, 0x2007, 0, []⟩ :: []
      ∧ ∀ y ∈ queueOf .air 7, y.src ≠ 0x2007)
    ∧ (queueOf .air 7).length < 8 ∧ (∀ y ∈ queueOf .air 8, y.src ≠ 0x3000) ∧ 8 ≤ (queueOf .air 8).length
    ∧ (queueOf .voice 15).length < 16 ∧ 16 ≤ (queueOf .voice 16).length
    ∧ (queueOf .mgmt 3).length < 4 ∧ 4 ≤ (queueOf .mgmt 4).length := by decide

/-- PlanSearchServesInPlanOrder: a free port with nothing in its queues, and one with a VOICE frame. -/
theorem witness_planSearch :
    ({} : Egress).sending = none ∧ ({} : Egress).ahead = none ∧ ({} : Egress).queues.alarm = []
    ∧ planSearch base.net.banks 0 {} 32 ⟨.zero, 0, none⟩ = none
    ∧ planSearch base.net.banks 0 { voice := queueOf .voice 1 } 32 ⟨.zero, 11, some .one⟩
        = some (.voice, ⟨.one, 1, none⟩) := by decide +kernel

/-- A port that sends. -/
def sendingPort (q : Queues) (ahead : Option Frame) : State :=
  { base with net := { base.net with radio := { base.net.radio with egress :=
    { queues := q, sending := some ⟨alarm 5 8 3, [], false⟩, ahead := ahead } } } }

/-- FrameSentMakesNextChoice: nothing sent; a response ahead; an alarm; a plan choice; nothing to choose. -/
theorem witness_frameSent :
    (base.net.port .radio).egress.sending = none
    ∧ (∀ s ∈ [sendingPort {} (some (alarm 5 8 3)), sendingPort { alarm := [alarm 5 8 3] } none,
          sendingPort { voice := queueOf .voice 1 } none, sendingPort {} none],
        (s.net.port .radio).up = true
        ∧ (s.net.port .radio).egress.sending.map (fun t => t.restart) = some false)
    ∧ planSearch base.net.banks 0 { voice := queueOf .voice 1 } 32 ⟨.zero, 0, none⟩ = some (.voice, ⟨.zero, 1, none⟩)
    ∧ planSearch base.net.banks 0 {} 32 ⟨.zero, 0, none⟩ = none := by decide +kernel

/-- RADIO free, with a pending bank and a class queue of a length that its plan, all END, does not serve. -/
def idlePort (c : TrafficClass) (n : Nat) : Net :=
  { base.net with
    banks := { base.net.banks with zero := Vector.replicate 32 .stop }
    radio := { base.net.radio with egress := { base.net.radio.egress with
      queues := ({} : Queues).set c (queueOf c n), pendingBank := some .one } } }

/-- FrameSentMakesNextChoice, offers: a full MGMT queue drops the frame, and one place short of it takes it; an AIR
report finds a full queue without its source and one with it. -/
theorem witness_offer :
    (base.net.port .radio).up = true ∧ ((idlePort .mgmt 4).port .radio).up = true
    ∧ (((idlePort .mgmt 4).port .radio).egress.queues.get .mgmt).length = 4
    ∧ (((idlePort .air 8).port .radio).egress.queues.get .air).length = 8
    ∧ (∀ y ∈ ((idlePort .air 8).port .radio).egress.queues.get .air, y.src ≠ 200)
    ∧ ∃ y ∈ ((idlePort .air 8).port .radio).egress.queues.get .air, y.src = 0x2000 := by
  decide +kernel

/-- R162: a frame that is dropped at its queue makes a free port choose nothing, so the pending bank stays; one that is
queued makes it choose, and the plan's wrap takes the pending bank. -/
theorem test_offer_dropped :
    let offered (n : Nat) : Egress := (((idlePort .mgmt n).offer 0 .radio
      { alarm 5 8 3 with cls := .mgmt }).port .radio).egress
    ((offered 4).sending.isSome, (offered 4).pendingBank, (offered 4).counters.drops.mgmt) = (false, some .one, 1)
    ∧ ((offered 3).sending.isSome, (offered 3).pendingBank, (offered 3).counters.drops.mgmt) = (true, none, 0) := by
  decide +kernel

/-- FrameSentMakesNextChoice, frames the node originates: a node without an address; an alarm whose key a full relay
list does not hold; a station at each location, its own address and a broadcast, with a port DOWN and UP. -/
theorem witness_originate :
    nameless.nodeAddr? = none ∧ relaying.nodeAddr? = some 7
    ∧ (kindsIn .alarm)[0]? = some .zoneGrade ∧ (kindsIn .signal)[12]? = some .evacNotice
    ∧ (inbyeDown.net.port .inbye).up = false ∧ (relaying.net.port .inbye).up = true
    ∧ (7 : Addr) ≠ broadcast ∧ relaying.entry? 9 = none
    ∧ [(5 : Addr), 8, 0x1010, 0x2345, 0xFFF1].map (fun a => (relaying.entry? a).map (fun e => e.location))
        = [some .viaOutbye, some .viaInbye, some .fieldHere, some .radioHere, some .unknown] := by decide +kernel

/-- R91: a broadcast alarm of the node's own takes the next alarm sequence, enters the relay list and goes out of all
three ports; one without an address sends nothing. -/
theorem test_originate_alarm :
    let t := base.originate ⟨.zoneGrade, broadcast, [0, 7, 2, 255]⟩
    (t.net.alarmSeq, t.net.frameSeq) = (base.net.alarmSeq + 1, base.net.frameSeq)
    ∧ t.net.relay = [⟨7, base.net.alarmSeq + 1, 0⟩]
    ∧ [Port.outbye, .inbye, .radio].map (fun p => (t.net.port p).egress.sending.map (fun x => x.frame.src))
        = [some 7, some 7, some 7]
    ∧ nameless.originate ⟨.zoneGrade, broadcast, [0, 7, 2, 255]⟩ = nameless := by decide +kernel

/-- LinkReportsChangePort: each clause. -/
theorem witness_links :
    (outbyeDown.net.port .outbye).up = false ∧ (outbyeDown.net.port .outbye).egress.queues = {}
    ∧ (outbyeDown.net.port .outbye).egress.sending = none ∧ (outbyeDown.net.port .outbye).egress.ahead = none
    ∧ (base.net.port .outbye).up = true ∧ (base.net.port .outbye).egress.ahead = none
    ∧ (base.net.port .outbye).egress.sending = none
    ∧ ((restarting.net.port .outbye).up = true ∧ restarting.evac.state = .quiet)
    ∧ ((restartingEvacuating.net.port .outbye).up = true
      ∧ (restartingEvacuating.net.port .outbye).egress.sending.map (fun t => t.restart) = some true) := by
  decide +kernel

/-- A setup by an attached miner to a surface phone. -/
def setup (callee : Addr) (p : Priority) : Setup :=
  { callId := ⟨7, 1⟩, caller := 0x2345, callee := callee, priority := p }

/-- A node whose range 3 permits miners to call surface phones. -/
def permitting : State :=
  { base with calls := { base.calls with permits := base.calls.permits.set 3 ⟨0xFFF1, 0xFFF1, true, false⟩ } }

/-- Permitting, with every leg counting at URGENT. -/
def fullLegs : State :=
  { permitting with calls := { permitting.calls with
    legs := Vector.replicate 8 (leg .active .urgent none), startList := legIndices } }

/-- OriginatingSetupChecked: each refusal, and a leg taken. -/
theorem witness_setup :
    ¬ (isMiner 0x1010 = true ∨ isVehicle 0x1010 = true ∨ isSurface 0x1010 = true)
    ∧ isSurface (setup 0xFFF1 .routine).callee = true ∧ (setup 0xFFF1 .routine).callee ≠ 0x2345
    ∧ (base.calls.permits[3].low.toNat ≤ (0xFFF1 : Addr).toNat ∧ base.calls.permits[3].miner = false)
    ∧ (permitting.calls.permits[3].low.toNat ≤ (0xFFF1 : Addr).toNat
      ∧ (0xFFF1 : Addr).toNat ≤ permitting.calls.permits[3].high.toNat ∧ isMiner 0x2345 = true
      ∧ permitting.calls.permits[3].miner = true)
    ∧ (Priority.routine.code < ({ permitting with evac := { permitting.evac with state := .evacuate } } :
        State).minimum.code)
    ∧ (fullLegs.ceiling ≤ fullLegs.countingLegs
      ∧ (∀ i ∈ fullLegs.calls.startList, Priority.urgent.code ≤ (fullLegs.leg i).priority.code)
      ∧ fullLegs.minimum.code ≤ Priority.urgent.code)
    ∧ (permitting.countingLegs < permitting.ceiling ∧ (permitting.leg 0).state = .idle
      ∧ isUnit 0xFFF1 = false) := by decide +kernel

/-- Eight counting legs: URGENT but for two ROUTINE ones at indices 2 and 5, started in index order. -/
def mixedLegs : State :=
  (fullLegs.setLeg 2 (leg .active .routine none)).setLeg 5 (leg .active .routine none)

/-- OriginatingSetupChecked, room for a setup: below the minimum; a leg free; nobody weaker; and the newest of the
weakest legs giving way, after which its leg is the lowest IDLE one. -/
theorem witness_findsRoom :
    Priority.routine.code < evacuating.minimum.code
    ∧ (permitting.countingLegs < permitting.ceiling ∧ (permitting.leg 0).state = .idle
      ∧ permitting.minimum.code ≤ Priority.routine.code)
    ∧ (fullLegs.ceiling ≤ fullLegs.countingLegs
      ∧ ∀ i ∈ fullLegs.calls.startList, Priority.urgent.code ≤ (fullLegs.leg i).priority.code)
    ∧ (mixedLegs.ceiling ≤ mixedLegs.countingLegs
      ∧ mixedLegs.calls.startList = [0, 1, 2, 3, 4] ++ 5 :: [6, 7]
      ∧ (mixedLegs.leg 5).priority.code < Priority.urgent.code
      ∧ (∀ j ∈ [(0 : Fin 8), 1, 2, 3, 4], (mixedLegs.leg 5).priority.code ≤ (mixedLegs.leg j).priority.code)
      ∧ (∀ j ∈ [(6 : Fin 8), 7], (mixedLegs.leg 5).priority.code < (mixedLegs.leg j).priority.code)
      ∧ ∀ j : Fin 8, j.val < 5 → (mixedLegs.leg j).state ≠ .idle) := by decide +kernel

/-- R102: the newest ROUTINE leg gives way to an URGENT setup. -/
theorem test_frameReceived_preempts :
    let t := mixedLegs.originating (setup 0xFFF1 .urgent) false
    t.calls.startList = [0, 1, 2, 3, 4, 6, 7, 5] ∧ t.calls.counters.preemptions = 1
      ∧ (t.leg 5).callId = ⟨7, 1⟩ ∧ t.flagSet Flag.preempted = true := by decide +kernel

/-- OriginatingSetupChecked, an accepted setup: with a callee attached here and without, and with no room for the
callee's leg. -/
theorem witness_acceptOriginating :
    (isUnit 0x2410 = true ∧ twoEntries.attachedHere 0x2410 = true ∧ twoEntries.attachedHere 0x2600 = false)
    ∧ (let t := { twoEntries with supply := { twoEntries.supply with shedLevel := 3 } }
       let u := t.withLegTaken 0 ((setup 0x2410 .urgent).legFor .orig .originating (some 30005))
       u.ceiling ≤ u.countingLegs + 1 ∧ u.calls.startList = [0]
       ∧ ∀ i ∈ u.calls.startList, Priority.urgent.code ≤ (u.leg i).priority.code) := by decide +kernel

/-- A CALL SETUP frame. -/
def setupFrame (c : Setup) : Frame :=
  kindFrame .callSetup c.callee c.caller (c.callId.bytes ++ wordBytes c.caller ++ wordBytes c.callee
    ++ [byteOf c.priority.code])

/-- One ORIGINATING leg of call (7, 3) at index 0, from the unit 0x2345. -/
def oneOrig : State := (base.setLeg 0 (leg .originating .urgent (some 30000))).setStartList [0]

/-- A ringing TERM leg of the unit 0x2410, called by 0x2345, with or without the caller's leg here. -/
def rung (here : Bool) : State :=
  let s := (twoEntries.setLeg 3 { leg .ringing .urgent (some 30000) with
    direction := .term, localParty := 0x2410, remoteParty := 0x2345, partner := if here then some 0 else none })
  let s := if here then s.setLeg 0 { leg .originating .urgent (some 30000) with
    remoteParty := 0x2410, partner := some 3 } else s
  s.setStartList (if here then [0, 3] else [3])

/-- A setup of the unit 0x2410 to 0x2345: it meets the ringing leg, and its caller has the higher address. -/
def crossing : Setup := { callId := ⟨7, 9⟩, caller := 0x2410, callee := 0x2345, priority := .urgent }

/-- The ringing leg of `rung` with a partner that an earlier glare has made ACTIVE, and that has passed voice. -/
def spoken : State :=
  (rung true).setLeg 0 { (rung true).leg 0 with state := .active, setupTimer := none, lastVoice := some 9 }

/-- OriginatingSetupChecked, a setup on the radio: from another's address and for another node; a call id that an
ORIG leg holds, for its own unit and another; no glare; a glare settled either way, alone, with an ORIGINATING partner
and with an ACTIVE one. -/
theorem witness_radioSetup :
    (setupFrame crossing).kind? = some .callSetup ∧ isMiner crossing.caller = true
    ∧ base.nodeAddr? = some (crossing.callId.node.setWidth 16) ∧ base.nodeAddr? ≠ some ((8 : Byte).setWidth 16)
    ∧ (∀ j : Fin 8, ((oneOrig.leg j).state ≠ .idle ∧ (oneOrig.leg j).direction = .orig
        ∧ (oneOrig.leg j).callId = ⟨7, 3⟩) ↔ j = 0)
    ∧ (oneOrig.leg 0).localParty = 0x2345
    ∧ (∀ x ∈ [rung true, rung false], ∀ j : Fin 8,
        ¬ ((x.leg j).state ≠ .idle ∧ (x.leg j).direction = .orig ∧ (x.leg j).callId = ⟨7, 9⟩)
        ∧ (((x.leg j).direction = .term ∧ (x.leg j).state = .ringing ∧ (x.leg j).localParty = crossing.caller
          ∧ (x.leg j).remoteParty = crossing.callee) ↔ j = 3))
    ∧ crossing.callee.toNat < crossing.caller.toNat
    ∧ ((rung true).leg 3).partner = some 0 ∧ ((rung true).leg 0).state = .originating
    ∧ ((rung false).leg 3).partner = none ∧ (spoken.leg 3).partner = some 0
    ∧ (spoken.leg 0).state ≠ .originating := by decide +kernel

/-- R107 and R112: the surviving call's TERM leg becomes ACTIVE; an ORIGINATING partner does with it, and a partner that
is ACTIVE already keeps its last voice sequence. -/
theorem test_inspect_glareWithPartner :
    let t := ((rung true).inspect .radio (setupFrame crossing)).1
    let u := (spoken.inspect .radio (setupFrame crossing)).1
    ((t.leg 3).state, (t.leg 0).state, (t.leg 0).setupTimer) = (.active, .active, none)
      ∧ ((u.leg 3).state, u.leg 0) = (.active, spoken.leg 0) := by decide +kernel

/-- R112: a setup that wins its glare against a callee who is here makes both legs ACTIVE at once, though the callee's
own setup came by the backbone and its leg has no partner here. -/
theorem test_inspect_glareWonHere :
    let s := ({ twoEntries with calls := { twoEntries.calls with
      permits := twoEntries.calls.permits.set 0 ⟨0x2000, 0x7FFF, true, false⟩ } }.setLeg 3
        { leg .ringing .urgent (some 30000) with direction := .term, remoteParty := 0x2410 }).setStartList [3]
    let c : Setup := { callId := ⟨7, 9⟩, caller := 0x2345, callee := 0x2410, priority := .urgent }
    let t := (s.inspect .radio (setupFrame c)).1
    (s.leg 3).partner = none ∧ c.caller.toNat ≤ c.callee.toNat
      ∧ (t.calls.startList, (t.leg 0).state, (t.leg 1).state) = ([0, 1], .active, .active)
      ∧ (t.leg 3).lastCause = some .glare := by decide +kernel

/-- R105: a backbone setup for a unit that is UNKNOWN here is passed and leaves its ORIGINATING leg as it is, though the
leg's remote party is the setup's caller. -/
theorem test_inspect_noGlareWhenAway :
    let s := oneOrig.setEntries [{ miner 0x2345 .none with location := .unknown }]
    let c : Setup := { callId := ⟨8, 1⟩, caller := 0xFFF1, callee := 0x2345, priority := .urgent }
    s.inspect .outbye (setupFrame c) = (s, true) := by decide +kernel

/-- A setup from another node's unit 0x2600 to the unit 0x2410 here. -/
def incoming (caller : Addr) : Setup := { callId := ⟨8, 1⟩, caller := caller, callee := 0x2410, priority := .urgent }

/-- The unit 0x2410 calls 0x2600. -/
def calling : State :=
  (twoEntries.setLeg 4 { leg .originating .urgent (some 30000) with localParty := 0x2410, remoteParty := 0x2600
    }).setStartList [4]

/-- OriginatingSetupChecked, a setup from the backbone: not for a unit here; a repeat; a new one; and a glare, which
this side's call wins against a higher address and loses against a lower one. -/
theorem witness_backboneSetup :
    (setupFrame (incoming 0x2600)).kind? = some .callSetup ∧ (setupFrame (incoming 0x2600)).dest = 0x2410
    ∧ isUnit 0x2410 = true ∧ twoEntries.attachedHere 0x2410 = true ∧ twoEntries.attachedHere 0x2600 = false
    ∧ (let s := twoEntries.setLeg 0 { leg .ringing .urgent (some 30000) with
         direction := .term, callId := ⟨8, 1⟩, localParty := 0x2410 }
       (s.leg 0).state ≠ .idle ∧ (s.leg 0).direction = .term ∧ (s.leg 0).callId = ⟨8, 1⟩
       ∧ (s.leg 0).localParty = 0x2410)
    ∧ (∀ j : Fin 8, (twoEntries.leg j).state = .idle)
    ∧ (∀ j : Fin 8, ((calling.leg j).direction = .orig ∧ (calling.leg j).state = .originating
        ∧ (calling.leg j).localParty = 0x2410 ∧ (calling.leg j).remoteParty = 0x2600) ↔ j = 4)
    ∧ (0x2410 : Addr).toNat < (0x2600 : Addr).toNat ∧ (0x2345 : Addr).toNat ≤ (0x2410 : Addr).toNat := by
  decide +kernel

/-- One ACTIVE leg of call (7, 3) at index 0. -/
def oneCall (last : Option Byte) : State :=
  (base.setLeg 0 { leg .active .urgent none with lastVoice := last }).setStartList [0]

/-- A VOICE frame of that call. -/
def voiceFrame (dest src : Addr) (seq : Byte) : Frame := ⟨.voice, 1, 31, dest, src, 0, [7, 3, seq, 0xAA]⟩

/-- VoiceWindow: the frame matches leg 0; from the unit; from the far side, newer by 128 and not by 129. -/
theorem witness_voice :
    (((oneCall (some 4)).leg 0).state = .active ∧ ((oneCall (some 4)).leg 0).callId = ⟨7, 3⟩
      ∧ (voiceFrame 0x2345 0xFFF1 132).dest = ((oneCall (some 4)).leg 0).localParty)
    ∧ ((voiceFrame 0x2345 0xFFF1 132).cls = .voice ∧ (voiceFrame 0x2345 0xFFF1 132).kind = 1)
    ∧ ([0xAA] : List Byte).length ≤ 64 ∧ (voiceFrame 0xFFF1 0x2345 9).src = ((oneCall none).leg 0).localParty
    ∧ ((132 : Byte).toNat + 256 - (4 : Byte).toNat) % 256 = 128
    ∧ ((133 : Byte).toNat + 256 - (4 : Byte).toNat) % 256 = 129
    ∧ ((oneCall none).leg 0).state = .active := by decide +kernel

/-- Two legs of one call between units here. -/
def partners : State :=
  ((base.setLeg 0 { leg .originating .urgent (some 30000) with partner := some 1 }).setLeg 1
    { leg .ringing .urgent (some 30000) with partner := some 0, localParty := 0x2410 }).setStartList [0, 1]

/-- SetupTimerClearsWithNoAnswer: alone and with a partner. -/
theorem witness_setupTimer :
    (((oneCall none).setLeg 0 (leg .ringing .urgent (some 30000))).leg 0).setupTimer = some 30000
    ∧ (((oneCall none).setLeg 0 (leg .ringing .urgent (some 30000))).leg 0).partner = none
    ∧ ((partners.leg 0).setupTimer = some 30000 ∧ (partners.leg 0).state = .originating
      ∧ (partners.leg 0).partner = some 1 ∧ (partners.leg 1).state ≠ .idle
      ∧ (partners.leg 1).callId = (partners.leg 0).callId) := by decide +kernel

/-- SetupTimerClearsWithNoAnswer, clearing a leg: IDLE, alone, with an idle partner, and with a partner here. -/
theorem witness_clearLeg :
    (base.leg 0).state = .idle ∧ ((oneOrig.leg 0).state ≠ .idle ∧ (oneOrig.leg 0).partner = none)
    ∧ ((partners.leg 0).state ≠ .idle ∧ (partners.leg 0).partner = some 1 ∧ (1 : Fin 8) ≠ 0
      ∧ (partners.leg 1).state ≠ .idle) := by decide +kernel

/-- A frame of call (7, 3) to and from addresses. -/
def callFrame (k : FrameKind) (dest src : Addr) (rest : List Byte) : Frame := kindFrame k dest src ([7, 3] ++ rest)

/-- The two legs of a call between units here, the callee's a TERM leg. -/
def localCall : State := partners.setLeg 1 { partners.leg 1 with direction := .term }

/-- SetupTimerClearsWithNoAnswer, call frames: one that matches no leg, for a unit here and for another; a CALL CLEAR
from the unit and from the far side, and between two units here; an answer and an alerting from the far side, which
the ORIG leg takes, and from its own unit, which it does not; an answer from the called of two units here; and a CALL
CLEAR from the backbone for the leg of one of two units here. -/
theorem witness_callFrames :
    let found (s : State) (p : Port) (f : Frame) (i : Fin 8) : Bool :=
      (s.leg i).state != .idle && (s.leg i).callId == ⟨7, 3⟩
        && (f.dest == (s.leg i).localParty || p == .radio && f.src == (s.leg i).localParty)
    [(callFrame .callClear 0xFFF1 0x2345 [1]).kind?, (callFrame .callAnswer 0x2345 0xFFF1 []).kind?,
      (callFrame .callAlerting 0x2345 0xFFF1 []).kind?, (callFrame .voice 0x2345 0xFFF1 [9, 0xAA]).kind?]
        = [some .callClear, some .callAnswer, some .callAlerting, some .voice]
    ∧ (∀ i : Fin 8, found base .outbye (callFrame .callAnswer 0x2345 0xFFF1 []) i = false)
    ∧ (twoEntries.attachedHere 0x2345 = true ∧ ∀ i : Fin 8, (twoEntries.leg i).state = .idle)
    ∧ (∀ i : Fin 8, found oneOrig .radio (callFrame .callClear 0xFFF1 0x2345 [1]) i = true ↔ i = 0)
    ∧ (∀ i : Fin 8, found oneOrig .outbye (callFrame .callClear 0x2345 0xFFF1 [1]) i = true ↔ i = 0)
    ∧ (∀ i : Fin 8, found localCall .radio (callFrame .callClear 0x2410 0x2345 [1]) i = true ↔ i = 0 ∨ i = 1)
    ∧ ((oneOrig.leg 0).direction = .orig ∧ (oneOrig.leg 0).state = .originating
      ∧ (oneOrig.leg 0).localParty = 0x2345)
    ∧ ((localCall.leg 0).partner = some 1 ∧ (localCall.leg 0).direction = .orig
      ∧ (localCall.leg 0).state = .originating ∧ (localCall.leg 0).localParty = 0x2345
      ∧ (localCall.leg 1).direction = .term ∧ (localCall.leg 1).state = .ringing
      ∧ (localCall.leg 1).localParty = 0x2410)
    ∧ (∀ i : Fin 8, found localCall .radio (callFrame .callAnswer 0x2345 0x2410 []) i = true ↔ i = 0 ∨ i = 1)
    ∧ (∀ i : Fin 8, found localCall .outbye (callFrame .callClear 0x2345 0x2410 [1]) i = true ↔ i = 0)
    ∧ ((localCall.leg 1).state ≠ .idle) := by
  decide +kernel

/-- R107's table and R109: the called unit's answer makes both legs ACTIVE; a CALL CLEAR frees both. -/
theorem test_frameReceived_call :
    let t := (localCall.inspect .radio (callFrame .callAnswer 0x2345 0x2410 [])).1
    let u := (t.inspect .radio (callFrame .callClear 0x2410 0x2345 [1])).1
    ((t.leg 0).state, (t.leg 1).state, (t.leg 0).setupTimer) = (.active, .active, none)
      ∧ ((u.leg 0).state, (u.leg 1).state) = (.idle, .idle) ∧ u.calls.startList = [] := by decide +kernel

/-- R109 step 3: a CALL CLEAR that comes from a backbone port for one of two units here, sent by the other, clears both
legs and tells only the first. -/
theorem test_frameReceived_clearFromPartner :
    let s : State := localCall.setEntries [miner 0x2345 .none, miner 0x2410 .none]
    let t := (s.inspect .outbye (callFrame .callClear 0x2345 0x2410 [1])).1
    ((t.leg 0).state, (t.leg 1).state) = (.idle, .idle)
      ∧ t.net.radio.egress.sending.map (fun x => x.frame.dest) = some 0x2345
      ∧ t.net.radio.egress.queues = {} := by decide +kernel

/-- R114: a VOICE of one of two units here counts in on its own leg and, in the window, out on the other's. -/
theorem test_frameReceived_localVoice :
    let s := (localCall.setLeg 0 { localCall.leg 0 with state := .active }).setLeg 1
      { localCall.leg 1 with state := .active, lastVoice := some 4 }
    let heard (x : Byte) := s.inspect .radio (voiceFrame 0x2410 0x2345 x)
    ((heard 5).2, ((heard 5).1.leg 0).voiceIn, ((heard 5).1.leg 1).voiceOut) = (true, 1, 1)
      ∧ ((heard 4).2, ((heard 4).1.leg 0).voiceIn, ((heard 4).1.leg 1).voiceDropped) = (false, 1, 1) := by
  decide +kernel

/-- SetupTimerClearsWithNoAnswer, a change of the limits: legs within them, a leg below the new minimum, and more
legs than a new ceiling; each tightened and not. -/
theorem witness_limits :
    let shed (n : Nat) : State := { mixedLegs with supply := { mixedLegs.supply with shedLevel := n } }
    (shed 3).calls.startList.Nodup
    ∧ (∀ i : Fin 8, ((shed 3).leg i).state ≠ .clearing
      ∧ (i ∈ (shed 3).calls.startList ↔ ((shed 3).leg i).counting = true) ∧ ((shed 3).leg i).partner = none)
    ∧ (shed 3).ceiling < mixedLegs.ceiling ∧ mixedLegs.minimum.code < (shed 3).minimum.code
    ∧ (shed 3).ceiling < (shed 3).calls.startList.length
    ∧ (∀ i ∈ mixedLegs.calls.startList, mixedLegs.minimum.code ≤ (mixedLegs.leg i).priority.code)
    ∧ mixedLegs.calls.startList.length ≤ mixedLegs.ceiling := by decide +kernel

/-- A held segment whose queue is full. -/
def fullQueue : State :=
  segment .held ⟨false, false, false⟩ (some ⟨0x8120, .inbye⟩)
    [⟨0x8131, .outbye⟩, ⟨0x8132, .outbye⟩, ⟨0x8133, .outbye⟩, ⟨0x8134, .outbye⟩] (some 20000)

/-- EntryGrantedAndLeased: free, held by the asker, draining, waiting, with room, full, closed, lost with a cause;
and a lease that runs. -/
theorem witness_entry :
    (∀ s ∈ [segment .free ⟨false, false, false⟩ none [] none, heldSegment, drainingSegment, fullQueue, base,
        lostSegment false [], lostSegment true []], s.nodeAddr?.isSome = true ∧ s.SegmentSound)
    ∧ (heldSegment.seg.holder = some ⟨0x8120, .inbye⟩ ∧ drainingSegment.seg.holder = some ⟨0x8120, .inbye⟩
      ∧ drainingSegment.scratch.withdrawn = [])
    ∧ heldSegment.seg.queue.any (fun w => w.vehicle == 0x8131) = true
    ∧ heldSegment.seg.queue.length < 4 ∧ fullQueue.seg.queue.length = 4
    ∧ heldSegment.seg.lease = some 20000 ∧ heldSegment.seg.state = .held
    ∧ drainingSegment.seg.lease = some 20000 := by decide +kernel

/-- EntryGrantedAndLeased, entry and exit frames and the heard-from notice: a vehicle's own and another's; the
holder's exit with a cause, with nobody waiting and with a queue; a queued vehicle's between two others; a
stranger's; and the holder heard in HELD, DRAINING and LOST, with a cause and without. -/
theorem witness_entryFrames :
    (kindFrame .entryRequest 7 0x8120 [0x81, 0x20, 0]).kind? = some .entryRequest
    ∧ (kindFrame .exitNotice 7 0x8120 [0x81, 0x20]).kind? = some .exitNotice
    ∧ wordBytes 0x8120 = [0x81, 0x20] ∧ Heading.inbye.code = 0 ∧ isVehicle 0x8120 = true ∧ isVehicle 0x2345 = false
    ∧ (drainingSegment.seg.holder = some ⟨0x8120, .inbye⟩ ∧ drainingSegment.seg.causes.any = true)
    ∧ ((lostSegment false []).seg.holder = some ⟨0x8120, .inbye⟩ ∧ (lostSegment false []).seg.causes.any = false
      ∧ (lostSegment false []).seg.queue = [])
    ∧ (heldSegment.seg.holder = some ⟨0x8120, .inbye⟩ ∧ heldSegment.seg.queue = ⟨0x8131, .outbye⟩ :: [])
    ∧ (fullQueue.seg.queue = [⟨0x8131, .outbye⟩] ++ ⟨0x8132, .outbye⟩ :: [⟨0x8133, .outbye⟩, ⟨0x8134, .outbye⟩]
      ∧ ∀ w ∈ fullQueue.seg.queue, w.vehicle ≠ 0x8999)
    ∧ (∀ s ∈ [heldSegment, drainingSegment, lostSegment true [], lostSegment false []],
        s.nodeAddr?.isSome = true ∧ s.scratch.withdrawn = []) := by decide +kernel

/-- R127, R126: the exit of a queued vehicle moves those behind it up; a lost holder that is heard is granted again,
or told to withdraw when a cause is present. -/
theorem test_frameReceived_exit :
    (fullQueue.deliver .radio (kindFrame .exitNotice 7 0x8132 [0x81, 0x32])).seg.queue.map (fun w => w.vehicle)
      = [0x8131, 0x8133, 0x8134]
    ∧ ((lostSegment false []).heard .radio (kindFrame .exitNotice 7 0x8120 [0x81, 0x20])).seg.state = .held
    ∧ ((lostSegment true []).heard .radio (kindFrame .exitNotice 7 0x8120 [0x81, 0x20])).seg.state = .draining := by
  decide +kernel

/-- EvacuationTimersAct: the repeat timer runs in EVACUATE; a door that is due and none. -/
theorem witness_evacuationTimers :
    evacuating.evac.repeatTimer = some 5005 ∧ evacuating.evac.state = .evacuate ∧ evacuating.nodeAddr? = some 7
    ∧ (base.panel 0).door = .closed := by decide +kernel

/-- SupplySampleSetsShedLevel: a sample that leaves the level and one that does not. -/
theorem witness_supplySample :
    (after (.supplySample true 12600 40) base).supply.shedLevel = base.supply.shedLevel
    ∧ (after (.supplySample false 9790 42) base).supply.shedLevel ≠ base.supply.shedLevel := by decide +kernel

/-- R171: a level that goes from 1 to 0 lets a free port send its waiting TELEM frame at once. -/
theorem test_supplySample_choice :
    let s : State := { sendingPort { telem := queueOf .telem 1 } none with supply := { base.supply with shedLevel := 1 } }
    let s : State := { s with net := s.net.setEgress .radio { (s.net.port .radio).egress with sending := none } }
    ((after (.supplySample true 12600 40) s).net.radio.egress.sending.map (fun t => t.frame.cls)) = some .telem := by
  decide +kernel

/-- The last step of a scan. -/
def lastStep (check : Word) : State :=
  { base with integ := { base.integ with position := 38, runningCrc := crc (base.scannedBytes 38)
                                         storedCheck := check } }

/-- ScanStepsAndSuspensionExpiry: a step before the last; the last with a match and with a mismatch; a suspension
that runs out. -/
theorem witness_scan :
    (base.integ.scanTimer = some 10 ∧ base.integ.position < 38)
    ∧ ((lastStep 0).integ.scanTimer = some 10 ∧ 38 ≤ (lastStep 0).integ.position)
    ∧ ((after (.loadRecordPin rq 0 ⟨1, 0, 0⟩) base).integ.suspensionTimer = some 60005
      ∧ (after (.loadRecordPin rq 0 ⟨1, 0, 0⟩) base).integ.state = .suspended) := by decide +kernel

/-- RelayTickAndCadence: a line that shows FAST, as its sources want it to. -/
theorem witness_cadence :
    evacuating.OutputsFollow ∧ (evacuating.evac.lines.get .siren).cadence = some 255
    ∧ (evacuating.evac.lines.get .siren).pattern = .fast := by decide +kernel

end Sys2Proof.Tests
end

section

-- Elaborated one after another: the text holds too many lemmas for a thread each.
set_option Elab.async false

/-! PROOF. The grades follow (R18, R23 to R25): which operations recompute the grades, and that the work of every
command keeps them following from the channels, the devices and the integrity floor. -/

namespace Sys2Proof.Machine

/-! ### What the grades look at -/

/-- Every channel is in the list of channels (R7). -/
theorem mem_channelIndices (c : Fin 16) : c ∈ channelIndices := by revert c; decide

/-- A channel without its test: what the grades look at, since a test judges its own shadow copy (R32). -/
def Channel.untested (x : Channel) : Channel := { x with test := none }

/-- The channel's state and effective grade follow from its causes and entries (R18, R23). -/
def State.ChannelFollows (s : State) (c : Fin 16) : Prop :=
  (s.channel c).state = (s.channel c).stateNow (s.deviceSilent c)
  ∧ (s.channel c).effective = (s.channel c).effectiveNow

/-- Every channel follows, but perhaps the enabled ones of a list, whose devices have changed. -/
def State.FollowsBut (s : State) (l : List (Fin 16)) : Prop :=
  ∀ c, ((s.channel c).record.enabled = true → c ∉ l) → s.ChannelFollows c

theorem State.gradesFollow_iff (s : State) :
    s.GradesFollow ↔ s.FollowsBut [] ∧ s.air.zone = s.zoneNow ∧ s.air.refuge = s.refugeNow := by
  simp [State.GradesFollow, State.FollowsBut, State.ChannelFollows, mem_channelIndices]

theorem Channel.eq_of_untested {x y : Channel} (h : x.untested = y.untested) : x = { y with test := x.test } := by
  cases x; cases y; simp_all [Channel.untested]

/-- Channels that differ in their tests only, and devices that differ in a list of channels only. -/
theorem State.FollowsBut.of_eq {s t : State} {l : List (Fin 16)} (h : s.FollowsBut [])
    (channels : ∀ c, (t.channel c).untested = (s.channel c).untested)
    (devices : ∀ c, (t.channel c).record.enabled = true → c ∉ l → t.deviceSilent c = s.deviceSilent c) :
    t.FollowsBut l := by
  intro c hl
  obtain ⟨hstate, heffective⟩ := h c (by simp)
  unfold State.ChannelFollows
  have e := Channel.eq_of_untested (channels c)
  have hd : (t.channel c).stateNow (t.deviceSilent c) = (t.channel c).stateNow (s.deviceSilent c) := by
    cases he : (t.channel c).record.enabled with
    | false => simp [Channel.stateNow, he]
    | true => rw [devices c he (hl he)]
  rw [hd, e]
  exact ⟨hstate, heffective⟩

/-- The grade of a scope looks at the channels' records and effective grades (R24, R25). -/
theorem State.scopeGrade_of_eq {s t : State} (h : ∀ c, (t.channel c).untested = (s.channel c).untested)
    (x : Scope) : t.scopeGrade x = s.scopeGrade x := by
  have hr : ∀ c, (t.channel c).record = (s.channel c).record := fun c => congrArg (·.record) (h c)
  have he : ∀ c, (t.channel c).effective = (s.channel c).effective := fun c => congrArg (·.effective) (h c)
  simp only [State.scopeGrade, State.scoped, hr, he]

theorem State.zoneNow_of_eq {s t : State} (h : ∀ c, (t.channel c).untested = (s.channel c).untested)
    (hi : t.integ.state = s.integ.state) : t.zoneNow = s.zoneNow := by
  rw [State.zoneNow, State.zoneNow, State.scopeGrade_of_eq h, hi]

/-- The grades go on following where what they look at is as it was. -/
theorem State.GradesFollow.of_eq {s t : State} (h : s.GradesFollow)
    (channels : ∀ c, (t.channel c).untested = (s.channel c).untested)
    (devices : ∀ c, t.deviceSilent c = s.deviceSilent c)
    (zone : t.air.zone = s.air.zone := by simp) (refuge : t.air.refuge = s.air.refuge := by simp)
    (integ : t.integ.state = s.integ.state := by simp) : t.GradesFollow := by
  rw [State.gradesFollow_iff] at h ⊢
  obtain ⟨hc, hz, hr⟩ := h
  refine ⟨hc.of_eq channels (fun c _ _ => devices c), ?_, ?_⟩
  · rw [zone, hz, State.zoneNow_of_eq channels integ]
  · rw [refuge, hr, State.refugeNow, State.refugeNow, State.scopeGrade_of_eq channels]

/-- An operation that leaves the channels, the grades, the poll records and the integrity state as they were
keeps the grades following. -/
theorem State.GradesFollow.unchanged {s t : State} (h : s.GradesFollow)
    (channels : t.air.channels = s.air.channels := by simp) (zone : t.air.zone = s.air.zone := by simp)
    (refuge : t.air.refuge = s.air.refuge := by simp)
    (records : t.poller.records = s.poller.records := by simp)
    (integ : t.integ.state = s.integ.state := by simp) : t.GradesFollow :=
  h.of_eq (fun c => by rw [State.channel, State.channel, channels])
    (fun c => by simp only [State.deviceSilent, State.pollRecord, records]) zone refuge integ

section

variable {s : State} (h : s.GradesFollow)
include h

theorem State.GradesFollow.countPoller (f : PollerCounters → PollerCounters) : (s.countPoller f).GradesFollow :=
  h.unchanged

theorem State.GradesFollow.handPanel (i : Fin 8) (p : Option PanelContents) : (s.handPanel i p).GradesFollow :=
  h.unchanged

theorem State.GradesFollow.emptyPanel (i : Fin 8) : (s.emptyPanel i).GradesFollow := h.unchanged

theorem State.GradesFollow.choosePort (p : Port) : (s.choosePort p).GradesFollow := h.unchanged

theorem State.GradesFollow.startReportTimer : s.startReportTimer.GradesFollow := h.unchanged

end

/-! ### The operations that recompute them -/

@[simp] theorem State.segZone_air (s : State) (old new : Grade) : (s.segZone old new).air = s.air := by
  unfold State.segZone
  simp only
  repeat' split
  all_goals simp

/-- Recomputing the grades writes them and leaves the channels (R24, R25). -/
theorem State.regrade_air (s : State) :
    s.regrade.air.channels = s.air.channels ∧ s.regrade.air.zone = s.zoneNow
    ∧ s.regrade.air.refuge = s.refugeNow := by
  unfold State.regrade
  simp only
  split <;> simp

/-- Once the channels follow, recomputing the grades makes all of them follow. -/
theorem State.regrade_gradesFollow {s : State} (h : s.FollowsBut []) : s.regrade.GradesFollow := by
  obtain ⟨hc, hz, hr⟩ := s.regrade_air
  have channels : ∀ c, (s.regrade.channel c).untested = (s.channel c).untested := fun c => by
    rw [State.channel, State.channel, hc]
  rw [State.gradesFollow_iff]
  refine ⟨h.of_eq channels (by simp [State.deviceSilent, State.pollRecord]), ?_, ?_⟩
  · rw [hz, State.zoneNow_of_eq channels (by simp)]
  · rw [hr, State.refugeNow, State.refugeNow, State.scopeGrade_of_eq channels]

theorem State.GradesFollow.channels {s : State} (h : s.GradesFollow) : s.FollowsBut [] :=
  (s.gradesFollow_iff.mp h).1

/-- Rewriting a channel writes it refreshed and leaves the others. -/
theorem State.updateChannel_channel (s : State) (c d : Fin 16) (x : Channel) :
    (s.updateChannel c x).channel d = if c = d then x.refresh (s.deviceSilent c) else s.channel d := by
  have hair : (s.updateChannel c x).air = (s.setChannel c (x.refresh (s.deviceSilent c))).air := by
    unfold State.updateChannel
    simp only
    repeat' split
    all_goals simp
  rw [State.channel, hair]
  exact State.channel_setChannel ..

@[simp] theorem State.updateChannel_deviceSilent (s : State) (c d : Fin 16) (x : Channel) :
    (s.updateChannel c x).deviceSilent d = s.deviceSilent d := by
  simp [State.deviceSilent, State.pollRecord]

/-- A channel that is rewritten follows. -/
theorem State.FollowsBut.updateChannel {s : State} {c : Fin 16} {l : List (Fin 16)} (h : s.FollowsBut (c :: l))
    (x : Channel) : (s.updateChannel c x).FollowsBut l := by
  intro d hd
  unfold State.ChannelFollows
  rw [State.updateChannel_channel, State.updateChannel_deviceSilent] at *
  by_cases e : c = d
  · subst e
    simp [Channel.refresh, Channel.stateNow, Channel.effectiveNow]
  · simp only [if_neg e] at hd ⊢
    exact h d (fun he => by simpa [Ne.symm e] using hd he)

/-- Where all channels follow, all but those of any list do. -/
theorem State.FollowsBut.weaken {s : State} (h : s.FollowsBut []) (l : List (Fin 16)) : s.FollowsBut l :=
  fun c _ => h c (by simp)

/-- Rewriting every channel of a list makes it follow. -/
theorem State.FollowsBut.foldl_updateChannel (f : State → Fin 16 → Channel) (l : List (Fin 16)) :
    ∀ {s : State}, s.FollowsBut l → (l.foldl (fun s c => s.updateChannel c (f s c)) s).FollowsBut [] := by
  induction l with
  | nil => exact id
  | cons c l ih => exact fun h => ih (h.updateChannel _)

/-- A change of a channel's test alone (R32, R33). -/
theorem State.GradesFollow.setTest {s : State} (h : s.GradesFollow) (c : Fin 16) (x : Option ChannelTest) :
    (s.setChannel c { s.channel c with test := x }).GradesFollow := by
  refine h.of_eq (fun d => ?_) (fun d => by simp [State.deviceSilent, State.pollRecord])
  by_cases e : c = d
  · subst e
    simp [Channel.untested]
  · simp [e]

/-! ### The air evaluator and the integrity scanner -/

/-- A reading on a channel makes it follow; a disabled one, which discards it, follows already (R7). -/
theorem State.FollowsBut.takeReading {s : State} {c : Fin 16} {l : List (Fin 16)} (h : s.FollowsBut (c :: l))
    (r : Reading) : (s.takeReading c r).FollowsBut l := by
  unfold State.takeReading
  split
  · exact h.updateChannel _
  next he =>
    intro d hd
    refine h d (fun hen => ?_)
    have hne : d ≠ c := fun e => he (e ▸ hen)
    simpa [hne] using hd hen

theorem State.takeReadings_gradesFollow {s : State} {i : Fin 8}
    (h : s.FollowsBut [firstChannel i, secondChannel i]) (first second : Reading) :
    (s.takeReadings i first second).GradesFollow := by
  unfold State.takeReadings
  exact State.regrade_gradesFollow ((h.takeReading first).takeReading second)

theorem State.deviceGone_gradesFollow {s : State} {i : Fin 8}
    (h : s.FollowsBut [firstChannel i, secondChannel i]) : (s.deviceGone i).GradesFollow := by
  unfold State.deviceGone State.refreshChannel
  exact State.regrade_gradesFollow ((h.updateChannel _).updateChannel _)

theorem State.GradesFollow.endTest {s : State} (h : s.GradesFollow) (c : Fin 16) (o : TestOutcome) :
    (s.endTest c o).GradesFollow := by
  unfold State.endTest
  split
  · exact (h.setTest c none).unchanged
  · exact h

theorem State.GradesFollow.feedTest {s : State} (h : s.GradesFollow) (c : Fin 16) :
    (s.feedTest c).GradesFollow := by
  unfold State.feedTest
  split
  · simp only
    split
    · exact (h.setTest c _).endTest c _
    · exact h.setTest c _
  · exact h

theorem State.GradesFollow.setIntegrity {s : State} (h : s.GradesFollow) (x : IntegrityState) :
    (s.setIntegrity x).GradesFollow := by
  unfold State.setIntegrity
  split
  · exact h
  · exact State.regrade_gradesFollow (h.channels.of_eq (fun _ => rfl) (fun _ _ _ => rfl))

theorem State.GradesFollow.protectedWrite {s : State} (h : s.GradesFollow) : s.protectedWrite.GradesFollow := by
  unfold State.protectedWrite
  split
  · exact h
  · refine State.regrade_gradesFollow (h.channels.of_eq (fun c => ?_) (fun c _ _ => ?_))
    · simp [State.channel]
    · simp [State.deviceSilent, State.pollRecord]

theorem State.GradesFollow.compare {s : State} (h : s.GradesFollow) (check : Word) :
    (s.compare check).GradesFollow := by
  unfold State.compare
  simp only
  split
  · exact State.GradesFollow.setIntegrity h.unchanged _
  · refine State.GradesFollow.setIntegrity ?_ _
    split
    · exact h.unchanged
    · exact h.unchanged

theorem State.GradesFollow.scanStep {s : State} (h : s.GradesFollow) : s.scanStep.GradesFollow := by
  unfold State.scanStep
  simp only
  split
  · exact h.unchanged
  · exact State.GradesFollow.compare h.unchanged _

theorem State.GradesFollow.suspensionExpires {s : State} (h : s.GradesFollow) :
    s.suspensionExpires.GradesFollow :=
  State.GradesFollow.setIntegrity h.unchanged _

theorem State.GradesFollow.setStoredCheck {s : State} (h : s.GradesFollow) (value : Word) :
    (s.setStoredCheck value).GradesFollow :=
  State.GradesFollow.setIntegrity h.unchanged _

/-! ### The field poller (R40 to R44) -/

/-- A poll record that is replaced changes the devices of its own two channels only (R7). -/
theorem State.setPollRecord_deviceSilent_of_ne (s : State) {i : Fin 8} {c : Fin 16} (r : PollRecord)
    (h : c ∉ [firstChannel i, secondChannel i]) :
    (s.setPollRecord i r).deviceSilent c = s.deviceSilent c := by
  have hne : i ≠ pollOf c := by
    rintro rfl
    simp only [firstChannel, secondChannel, pollOf, List.mem_cons, List.not_mem_nil, Fin.ext_iff] at h
    omega
  simp [State.deviceSilent, hne]

/-- A poll record that is replaced by one that is SILENT exactly when it was changes no device's silence. -/
theorem State.setPollRecord_deviceSilent (s : State) {i : Fin 8} {r : PollRecord}
    (h : (r.state == .silent) = ((s.pollRecord i).state == .silent)) (c : Fin 16) :
    (s.setPollRecord i r).deviceSilent c = s.deviceSilent c := by
  simp only [State.deviceSilent, State.pollRecord_setPollRecord]
  split
  next e => rw [h, e]
  · rfl

theorem State.GradesFollow.setPollRecord {s : State} (h : s.GradesFollow) {i : Fin 8} {r : PollRecord}
    (hr : (r.state == .silent) = ((s.pollRecord i).state == .silent)) : (s.setPollRecord i r).GradesFollow :=
  h.of_eq (fun _ => rfl) (s.setPollRecord_deviceSilent hr)

theorem State.GradesFollow.sendPoll {s : State} (h : s.GradesFollow) (i : Fin 8) : (s.sendPoll i).GradesFollow := by
  have hset : (s.setPollRecord i { s.pollRecord i with
      due := some (s.now + (s.pollRecord i).config.interval.ms) }).GradesFollow := h.setPollRecord rfl
  exact hset.unchanged rfl rfl rfl rfl rfl

theorem State.GradesFollow.nextPoll {s : State} (h : s.GradesFollow) : s.nextPoll.GradesFollow := by
  unfold State.nextPoll
  split
  · exact h
  split
  · split
    · exact h.sendPoll _
    · exact h
  · exact h

theorem State.GradesFollow.feedTests {s : State} (h : s.GradesFollow) (i : Fin 8) :
    (s.feedTests i).GradesFollow :=
  (h.feedTest _).feedTest _

/-- Both channels of a record follow again once the readings of its reply are in (R43). -/
theorem State.GradesFollow.takeReply {s : State} (h : s.GradesFollow) (i : Fin 8) (r : Reply) :
    (s.takeReply i r).GradesFollow := by
  have hread {u : State} (hu : u.GradesFollow) :
      (((u.setPollRecord i (u.pollRecord i).replied).learn r.address .fieldHere).takeReadings i
        r.first r.second).GradesFollow := by
    refine State.takeReadings_gradesFollow (hu.channels.of_eq (fun c => ?_) (fun c _ hc => ?_)) _ _
    · simp [State.channel]
    · rw [← u.setPollRecord_deviceSilent_of_ne (u.pollRecord i).replied hc]
      simp only [State.deviceSilent, State.pollRecord, State.learn_frame]
  have hfree : (s.freeLine.countPoller fun k => { k with repliesTaken := k.repliesTaken + 1 }).GradesFollow :=
    h.unchanged
  exact (((hread hfree).handPanel i r.panel).feedTests i).nextPoll

/-- A miss never ends a device's silence (R44). -/
theorem PollRecord.missed_silent {r : PollRecord} (h : r.state = .silent) : r.missed.state = .silent := by
  simp [PollRecord.missed, h]

/-- A record that becomes SILENT hands its channels on; one that stays as it was leaves them (R22, R44). -/
theorem State.GradesFollow.missReply {s : State} (h : s.GradesFollow) (i : Fin 8) :
    (s.missReply i).GradesFollow := by
  unfold State.missReply
  simp only
  refine State.GradesFollow.nextPoll (State.GradesFollow.feedTests (State.GradesFollow.countPoller ?_ _) i)
  have hfree : s.freeLine.GradesFollow := h.unchanged
  split
  · exact State.deviceGone_gradesFollow (hfree.channels.of_eq (fun _ => rfl)
      (fun _ _ hc => State.setPollRecord_deviceSilent_of_ne _ _ hc))
  next hn =>
    have hback : (s.freeLine.pollRecord i).missed.state = .silent → (s.freeLine.pollRecord i).state = .silent := by
      intro e
      by_contra hne
      exact hn ⟨by simpa using e, hne⟩
    exact hfree.setPollRecord (Bool.eq_iff_iff.mpr (by simpa using ⟨hback, PollRecord.missed_silent⟩))

theorem State.GradesFollow.loadPollRecord {s : State} (h : s.GradesFollow) (i : Fin 8) (c : PollConfig) :
    (s.loadPollRecord i c).GradesFollow := by
  have hload {u : State} (hu : u.GradesFollow) :
      (u.setPollRecord i ((u.pollRecord i).load u.now c)).GradesFollow := by
    refine hu.setPollRecord ?_
    by_cases e : (u.pollRecord i).state = .silent <;> simp [PollRecord.load, e]
  have hline : (if s.pollingFor i then s.freeLine else s).GradesFollow := by
    split
    · exact h.unchanged
    · exact h
  exact ((((hload hline).endTest _ _).endTest _ _).emptyPanel i).nextPoll

theorem State.GradesFollow.matchReply {s : State} (h : s.GradesFollow) (r : Reply) :
    (s.matchReply r).GradesFollow := by
  unfold State.matchReply
  split
  · exact h.unchanged
  split
  · exact h.unchanged
  split
  · exact h.unchanged
  split
  · exact h.takeReply _ _
  · exact h.unchanged

theorem State.GradesFollow.lineMessage {s : State} (h : s.GradesFollow) (bytes : List Byte) :
    (s.lineMessage bytes).GradesFollow := by
  unfold State.lineMessage
  split
  · split
    · exact h.matchReply _
    · exact h.unchanged
  · exact h.unchanged

/-! ### RESTART (R36, R200) -/

/-- RESTART rewrites every channel, then the grades (R36). -/
theorem State.restartAir_gradesFollow {s : State} (h : s.FollowsBut channelIndices) :
    s.restartAir.GradesFollow := by
  have hall := State.FollowsBut.foldl_updateChannel (fun s c => (s.channel c).restart s.now) _ h
  exact (State.regrade_gradesFollow hall).startReportTimer

theorem State.GradesFollow.restart {s : State} (h : s.GradesFollow) : s.restart.GradesFollow := by
  unfold State.restart
  simp only
  refine State.GradesFollow.nextPoll (State.restartAir_gradesFollow ?_)
  refine h.channels.of_eq (fun c => ?_) (fun c _ hc => absurd (mem_channelIndices c) hc)
  simp [State.channel]

theorem State.GradesFollow.restartDue {s : State} (h : s.GradesFollow) : s.restartDue.GradesFollow := by
  unfold State.restartDue
  split
  · exact h.restart
  · exact h.unchanged

theorem State.GradesFollow.sendRestartResponse {s : State} (h : s.GradesFollow) (rq : Request) :
    (s.sendRestartResponse rq).GradesFollow := by
  unfold State.sendRestartResponse
  simp only
  split
  · exact h.unchanged
  · exact State.GradesFollow.restartDue h.unchanged

theorem State.GradesFollow.frameGone {s : State} (h : s.GradesFollow) (p : Port) :
    (s.frameGone p).GradesFollow := by
  unfold State.frameGone
  split
  · exact h
  · refine State.GradesFollow.choosePort ?_ p
    split
    · exact State.GradesFollow.restartDue h.unchanged
    · exact h.unchanged

theorem State.GradesFollow.goDown {s : State} (h : s.GradesFollow) (p : Backbone) :
    (s.goDown p).GradesFollow := by
  unfold State.goDown
  simp only
  repeat' split
  · exact State.GradesFollow.restartDue h.unchanged
  · exact h.unchanged
  · exact h

/-! ### Requests (section 10.2) -/

theorem State.GradesFollow.loaded {s : State} (h : s.GradesFollow) : (loaded s).1.GradesFollow := h

theorem State.GradesFollow.loadChannelRecord {s : State} (h : s.GradesFollow) (c : Fin 16)
    (r : ChannelRecord) : (s.loadChannelRecord c r).FollowsBut [] := by
  unfold State.loadChannelRecord
  exact ((h.endTest c .aborted).channels.weaken [c]).updateChannel _

theorem State.GradesFollow.releaseTrip {s : State} (h : s.GradesFollow) (c : Fin 16) :
    (s.releaseTrip c).GradesFollow := by
  unfold State.releaseTrip
  exact State.regrade_gradesFollow ((h.channels.weaken [c]).updateChannel _)

theorem State.GradesFollow.loadChannel {s : State} (h : s.GradesFollow) (x : Word) (f : ChannelFields) :
    (s.loadChannel x f).1.GradesFollow := by
  unfold State.loadChannel
  split
  · exact h
  split
  · exact h
  split
  · exact h
  split
  · exact h
  split
  · exact h
  next c _ _ _ r _ _ _ =>
    refine (State.regrade_gradesFollow ?_).loaded
    refine (h.loadChannelRecord c r).of_eq (fun d => ?_) (fun d _ _ => ?_)
    · simp [State.channel]
    · simp [State.deviceSilent, State.pollRecord]

theorem State.GradesFollow.resetTrip {s : State} (h : s.GradesFollow) (channel : Byte) :
    (s.resetTrip channel).1.GradesFollow := by
  unfold State.resetTrip
  split
  · exact h
  split
  · exact h
  split
  · exact (h.releaseTrip _).loaded
  · exact h

theorem State.GradesFollow.testChannel {s : State} (h : s.GradesFollow) (rq : Request) (channel : Byte)
    (value : Word) (count : Byte) : (s.testChannel rq channel value count).1.GradesFollow := by
  unfold State.testChannel
  split
  · exact h
  simp only
  split
  · exact h
  split
  · exact h
  · exact h.setTest _ _

theorem State.GradesFollow.loadPoll {s : State} (h : s.GradesFollow) (x : Word) (f : PollFields) :
    (s.loadPoll x f).1.GradesFollow := by
  unfold State.loadPoll
  split
  · exact h
  split
  · exact h
  split
  · exact h
  · exact (h.loadPollRecord _ _).loaded

theorem State.GradesFollow.loadPin {s : State} (h : s.GradesFollow) (x : Word) (f : PinFields) :
    (s.loadPin x f).1.GradesFollow := by
  unfold State.loadPin
  split
  · exact h
  split
  · exact h
  · exact (State.GradesFollow.protectedWrite h.unchanged).loaded

theorem State.GradesFollow.loadPermit {s : State} (h : s.GradesFollow) (x : Word) (f : PermitFields) :
    (s.loadPermit x f).1.GradesFollow := by
  unfold State.loadPermit
  split
  · exact h
  split
  · exact h
  · exact (State.GradesFollow.protectedWrite h.unchanged).loaded

theorem State.GradesFollow.loadRoute {s : State} (h : s.GradesFollow) (x : Word) (f : RouteFields) :
    (s.loadRoute x f).1.GradesFollow := by
  unfold State.loadRoute
  split
  · exact h
  split
  · exact h
  · exact (State.GradesFollow.protectedWrite h.unchanged).loaded

theorem State.GradesFollow.loadShed {s : State} (h : s.GradesFollow) (x : Word) (f : ShedFields) :
    (s.loadShed x f).1.GradesFollow := by
  unfold State.loadShed
  split
  · exact h
  split
  · exact h
  · exact (State.GradesFollow.protectedWrite h.unchanged).loaded

theorem State.GradesFollow.restartRequest {s : State} (h : s.GradesFollow) (rq : Request) :
    (s.restartRequest rq).1.GradesFollow := by
  unfold State.restartRequest
  split
  · exact h
  split
  · exact h
  · exact h.sendRestartResponse rq

/-- Every request's handler keeps the grades following. -/
theorem State.GradesFollow.handlerOf {s : State} (h : s.GradesFollow) (i : Instr) :
    (handlerOf i s).1.GradesFollow := by
  cases i with
  | loadRecordChannel _ x f => exact h.loadChannel x f
  | loadRecordPoll _ x f => exact h.loadPoll x f
  | loadRecordPin _ x f => exact h.loadPin x f
  | loadRecordPermit _ x f => exact h.loadPermit x f
  | loadRecordRoute _ x f => exact h.loadRoute x f
  | loadRecordShed _ x f => exact h.loadShed x f
  | setCheck _ v => exact h.setStoredCheck v
  | resetTrip _ c => exact h.resetTrip c
  | testChannel rq c v n => exact h.testChannel rq c v n
  | restart rq => exact h.restartRequest rq
  | loadRecordWatch _ x f => exact h.unchanged (t := (s.loadWatch x f).1)
  | loadRecordPlan _ x v => exact h.unchanged (t := (s.loadPlan x v).1)
  | loadRecordParameters _ _ f => exact h.unchanged (t := (s.loadParameters f).1)
  | selectPlan _ b => exact h.unchanged (t := (s.selectPlan b).1)
  | evacuate _ => exact h.unchanged (t := s.evacuateRequest.1)
  | standDown _ => exact h.unchanged (t := s.standDownRequest.1)
  | closeSegment _ => exact h.unchanged (t := s.closeSegment.1)
  | openSegment _ => exact h.unchanged (t := s.openSegment.1)
  | releaseSegment _ => exact h.unchanged (t := s.releaseSegment.1)
  | cancelSos _ u => exact h.unchanged (t := (s.cancelSos u).1)
  | clearFlags _ g x => exact h.unchanged (t := (s.clearFlags g x).1)
  | ackAttention _ g => exact h.unchanged (t := (s.ackAttention g).1)
  | clearCounters _ => exact h.unchanged (t := s.clearCounters.1)
  | _ => exact h

theorem State.GradesFollow.answer {s : State} (h : s.GradesFollow) (rq : Request) (v : Verdict) :
    (s.answer rq v).GradesFollow := h.unchanged

theorem State.GradesFollow.takeRequest {s : State} (h : s.GradesFollow) (rq : Request) (isRestart : Bool)
    {f : Handler} (hf : ∀ {u : State}, u.GradesFollow → (f u).1.GradesFollow) :
    (s.takeRequest rq isRestart f).GradesFollow := by
  have hcount : (s.countMgmt fun k => { k with requestsTaken := k.requestsTaken + 1 }).GradesFollow := h.unchanged
  unfold State.takeRequest State.carryOut
  split
  · exact h
  split
  · simp only
    split
    · exact hcount.answer rq _
    · exact (hf hcount).answer rq _
  · exact h.unchanged

/-! ### The walk of a frame (R78 to R87) -/

theorem State.GradesFollow.requestFrame {s : State} (h : s.GradesFollow) (p : Port) (f : Frame) :
    (s.requestFrame p f).GradesFollow := by
  unfold State.requestFrame State.takeAsked
  split
  · simp only
    split
    · exact h.takeRequest _ _ (fun hu => hu.handlerOf _)
    · exact h.takeRequest _ _ (fun hu => hu)
  · exact h

theorem State.GradesFollow.ifAddressed {s : State} (h : s.GradesFollow) {f : State → State}
    (hf : (f s).GradesFollow) : (s.ifAddressed f).GradesFollow := by
  unfold State.ifAddressed
  split
  · exact hf
  · exact h

theorem State.GradesFollow.entryFrame {s : State} (h : s.GradesFollow) (f : Frame) :
    (s.entryFrame f).GradesFollow := by
  unfold State.entryFrame
  repeat' split
  all_goals exact h.unchanged

theorem State.GradesFollow.exitFrame {s : State} (h : s.GradesFollow) (f : Frame) :
    (s.exitFrame f).GradesFollow := by
  unfold State.exitFrame
  repeat' split
  all_goals exact h.unchanged

theorem State.GradesFollow.beacon {s : State} (h : s.GradesFollow) (f : Frame) :
    (s.beacon f).GradesFollow := by
  unfold State.beacon
  split
  · exact h.unchanged
  · exact h.unchanged

theorem State.GradesFollow.noOwner {s : State} (h : s.GradesFollow) (p : Port) : (s.noOwner p).GradesFollow :=
  State.GradesFollow.unchanged (t := s.countPort p _) h

/-- Of the blocks that take a delivered frame only the management unit can touch the grades. -/
theorem State.GradesFollow.hand {s : State} (h : s.GradesFollow) (p : Port) (f : Frame) (k : FrameKind) :
    (s.hand p f k).GradesFollow := by
  cases k with
  | request => exact h.ifAddressed (h.requestFrame p f)
  | entryRequest => exact h.ifAddressed (h.entryFrame f)
  | exitNotice => exact h.ifAddressed (h.exitFrame f)
  | beacon => exact h.ifAddressed (h.beacon f)
  | zoneGrade => exact h.ifAddressed h.unchanged
  | evacuateOrder => exact h.ifAddressed h.unchanged
  | standDownOrder => exact h.ifAddressed h.unchanged
  | evacAck => exact h.ifAddressed h.unchanged
  | sos => exact h.unchanged (t := s.sosFrame f)
  | sosCancel => exact h.unchanged (t := s.sosCancel f)
  | voice | announce | callSetup | callAlerting | callAnswer | callClear => exact h
  | _ => exact h.noOwner p

theorem State.GradesFollow.dispose {s : State} (h : s.GradesFollow) (p : Port) (f : Frame) :
    (s.dispose p f).GradesFollow := by
  have hdeliver : (if s.forHere f then s.deliver p f else s).GradesFollow := by
    unfold State.deliver
    split
    · split
      · exact h.unchanged
      split
      · exact h.hand p f _
      · exact h.unchanged
    · exact h
  exact hdeliver.unchanged rfl rfl rfl rfl rfl

theorem State.GradesFollow.inspected {s : State} (h : s.GradesFollow) (p : Port) (f : Frame) :
    (s.inspected p f).GradesFollow := by
  have hinspect : (s.inspect p f).1.GradesFollow := h.unchanged
  unfold State.inspected
  split
  next e => exact State.GradesFollow.dispose (by simpa only [e] using hinspect) p f
  next e => simpa only [e] using hinspect

theorem State.GradesFollow.ownReturn {s : State} (h : s.GradesFollow) (p : Port) (f : Frame) :
    (s.ownReturn p f).GradesFollow := by
  unfold State.ownReturn
  split
  · exact h.unchanged
  · exact h.inspected p f

theorem State.GradesFollow.relayed {s : State} (h : s.GradesFollow) (p : Port) (f : Frame) :
    (s.relayed p f).GradesFollow := by
  unfold State.relayed
  split
  · split
    · exact h.unchanged
    split
    · exact h.ownReturn p f
    · refine State.GradesFollow.ownReturn ?_ p f
      exact h.unchanged rfl rfl rfl rfl rfl
  · exact h.ownReturn p f

theorem State.GradesFollow.hopped {s : State} (h : s.GradesFollow) (p : Port) (f : Frame) :
    (s.hopped p f).GradesFollow := by
  unfold State.hopped
  simp only
  refine State.GradesFollow.relayed ?_ p _
  split
  · exact h.unchanged
  · exact h

theorem State.GradesFollow.heard {s : State} (h : s.GradesFollow) (p : Port) (f : Frame) :
    (s.heard p f).GradesFollow := by
  unfold State.heard
  simp only
  split
  · exact h.unchanged
  · exact h.unchanged

theorem State.GradesFollow.frameArrives {s : State} (h : s.GradesFollow) (p : Port) (bytes : List Byte) :
    (s.frameArrives p bytes).GradesFollow := by
  unfold State.frameArrives State.acceptFrame
  split
  · simp only
    split
    · exact h.unchanged
    · exact h.unchanged
    · exact h.unchanged
    · exact h.unchanged
    · split
      · exact State.GradesFollow.hopped (State.GradesFollow.heard h.unchanged p _) p _
      · exact h.unchanged
  · exact h

end Sys2Proof.Machine

/-! PROOF. What a step can do: each command is the event of its work (assumption 1), and every event drives the
trip output last. -/

namespace Sys2Proof.Machine

/-- The work of an event row (chapter Operating Sequences); a request row has none of its own. -/
def eventWork : Instr → State → State
  | .coldStart straps outbyeUp inbyeUp, s => State.cold s.pending s.now s.samples straps outbyeUp inbyeUp
  | .frameReceived p bytes, s => s.frameArrives p bytes
  | .frameSent p, s => s.frameGone p
  | .linkDown p, s => s.goDown p
  | .linkUp p, s => s.goUp p
  | .lineMessageReceived bytes, s => s.lineMessage bytes
  | .replyTimerExpiry, s => s.replyTimerExpires
  | .recordDue, s => s.recordComesDue
  | .staleTimerExpiry c, s => s.expire (s.channel c).staleTimer (fun s => s.staleExpires c)
  | .airReportTimerExpiry, s => s.expire s.air.reportTimer State.airReportExpires
  | .ageTick, s => s.ageTicks
  | .relayAgeTick, s => s.relayTicks
  | .setupTimerExpiry i, s => s.expire (s.leg i).setupTimer (fun s => s.setupExpires i)
  | .leaseTimerExpiry, s => s.expire s.seg.lease State.leaseExpires
  | .repeatTimerExpiry, s => s.expire s.evac.repeatTimer State.repeatExpires
  | .doorTick, s => s.doorTicks
  | .supplySample mains battery temperature, s => s.sampleTicks (clampSample mains battery temperature)
  | .scanStep, s => s.expire s.integ.scanTimer State.scanStep
  | .suspensionTimerExpiry, s => s.expire s.integ.suspensionTimer State.suspensionExpires
  | .isolationTimerExpiry, s => s.expire s.mgmt.isolationTimer State.isolationExpires
  | .statusTimerExpiry, s => s.expire s.mgmt.statusTimer State.statusExpires
  | .outputCadenceToggle o, s => s.expire (s.evac.lines.get o).cadence (fun s => s.toggleLine o)
  | _, s => s

/-- The work of a request row: its frame is a surface frame first, then the request is taken (R185, R189). -/
def requestWork (rq : Request) (i : Instr) (s : State) : State :=
  (if isSurface rq.source then s.surfaceHeard else s).takeRequest rq (isRestartCommand i) (handlerOf i)

/-- The work of a command. -/
def workOf (i : Instr) (s : State) : State :=
  match i.request? with
  | some rq => requestWork rq i s
  | none => eventWork i s

/-- Every command is one event: its work, then the event's end. -/
theorem exec_eq_event (i : Instr) (s : State) : exec i s = .next (s.event (workOf i)) := by
  cases i <;> rfl

/-- What a step can do: pass one millisecond, or run a command's event from a state in which only the queue and
the count of samples have moved on (assumptions 1 and 3). -/
theorem step_cases {s t : State} (h : step s = .next t) :
    t = s.idle ∨ ∃ i l n, t = ({ s with pending := l, samples := n } : State).event (workOf i) := by
  unfold step at h
  split at h
  next i rest _ =>
    rw [exec_eq_event] at h
    exact .inr ⟨i, rest, s.samples, (Host.Outcome.next.inj h).symm⟩
  · unfold State.idleStep at h
    split at h
    next i _ =>
      rw [exec_eq_event] at h
      refine .inr ⟨i, s.pending, (s.sampleUsed i).samples, ?_⟩
      rw [← Host.Outcome.next.inj h]
      cases i <;> rfl
    · exact .inl (Host.Outcome.next.inj h).symm

/-- An event leaves the trip output asserted exactly while the zone grade is TRIP (R27). -/
theorem State.event_tripOutput (s : State) (work : State → State) :
    (s.event work).air.tripOutput = true ↔ (s.event work).air.zone = .trip :=
  beq_iff_eq

/-! ### The grades at the end of a step -/

theorem State.cold_gradesFollow (pending : List Instr) (now samples : Nat) (straps : Byte)
    (outbyeUp inbyeUp : Bool) : (State.cold pending now samples straps outbyeUp inbyeUp).GradesFollow := by
  have hchannel : ∀ c, (State.cold pending now samples straps outbyeUp inbyeUp).channel c = Channel.cold := by
    intro c
    simp [State.channel, State.cold, Air.cold]
  have hscope : ∀ x, (State.cold pending now samples straps outbyeUp inbyeUp).scopeGrade x = .normal := by
    intro x
    simp [State.scopeGrade, State.scoped, hchannel, Channel.cold, ChannelRecord.factory, Grade.maximum]
  rw [State.gradesFollow_iff, State.zoneNow, State.refugeNow, hscope, hscope]
  refine ⟨fun c _ => ?_, rfl, rfl⟩
  rw [State.ChannelFollows, hchannel]
  exact ⟨rfl, rfl⟩

theorem State.GradesFollow.expire {s : State} (h : s.GradesFollow) (t : Timer) {f : State → State}
    (hf : ∀ {u : State}, u.GradesFollow → (f u).GradesFollow) : (s.expire t f).GradesFollow := by
  cases t with
  | none => exact h
  | some d => exact hf h.unchanged

theorem State.GradesFollow.staleExpires {s : State} (h : s.GradesFollow) (c : Fin 16) :
    (s.staleExpires c).GradesFollow := by
  unfold State.staleExpires
  exact State.regrade_gradesFollow ((h.channels.weaken [c]).updateChannel _)

theorem State.GradesFollow.replyTimerExpires {s : State} (h : s.GradesFollow) :
    s.replyTimerExpires.GradesFollow := by
  unfold State.replyTimerExpires
  split
  · exact h.expire _ (fun hu => hu.missReply _)
  · exact h

theorem State.GradesFollow.ageTicks {s : State} (h : s.GradesFollow) : s.ageTicks.GradesFollow := by
  unfold State.ageTicks
  exact h.unchanged

theorem State.GradesFollow.relayTicks {s : State} (h : s.GradesFollow) : s.relayTicks.GradesFollow := by
  unfold State.relayTicks
  exact h.unchanged

theorem State.GradesFollow.doorTicks {s : State} (h : s.GradesFollow) : s.doorTicks.GradesFollow := by
  unfold State.doorTicks
  exact h.unchanged

theorem State.GradesFollow.sampleTicks {s : State} (h : s.GradesFollow) (x : Sample) :
    (s.sampleTicks x).GradesFollow := by
  unfold State.sampleTicks
  exact h.unchanged

/-- The work of every event row keeps the grades following. -/
theorem State.GradesFollow.eventWork {s : State} (h : s.GradesFollow) (i : Instr) :
    (eventWork i s).GradesFollow := by
  cases i with
  | coldStart => exact State.cold_gradesFollow ..
  | frameReceived p bytes => exact h.frameArrives p bytes
  | frameSent p => exact h.frameGone p
  | linkDown p => exact h.goDown p
  | linkUp p => exact h.unchanged (t := s.goUp p)
  | lineMessageReceived bytes => exact h.lineMessage bytes
  | replyTimerExpiry => exact h.replyTimerExpires
  | recordDue => exact h.expire _ (fun hu => hu.nextPoll)
  | staleTimerExpiry c => exact h.expire _ (fun hu => hu.staleExpires c)
  | airReportTimerExpiry => exact h.expire _ (fun hu => hu.unchanged)
  | ageTick => exact h.ageTicks
  | relayAgeTick => exact h.relayTicks
  | setupTimerExpiry i => exact h.expire _ (fun hu => hu.unchanged)
  | leaseTimerExpiry => exact h.expire _ (fun hu => hu.unchanged)
  | repeatTimerExpiry => exact h.expire _ (fun hu => hu.unchanged)
  | doorTick => rw [Machine.eventWork]; exact h.doorTicks
  | supplySample mains battery temperature => exact h.sampleTicks _
  | scanStep => exact h.expire _ (fun hu => hu.scanStep)
  | suspensionTimerExpiry => exact h.expire _ (fun hu => hu.suspensionExpires)
  | isolationTimerExpiry => exact h.expire _ (fun hu => hu.unchanged)
  | statusTimerExpiry => exact h.expire _ (fun hu => hu.unchanged)
  | outputCadenceToggle o => exact h.expire _ (fun hu => hu.unchanged)
  | _ => exact h

theorem State.GradesFollow.workOf {s : State} (h : s.GradesFollow) (i : Instr) : (workOf i s).GradesFollow := by
  unfold Sys2Proof.Machine.workOf requestWork
  split
  next rq _ =>
    have hsurface : (if isSurface rq.source then s.surfaceHeard else s).GradesFollow := by
      split
      · exact h.unchanged
      · exact h
    exact hsurface.takeRequest rq _ (fun hu => hu.handlerOf i)
  · exact h.eventWork i

theorem State.GradesFollow.concluded {s : State} (h : s.GradesFollow) (before : Tally) :
    (s.concluded before).GradesFollow := by
  have hdriven : (s.musterFollows before).drive.GradesFollow := h.unchanged
  exact hdriven.unchanged rfl rfl rfl rfl rfl

/-- Where the grades follow they do so after every step. -/
theorem State.GradesFollow.step {s t : State} (h : s.GradesFollow) (hstep : step s = .next t) :
    t.GradesFollow := by
  obtain rfl | ⟨i, l, n, rfl⟩ := step_cases hstep
  · exact h.unchanged
  · have hstart : ({ s with pending := l, samples := n, scratch := {} } : State).GradesFollow :=
      h.unchanged rfl rfl rfl rfl rfl
    exact (hstart.workOf i).concluded s.tally

/-! ### A TRIP comes from a ZONE channel (R23, R24, R27) -/

theorem Grade.higher_eq_trip {a b : Grade} : a.higher b = .trip ↔ a = .trip ∨ b = .trip := by
  cases a <;> cases b <;> decide

theorem Grade.maximum_eq_trip {l : List Grade} : Grade.maximum l = .trip ↔ .trip ∈ l := by
  induction l with
  | nil => simp [Grade.maximum]
  | cons a l ih =>
    rw [List.mem_cons, ← ih, eq_comm (a := Grade.trip)]
    exact Grade.higher_eq_trip

theorem highestSet_eq_trip {alert alarm trip : EntryState} :
    highestSet alert alarm trip = .trip ↔ trip.set = true := by
  unfold highestSet
  repeat' split
  all_goals simp_all

/-- A channel's effective grade is TRIP only by its TRIP entry or by its fault action in FAULT (R23). -/
theorem Channel.effectiveNow_eq_trip {x : Channel} (h : x.effectiveNow = .trip) :
    x.trip.set = true ∨ x.state = .fault ∧ x.record.faultAction = .trip := by
  unfold Channel.effectiveNow at h
  simp only at h
  split at h
  · cases h
  · exact .inl (by simpa [Grade.higher_eq_trip, highestSet_eq_trip] using h)
  · exact .inl (highestSet_eq_trip.mp h)
  next hf =>
    rcases Grade.higher_eq_trip.mp h with ha | ht
    · refine .inr ⟨hf, ?_⟩
      cases e : x.record.faultAction <;> simp_all [FaultAction.grade]
    · exact .inl (highestSet_eq_trip.mp ht)

/-- A zone grade of TRIP comes from an enabled ZONE channel whose effective grade is TRIP: the integrity floor is
ALARM at most (R24). -/
theorem State.zoneNow_eq_trip {s : State} (h : s.zoneNow = .trip) :
    ∃ c, (s.channel c).record.enabled = true ∧ (s.channel c).record.scope = .zone
      ∧ (s.channel c).effective = .trip := by
  rcases Grade.higher_eq_trip.mp h with hc | hf
  · obtain ⟨c, hc, he⟩ := List.mem_map.mp (Grade.maximum_eq_trip.mp hc)
    simp only [State.scoped, List.mem_filter, Bool.and_eq_true, beq_iff_eq] at hc
    obtain ⟨-, hen, hscope⟩ := hc
    exact ⟨c, hen, hscope, he⟩
  · cases e : s.integ.state <;> simp [e, integrityFloor] at hf

/-- Where the grades follow, a zone grade of TRIP has its cause on an enabled ZONE channel (R27). -/
theorem State.GradesFollow.trip_cause {s : State} (h : s.GradesFollow) (hz : s.air.zone = .trip) :
    ∃ c, (s.channel c).record.enabled = true ∧ (s.channel c).record.scope = .zone
      ∧ ((s.channel c).trip.set = true
        ∨ (s.channel c).state = .fault ∧ (s.channel c).record.faultAction = .trip) := by
  obtain ⟨hchannels, hzone, -⟩ := h
  obtain ⟨c, hen, hscope, he⟩ := State.zoneNow_eq_trip (hzone ▸ hz)
  obtain ⟨-, heff⟩ := hchannels c (mem_channelIndices c)
  exact ⟨c, hen, hscope, Channel.effectiveNow_eq_trip (heff ▸ he)⟩

/-- Settles O15: a step's event drives the trip output last, and the grades follow after every step. -/
theorem tripOutputFollowsZoneGrade : Obligations.TripOutputFollowsZoneGrade := by
  intro s t houtputs hgrades hstep
  refine ⟨?_, (hgrades.step hstep).trip_cause⟩
  obtain rfl | ⟨i, l, n, rfl⟩ := step_cases hstep
  · exact houtputs.2
  · exact State.event_tripOutput ..

end Sys2Proof.Machine

/-! PROOF. Smoothing and grading of one sample (R12 to R17). -/

namespace Sys2Proof.Machine

/-! ### Smoothing (R12, R14) -/

@[simp] theorem smooth_none (k v : Nat) : smooth k none v = v := rfl

@[simp] theorem smooth_zero (a v : Nat) : smooth 0 (some a) v = v := rfl

theorem smooth_up {k a v : Nat} (hk : 1 ≤ k) (h : a ≤ v) : smooth k (some a) v = a + stepSize k (v - a) := by
  simp [smooth, h, Nat.ne_of_gt hk]

theorem smooth_down {k a v : Nat} (hk : 1 ≤ k) (h : v < a) : smooth k (some a) v = a - stepSize k (a - v) := by
  simp [smooth, Nat.not_le.mpr h, Nat.ne_of_gt hk]

/-- A rounded step never passes the value it goes toward. -/
theorem stepSize_le {k : Nat} (hk : 1 ≤ k) (d : Nat) : stepSize k d ≤ d := by
  have hpos : 0 < 2 ^ (k - 1) := Nat.two_pow_pos _
  rw [stepSize, ← mul_pow_sub_one (Nat.ne_of_gt hk) 2]
  rcases Nat.eq_zero_or_pos d with rfl | hd
  · simp [Nat.div_eq_of_lt (show 2 ^ (k - 1) < 2 * 2 ^ (k - 1) by omega)]
  · refine Nat.div_le_of_le_mul ?_
    nlinarith

/-- A step is 0 exactly when the distance is below half the divisor. -/
theorem stepSize_eq_zero {k : Nat} (hk : 1 ≤ k) (d : Nat) : stepSize k d = 0 ↔ d < 2 ^ (k - 1) := by
  have hpos : 0 < 2 ^ (k - 1) := Nat.two_pow_pos _
  rw [stepSize, ← mul_pow_sub_one (Nat.ne_of_gt hk) 2, Nat.div_eq_zero_iff]
  omega

/-- The moved average with its sign (R14). -/
theorem smooth_toInt {k : Nat} (hk : 1 ≤ k) (a v : Nat) :
    ((smooth k (some a) v : Nat) : Int) = a + ((v : Int) - a).sign * (stepSize k ((v : Int) - a).natAbs : Nat) := by
  rcases Nat.lt_trichotomy a v with h | rfl | h
  · have hd : ((v : Int) - a).natAbs = v - a := by omega
    rw [smooth_up hk h.le, hd, Int.sign_eq_one_of_pos (by omega)]
    push_cast
    ring
  · simp [smooth_up hk le_rfl, (stepSize_eq_zero hk 0).mpr (Nat.two_pow_pos _)]
  · have hd : ((v : Int) - a).natAbs = a - v := by omega
    have hle := stepSize_le hk (a - v)
    rw [smooth_down hk h, hd, Int.sign_eq_neg_one_of_neg (by omega)]
    omega

/-- The average stays between where it was and the value. -/
theorem smooth_between (k a v : Nat) : min a v ≤ smooth k (some a) v ∧ smooth k (some a) v ≤ max a v := by
  rcases Nat.eq_zero_or_pos k with rfl | hk
  · simp
  rcases Nat.lt_or_ge v a with h | h
  · have hle := stepSize_le hk (a - v)
    rw [smooth_down hk h]
    omega
  · have hle := stepSize_le hk (v - a)
    rw [smooth_up hk h]
    omega

/-- The average rests exactly when the distance is below half the divisor. -/
theorem smooth_eq_self {k : Nat} (hk : 1 ≤ k) (a v : Nat) :
    smooth k (some a) v = a ↔ ((v : Int) - a).natAbs < 2 ^ (k - 1) := by
  rcases Nat.lt_or_ge v a with h | h
  · have hd : ((v : Int) - a).natAbs = a - v := by omega
    have hle := stepSize_le hk (a - v)
    rw [smooth_down hk h, hd, ← stepSize_eq_zero hk]
    omega
  · have hd : ((v : Int) - a).natAbs = v - a := by omega
    rw [smooth_up hk h, hd, ← stepSize_eq_zero hk]
    omega

/-- A converted value is clamped to full scale (R12). -/
theorem convert_le (offset gain full raw : Nat) : convert offset gain full raw ≤ full := by
  unfold convert
  split
  · exact Nat.zero_le _
  · exact Nat.min_le_left ..

/-- Settles O16: the step of R14 is a rounded one, at most the distance and 0 below half the divisor. -/
theorem smoothingStepsTowardTheValue : Obligations.SmoothingStepsTowardTheValue := by
  intro k a v full _
  obtain ⟨hmin, hmax⟩ := smooth_between k a v
  exact ⟨smooth_none k v, fun hk => hk ▸ smooth_zero a v, fun hk => smooth_toInt hk a v, ⟨hmin, hmax⟩,
    fun hk => smooth_eq_self hk a v, fun offset gain raw => convert_le offset gain full raw,
    fun ha hv => hmax.trans (max_le ha hv)⟩

/-! ### Grading (R15 to R17) -/

theorem EntryConfig.judge_disabled {e : EntryConfig} (h : e.enabled = false) (d : Direction) (latches : Bool)
    (a : Nat) (x : EntryState) : e.judge d latches a x = ⟨false, 0⟩ := by
  simp [EntryConfig.judge, h, EntryState.clear]

section

variable {e : EntryConfig} (h : e.enabled = true) (d : Direction) (latches : Bool) (a n : Nat)
include h

theorem EntryConfig.judge_clear_beyond (hb : e.beyond d a = true) :
    e.judge d latches a ⟨false, n⟩ = EntryState.advance ⟨false, n⟩ e.hold := by
  simp [EntryConfig.judge, h, hb]

theorem EntryConfig.judge_clear_notBeyond (hb : e.beyond d a = false) :
    e.judge d latches a ⟨false, n⟩ = ⟨false, 0⟩ := by
  simp [EntryConfig.judge, h, hb]

theorem EntryConfig.judge_set_clears (hc : e.clears d a = true) :
    e.judge d false a ⟨true, n⟩ = EntryState.advance ⟨true, n⟩ e.hold := by
  simp [EntryConfig.judge, h, hc]

theorem EntryConfig.judge_set_notClears (hc : e.clears d a = false) :
    e.judge d false a ⟨true, n⟩ = ⟨true, 0⟩ := by
  simp [EntryConfig.judge, h, hc]

theorem EntryConfig.judge_latched : e.judge d true a ⟨true, n⟩ = ⟨true, 0⟩ := by
  simp [EntryConfig.judge, h]

end

/-- Averages that each add 1 to the run toward the other state: short of the hold count the run is their number,
and the hold count's average changes the state (R15, R16). -/
theorem foldl_advance {f : EntryState → Nat → EntryState} {b : Bool} {hold : Nat} :
    ∀ {l : List Nat} {n : Nat}, (∀ a ∈ l, ∀ m, f ⟨b, m⟩ a = EntryState.advance ⟨b, m⟩ hold) →
      (n + l.length < hold → l.foldl f ⟨b, n⟩ = ⟨b, n + l.length⟩)
      ∧ (l ≠ [] → n + l.length = hold → l.foldl f ⟨b, n⟩ = ⟨!b, 0⟩)
  | [], n, _ => ⟨fun _ => rfl, fun hl => absurd rfl hl⟩
  | a :: l, n, h => by
    obtain ⟨hbelow, hat⟩ := foldl_advance (n := n + 1) (fun x hx => h x (List.mem_cons_of_mem a hx))
    have hfirst := h a List.mem_cons_self n
    rw [List.foldl_cons, hfirst, List.length_cons]
    refine ⟨fun hlt => ?_, fun _ heq => ?_⟩
    · rw [EntryState.advance, if_neg (by simp only; omega), hbelow (by omega)]
      simp only [EntryState.mk.injEq, true_and]
      omega
    · cases l with
      | nil => simp [EntryState.advance, show hold ≤ n + 1 by simp at heq; omega]
      | cons x l =>
        rw [EntryState.advance, if_neg (by simp only [List.length_cons] at heq ⊢; omega)]
        exact hat (by simp) (by omega)

/-- A run that begins at 0. -/
theorem foldl_advance_from_zero {f : EntryState → Nat → EntryState} {b : Bool} {hold : Nat} {l : List Nat}
    (hhold : 1 ≤ hold) (h : ∀ a ∈ l, ∀ m, f ⟨b, m⟩ a = EntryState.advance ⟨b, m⟩ hold) :
    (l.length < hold → l.foldl f ⟨b, 0⟩ = ⟨b, l.length⟩)
    ∧ (l.length = hold → l.foldl f ⟨b, 0⟩ = ⟨!b, 0⟩) := by
  obtain ⟨hbelow, hat⟩ := foldl_advance (n := 0) h
  simp only [Nat.zero_add] at hbelow hat
  refine ⟨hbelow, fun heq => hat ?_ heq⟩
  rintro rfl
  simp at heq
  omega

/-- A latched entry stays SET with run 0 whatever the averages are (R17). -/
theorem EntryConfig.foldl_judge_latched {e : EntryConfig} (h : e.enabled = true) (d : Direction) (l : List Nat) :
    l.foldl (fun x a => e.judge d true a x) ⟨true, 0⟩ = ⟨true, 0⟩ := by
  induction l with
  | nil => rfl
  | cons a l ih => rw [List.foldl_cons, EntryConfig.judge_latched h, ih]

/-- Settles O17: a run is a fold of the entry's judgement, which its hold count completes. -/
theorem entriesNeedTheirHoldCount : Obligations.EntriesNeedTheirHoldCount := by
  refine ⟨fun e a => ⟨by simp [EntryConfig.beyond], by simp [EntryConfig.beyond],
    by simp [EntryConfig.clears]; omega, by simp [EntryConfig.clears]⟩, fun e d latches l => ⟨?_, ?_⟩⟩
  · exact fun a x h => EntryConfig.judge_disabled h d latches a x
  · intro h hhold
    refine ⟨fun hb => ?_, fun a n hb => EntryConfig.judge_clear_notBeyond h d latches a n hb, fun hc => ?_,
      fun a n hc => EntryConfig.judge_set_notClears h d a n hc, EntryConfig.foldl_judge_latched h d l⟩
    · exact foldl_advance_from_zero hhold
        (fun a ha m => EntryConfig.judge_clear_beyond h d latches a m (hb a ha))
    · exact foldl_advance_from_zero hhold
        (fun a ha m => EntryConfig.judge_set_clears h d a m (hc a ha))

end Sys2Proof.Machine

end

section

/-! PROOF. LOAD RECORD WATCH (R67). -/

namespace Sys2Proof.Machine

/-! ### The fields of a LOAD (R192) -/

theorem indexBelow_of_le {n : Nat} {w : Word} (h : n ≤ w.toNat) : indexBelow n w = none :=
  dif_neg (Nat.not_lt.mpr h)

theorem indexBelow_of_eq {n : Nat} {w : Word} {i : Fin n} (h : w.toNat = i.val) : indexBelow n w = some i := by
  simp [indexBelow, h]

theorem parseWatch_disabled {f : WatchFields} (h : f.enabled = 0) (own : Option Addr) :
    parseWatch f own = some ⟨false, f.address⟩ := by
  simp [parseWatch, yesNo, h]

/-- An enabled watch entry is refused exactly where its address is no station's or is this node's own. -/
theorem parseWatch_enabled {f : WatchFields} (h : f.enabled = 1) (own : Option Addr) :
    parseWatch f own
      = if (stationKind f.address).isNone = true ∨ own = some f.address then none
        else some ⟨true, f.address⟩ := by
  simp [parseWatch, yesNo, h]

/-! ### The request -/

/-- A request that is answered DONE by a handler that leaves the station entries as they were: the tally is the
same, so no MUSTER REPORT follows (R147). -/
theorem State.requestEvent_done_settled {s t : State} {rq : Request} (h : s.Accepts rq) {r : Bool} {f : Handler}
    {data : List Byte} (hf : f s.asTaken = (t, .done data)) (hentries : t.table.entries = s.table.entries) :
    s.requestEvent rq r f = .next (t.answerDone rq data).settled := by
  rw [State.requestEvent_done h hf, State.concluded_eq_settled]
  exact .inl (State.tally_of_entries hentries)

theorem State.loadWatch_of_badIndex {s : State} {x : Word} (h : 4 ≤ x.toNat) (f : WatchFields) :
    s.loadWatch x f = (s, .refused .badIndex) := by
  rw [State.loadWatch, indexBelow_of_le h]

theorem State.loadWatch_of_badValue {s : State} {x : Word} {i : Fin 4} {f : WatchFields} (h : x.toNat = i.val)
    (hf : parseWatch f s.nodeAddr? = none) : s.loadWatch x f = (s, .refused .badValue) := by
  simp only [State.loadWatch, indexBelow_of_eq h, hf]

theorem State.loadWatch_of_parse {s : State} {x : Word} {i : Fin 4} {f : WatchFields} {w : Watch}
    (h : x.toNat = i.val) (hf : parseWatch f s.nodeAddr? = some w) :
    s.loadWatch x f
      = ({ s with table := { s.table with watches := s.table.watches.set i w } }, .done []) := by
  simp only [State.loadWatch, indexBelow_of_eq h, hf, loaded]

theorem exec_loadRecordWatch (rq : Request) (x : Word) (f : WatchFields) (s : State) :
    exec (.loadRecordWatch rq x f) s = s.requestEvent rq false (fun u => u.loadWatch x f) := rfl

/-- Settles O28: the index is judged first, then the entry; an accepted load keeps the station entries, and with
them the tally. -/
theorem loadWatchReplacesEntry : Obligations.LoadWatchReplacesEntry := by
  intro s rq x f haccepts
  rw [exec_loadRecordWatch]
  refine ⟨fun hx => ?_, fun i hi => ⟨fun henabled hbad => ?_, fun hgood => ?_⟩⟩
  · exact State.requestEvent_refused haccepts (by decide) (State.loadWatch_of_badIndex hx f)
  · have hparse : parseWatch f s.nodeAddr? = none := by rw [parseWatch_enabled henabled, if_pos hbad]
    exact State.requestEvent_refused haccepts (by decide) (State.loadWatch_of_badValue hi hparse)
  · have hparse : parseWatch f s.nodeAddr? = some ⟨f.enabled == 1, f.address⟩ := by
      obtain ⟨henabled, hkind, hown⟩ | hdisabled := hgood
      · have hstation : ¬((stationKind f.address).isNone = true ∨ s.nodeAddr? = some f.address) := by
          simp [hown, Option.isSome_iff_ne_none.mp hkind]
        rw [parseWatch_enabled henabled, if_neg hstation, henabled]
        rfl
      · rw [parseWatch_disabled hdisabled, hdisabled]
        rfl
    exact State.requestEvent_done_settled haccepts (State.loadWatch_of_parse hi hparse) rfl

end Sys2Proof.Machine

end

section

/-! PROOF. The arrival checks of a received frame and the via-node filter of the radio port (R78, R79, R90). -/

namespace Sys2Proof.Machine

/-! ### Class codes and kind codes (R76) -/

/-- The class code is the top three bits of a frame's first byte (R72). -/
theorem toNat_classCode (b : Byte) : (b.extractLsb' 5 3).toNat = b.toNat / 32 := by
  have hb : b.toNat < 256 := b.isLt
  rw [BitVec.extractLsb'_toNat, Nat.shiftRight_eq_div_pow]
  omega

theorem TrafficClass.ofCode_code (c : TrafficClass) : TrafficClass.ofCode c.code = some c := by
  cases c <;> rfl

/-- Only the codes 6 and 7 name no class (R78). -/
theorem TrafficClass.ofCode_eq_none {x : BitVec 3} (h : x.toNat = 6 ∨ x.toNat = 7) :
    TrafficClass.ofCode x = none := by
  revert x; decide

theorem FrameKind.ofCodes_codes (k : FrameKind) : FrameKind.ofCodes k.codes.1 k.codes.2 = some k := by
  cases k <;> rfl

theorem FrameKind.ofCodes_eq_some_iff {c : TrafficClass} {x : BitVec 5} {k : FrameKind} :
    FrameKind.ofCodes c x = some k ↔ k.codes = (c, x) := by
  constructor
  · intro h
    simpa using List.find?_some h
  · intro h
    simpa [h] using k.ofCodes_codes

/-- A frame is of a kind exactly when it carries that kind's class and kind code (R76). -/
theorem Frame.isKind_iff {f : Frame} {k : FrameKind} : f.isKind k = true ↔ k.codes = (f.cls, f.kind) := by
  rw [Frame.isKind, Frame.kind?, beq_iff_eq, FrameKind.ofCodes_eq_some_iff]

/-! ### The arrival checks (R78) -/

theorem headerLength_eq (p : Port) : headerLength p = if p = .radio then 9 else 8 := by
  cases p <;> rfl

theorem lengthGood_iff {p : Port} {m : List Byte} {h : Nat} (hh : headerLength p = h) :
    lengthGood p m = true ↔ h + 2 ≤ m.length ∧ (m.getD (h - 1) 0).toNat ≤ 120
      ∧ m.length = h + (m.getD (h - 1) 0).toNat + 2 := by
  simp only [lengthGood, hh, Bool.and_eq_true, decide_eq_true_eq, and_assoc]

theorem checkGood_iff {m : List Byte} (hm : 2 ≤ m.length) :
    checkGood m = true ↔ m.drop (m.length - 2) = wordBytes (crc (m.take (m.length - 2))) := by
  simp only [checkGood, hm, decide_true, Bool.true_and, beq_iff_eq]

theorem frameOf_eq_none {p : Port} {m : List Byte}
    (hcode : (m.getD 0 0).toNat / 32 = 6 ∨ (m.getD 0 0).toNat / 32 = 7) : frameOf p m = none := by
  rw [← toNat_classCode] at hcode
  simp only [frameOf, TrafficClass.ofCode_eq_none hcode]

theorem frameOf_eq_some {p : Port} {m : List Byte} {h : Nat} (hh : headerLength p = h) {c : TrafficClass}
    (hcode : c.code.toNat = (m.getD 0 0).toNat / 32) :
    frameOf p m = some ⟨c, (m.getD 0 0).extractLsb' 0 5, (m.getD 1 0).extractLsb' 3 5,
      wordOf (m.getD 2 0) (m.getD 3 0), wordOf (m.getD 4 0) (m.getD 5 0), m.getD (h - 2) 0,
      (m.drop h).take (m.getD (h - 1) 0).toNat⟩ := by
  rw [← toNat_classCode] at hcode
  simp only [frameOf, ← BitVec.eq_of_toNat_eq hcode, TrafficClass.ofCode_code, hh]

theorem arrivalCheck_lengthError {p : Port} {m : List Byte} (hl : ¬ lengthGood p m = true) :
    arrivalCheck p m = .lengthError := by
  rw [arrivalCheck, if_neg hl]

theorem arrivalCheck_checkError {p : Port} {m : List Byte} (hl : lengthGood p m = true)
    (hc : ¬ checkGood m = true) : arrivalCheck p m = .checkError := by
  rw [arrivalCheck, if_pos hl, if_neg hc]

theorem arrivalCheck_classError {p : Port} {m : List Byte} (hl : lengthGood p m = true)
    (hc : checkGood m = true) (hf : frameOf p m = none) : arrivalCheck p m = .classError := by
  rw [arrivalCheck, if_pos hl, if_pos hc, hf]

/-- The last check: a frame that passed the three before it is accepted exactly when both its addresses are valid. -/
theorem arrivalCheck_of_frame {p : Port} {m : List Byte} (hl : lengthGood p m = true)
    (hc : checkGood m = true) {f : Frame} (hf : frameOf p m = some f) :
    arrivalCheck p m = if sourceValid f.src && destValid f.dest then .accepted (m.getD 6 0) f
      else .addressError := by
  rw [arrivalCheck, if_pos hl, if_pos hc, hf]

theorem addressesValid_iff {src dest : Addr} : (sourceValid src && destValid dest) = true
    ↔ (stationKind src).isSome = true ∧ (dest = 0xFFFF ∨ (stationKind dest).isSome = true) := by
  simp only [sourceValid, destValid, broadcast, Bool.and_eq_true, Bool.or_eq_true, beq_iff_eq]

/-! ### The counters of an arrival (R78) -/

/-- The arrival port's counters after a frame with these findings: FRAMES RECEIVED goes up, and one more. -/
def Arrival.counted : Arrival → PortCounters → PortCounters
  | .lengthError, k => { k with framesReceived := k.framesReceived + 1, lengthErrors := k.lengthErrors + 1 }
  | .checkError, k => { k with framesReceived := k.framesReceived + 1, checkErrors := k.checkErrors + 1 }
  | .classError, k => { k with framesReceived := k.framesReceived + 1, classErrors := k.classErrors + 1 }
  | .addressError, k => { k with framesReceived := k.framesReceived + 1, addressErrors := k.addressErrors + 1 }
  | .accepted _ _, k => { k with framesReceived := k.framesReceived + 1, framesAccepted := k.framesAccepted + 1 }

/-- Two changes of one port's counters are one. -/
theorem State.countPort_countPort (s : State) (p : Port) (f g : PortCounters → PortCounters) :
    (s.countPort p f).countPort p g = s.countPort p (fun k => g (f k)) := by
  cases p <;> rfl

theorem State.countPort_nodeAddr? (s : State) (p : Port) (f : PortCounters → PortCounters) :
    (s.countPort p f).nodeAddr? = s.nodeAddr? :=
  Net.nodeAddr?_of_straps (s.countPort_net p f).1

theorem State.frameArrives_down {s : State} {p : Port} (hdown : (s.net.port p).up = false) (m : List Byte) :
    s.frameArrives p m = s := by
  simp only [State.frameArrives, hdown, Bool.false_eq_true, if_false]

/-- A frame that fails a check is counted, and nothing else happens. -/
theorem State.frameArrives_rejected {s : State} {p : Port} {m : List Byte} {a : Arrival}
    (hup : (s.net.port p).up = true) (ha : arrivalCheck p m = a) (hrejected : ∀ via f, a ≠ .accepted via f) :
    s.frameArrives p m = s.countPort p a.counted := by
  simp only [State.frameArrives, hup, if_true, ha]
  cases a with
  | accepted via f => exact absurd rfl (hrejected via f)
  | lengthError => exact s.countPort_countPort p _ _
  | checkError => exact s.countPort_countPort p _ _
  | classError => exact s.countPort_countPort p _ _
  | addressError => exact s.countPort_countPort p _ _

/-- A frame that passes every check is counted and goes on to the via-node filter. -/
theorem State.frameArrives_accepted {s : State} {p : Port} {m : List Byte} {via : Byte} {f : Frame}
    (hup : (s.net.port p).up = true) (ha : arrivalCheck p m = .accepted via f) :
    s.frameArrives p m = (s.countPort p (Arrival.accepted via f).counted).acceptFrame p via f := by
  simp only [State.frameArrives, hup, if_true, ha, State.countPort_countPort]
  rfl

/-! ### The via-node filter (R79) -/

/-- The frames that pass the filter whatever their via node says: ANNOUNCE, EVAC ACK and SOS. -/
theorem passesFilter_iff {f : Frame} : passesFilter f = true
    ↔ f.cls = .signal ∧ (f.kind = 1 ∨ f.kind = 14) ∨ f.cls = .alarm ∧ f.kind = 2 := by
  simp only [passesFilter, Bool.or_eq_true, Frame.isKind_iff, FrameKind.codes, Prod.mk.injEq,
    eq_comm (b := f.cls), eq_comm (b := f.kind)]
  tauto

/-- The filter drops a radio frame that names another node, but for the kinds that pass it. -/
theorem State.viaGood_iff {s : State} {p : Port} {via : Byte} {f : Frame} : s.viaGood p via f = true
    ↔ ¬ (p = .radio ∧ via ≠ 0 ∧ s.nodeAddr? ≠ some (via.setWidth 16)
      ∧ ¬ (f.cls = .signal ∧ (f.kind = 1 ∨ f.kind = 14) ∨ f.cls = .alarm ∧ f.kind = 2)) := by
  rw [← passesFilter_iff]
  simp only [State.viaGood, Bool.or_eq_true, bne_iff_ne, beq_iff_eq]
  tauto

/-! ### The event -/

theorem exec_frameReceived (p : Port) (m : List Byte) (s : State) :
    exec (.frameReceived p m) s = .next (({ s with scratch := {} }.frameArrives p m).concluded s.tally) := rfl

/-- The start of a FRAME RECEIVED whose frame has been judged: its marks are clear and its port has counted it. -/
def State.arrived (s : State) (p : Port) (a : Arrival) : State := { s with scratch := {} }.countPort p a.counted

/-- Counting an arrival leaves the tally, so an event that does no more sends no MUSTER REPORT (R147). -/
theorem State.arrived_concluded (s : State) (p : Port) (a : Arrival) :
    (s.arrived p a).concluded s.tally = (s.arrived p a).settled :=
  State.concluded_eq_settled (.inl (State.tally_of_entries rfl))

theorem exec_frameReceived_down {s : State} {p : Port} (hdown : (s.net.port p).up = false) (m : List Byte) :
    exec (.frameReceived p m) s = .next { s with scratch := {} }.settled := by
  rw [exec_frameReceived, State.frameArrives_down (s := { s with scratch := {} }) hdown m,
    State.concluded_eq_settled]
  exact .inl (State.tally_of_entries rfl)

theorem exec_frameReceived_rejected {s : State} {p : Port} {m : List Byte} {a : Arrival}
    (hup : (s.net.port p).up = true) (ha : arrivalCheck p m = a) (hrejected : ∀ via f, a ≠ .accepted via f) :
    exec (.frameReceived p m) s = .next (s.arrived p a).settled := by
  have hcounted : { s with scratch := {} }.frameArrives p m = s.arrived p a :=
    State.frameArrives_rejected hup ha hrejected
  rw [exec_frameReceived, hcounted, State.arrived_concluded]

theorem exec_frameReceived_accepted {s : State} {p : Port} {m : List Byte} {via : Byte} {f : Frame}
    (hup : (s.net.port p).up = true) (ha : arrivalCheck p m = .accepted via f) :
    exec (.frameReceived p m) s
      = .next (((s.arrived p (.accepted via f)).acceptFrame p via f).concluded s.tally) := by
  have haccepted : { s with scratch := {} }.frameArrives p m
      = (s.arrived p (.accepted via f)).acceptFrame p via f := State.frameArrives_accepted hup ha
  rw [exec_frameReceived, haccepted]

/-- The filter looks at the node's address, which counting leaves as it was. -/
theorem State.arrived_viaGood (s : State) (p : Port) (a : Arrival) (via : Byte) (f : Frame) :
    (s.arrived p a).viaGood p via f = s.viaGood p via f := by
  rw [State.viaGood, State.viaGood, State.arrived, State.countPort_nodeAddr?]
  rfl

/-- Settles O46: the checks are followed in their order. Each that fails ends the event with its own counters
(`Arrival.counted`); a frame that passes all of them goes on, or is dropped, as the via-node filter says. -/
theorem frameArrivalChecksInOrder : Obligations.FrameArrivalChecksInOrder := by
  intro s p m h n src dest k counted
  have hh : headerLength p = h := headerLength_eq p
  refine ⟨fun hdown => exec_frameReceived_down hdown m, fun hup => ⟨fun hlength => ?_, fun hlength => ?_⟩⟩
  · have ha := arrivalCheck_lengthError (mt (lengthGood_iff hh).mp hlength)
    exact exec_frameReceived_rejected hup ha (by simp)
  have hl : lengthGood p m = true := (lengthGood_iff hh).mpr hlength
  have hcheck := checkGood_iff (m := m) (by omega)
  refine ⟨fun hbad => ?_, fun hgood => ⟨fun hcode => ?_, ?_⟩⟩
  · have ha := arrivalCheck_checkError hl (mt hcheck.mp hbad)
    exact exec_frameReceived_rejected hup ha (by simp)
  · have ha := arrivalCheck_classError hl (hcheck.mpr hgood) (frameOf_eq_none hcode)
    exact exec_frameReceived_rejected hup ha (by simp)
  intro c hcode f accepted astray
  have ha := arrivalCheck_of_frame hl (hcheck.mpr hgood) (frameOf_eq_some hh hcode)
  refine ⟨fun hbad => ?_, fun hsrc hdest => ?_⟩
  · have hinvalid : ¬ (sourceValid src && destValid dest) = true := by
      rw [addressesValid_iff]
      simp only [Option.isNone_iff_eq_none, Option.isSome_iff_ne_none] at hbad ⊢
      tauto
    rw [if_neg hinvalid] at ha
    exact exec_frameReceived_rejected hup ha (by simp)
  rw [if_pos (addressesValid_iff.mpr ⟨hsrc, hdest⟩)] at ha
  have hvia : (s.arrived p (.accepted (m.getD 6 0) f)).viaGood p (m.getD 6 0) f = true ↔ ¬ astray := by
    rw [State.arrived_viaGood]
    exact State.viaGood_iff
  rw [exec_frameReceived_accepted hup ha, State.acceptFrame]
  refine ⟨fun hstray => ?_, fun hpass => ?_⟩
  · rw [if_neg (fun hg => hvia.mp hg hstray), State.arrived_concluded]
    rfl
  · rw [if_pos (hvia.mpr hpass)]
    rfl

end Sys2Proof.Machine

end

section

/-! PROOF. The class queues and the plan search of an egress port (R159, R160, R163). -/

namespace Sys2Proof.Machine

/-! ### Class queues (R159, R160) -/

@[simp] theorem Queues.set_get_self (q : Queues) (c : TrafficClass) : q.set c (q.get c) = q := by
  cases c <;> rfl

theorem dropsOldest_iff {c : TrafficClass} : dropsOldest c = true ↔ c = .alarm ∨ c = .voice ∨ c = .telem := by
  cases c <;> simp [dropsOldest]

theorem not_dropsOldest_iff {c : TrafficClass} :
    ¬ dropsOldest c = true ↔ c = .signal ∨ c = .air ∨ c = .mgmt := by
  cases c <;> simp [dropsOldest]

/-- The replaced report is the oldest one of the source; those before and after it keep their places. -/
theorem replaceSameSource_append {f x : Frame} {l r : List Frame} (hx : x.src = f.src)
    (hl : ∀ y ∈ l, y.src ≠ f.src) : replaceSameSource f (l ++ x :: r) = l ++ f :: r := by
  induction l with
  | nil => simp only [List.nil_append, replaceSameSource, if_pos hx]
  | cons y l ih =>
    obtain ⟨hy, hrest⟩ := List.forall_mem_cons.mp hl
    simp only [List.cons_append, replaceSameSource, if_neg hy, ih hrest]

/-- A frame meets a report to be replaced exactly when it is an AIR frame and its source has one queued. -/
theorem not_replaces_iff {f : Frame} {q : List Frame} :
    ¬ (f.cls = .air ∧ q.any (fun x => x.src == f.src) = true) ↔ f.cls ≠ .air ∨ ∀ y ∈ q, y.src ≠ f.src := by
  simp only [not_and_or, Bool.not_eq_true, List.any_eq_false, beq_iff_eq, ne_eq]

section

variable {e : Egress} {f : Frame}

theorem Egress.enqueue_replaces (hair : f.cls = .air)
    (hq : (e.queues.get f.cls).any (fun x => x.src == f.src) = true) :
    e.enqueue f = { e with
      queues := e.queues.set f.cls (replaceSameSource f (e.queues.get f.cls))
      counters := { e.counters with replacements := e.counters.replacements + 1 } } := by
  rw [Egress.enqueue, if_pos ⟨hair, hq⟩, hair]
  rfl

variable (hnew : f.cls ≠ .air ∨ ∀ y ∈ e.queues.get f.cls, y.src ≠ f.src)
include hnew

theorem Egress.enqueue_joins (hroom : (e.queues.get f.cls).length < queueCapacity f.cls) :
    e.enqueue f = { e with queues := e.queues.set f.cls (e.queues.get f.cls ++ [f]) } := by
  rw [Egress.enqueue, if_neg (not_replaces_iff.mpr hnew), if_pos hroom]
  rfl

variable (hfull : queueCapacity f.cls ≤ (e.queues.get f.cls).length)
include hfull

theorem Egress.enqueue_dropsOldest (hold : dropsOldest f.cls = true) :
    e.enqueue f = { e with
      queues := e.queues.set f.cls ((e.queues.get f.cls).tail ++ [f])
      counters := { e.counters with drops := e.counters.drops.bump f.cls } } := by
  rw [Egress.enqueue, if_neg (not_replaces_iff.mpr hnew), if_neg hfull.not_gt, if_pos hold, List.drop_one]
  rfl

theorem Egress.enqueue_dropsNew (hold : ¬ dropsOldest f.cls = true) :
    e.enqueue f = { e with counters := { e.counters with drops := e.counters.drops.bump f.cls } } := by
  rw [Egress.enqueue, if_neg (not_replaces_iff.mpr hnew), if_neg hfull.not_gt, if_neg hold]
  rfl

end

/-- Settles O48: one lemma per branch of the offer, in the branches' order. -/
theorem queuePolicies : Obligations.QueuePolicies := by
  intro e f cap q queued dropped
  have hcap : queueCapacity f.cls = cap := by
    simp only [cap]
    cases f.cls <;> rfl
  refine ⟨fun l x r hair hq hx hl => ?_, fun hnew => ⟨fun hroom => ?_, fun hfull =>
    ⟨fun hold => ?_, fun hold => ?_⟩⟩⟩
  · have hqueue : e.queues.get f.cls = l ++ x :: r := hq
    rw [Egress.enqueue_replaces hair (by simp [hqueue, hx]), hqueue, replaceSameSource_append hx hl]
  · exact Egress.enqueue_joins hnew (hcap ▸ hroom)
  · exact Egress.enqueue_dropsOldest hnew (hcap ▸ hfull) (dropsOldest_iff.mpr hold)
  · rw [Egress.enqueue_dropsNew hnew (hcap ▸ hfull) (not_dropsOldest_iff.mpr hold)]
    simp only [queued, q, Queues.set_get_self, dropped]

/-! ### Plan search (R163) -/

/-- The class the port can serve at a place of its plan. -/
def Banks.servableAt (banks : Banks) (shed : Nat) (q : Queues) (x : PlanPlace) : Option TrafficClass :=
  servable shed q (banks.entry x.active x.position)

/-- The place the search examines after one that serves nothing: END wraps, any other entry is stepped over. -/
def Banks.nextPlace (banks : Banks) (x : PlanPlace) : PlanPlace :=
  if banks.entry x.active x.position = .stop then x.wrap else x.advance

theorem Banks.servableAt_eq_some_iff {banks : Banks} {shed : Nat} {q : Queues} {x : PlanPlace} {c : TrafficClass} :
    banks.servableAt shed q x = some c ↔
      (banks.entry x.active x.position).serves = some c ∧ q.get c ≠ [] ∧ ¬ (c = .telem ∧ 1 ≤ shed) := by
  unfold Banks.servableAt servable
  cases (banks.entry x.active x.position).serves with
  | none => simp
  | some d =>
    simp only [Option.ite_none_left_eq_some, Option.some.injEq, skipped, Bool.or_eq_true, Bool.and_eq_true,
      List.isEmpty_iff, beq_iff_eq, decide_eq_true_eq, not_or]
    constructor
    · rintro ⟨hserved, rfl⟩
      exact ⟨rfl, hserved⟩
    · rintro ⟨rfl, hserved⟩
      exact ⟨hserved, rfl⟩

section

variable {banks : Banks} {shed : Nat} {q : Queues} {x : PlanPlace}

theorem planSearch_succ_of_servable {c : TrafficClass} (h : banks.servableAt shed q x = some c) (fuel : Nat) :
    planSearch banks shed q (fuel + 1) x = some (c, x.advance) := by
  rw [Banks.servableAt] at h
  simp only [planSearch, h]

theorem planSearch_succ_of_not_servable (h : banks.servableAt shed q x = none) (fuel : Nat) :
    planSearch banks shed q (fuel + 1) x = planSearch banks shed q fuel (banks.nextPlace x) := by
  rw [Banks.servableAt] at h
  simp only [planSearch, h, Banks.nextPlace]

end

/-- A search is fruitless exactly when none of the places it examines can be served. -/
theorem planSearch_eq_none_iff (banks : Banks) (shed : Nat) (q : Queues) (fuel : Nat) (x : PlanPlace) :
    planSearch banks shed q fuel x = none ↔
      ∀ k < fuel, banks.servableAt shed q (banks.nextPlace^[k] x) = none := by
  induction fuel generalizing x with
  | zero => simp [planSearch]
  | succ fuel ih =>
    rw [Nat.forall_lt_succ_left]
    simp only [Function.iterate_zero_apply, Function.iterate_succ_apply]
    cases h : banks.servableAt shed q x with
    | none => simp [planSearch_succ_of_not_servable h, ih]
    | some c => simp [planSearch_succ_of_servable h]

/-- A search serves the first place that can be served among those it examines, and leaves the port after it. -/
theorem planSearch_eq_some_iff (banks : Banks) (shed : Nat) (q : Queues) (fuel : Nat) (x : PlanPlace)
    (c : TrafficClass) (y : PlanPlace) :
    planSearch banks shed q fuel x = some (c, y) ↔
      ∃ k < fuel, banks.servableAt shed q (banks.nextPlace^[k] x) = some c
        ∧ (∀ j < k, banks.servableAt shed q (banks.nextPlace^[j] x) = none)
        ∧ y = (banks.nextPlace^[k] x).advance := by
  induction fuel generalizing x with
  | zero => simp [planSearch]
  | succ fuel ih =>
    rw [Nat.exists_lt_succ_left]
    simp only [Nat.forall_lt_succ_left, Function.iterate_zero_apply, Function.iterate_succ_apply]
    cases h : banks.servableAt shed q x with
    | none => simp [planSearch_succ_of_not_servable h, ih]
    | some d => simp [planSearch_succ_of_servable h, eq_comm]

/-- A free port with no RESTART response and no alarm waiting stays as it is when its search is fruitless (R162). -/
theorem Egress.choose_of_fruitless {e : Egress} {banks : Banks} {shed : Nat} (hfree : e.sending = none)
    (hahead : e.ahead = none) (halarm : e.queues.alarm = [])
    (hsearch : planSearch banks shed e.queues 32 ⟨e.active, e.position, e.pendingBank⟩ = none)
    (p : Port) (via : Byte) : e.choose banks shed p via = e := by
  simp [Egress.choose, hfree, hahead, halarm, hsearch]

/-- Settles O49: what the search finds, by induction on the entries it may still examine. -/
theorem planSearchServesInPlanOrder : Obligations.PlanSearchServesInPlanOrder := by
  intro banks shed q x wrapped after next serves
  have hnext : next = banks.nextPlace := rfl
  have hserves : ∀ z c, serves z c ↔ banks.servableAt shed q z = some c :=
    fun z c => Banks.servableAt_eq_some_iff.symm
  have hidle : ∀ z, (∀ c, ¬ serves z c) ↔ banks.servableAt shed q z = none := fun z => by
    simp only [hserves, Option.eq_none_iff_forall_ne_some, ne_eq]
  refine ⟨?_, fun c y => ?_, fun e p via hfree hahead halarm hsearch =>
    Egress.choose_of_fruitless hfree hahead halarm hsearch p via⟩
  · simp only [hidle, hnext]
    exact planSearch_eq_none_iff banks shed q 32 x
  · simp only [hidle, hnext]
    simp only [hserves]
    exact planSearch_eq_some_iff banks shed q 32 x c y

end Sys2Proof.Machine

end

section

/-! PROOF. SET CHECK (R181) and what a change of the scanner's state does to the grades (R24, R183). -/

namespace Sys2Proof.Machine

/-! ### The integrity floor in the zone grade (R24) -/

@[simp] theorem Grade.higher_normal (g : Grade) : g.higher .normal = g := by cases g <;> rfl

theorem integrityFloor_eq_normal {x : IntegrityState} (h : x ≠ .fault) : integrityFloor x = .normal := by
  cases x with
  | fault => exact absurd rfl h
  | checking => rfl
  | suspended => rfl

/-- Without a floor the zone grade is the channels' own. -/
theorem State.zoneNow_of_not_fault {s : State} (h : s.integ.state ≠ .fault) : s.zoneNow = s.scopeGrade .zone := by
  rw [State.zoneNow, integrityFloor_eq_normal h, Grade.higher_normal]

/-! ### A change of the scanner's state (R183) -/

/-- Recomputing grades that follow already sends no notice and changes nothing (R29). -/
theorem State.regrade_of_unchanged {s : State} (hzone : s.zoneNow = s.air.zone)
    (hrefuge : s.refugeNow = s.air.refuge) : s.regrade = s := by
  simp [State.regrade, State.gradeNotices, State.setGrades, hzone, hrefuge]

@[simp] theorem State.setIntegrity_integ (s : State) (x : IntegrityState) :
    (s.setIntegrity x).integ = { s.integ with state := x } := by
  unfold State.setIntegrity
  split
  next h => rw [← h]
  next => simp

@[simp] theorem State.setIntegrity_channels (s : State) (x : IntegrityState) :
    (s.setIntegrity x).air.channels = s.air.channels := by
  unfold State.setIntegrity
  split
  · rfl
  · exact (State.regrade_air _).1

/-- A scope's grade is read from the channels. -/
theorem State.scopeGrade_of_channels {s t : State} (h : t.air.channels = s.air.channels) (x : Scope) :
    t.scopeGrade x = s.scopeGrade x :=
  State.scopeGrade_of_eq (fun c => by rw [State.channel, State.channel, h]) x

/-- A new state of the scanner recomputes the zone grade, whatever it was before. -/
theorem State.setIntegrity_zone {s : State} {x : IntegrityState} (h : s.integ.state ≠ x) :
    (s.setIntegrity x).air.zone = (s.setIntegrity x).zoneNow := by
  rw [State.zoneNow, State.scopeGrade_of_channels (s.setIntegrity_channels x), State.setIntegrity_integ,
    State.setIntegrity, if_neg h]
  exact (State.regrade_air _).2.1

/-- Between two states without a floor the grades that follow stay, and only the scanner's state changes. -/
theorem State.GradesFollow.setIntegrity_eq {s : State} (h : s.GradesFollow) {x : IntegrityState}
    (hs : s.integ.state ≠ .fault) (hx : x ≠ .fault) :
    s.setIntegrity x = { s with integ := { s.integ with state := x } } := by
  obtain ⟨-, hzone, hrefuge⟩ := h
  unfold State.setIntegrity
  split
  next e => rw [← e]
  next =>
    refine State.regrade_of_unchanged ?_ hrefuge.symm
    rw [hzone, State.zoneNow_of_not_fault hs, State.zoneNow_of_not_fault hx]
    rfl

/-! ### SET CHECK (R181) -/

/-- The scanner after SET CHECK: the value stored, no suspension, and a scan from position 0 whose first step is
10 ms away. -/
def Integrity.afterSetCheck (x : Integrity) (now : Nat) (value : Word) : Integrity :=
  { x with storedCheck := value, suspensionTimer := none, position := 0, runningCrc := 0xFFFF
           scanTimer := some (now + 10), state := .checking }

section

variable (s : State) (value : Word)

@[simp] theorem State.setStoredCheck_integ :
    (s.setStoredCheck value).integ = s.integ.afterSetCheck s.now value :=
  State.setIntegrity_integ ..

@[simp] theorem State.setStoredCheck_channels : (s.setStoredCheck value).air.channels = s.air.channels :=
  State.setIntegrity_channels ..

/-- SET CHECK from SUSPENDED or FAULT leaves the zone grade at the channels' own: CHECKING has no floor. -/
theorem State.setStoredCheck_zone (h : s.integ.state ≠ .checking) :
    (s.setStoredCheck value).air.zone = (s.setStoredCheck value).scopeGrade .zone := by
  have hchecking : (s.setStoredCheck value).integ.state ≠ .fault := by
    simp [Integrity.afterSetCheck]
  rw [← State.zoneNow_of_not_fault hchecking]
  exact State.setIntegrity_zone h

/-- SET CHECK outside FAULT changes the scanner only, where the grades follow. -/
theorem State.GradesFollow.setStoredCheck_eq {s : State} (h : s.GradesFollow) (hs : s.integ.state ≠ .fault)
    (value : Word) :
    s.setStoredCheck value = { s with integ := s.integ.afterSetCheck s.now value } :=
  State.GradesFollow.setIntegrity_eq h.unchanged hs (by decide)

end

theorem exec_setCheck (rq : Request) (value : Word) (s : State) :
    exec (.setCheck rq value) s = s.requestEvent rq false (fun u => u.setCheck value) := rfl

/-- Settles O32: the handler answers DONE in every state, and what it makes of the node is `setStoredCheck` of the
state in which the request has been counted. -/
theorem setCheckRestartsScan : Obligations.SetCheckRestartsScan := by
  intro s rq v haccepts
  refine ⟨s.asTaken.setStoredCheck v, ?_, s.asTaken.setStoredCheck_integ v, s.asTaken.setStoredCheck_zone v,
    s.asTaken.setStoredCheck_channels v, ?_, ?_, ?_, fun hgrades hfault => ?_⟩
  · rw [exec_setCheck]
    exact State.requestEvent_done haccepts rfl
  · simp [State.asTaken]
  · simp [State.asTaken]
  · simp [State.asTaken]
  · have htaken : s.asTaken.GradesFollow := hgrades.unchanged rfl rfl rfl rfl rfl
    rw [State.setStoredCheck_integ]
    exact htaken.setStoredCheck_eq hfault v

end Sys2Proof.Machine

end

section

/-! PROOF. The attention flags: setting one (R195), CLEAR FLAGS (R196) and ACK ATTENTION (R197). -/

namespace Sys2Proof.Machine

/-! ### The bits of a group (R195) -/

/-- No group has more flags than its flag set has bits. -/
theorem Group.count_lt (g : Group) : g.count < 56 := by cases g <;> decide

theorem flagBit_eq_twoPow (n : Nat) : flagBit n = BitVec.twoPow 56 n :=
  BitVec.eq_of_toNat_eq (by simp [flagBit])

theorem and_flagBit_ne_zero {n : Nat} (h : n < 56) (x : BitVec 56) : (x &&& flagBit n != 0) = x.getLsbD n := by
  have hbit : BitVec.twoPow 56 n ≠ 0 := by
    intro hzero
    simpa [h] using congrArg (·.getLsbD n) hzero
  rw [flagBit_eq_twoPow, BitVec.and_twoPow]
  cases x.getLsbD n with
  | false => simp
  | true => simpa using hbit

theorem getLsbD_or_flagBit {k : Nat} (h : k < 56) (x : BitVec 56) (n : Nat) :
    (x ||| flagBit k).getLsbD n = (x.getLsbD n || decide (n = k)) := by
  simp [flagBit_eq_twoPow, h, eq_comm]

/-! ### Reading a group after one is replaced -/

@[simp] theorem Attention.get_set_same (a : Attention) (g : Group) (x : FlagGroup) : (a.set g x).get g = x := by
  cases g <;> rfl

theorem Attention.get_set_of_ne (a : Attention) {g g' : Group} (h : g' ≠ g) (x : FlagGroup) :
    (a.set g x).get g' = a.get g' := by
  revert h
  cases g <;> cases g' <;> simp [Attention.get, Attention.set]

@[simp] theorem State.flags_setFlagGroup_same (s : State) (g : Group) (x : FlagGroup) :
    (s.setFlagGroup g x).flags g = x := Attention.get_set_same ..

theorem State.flags_setFlagGroup_of_ne (s : State) {g g' : Group} (h : g' ≠ g) (x : FlagGroup) :
    (s.setFlagGroup g x).flags g' = s.flags g' := Attention.get_set_of_ne _ h x

/-! ### Setting a flag (R195) -/

section

variable {s : State} {f : Flag} (hf : f.number < f.group.count)

include hf

theorem State.flagSet_eq_getLsbD : s.flagSet f = (s.flags f.group).flags.getLsbD f.number :=
  and_flagBit_ne_zero (hf.trans f.group.count_lt) _

theorem State.flagMasked_eq_getLsbD : s.flagMasked f = (s.params.masks.get f.group).getLsbD f.number :=
  and_flagBit_ne_zero (hf.trans f.group.count_lt) _

/-- Setting a flag sets its bit and leaves every other bit of its group. -/
theorem State.setFlag_getLsbD (n : Nat) :
    ((s.setFlag f).flags f.group).flags.getLsbD n
      = ((s.flags f.group).flags.getLsbD n || decide (n = f.number)) := by
  rw [State.setFlag, State.flags_setFlagGroup_same]
  exact getLsbD_or_flagBit (hf.trans f.group.count_lt) _ n

/-- The summary is raised exactly where the flag becomes set and is not masked. -/
theorem State.setFlag_summary :
    ((s.setFlag f).flags f.group).summary = true ↔
      (s.flags f.group).summary = true
      ∨ (s.flags f.group).flags.getLsbD f.number = false
        ∧ (s.params.masks.get f.group).getLsbD f.number = false := by
  rw [State.setFlag, State.flags_setFlagGroup_same, State.flagSet_eq_getLsbD hf, State.flagMasked_eq_getLsbD hf]
  simp

end

theorem State.setFlag_flags_of_ne (s : State) {f : Flag} {g : Group} (h : g ≠ f.group) :
    (s.setFlag f).flags g = s.flags g := State.flags_setFlagGroup_of_ne s h _

/-! ### CLEAR FLAGS and ACK ATTENTION (R196, R197) -/

theorem Group.ofCode_of_lt {n : Nat} (h : 4 < n) : Group.ofCode n = none := by
  have h0 : n ≠ 0 ∧ n ≠ 1 ∧ n ≠ 2 ∧ n ≠ 3 ∧ n ≠ 4 := by omega
  simp [Group.ofCode, h0]

section

variable {s : State} {v : Byte}

theorem State.clearFlags_of_badIndex (h : 4 < v.toNat) (x : BitVec 56) :
    s.clearFlags v x = (s, .refused .badIndex) := by
  simp only [State.clearFlags, Group.ofCode_of_lt h]

theorem State.ackAttention_of_badIndex (h : 4 < v.toNat) : s.ackAttention v = (s, .refused .badIndex) := by
  simp only [State.ackAttention, Group.ofCode_of_lt h]

variable {g : Group} (hg : Group.ofCode v.toNat = some g)

include hg

/-- CLEAR FLAGS leaves the summary of its group and answers with the flags that stay. -/
theorem State.clearFlags_of_group (x : BitVec 56) :
    s.clearFlags v x
      = (s.setFlagGroup g ⟨(s.flags g).flags &&& ~~~ x, (s.flags g).summary⟩,
          .done (flagBytes g ((s.flags g).flags &&& ~~~ x))) := by
  simp only [State.clearFlags, hg]

theorem State.ackAttention_of_unmasked_ne_zero (h : s.unmasked g ≠ 0) :
    s.ackAttention v = (s, .refused .flagsSet) := by
  simp only [State.ackAttention, hg, if_neg h]

theorem State.ackAttention_of_unmasked_eq_zero (h : s.unmasked g = 0) :
    s.ackAttention v = (s.setFlagGroup g ⟨(s.flags g).flags, false⟩, .done []) := by
  simp only [State.ackAttention, hg, if_pos h, loaded]

end

theorem exec_clearFlags (rq : Request) (v : Byte) (x : BitVec 56) (s : State) :
    exec (.clearFlags rq v x) s = s.requestEvent rq false (fun u => u.clearFlags v x) := rfl

theorem exec_ackAttention (rq : Request) (v : Byte) (s : State) :
    exec (.ackAttention rq v) s = s.requestEvent rq false (fun u => u.ackAttention v) := rfl

/-- Settles O37: a request's group is judged before its flags; counting the request changes neither flags nor
masks, so what the handler judges in `asTaken` is what the statement reads in the state before. Setting a flag
comes down to one bit of the group's flag set, since every flag's number is below the set's width. -/
theorem flagsRaisedClearedAcknowledged : Obligations.FlagsRaisedClearedAcknowledged := by
  refine ⟨fun s rq v x haccepts => ?_, fun s f hf => ?_⟩
  · rw [exec_clearFlags, exec_ackAttention]
    refine ⟨fun hv => ⟨?_, ?_⟩, fun g hg => ⟨?_, fun hset => ?_, fun hnone => ?_⟩⟩
    · exact State.requestEvent_refused haccepts (by decide) (State.clearFlags_of_badIndex hv x)
    · exact State.requestEvent_refused haccepts (by decide) (State.ackAttention_of_badIndex hv)
    · exact State.requestEvent_done_settled haccepts (State.clearFlags_of_group hg x) rfl
    · exact State.requestEvent_refused haccepts (by decide) (State.ackAttention_of_unmasked_ne_zero hg hset)
    · exact State.requestEvent_done_settled haccepts (State.ackAttention_of_unmasked_eq_zero hg hnone) rfl
  · exact ⟨State.setFlag_getLsbD hf, State.setFlag_summary hf, fun g hg => s.setFlag_flags_of_ne hg, rfl⟩

end Sys2Proof.Machine

end

section

-- Elaborated one after another: the text holds too many lemmas for a thread each.
set_option Elab.async false

/-! PROOF. The machine's queue, its reset and COLD START, and what follows at once from the sittings before. -/

namespace Sys2Proof.Machine

/-- Settles O1: the queue's front command is what `step` matches on. -/
theorem stepRunsFrontCommand : Obligations.StepRunsFrontCommand := fun _ _ _ => rfl

/-- Settles O7: every step keeps the grades following (`State.GradesFollow.step`). -/
theorem gradesFollowInEveryStep : Obligations.GradesFollowInEveryStep := fun _ _ h hstep => h.step hstep

/-- Settles O3: the reset state is one closed state, on which each of the promises is decided. -/
theorem resetIsSafe : Obligations.ResetIsSafe := by
  unfold Obligations.ResetIsSafe
  refine ⟨?_, ?_, ?_, ?_, ?_, ?_, ?_, ?_, ?_, ?_, ?_, ?_, ?_⟩
  all_goals decide +kernel

/-- What a COLD START leaves at the end of its event: the cold blocks, whose sources are all inactive, so that the
end of the event drives nothing (section 7.8). -/
theorem exec_coldStart (straps : Byte) (o i : Bool) (s : State) :
    exec (.coldStart straps o i) s = .next (State.cold s.pending s.now s.samples straps o i) := rfl

/-- The bytes of the protected records are read from the five tables that hold them (R177). -/
theorem State.scannedBytes_of_eq {s t : State} (channels : t.air.channels = s.air.channels)
    (routes : t.evac.routes = s.evac.routes) (entries : t.supply.entries = s.supply.entries)
    (pins : t.table.pins = s.table.pins) (permits : t.calls.permits = s.calls.permits) (n : Nat) :
    t.scannedBytes n = s.scannedBytes n := by
  have h : t.protectedBytes = s.protectedBytes := by
    funext k
    simp only [State.protectedBytes, channels, routes, entries, pins, permits]
  rw [State.scannedBytes, State.scannedBytes, h]

/-- The channels after any COLD START are the factory channels (R35). -/
theorem cold_channels (pending : List Instr) (now samples : Nat) (straps : Byte) (o i : Bool) :
    (State.cold pending now samples straps o i).air.channels = Vector.replicate 16 Channel.cold := rfl

/-- The protected records after any COLD START are those after reset (R177). -/
theorem scannedBytes_cold (pending : List Instr) (now samples : Nat) (straps : Byte) (o i : Bool) (n : Nat) :
    (State.cold pending now samples straps o i).scannedBytes n = State.reset.scannedBytes n := by
  have hchannels : State.reset.air.channels = Vector.replicate 16 Channel.cold := by rw [State.reset, cold_channels]
  have hroutes : (State.cold pending now samples straps o i).evac.routes = State.reset.evac.routes := rfl
  have hentries : (State.cold pending now samples straps o i).supply.entries = State.reset.supply.entries := rfl
  have hpins : (State.cold pending now samples straps o i).table.pins = State.reset.table.pins := rfl
  have hpermits : (State.cold pending now samples straps o i).calls.permits = State.reset.calls.permits := rfl
  exact State.scannedBytes_of_eq ((cold_channels ..).trans hchannels.symm) hroutes hentries hpins hpermits n

@[simp] theorem getElem_replicate_fin {α : Type} {n : Nat} (a : α) (i : Fin n) : (Vector.replicate n a)[i] = a := by
  simp

/-- Settles O60: the cold blocks, field by field; the stored check is the check of the factory tables. -/
theorem coldStartTakesFactoryState : Obligations.ColdStartTakesFactoryState := by
  intro s straps o i off released plan
  have hcheck : factoryCheck = crc ((State.cold s.pending s.now s.samples straps o i).scannedBytes 39) := by
    rw [scannedBytes_cold, scannedBytes_reset, factoryCheck_eq]
  refine ⟨_, exec_coldStart straps o i s, rfl, rfl, rfl, rfl, fun _ => getElem_replicate_fin .., rfl, rfl, rfl,
    rfl, rfl, fun _ => getElem_replicate_fin .., rfl, rfl, rfl, rfl, rfl, fun _ => getElem_replicate_fin ..,
    fun _ => getElem_replicate_fin .., rfl, rfl, rfl, rfl, rfl, rfl, rfl, rfl, rfl, rfl, rfl, rfl,
    fun _ => getElem_replicate_fin .., rfl, fun _ => getElem_replicate_fin .., rfl, rfl, rfl, rfl, rfl,
    fun _ => getElem_replicate_fin .., rfl, rfl, rfl, rfl, rfl, rfl, rfl, rfl, rfl, ?_, rfl⟩
  rw [← hcheck]
  rfl

/-! ### The clock of an empty queue (assumptions 1 and 3) -/

/-- The earliest of a list of timers, with what stands before it: none where nothing runs, and otherwise a timer that
is there and whose moment no other's is before. -/
theorem earliestTimer_spec (l : List (Timer × Instr)) : ∀ best : Option (Nat × Instr),
    (earliestTimer best l = none → best = none ∧ ∀ d i, (some d, i) ∉ l)
    ∧ ∀ d i, earliestTimer best l = some (d, i) →
        (best = some (d, i) ∨ (some d, i) ∈ l)
        ∧ (∀ e j, best = some (e, j) → d ≤ e) ∧ ∀ e j, (some e, j) ∈ l → d ≤ e := by
  induction l with
  | nil => simp +contextual [earliestTimer]
  | cons x l ih =>
    intro best
    obtain ⟨t, k⟩ := x
    cases t with
    | none => simpa [earliestTimer] using ih best
    | some t =>
      cases best with
      | none =>
        obtain ⟨hnone, hsome⟩ := ih (some (t, k))
        simp only [earliestTimer, if_true]
        refine ⟨fun h => absurd (hnone h).1 (by simp), fun d i h => ?_⟩
        obtain ⟨hmem, hbest, hall⟩ := hsome d i h
        refine ⟨.inr ?_, by simp, fun e j he => ?_⟩
        · rcases hmem with hmem | hmem
          · simp_all
          · simp [hmem]
        · rcases List.mem_cons.mp he with he | he
          · simp only [Prod.mk.injEq, Option.some.injEq] at he
            exact he.1 ▸ hbest t k rfl
          · exact hall e j he
      | some b =>
        obtain ⟨u, m⟩ := b
        by_cases hlt : t < u
        · obtain ⟨hnone, hsome⟩ := ih (some (t, k))
          simp only [earliestTimer, hlt, decide_true, if_true]
          refine ⟨fun h => absurd (hnone h).1 (by simp), fun d i h => ?_⟩
          obtain ⟨hmem, hbest, hall⟩ := hsome d i h
          have hdt := hbest t k rfl
          refine ⟨.inr ?_, fun e j he => ?_, fun e j he => ?_⟩
          · rcases hmem with hmem | hmem
            · simp_all
            · simp [hmem]
          · simp only [Option.some.injEq, Prod.mk.injEq] at he
            omega
          · rcases List.mem_cons.mp he with he | he
            · simp only [Prod.mk.injEq, Option.some.injEq] at he
              omega
            · exact hall e j he
        · obtain ⟨hnone, hsome⟩ := ih (some (u, m))
          simp only [earliestTimer, hlt, decide_false, Bool.false_eq_true, if_false]
          refine ⟨fun h => absurd (hnone h).1 (by simp), fun d i h => ?_⟩
          obtain ⟨hmem, hbest, hall⟩ := hsome d i h
          have hdu := hbest u m rfl
          refine ⟨hmem.imp_right (List.mem_cons_of_mem _), fun e j he => hbest e j he, fun e j he => ?_⟩
          rcases List.mem_cons.mp he with he | he
          · simp only [Prod.mk.injEq, Option.some.injEq] at he
            omega
          · exact hall e j he

/-- On an empty queue a step is the clock's. -/
theorem step_of_empty {s : State} (h : s.pending = []) : step s = s.idleStep := by
  unfold step
  rw [h]

/-- Settles O2: the clock takes the earliest timer of the list, when its moment has come. -/
theorem emptyQueueRunsEarliestTimer : Obligations.EmptyQueueRunsEarliestTimer := by
  intro s hempty
  rw [step_of_empty hempty, State.idleStep, State.dueCommand]
  obtain ⟨hnone, hsome⟩ := earliestTimer_spec s.timers none
  cases he : earliestTimer none s.timers with
  | none =>
    refine ⟨fun _ => rfl, fun ⟨d, i, hmem, _⟩ => absurd hmem ((hnone he).2 d i)⟩
  | some x =>
    obtain ⟨d, i⟩ := x
    obtain ⟨hmem, -, hall⟩ := hsome d i he
    have hmem : (some d, i) ∈ s.timers := hmem.resolve_left (by simp)
    constructor
    · intro h
      simp [Nat.not_le.mpr (h d i hmem), State.idle]
    · rintro ⟨e, j, hj, hle⟩
      have hd : d ≤ s.now := (hall e j hj).trans hle
      exact ⟨d, i, hmem, hd, hall, by simp [hd]⟩

end Sys2Proof.Machine

end

section

set_option Elab.async false

/-! PROOF. READ RECORD (R191, R192): what each read answers, and the one byte form of the protected records. -/

namespace Sys2Proof.Machine

/-! ### A request as it is taken -/

section

variable (s : State)

@[simp] theorem State.asTaken_net : s.asTaken.net = s.net := rfl
@[simp] theorem State.asTaken_poller : s.asTaken.poller = s.poller := rfl
@[simp] theorem State.asTaken_air : s.asTaken.air = s.air := rfl
@[simp] theorem State.asTaken_table : s.asTaken.table = s.table := rfl
@[simp] theorem State.asTaken_calls : s.asTaken.calls = s.calls := rfl
@[simp] theorem State.asTaken_seg : s.asTaken.seg = s.seg := rfl
@[simp] theorem State.asTaken_evac : s.asTaken.evac = s.evac := rfl
@[simp] theorem State.asTaken_supply : s.asTaken.supply = s.supply := rfl
@[simp] theorem State.asTaken_integ : s.asTaken.integ = s.integ := rfl
@[simp] theorem State.asTaken_params : s.asTaken.params = s.params := rfl
@[simp] theorem State.asTaken_flags (g : Group) : s.asTaken.flags g = s.flags g := rfl
@[simp] theorem State.asTaken_channel (c : Fin 16) : s.asTaken.channel c = s.channel c := rfl
@[simp] theorem State.asTaken_pollRecord (i : Fin 8) : s.asTaken.pollRecord i = s.pollRecord i := rfl
@[simp] theorem State.asTaken_pollingFor (i : Fin 8) : s.asTaken.pollingFor i = s.pollingFor i := rfl
@[simp] theorem State.asTaken_leg (i : Fin 8) : s.asTaken.leg i = s.leg i := rfl
@[simp] theorem State.asTaken_panel (i : Fin 8) : s.asTaken.panel i = s.panel i := rfl
@[simp] theorem State.asTaken_now : s.asTaken.now = s.now := rfl
@[simp] theorem State.asTaken_nodeAddr? : s.asTaken.nodeAddr? = s.nodeAddr? := rfl

end

/-- A request whose handler reads and finds the record. -/
theorem State.read_done {s : State} {rq : Request} (h : s.Accepts rq) {v : State → Verdict} {data : List Byte}
    (hv : v s.asTaken = .done data) :
    s.requestEvent rq false (reading v) = .next (s.asTaken.answerDone rq data).settled :=
  State.requestEvent_done_settled h (by rw [reading, hv]) rfl

/-- A request whose handler reads and finds the index outside its table (R191). -/
theorem State.read_refused {s : State} {rq : Request} (h : s.Accepts rq) {v : State → Verdict}
    (hv : v s.asTaken = .refused .badIndex) :
    s.requestEvent rq false (reading v) = .next (s.asTaken.answerRefused rq .badIndex).settled :=
  State.requestEvent_refused h (by decide) (by rw [reading, hv])

/-! ### Indices -/

theorem readIndexed_of_eq {n : Nat} {x : Word} {i : Fin n} (h : x.toNat = i.val) (t : Nat)
    (fields : Fin n → List Byte) : readIndexed t x fields = .done (oneByte t ++ wordBytes x ++ fields i) := by
  rw [readIndexed, indexBelow_of_eq h]
  rfl

theorem readIndexed_of_le {n : Nat} {x : Word} (h : n ≤ x.toNat) (t : Nat) (fields : Fin n → List Byte) :
    readIndexed t x fields = .refused .badIndex := by
  rw [readIndexed, indexBelow_of_le h]

/-- A port code above 2 names no port (R191). -/
theorem portOfCode_of_le {n : Nat} (h : 3 ≤ n) : portOfCode n = none := by
  unfold portOfCode
  repeat' split
  all_goals first | omega | rfl

theorem Bank.ofCode_eq_some_iff {n : Nat} {b : Bank} : Bank.ofCode n = some b ↔ n = b.code := by
  unfold Bank.ofCode
  cases b <;> (repeat' split) <;> simp_all [Bank.code]

/-- A bank code above 1 names no bank (R165). -/
theorem Bank.ofCode_of_le {n : Nat} (h : 2 ≤ n) : Bank.ofCode n = none := by
  unfold Bank.ofCode
  repeat' split
  all_goals first | omega | rfl

theorem toNat_highByte (x : Word) : (x.extractLsb' 8 8).toNat = x.toNat / 256 := by
  have h := x.isLt
  simp only [BitVec.extractLsb'_toNat, Nat.shiftRight_eq_div_pow]
  omega

theorem toNat_lowByte (x : Word) : ((x.extractLsb' 0 8).setWidth 16).toNat = x.toNat % 256 := by
  simp only [BitVec.toNat_setWidth, BitVec.extractLsb'_toNat, Nat.shiftRight_zero]
  omega

/-- A plan index with its bank in the high byte and its entry in the low byte (R166). -/
theorem planIndex_of_eq {x : Word} {b : Bank} {i : Fin 32} (h : x.toNat = 256 * b.code + i.val) :
    planIndex x = some (b, i) := by
  have hi := i.isLt
  have hb : Bank.ofCode (x.extractLsb' 8 8).toNat = some b := by
    rw [Bank.ofCode_eq_some_iff, toNat_highByte]
    omega
  have hx : indexBelow 32 ((x.extractLsb' 0 8).setWidth 16) = some i := by
    refine indexBelow_of_eq ?_
    rw [toNat_lowByte]
    omega
  rw [planIndex, hb, hx]

/-- A plan index that names no bank, or no entry of it (R166). -/
theorem planIndex_of_bad {x : Word} (h : 512 ≤ x.toNat ∨ 32 ≤ x.toNat % 256) : planIndex x = none := by
  rcases h with h | h
  · have hb : Bank.ofCode (x.extractLsb' 8 8).toNat = none := by
      refine Bank.ofCode_of_le ?_
      rw [toNat_highByte]
      omega
    rw [planIndex, hb]
  · have hx : indexBelow 32 ((x.extractLsb' 0 8).setWidth 16) = none := by
      refine indexBelow_of_le ?_
      rwa [toNat_lowByte]
    rw [planIndex, hx]
    cases Bank.ofCode (x.extractLsb' 8 8).toNat <;> rfl

/-! ### The protected records (R177) -/

/-- A channel record has twenty words, so forty bytes (R177). -/
theorem recordBytes_words_length (r : ChannelRecord) : (recordBytes r.words).length = 40 := rfl

theorem getD_toList {α : Type} {n : Nat} (v : Vector α n) (i : Fin n) (d : α) : v.toList.getD i.val d = v[i] := by
  simp [List.getD]

section

variable (s : State)

theorem State.protectedBytes_channel (c : Fin 16) : s.protectedBytes c.val = recordBytes (s.channel c).record.words := by
  rw [State.protectedBytes, if_pos c.isLt, getD_toList]
  rfl

theorem State.protectedBytes_route (i : Fin 11) :
    s.protectedBytes (16 + i.val) = recordBytes s.evac.routes[i].words := by
  have hi := i.isLt
  rw [State.protectedBytes, if_neg (by omega), if_pos (by omega), Nat.add_sub_cancel_left, getD_toList]

theorem State.protectedBytes_shed (i : Fin 4) :
    s.protectedBytes (27 + i.val) = recordBytes s.supply.entries[i].config.words := by
  have hi := i.isLt
  rw [State.protectedBytes, if_neg (by omega), if_neg (by omega), if_pos (by omega), Nat.add_sub_cancel_left,
    getD_toList]

theorem State.protectedBytes_pin (i : Fin 4) :
    s.protectedBytes (31 + i.val) = recordBytes s.table.pins[i].words := by
  have hi := i.isLt
  rw [State.protectedBytes, if_neg (by omega), if_neg (by omega), if_neg (by omega), if_pos (by omega),
    Nat.add_sub_cancel_left, getD_toList]

theorem State.protectedBytes_permit (i : Fin 4) :
    s.protectedBytes (35 + i.val) = recordBytes s.calls.permits[i].words := by
  have hi := i.isLt
  rw [State.protectedBytes, if_neg (by omega), if_neg (by omega), if_neg (by omega), if_neg (by omega),
    Nat.add_sub_cancel_left, getD_toList]

end

/-- Settles O4: the read of a protected record and the scanner use one function of its words. -/
theorem protectedRecordsAreOneByteString : Obligations.ProtectedRecordsAreOneByteString := by
  refine ⟨⟨factoryBytes_length, scannedBytes_reset, factoryCheck_eq.symm⟩, fun s => ⟨fun c => ?_, ?_, ?_⟩⟩
  · rw [State.protectedBytes_channel]
    simp only [Channel.recordData, List.append_assoc]
    exact List.take_left' (recordBytes_words_length _)
  · intro x i h
    rw [State.readRoute, readIndexed_of_eq h, State.protectedBytes_route]
    rfl
  · intro x i h
    rw [State.readShed, State.readPin, State.readPermit, readIndexed_of_eq h, readIndexed_of_eq h,
      readIndexed_of_eq h, State.protectedBytes_shed, State.protectedBytes_pin, State.protectedBytes_permit]
    exact ⟨rfl, rfl, rfl⟩

/-! ### Indexed reads -/

/-- A place in the start list, from 1 (R94). -/
theorem State.startOrder_eq (s : State) (i : Fin 8) :
    s.startOrder i = if i ∈ s.calls.startList then s.calls.startList.idxOf i + 1 else 0 := by
  unfold State.startOrder
  by_cases h : i ∈ s.calls.startList
  · rw [if_pos (List.contains_iff_mem.mpr h), if_pos h, List.idxOf]
  · rw [if_neg (mt List.contains_iff_mem.mp h), if_neg h]

/-- The reads of an index inside its table. -/
theorem State.indexedReads_done {s : State} {rq : Request} (h : s.Accepts rq) {x : Word} {n : Nat} {i : Fin n}
    (hx : x.toNat = i.val) (t : Nat) (fields : State → Fin n → List Byte) {data : List Byte}
    (hd : oneByte t ++ wordBytes x ++ fields s.asTaken i = data) :
    s.requestEvent rq false (reading (fun u => readIndexed t x (fields u)))
      = .next (s.asTaken.answerDone rq data).settled :=
  State.read_done h (by rw [readIndexed_of_eq hx, hd])

/-- The reads of an index outside their table. -/
theorem State.indexedReads_refused {s : State} {rq : Request} (h : s.Accepts rq) {x : Word} {n : Nat}
    (hx : n ≤ x.toNat) (t : Nat) (fields : State → Fin n → List Byte) :
    s.requestEvent rq false (reading (fun u => readIndexed t x (fields u)))
      = .next (s.asTaken.answerRefused rq .badIndex).settled :=
  State.read_refused h (readIndexed_of_le hx ..)

/-- Settles O25: each read is its table's code, the index and the record's layout. -/
theorem indexedReadsAnswerAndChangeNothing : Obligations.IndexedReadsAnswerAndChangeNothing := by
  intro s rq x h
  have hcounters (l : List Counter) : countersBytes l = l.flatMap counterBytes := rfl
  refine ⟨fun c hx => ?_, fun i hx => ?_, fun i hx => ?_, fun i hx => ?_, fun p hx => ?_, fun i hx => ?_,
    fun i hx => ?_, fun i hx => ?_, fun i hx => ?_, fun b i hx => ?_, fun p hx => ?_, fun i hx => ?_,
    fun g hx => ?_, ?_, ?_, ?_, ?_, ?_, ?_, ?_⟩
  · exact State.indexedReads_done h hx 0 (fun u c => (u.channel c).recordData)
      (by simp [Channel.recordData, EntryState.bytes, oneByte, flagByte]; rfl)
  · exact State.indexedReads_done h hx 1 State.pollData (by simp [State.pollData, oneByte, flagByte]; rfl)
  · exact State.indexedReads_done h hx 5 (fun u i => recordBytes u.table.pins[i].words) rfl
  · exact State.indexedReads_done h hx 6 (fun u i => u.table.watches[i].data)
      (by simp [Watch.data, oneByte, flagByte]; rfl)
  · refine State.read_done h (v := fun u => u.readPort x) ?_
    rw [State.readPort, hx]
    simp only [readDone, State.portData, hcounters, List.append_assoc]
    cases e : (s.net.port p).up <;> simp [oneByte, byteOf, e]
  · refine State.indexedReads_done h hx 8 State.legData ?_
    simp only [State.legData, hcounters, State.startOrder_eq, List.append_assoc]
    cases e : (s.leg i).lastCause <;> simp [oneByte, flagByte, CallId.bytes, e] <;>
      exact ⟨rfl, by congr⟩
  · exact State.indexedReads_done h hx 10 (fun u i => recordBytes u.calls.permits[i].words) rfl
  · exact State.indexedReads_done h hx 12 (fun u i => (u.panel i).data)
      (by simp [Panel.data, oneByte, flagByte, addressBytes]; rfl)
  · exact State.indexedReads_done h hx 14 (fun u i => recordBytes u.evac.routes[i].words) rfl
  · refine State.read_done h (v := fun u => u.readPlan x) ?_
    rw [State.readPlan, planIndex_of_eq hx]
    rfl
  · refine State.read_done h (v := fun u => u.readEgress x) ?_
    rw [State.readEgress, hx]
    simp only [readDone, State.egressData, hcounters, List.append_assoc]
    cases e : (s.net.port p).egress.pendingBank <;> simp [oneByte, e] <;> rfl
  · exact State.indexedReads_done h hx 18 (fun u i => recordBytes u.supply.entries[i].config.words) rfl
  · refine State.read_done h (v := fun u => u.readFlags x) ?_
    rw [State.readFlags, hx]
    simp [readDone, State.flagsData, oneByte, flagByte]
    rfl
  · exact fun hx => State.indexedReads_refused h hx 0 (fun u c => (u.channel c).recordData)
  · exact fun hx => ⟨State.indexedReads_refused h hx 1 State.pollData,
      State.indexedReads_refused h hx 8 State.legData,
      State.indexedReads_refused h hx 12 (fun u i => (u.panel i).data)⟩
  · exact fun hx => ⟨State.indexedReads_refused h hx 5 (fun u i => recordBytes u.table.pins[i].words),
      State.indexedReads_refused h hx 6 (fun u i => u.table.watches[i].data),
      State.indexedReads_refused h hx 10 (fun u i => recordBytes u.calls.permits[i].words),
      State.indexedReads_refused h hx 18 (fun u i => recordBytes u.supply.entries[i].config.words)⟩
  · exact fun hx => ⟨State.read_refused h (v := fun u => u.readPort x) (by rw [State.readPort, portOfCode_of_le hx]),
      State.read_refused h (v := fun u => u.readEgress x) (by rw [State.readEgress, portOfCode_of_le hx])⟩
  · exact fun hx => State.indexedReads_refused h hx 14 (fun u i => recordBytes u.evac.routes[i].words)
  · exact fun hx => State.read_refused h (v := fun u => u.readPlan x) (by rw [State.readPlan, planIndex_of_bad hx])
  · exact fun hx => State.read_refused h (v := fun u => u.readFlags x)
      (by rw [State.readFlags, Group.ofCode_of_lt hx])

end Sys2Proof.Machine

end

section

set_option Elab.async false

/-! PROOF. The reads whose table is one record (R39, R69, R97, R135, R155, R156, R173, R184, R192, R193, R199). -/

namespace Sys2Proof.Machine

/-! ### Bit strings (R192) -/

/-- The number whose bit i is the truth of the i-th value. -/
def bitsNumber (l : List Bool) : Nat := (l.zipIdx.map (fun b => if b.1 then 2 ^ b.2 else 0)).sum

theorem bitsNumber_cons (b : Bool) (l : List Bool) : bitsNumber (b :: l) = b.toNat + 2 * bitsNumber l := by
  have hsucc : ((l.zipIdx 1).map (fun b => if b.1 then 2 ^ b.2 else 0)).sum = 2 * bitsNumber l := by
    rw [bitsNumber, List.zipIdx_succ, List.map_map, ← List.sum_map_mul_left]
    congr 1
    refine List.map_congr_left (fun x _ => ?_)
    obtain ⟨b, n⟩ := x
    cases b <;> simp [pow_succ, Nat.mul_comm]
  rw [bitsNumber, List.zipIdx_cons, List.map_cons, List.sum_cons, hsucc]
  cases b <;> simp

theorem testBit_bitsNumber (l : List Bool) : ∀ n, (bitsNumber l).testBit n = l.getD n false := by
  induction l with
  | nil => simp [bitsNumber]
  | cons b l ih =>
    intro n
    rw [bitsNumber_cons]
    cases n with
    | zero => cases b <;> simp [Nat.testBit_zero, Nat.add_mul_mod_self_left]
    | succ n =>
      have hdiv : (b.toNat + 2 * bitsNumber l) / 2 = bitsNumber l := by
        have hb := b.toNat_lt
        omega
      rw [Nat.testBit_succ, hdiv, ih, List.getD_cons_succ]

/-- A bit of the word that `bitString` cuts into bytes. -/
theorem getLsbD_foldl_zipIdx (l : List Bool) : ∀ (k n : Nat) (w : BitVec 32), n < 32 →
    ((l.zipIdx k).foldl (fun w p => if p.1 then w ||| BitVec.ofNat 32 (2 ^ p.2) else w) w).getLsbD n
      = (w.getLsbD n || (decide (k ≤ n) && l.getD (n - k) false)) := by
  induction l with
  | nil => simp
  | cons b l ih =>
    intro k n w hn
    have hbit : (if b = true then w ||| BitVec.ofNat 32 (2 ^ k) else w).getLsbD n
        = (w.getLsbD n || (b && decide (k = n))) := by
      cases b
      · simp
      · rw [if_pos rfl, BitVec.getLsbD_or, BitVec.getLsbD_ofNat, Nat.testBit_two_pow, decide_eq_true hn]
    rw [List.zipIdx_cons, List.foldl_cons, ih _ _ _ hn, hbit]
    rcases Nat.lt_trichotomy n k with h | rfl | h
    · have h1 : ¬ k + 1 ≤ n := by omega
      have h2 : ¬ k ≤ n := by omega
      have h3 : k ≠ n := by omega
      simp [h1, h2, h3]
    · simp
    · have h1 : k + 1 ≤ n := by omega
      have h2 : k ≤ n := by omega
      have h3 : k ≠ n := by omega
      obtain ⟨m, hm⟩ : ∃ m, n - k = m + 1 := ⟨n - k - 1, by omega⟩
      have hm' : n - (k + 1) = m := by omega
      simp [h1, h2, h3, hm, hm']

/-- The byte of at most eight yes/no values. -/
def bitsByte (l : List Bool) : Byte := byteOf (bitsNumber l)

theorem getLsbD_bitsByte (l : List Bool) {n : Nat} (hn : n < 8) : (bitsByte l).getLsbD n = l.getD n false := by
  rw [bitsByte, byteOf, BitVec.getLsbD_ofNat, testBit_bitsNumber, decide_eq_true hn, Bool.true_and]

/-- Byte i of a bit string holds the values 8 i to 8 i + 7 (R192). -/
theorem bitString_eq {n : Nat} (hn : n ≤ 4) (l : List Bool) :
    bitString n l = (List.range n).map (fun i => bitsByte ((l.drop (8 * i)).take 8)) := by
  unfold bitString
  refine List.map_congr_left (fun i hi => BitVec.eq_of_getLsbD_eq (fun k hk => ?_))
  have hi : i < n := List.mem_range.mp hi
  rw [BitVec.getLsbD_setWidth, BitVec.getLsbD_ushiftRight, getLsbD_foldl_zipIdx _ _ _ _ (by omega),
    getLsbD_bitsByte _ hk]
  simp [List.getD, hk]

theorem bitString_one {l : List Bool} (h : l.length ≤ 8) : bitString 1 l = [bitsByte l] := by
  rw [bitString_eq (by decide)]
  simp [List.take_of_length_le h]

theorem bitString_two {l : List Bool} (h : l.length ≤ 16) :
    bitString 2 l = [bitsByte (l.take 8), bitsByte (l.drop 8)] := by
  rw [bitString_eq (by decide)]
  have hdrop : (l.drop 8).take 8 = l.drop 8 := List.take_of_length_le (by rw [List.length_drop]; omega)
  simp [List.range_succ, hdrop]

/-! ### The pattern an output shows (R155) -/

theorem Pattern.code_injective {a b : Pattern} (h : a.code = b.code) : a = b := by
  cases a <;> cases b <;> first | rfl | cases h

theorem Pattern.code_stronger (a b : Pattern) : (a.stronger b).code = max a.code b.code := by
  unfold Pattern.stronger
  split <;> omega

theorem Pattern.stronger_eq_or (a b : Pattern) : a.stronger b = a ∨ a.stronger b = b := by
  unfold Pattern.stronger
  split <;> simp

/-- The strongest of a list of patterns is at least each, and one of them unless it is OFF. -/
theorem foldr_stronger_spec {α : Type} (f : α → Pattern) (l : List α) :
    (∀ x ∈ l, (f x).code ≤ (l.foldr (fun x p => (f x).stronger p) .off).code)
    ∧ (l.foldr (fun x p => (f x).stronger p) .off = .off
        ∨ ∃ x ∈ l, f x = l.foldr (fun x p => (f x).stronger p) .off) := by
  induction l with
  | nil => simp
  | cons a l ih =>
    obtain ⟨hle, hex⟩ := ih
    simp only [List.foldr_cons]
    refine ⟨fun x hx => ?_, ?_⟩
    · rw [Pattern.code_stronger]
      rcases List.mem_cons.mp hx with rfl | hx
      · exact le_max_left ..
      · exact (hle x hx).trans (le_max_right ..)
    · rcases Pattern.stronger_eq_or (f a) (l.foldr (fun x p => (f x).stronger p) .off) with h | h
      · exact .inr ⟨a, by simp, h.symm⟩
      · rw [h]
        exact hex.imp_right (fun ⟨x, hx, he⟩ => ⟨x, by simp [hx], he⟩)

theorem Source.mem_all (x : Source) : x ∈ Source.all := by cases x <;> decide

/-- What an output shows: at least what each active source asks for, and one of these unless it is OFF (R155). -/
theorem State.wantedPattern_spec (s : State) (o : Output) :
    (∀ x, s.sourceActive x = true → ((s.route x).pattern o).code ≤ (s.wantedPattern o).code)
    ∧ (s.wantedPattern o = .off ∨ ∃ x, s.sourceActive x = true ∧ (s.route x).pattern o = s.wantedPattern o) := by
  obtain ⟨hle, hex⟩ := foldr_stronger_spec (fun x => (s.route x).pattern o) (Source.all.filter s.sourceActive)
  refine ⟨fun x hx => hle x (List.mem_filter.mpr ⟨x.mem_all, hx⟩), hex.imp_right ?_⟩
  rintro ⟨x, hx, he⟩
  exact ⟨x, (List.mem_filter.mp hx).2, he⟩

/-- A pattern with those two properties is the one the output shows. -/
theorem State.wantedPattern_unique {s : State} {o : Output} {p : Pattern}
    (hle : ∀ x, s.sourceActive x = true → ((s.route x).pattern o).code ≤ p.code)
    (hex : p = .off ∨ ∃ x, s.sourceActive x = true ∧ (s.route x).pattern o = p) : s.wantedPattern o = p := by
  obtain ⟨hle', hex'⟩ := s.wantedPattern_spec o
  refine Pattern.code_injective (Nat.le_antisymm ?_ ?_)
  · rcases hex' with h | ⟨x, hx, h⟩
    · rw [h]
      exact Nat.zero_le _
    · exact h ▸ hle x hx
  · rcases hex with rfl | ⟨x, hx, rfl⟩
    · exact Nat.zero_le _
    · exact hle' x hx

theorem Grade.atLeast_alert (g : Grade) : g.atLeast .alert = (g != .normal) := by cases g <;> rfl

theorem Grade.atLeast_alarm (g : Grade) : g.atLeast .alarm = (g == .alarm || g == .trip) := by cases g <;> rfl

/-- The sources in index order, for a request that is being taken: its frame has ended isolation (R153, R185). -/
theorem State.asTaken_sources (s : State) : Source.all.map s.asTaken.sourceActive =
    [s.air.zone != .normal, s.air.zone == .alarm || s.air.zone == .trip, s.air.zone == .trip,
      s.evac.state == .evacuate, !s.evac.sos.isEmpty, pollIndices.any (fun i => (s.panel i).breach),
      s.air.refuge == .alarm || s.air.refuge == .trip,
      s.seg.holder.isSome && s.seg.holderHere && decide (1 ≤ s.seg.minerCount),
      channelIndices.any (fun c => (s.channel c).record.enabled && (s.channel c).state == .fault),
      s.integ.state == .fault, false] := by
  simp only [Source.all, List.map_cons, List.map_nil, State.sourceActive, Grade.atLeast_alert, Grade.atLeast_alarm]
  rfl

theorem Source.getD_map_all (f : Source → Bool) (x : Source) : (Source.all.map f).getD x.index.val false = f x := by
  cases x <;> rfl

theorem Source.index_surjective (i : Fin 11) : ∃ x : Source, x.index = i := by
  have h : ∀ i : Fin 11, ∃ x ∈ Source.all, x.index = i := by decide
  obtain ⟨x, -, hx⟩ := h i
  exact ⟨x, hx⟩

/-! ### READ RECORD STATION (R69) -/

/-- The first entry at or above an address is the lowest of them in a table in ascending order. -/
theorem firstFrom_of_least {l : List Entry} {a : Addr} {e : Entry}
    (hsorted : l.Pairwise (fun a b => a.address.toNat < b.address.toNat)) (he : e ∈ l)
    (hle : a.toNat ≤ e.address.toNat)
    (hleast : ∀ d ∈ l, a.toNat ≤ d.address.toNat → e.address.toNat ≤ d.address.toNat) :
    firstFrom l a = some e := by
  induction l with
  | nil => cases he
  | cons x l ih =>
    obtain ⟨hx, hl⟩ := List.pairwise_cons.mp hsorted
    rw [firstFrom, List.find?_cons]
    rcases List.mem_cons.mp he with rfl | he
    · simp [hle]
    · have hxe := hx e he
      have hlow : ¬ a.toNat ≤ x.address.toNat := fun h => by
        have := hleast x (by simp) h
        omega
      simp only [hlow, decide_false]
      exact ih hl he (fun d hd => hleast d (List.mem_cons_of_mem _ hd))

theorem firstFrom_eq_none {l : List Entry} {a : Addr} (h : ∀ e ∈ l, e.address.toNat < a.toNat) :
    firstFrom l a = none := by
  rw [firstFrom, List.find?_eq_none]
  intro e he
  have := h e he
  simp [Nat.not_le.mpr this]

/-- Settles O26: each read is its table's code, the index and the record's layout. -/
theorem wholeReadsAnswerAndChangeNothing : Obligations.WholeReadsAnswerAndChangeNothing := by
  intro s rq x h bits counters p
  have hdone (t : Nat) (fields : State → List Byte) {data : List Byte}
      (hd : oneByte t ++ wordBytes x ++ fields s.asTaken = data) :
      s.requestEvent rq false (reading (fun u => readDone t x (fields u)))
        = .next (s.asTaken.answerDone rq data).settled := State.read_done h (congrArg Verdict.done hd)
  refine ⟨hdone 2 State.pollerData ?_, hdone 4 State.summaryData ?_, hdone 9 State.callsData ?_,
    hdone 11 State.segmentData ?_, hdone 13 State.evacuationData ?_, ?_, hdone 19 State.supplyData ?_,
    hdone 20 State.integrityData ?_, hdone 21 (fun u => u.params.data) ?_, hdone 23 State.managementData ?_, ?_⟩
  · cases e : s.poller.inFlight <;> simp [State.pollerData, oneByte, flagByte, e] <;> exact ⟨rfl, rfl⟩
  · rfl
  · simp only [State.callsData, List.append_assoc]
    rfl
  · rw [State.segmentData, bitString_one (by simp)]
    cases e : s.seg.holder <;> simp [oneByte, flagByte, Truck.bytes, Segment.proximity, e] <;> exact ⟨rfl, rfl, rfl⟩
  · simp only [State.evacuationData, List.append_assoc]
    rfl
  · intro active source shown hshown
    refine hdone 15 State.outputsData ?_
    have hactive (y : Source) : active.getD y.index.val false = s.asTaken.sourceActive y := by
      rw [← Source.getD_map_all s.asTaken.sourceActive y, s.asTaken_sources]
    have hsource (y : Source) (o : Output) : source y.index o = (s.asTaken.route y).pattern o := by
      cases o <;> rfl
    have hwanted (o : Output) : s.asTaken.wantedPattern o = shown o := by
      obtain ⟨hle, hex⟩ := hshown o
      refine State.wantedPattern_unique (fun y hy => hsource y o ▸ hle y.index (by rwa [hactive])) (hex.imp_right ?_)
      rintro ⟨i, hi, he⟩
      obtain ⟨y, rfl⟩ := Source.index_surjective i
      exact ⟨y, by rwa [← hactive], by rwa [← hsource]⟩
    rw [State.outputsData, s.asTaken_sources, bitString_two (by simp)]
    simp only [List.map_cons, List.map_nil, hwanted]
    rfl
  · have hmatching : s.supply.entries.toList.flatMap (fun e => flagByte e.matching)
        = s.supply.entries.toList.map (fun e => yesByte e.matching) :=
      List.map_eq_flatMap.symm
    simp [State.supplyData, Sample.bytes, countersBytes, oneByte, mainsCode, hmatching]
    exact ⟨rfl, rfl⟩
  · simp only [State.integrityData, List.append_assoc]
    rfl
  · simp only [Parameters.data, List.append_assoc]
    rfl
  · obtain ⟨-, -, hpending⟩ := h
    rw [State.managementData, bitString_two (by simp [channelIndices])]
    simp only [List.append_assoc]
    rw [show s.asTaken.mgmt.restartPending = false from hpending]
    rfl
  · intro hsorted
    refine ⟨fun e he hle hleast => State.read_done h (v := fun u => u.readStation x) ?_,
      fun hlow => State.read_refused h (v := fun u => u.readStation x) ?_⟩
    · rw [State.readStation, State.asTaken_table, firstFrom_of_least hsorted he hle hleast]
      simp only [readDone, Entry.data, Entry.kind]
      cases stationKind e.address <;> simp [oneByte, flagByte] <;> rfl
    · rw [State.readStation, State.asTaken_table, firstFrom_eq_none hlow]

end Sys2Proof.Machine

end

section

set_option Elab.async false

/-! PROOF. What it takes for a promise to be kept by every step: the shell of a command (the event, the request, the
walk of a frame, the expiry of a timer) is taken apart once, for every promise. -/

namespace Sys2Proof.Machine

/-- The parts of the commands' work that can touch a promise, but for those that the air evaluator, the scanner, the
poller's replies and the evacuation state have a share in. A part that is not written out for a promise is one that
leaves what the promise reads as it was: the promise's own lemma `unchanged`, in scope where the parts are given,
closes it by the frame of the part. -/
structure KeepsShell (P : State → Prop) : Prop where
  /-- The queue, the clock, the free samples and the event's marks. -/
  moved : ∀ {s : State} (l : List Instr) (n m : Nat) (c : Scratch), P s →
      P { s with pending := l, now := n, samples := m, scratch := c } := by
    intros; apply unchanged ‹_› <;> simp
  drive : ∀ {s : State}, P s → P s.drive := by intros; apply unchanged ‹_› <;> simp
  musterReport : ∀ {s : State}, P s → P s.musterReport := by
    intros; apply unchanged ‹_› <;> simp
  countMgmt : ∀ {s : State} (f : MgmtCounters → MgmtCounters), P s → P (s.countMgmt f) := by
    intros; apply unchanged ‹_› <;> simp
  surfaceHeard : ∀ {s : State}, P s → P s.surfaceHeard := by
    intros; apply unchanged ‹_› <;> simp
  answer : ∀ {s : State} (rq : Request) (v : Verdict), P s → P (s.answer rq v) := by
    intros; apply unchanged ‹_› <;> simp
  countPort : ∀ {s : State} (p : Port) (f : PortCounters → PortCounters), P s → P (s.countPort p f) := by
    intros; apply unchanged ‹_› <;> simp
  learnFrame : ∀ {s : State} (p : Port) (f : Frame), P s → P (s.learnFrame p f) := by
    intros; apply unchanged ‹_› <;> simp
  heardFrom : ∀ {s : State} (a : Addr), P s → P (s.heardFrom a) := by
    intros; apply unchanged ‹_› <;> simp
  relayAdd : ∀ {s : State} (a : Addr) (q : Byte), P s →
      P { s with net := { s.net with relay := relayAdd s.net.relay a q } } := by
    intros; apply unchanged ‹_› <;> simp
  inspect : ∀ {s : State} (p : Port) (f : Frame), P s → P (s.inspect p f).1 := by
    intros; apply unchanged ‹_› <;> simp
  decide : ∀ {s : State} (p : Port) (f : Frame), P s →
      P { s with net := s.net.decide s.table.entries s.supply.shedLevel (some p) f } := by
    intros; apply unchanged ‹_› <;> simp
  sosFrame : ∀ {s : State} (f : Frame), P s → P (s.sosFrame f) := by
    intros; apply unchanged ‹_› <;> simp
  sosCancel : ∀ {s : State} (f : Frame), P s → P (s.sosCancel f) := by
    intros; apply unchanged ‹_› <;> simp
  badEntryFrame : ∀ {s : State}, P s → P s.badEntryFrame := by
    intros; apply unchanged ‹_› <;> simp
  entryRequest : ∀ {s : State} (v : Addr) (d : Heading), isVehicle v = true → P s → P (s.entryRequest v d) := by
    intros; apply unchanged ‹_› <;> simp
  exitNotice : ∀ {s : State} (v : Addr), P s → P (s.exitNotice v) := by
    intros; apply unchanged ‹_› <;> simp
  evacAck : ∀ {s : State} (f : Frame), P s → P (s.evacAck f) := by
    intros; apply unchanged ‹_› <;> simp
  loadWatch : ∀ {s : State} (x : Word) (f : WatchFields), P s → P (s.loadWatch x f).1 := by
    intros; apply unchanged ‹_› <;> simp
  loadPlan : ∀ {s : State} (x : Word) (v : Byte), P s → P (s.loadPlan x v).1 := by
    intros; apply unchanged ‹_› <;> simp
  selectPlan : ∀ {s : State} (b : Byte), P s → P (s.selectPlan b).1 := by
    intros; apply unchanged ‹_› <;> simp
  closeSegment : ∀ {s : State}, P s → P s.closeSegment.1 := by
    intros; apply unchanged ‹_› <;> simp
  openSegment : ∀ {s : State}, P s → P s.openSegment.1 := by
    intros; apply unchanged ‹_› <;> simp
  releaseSegment : ∀ {s : State}, P s → P s.releaseSegment.1 := by
    intros; apply unchanged ‹_› <;> simp
  cancelSos : ∀ {s : State} (u : Word), P s → P (s.cancelSos u).1 := by
    intros; apply unchanged ‹_› <;> simp
  clearFlags : ∀ {s : State} (g : Byte) (x : BitVec 56), P s → P (s.clearFlags g x).1 := by
    intros; apply unchanged ‹_› <;> simp
  ackAttention : ∀ {s : State} (g : Byte), P s → P (s.ackAttention g).1 := by
    intros; apply unchanged ‹_› <;> simp
  clearCounters : ∀ {s : State}, P s → P s.clearCounters.1 := by
    intros; apply unchanged ‹_› <;> simp
  cold : ∀ (l : List Instr) (n m : Nat) (straps : Byte) (o i : Bool), P (State.cold l n m straps o i)
  goUp : ∀ {s : State} (p : Backbone), P s → P (s.goUp p) := by
    intros; apply unchanged ‹_› <;> simp
  ageTable : ∀ {s : State} (n : Nat), P s →
      P ({ s with table := { s.table with ageTick := n } } : State).ageTable := by
    intros; apply unchanged ‹_› <;> simp
  relayTick : ∀ {s : State} (n : Nat), P s →
      P { s with net := { s.net with relayTick := n, relay := relayAged s.net.relay } } := by
    intros; apply unchanged ‹_› <;> simp
  ageDoors : ∀ {s : State} (n : Nat), P s →
      P ({ s with evac := { s.evac with doorTick := n } } : State).ageDoors := by
    intros; apply unchanged ‹_› <;> simp
  takeSample : ∀ {s : State} (n : Nat) (x : Sample), P s →
      P (({ s with supply := { s.supply with sampleTick := n } } : State).takeSample x) := by
    intros; apply unchanged ‹_› <;> simp
  nextPoll : ∀ {s : State}, P s → P s.nextPoll := by intros; apply unchanged ‹_› <;> simp
  airReport : ∀ {s : State}, P s → P s.airReport := by intros; apply unchanged ‹_› <;> simp
  setupExpires : ∀ {s : State} (i : Fin 8), P s → P (s.setupExpires i) := by
    intros; apply unchanged ‹_› <;> simp
  leaseExpires : ∀ {s : State}, s.seg.lease.isSome = true → P s → P s.leaseExpires := by
    intros; apply unchanged ‹_› <;> simp
  repeatExpires : ∀ {s : State}, P s → P s.repeatExpires := by
    intros; apply unchanged ‹_› <;> simp
  isolationExpires : ∀ {s : State}, P s → P s.isolationExpires := by
    intros; apply unchanged ‹_› <;> simp
  statusExpires : ∀ {s : State}, P s → P s.statusExpires := by
    intros; apply unchanged ‹_› <;> simp
  toggleLine : ∀ {s : State} (o : Output), P s → P (s.toggleLine o) := by
    intros; apply unchanged ‹_› <;> simp

/-- All the parts of the commands' work that can touch a promise. -/
structure Keeps (P : State → Prop) extends KeepsShell P where
  zoneGradeNotice : ∀ {s : State} (f : Frame), P s → P (s.zoneGradeNotice f) := by
    intros; apply unchanged ‹_› <;> simp
  evacuateOrder : ∀ {s : State} (f : Frame), P s → P (s.evacuateOrder f) := by
    intros; apply unchanged ‹_› <;> simp
  standDownOrder : ∀ {s : State} (f : Frame), P s → P (s.standDownOrder f) := by
    intros; apply unchanged ‹_› <;> simp
  loadChannel : ∀ {s : State} (x : Word) (f : ChannelFields), P s → P (s.loadChannel x f).1 := by
    intros; apply unchanged ‹_› <;> simp
  loadPoll : ∀ {s : State} (x : Word) (f : PollFields), P s → P (s.loadPoll x f).1 := by
    intros; apply unchanged ‹_› <;> simp
  loadPin : ∀ {s : State} (x : Word) (f : PinFields), P s → P (s.loadPin x f).1 := by
    intros; apply unchanged ‹_› <;> simp
  loadPermit : ∀ {s : State} (x : Word) (f : PermitFields), P s → P (s.loadPermit x f).1 := by
    intros; apply unchanged ‹_› <;> simp
  loadRoute : ∀ {s : State} (x : Word) (f : RouteFields), P s → P (s.loadRoute x f).1 := by
    intros; apply unchanged ‹_› <;> simp
  loadShed : ∀ {s : State} (x : Word) (f : ShedFields), P s → P (s.loadShed x f).1 := by
    intros; apply unchanged ‹_› <;> simp
  loadParameters : ∀ {s : State} (f : ParameterFields), P s → P (s.loadParameters f).1 := by
    intros; apply unchanged ‹_› <;> simp
  setCheck : ∀ {s : State} (v : Word), P s → P (s.setCheck v).1 := by
    intros; apply unchanged ‹_› <;> simp
  resetTrip : ∀ {s : State} (c : Byte), P s → P (s.resetTrip c).1 := by
    intros; apply unchanged ‹_› <;> simp
  testChannel : ∀ {s : State} (rq : Request) (c : Byte) (v : Word) (n : Byte), P s →
      P (s.testChannel rq c v n).1 := by
    intros; apply unchanged ‹_› <;> simp
  evacuateRequest : ∀ {s : State}, P s → P s.evacuateRequest.1 := by
    intros; apply unchanged ‹_› <;> simp
  standDownRequest : ∀ {s : State}, P s → P s.standDownRequest.1 := by
    intros; apply unchanged ‹_› <;> simp
  lineMessage : ∀ {s : State} (m : List Byte), P s → P (s.lineMessage m) := by
    intros; apply unchanged ‹_› <;> simp
  missReply : ∀ {s : State} {f : InFlight}, s.poller.inFlight = some f → P s → P (s.missReply f.index) := by
    intros; apply unchanged ‹_› <;> simp
  staleExpires : ∀ {s : State} {c : Fin 16}, (s.channel c).staleTimer.isSome = true → P s →
      P (s.staleExpires c) := by
    intros; apply unchanged ‹_› <;> simp
  scanStep : ∀ {s : State}, s.integ.scanTimer.isSome = true → P s → P s.scanStep := by
    intros; apply unchanged ‹_› <;> simp
  suspensionExpires : ∀ {s : State}, s.integ.suspensionTimer.isSome = true → P s → P s.suspensionExpires := by
    intros; apply unchanged ‹_› <;> simp
  restartRequest : ∀ {s : State} (rq : Request), P s → P (s.restartRequest rq).1
  frameGone : ∀ {s : State} (p : Port), P s → P (s.frameGone p)
  goDown : ∀ {s : State} (p : Backbone), P s → P (s.goDown p)

section

variable {P : State → Prop} (k : Keeps P) {s : State}
include k

theorem Keeps.reach (d : Nat) (h : P s) : P (s.reach d) := k.moved s.pending _ s.samples s.scratch h

/-- A running timer's expiry; a stopped one does not expire (assumption 17). -/
theorem Keeps.expire {t : Timer} {f : State → State} (h : P s)
    (hf : ∀ d, t = some d → P (s.reach d) → P (f (s.reach d))) : P (s.expire t f) := by
  cases t with
  | none => exact h
  | some d => exact hf d rfl (k.reach d h)

/-! ### A request (R189) -/

/-- Every request's handler. -/
theorem Keeps.handlerOf (h : P s) (i : Instr) : P (handlerOf i s).1 := by
  cases i with
  | loadRecordChannel _ x f => exact k.loadChannel x f h
  | loadRecordPoll _ x f => exact k.loadPoll x f h
  | loadRecordPin _ x f => exact k.loadPin x f h
  | loadRecordWatch _ x f => exact k.loadWatch x f h
  | loadRecordPermit _ x f => exact k.loadPermit x f h
  | loadRecordRoute _ x f => exact k.loadRoute x f h
  | loadRecordPlan _ x v => exact k.loadPlan x v h
  | loadRecordShed _ x f => exact k.loadShed x f h
  | loadRecordParameters _ _ f => exact k.loadParameters f h
  | setCheck _ v => exact k.setCheck v h
  | selectPlan _ b => exact k.selectPlan b h
  | resetTrip _ c => exact k.resetTrip c h
  | testChannel rq c v n => exact k.testChannel rq c v n h
  | evacuate _ => exact k.evacuateRequest h
  | standDown _ => exact k.standDownRequest h
  | closeSegment _ => exact k.closeSegment h
  | openSegment _ => exact k.openSegment h
  | releaseSegment _ => exact k.releaseSegment h
  | cancelSos _ u => exact k.cancelSos u h
  | clearFlags _ g x => exact k.clearFlags g x h
  | ackAttention _ g => exact k.ackAttention g h
  | clearCounters _ => exact k.clearCounters h
  | restart rq => exact k.restartRequest rq h
  | _ => exact h

theorem Keeps.takeRequest (h : P s) (rq : Request) (isRestart : Bool) {f : Handler}
    (hf : ∀ {u : State}, P u → P (f u).1) : P (s.takeRequest rq isRestart f) := by
  unfold State.takeRequest State.carryOut
  split
  · exact h
  split
  · simp only
    split
    · exact k.answer rq _ (k.countMgmt _ h)
    · exact k.answer rq _ (hf (k.countMgmt _ h))
  · exact k.countMgmt _ h

theorem Keeps.requestFrame (h : P s) (p : Port) (f : Frame) : P (s.requestFrame p f) := by
  unfold State.requestFrame State.takeAsked
  split
  · simp only
    split
    · exact k.takeRequest h _ _ (fun hu => k.handlerOf hu _)
    · exact k.takeRequest h _ _ (fun hu => hu)
  · exact h

/-! ### The walk of a frame (R78 to R87) -/

omit k in
theorem Keeps.ifAddressed (h : P s) {f : State → State} (hf : P (f s)) : P (s.ifAddressed f) := by
  unfold State.ifAddressed
  split
  · exact hf
  · exact h

theorem Keeps.entryFrame (h : P s) (f : Frame) : P (s.entryFrame f) := by
  unfold State.entryFrame
  repeat' split
  next hv => exact k.entryRequest _ _ hv.1 h
  all_goals exact k.badEntryFrame h

theorem Keeps.exitFrame (h : P s) (f : Frame) : P (s.exitFrame f) := by
  unfold State.exitFrame
  repeat' split
  · exact k.exitNotice _ h
  all_goals exact k.badEntryFrame h

/-- The block that owns a kind takes the frame (R87). -/
theorem Keeps.hand (h : P s) (p : Port) (f : Frame) (x : FrameKind) : P (s.hand p f x) := by
  have hnone : P (s.noOwner p) := k.countPort p _ h
  cases x with
  | zoneGrade => exact Keeps.ifAddressed h (f := fun s => s.zoneGradeNotice f) (k.zoneGradeNotice f h)
  | sos => exact k.sosFrame f h
  | sosCancel => exact k.sosCancel f h
  | evacuateOrder => exact Keeps.ifAddressed h (f := fun s => s.evacuateOrder f) (k.evacuateOrder f h)
  | standDownOrder => exact Keeps.ifAddressed h (f := fun s => s.standDownOrder f) (k.standDownOrder f h)
  | entryRequest => exact Keeps.ifAddressed h (f := fun s => s.entryFrame f) (k.entryFrame h f)
  | exitNotice => exact Keeps.ifAddressed h (f := fun s => s.exitFrame f) (k.exitFrame h f)
  | evacAck => exact Keeps.ifAddressed h (f := fun s => s.evacAck f) (k.evacAck f h)
  | request => exact Keeps.ifAddressed h (f := fun s => s.requestFrame p f) (k.requestFrame h p f)
  | beacon =>
    refine Keeps.ifAddressed h (f := fun s => s.beacon f) ?_
    unfold State.beacon
    split
    · exact k.countMgmt _ h
    · exact k.countMgmt _ h
  | voice | announce | callSetup | callAlerting | callAnswer | callClear => exact h
  | _ => exact hnone

theorem Keeps.dispose (h : P s) (p : Port) (f : Frame) : P (s.dispose p f) := by
  unfold State.dispose State.deliver
  simp only
  refine k.decide p f ?_
  repeat' split
  · exact k.countPort p _ h
  · exact k.hand h p f _
  · exact k.countPort p _ h
  · exact h

theorem Keeps.ownReturn (h : P s) (p : Port) (f : Frame) : P (s.ownReturn p f) := by
  unfold State.ownReturn State.inspected
  have hi := k.inspect p f h
  split
  · exact k.countPort p _ h
  · split
    next e => exact k.dispose (by rwa [e] at hi) p f
    next e => rwa [e] at hi

theorem Keeps.hopped (h : P s) (p : Port) (f : Frame) : P (s.hopped p f) := by
  have hrelayed {u : State} (hu : P u) (f : Frame) : P (u.relayed p f) := by
    unfold State.relayed
    repeat' split
    · exact k.countPort p _ hu
    · exact k.ownReturn hu p f
    · exact k.ownReturn (k.relayAdd _ _ hu) p f
    · exact k.ownReturn hu p f
  unfold State.hopped
  simp only
  split
  · exact hrelayed (k.countPort p _ h) _
  · exact hrelayed h _

theorem Keeps.frameArrives (h : P s) (p : Port) (m : List Byte) : P (s.frameArrives p m) := by
  have hc {u : State} (hu : P u) (f : PortCounters → PortCounters) : P (u.countPort p f) := k.countPort p f hu
  unfold State.frameArrives State.acceptFrame State.heard
  split
  · simp only
    split
    · exact hc (hc h _) _
    · exact hc (hc h _) _
    · exact hc (hc h _) _
    · exact hc (hc h _) _
    next f _ =>
      have hheard := k.heardFrom f.src (k.learnFrame p f (hc (hc h (fun k =>
        { k with framesReceived := k.framesReceived + 1 })) (fun k =>
        { k with framesAccepted := k.framesAccepted + 1 })))
      repeat' split
      · exact k.hopped (k.surfaceHeard hheard) p f
      · exact k.hopped hheard p f
      · exact hc (hc h _) _
  · exact h

/-! ### A step -/

/-- The work of every event row. -/
theorem Keeps.eventWork (h : P s) (i : Instr) : P (eventWork i s) := by
  cases i with
  | coldStart => exact k.cold ..
  | frameReceived p m => exact k.frameArrives h p m
  | frameSent p => exact k.frameGone p h
  | linkDown p => exact k.goDown p h
  | linkUp p => exact k.goUp p h
  | lineMessageReceived m => exact k.lineMessage m h
  | replyTimerExpiry =>
    show P s.replyTimerExpires
    unfold State.replyTimerExpires
    split
    next f hf => exact k.expire h (fun d _ hd => k.missReply hf hd)
    · exact h
  | recordDue => exact k.expire h (fun _ _ hd => k.nextPoll hd)
  | staleTimerExpiry c => 
    exact k.expire h (f := fun s => s.staleExpires c) (fun d e hd => k.staleExpires (Option.isSome_of_eq_some e) hd)
  | airReportTimerExpiry => exact k.expire h (fun _ _ hd => k.airReport hd)
  | ageTick =>
    rw [Machine.eventWork, State.ageTicks]
    exact k.ageTable _ (k.reach _ h)
  | relayAgeTick =>
    rw [Machine.eventWork, State.relayTicks]
    exact k.relayTick _ (k.reach _ h)
  | setupTimerExpiry i => exact k.expire h (f := fun s => s.setupExpires i) (fun _ _ hd => k.setupExpires i hd)
  | leaseTimerExpiry => exact k.expire h (fun d e hd => k.leaseExpires (Option.isSome_of_eq_some e) hd)
  | repeatTimerExpiry => exact k.expire h (fun _ _ hd => k.repeatExpires hd)
  | doorTick =>
    rw [Machine.eventWork, State.doorTicks]
    exact k.ageDoors _ (k.reach _ h)
  | supplySample m b t =>
    rw [Machine.eventWork, State.sampleTicks]
    exact k.takeSample _ _ (k.reach _ h)
  | scanStep => exact k.expire h (fun d e hd => k.scanStep (Option.isSome_of_eq_some e) hd)
  | suspensionTimerExpiry => exact k.expire h (fun d e hd => k.suspensionExpires (Option.isSome_of_eq_some e) hd)
  | isolationTimerExpiry => exact k.expire h (fun _ _ hd => k.isolationExpires hd)
  | statusTimerExpiry => exact k.expire h (fun _ _ hd => k.statusExpires hd)
  | outputCadenceToggle o => exact k.expire h (f := fun s => s.toggleLine o) (fun _ _ hd => k.toggleLine o hd)
  | _ => exact h

theorem Keeps.workOf (h : P s) (i : Instr) : P (workOf i s) := by
  unfold Machine.workOf requestWork
  split
  next rq _ =>
    have hsurface : P (if isSurface rq.source then s.surfaceHeard else s) := by
      split
      · exact k.surfaceHeard h
      · exact h
    exact k.takeRequest hsurface rq _ (fun hu => k.handlerOf hu i)
  · exact k.eventWork h i

theorem Keeps.concluded (h : P s) (before : Tally) : P (s.concluded before) := by
  have hm : P (s.musterFollows before) := by
    unfold State.musterFollows
    split
    · exact k.musterReport h
    · exact h
  exact k.moved _ _ _ _ (k.drive hm)

/-- Every step keeps what its parts keep. -/
theorem Keeps.step {t : State} (h : P s) (hstep : Machine.step s = .next t) : P t := by
  obtain rfl | ⟨i, l, n, rfl⟩ := step_cases hstep
  · exact k.moved s.pending (s.now + 1) s.samples s.scratch h
  · exact k.concluded (k.workOf (k.moved l s.now n {} h) i) s.tally

end

/-! ### RESTART, for a promise that does not read the ports -/

section

variable {P : State → Prop}

theorem State.restartDue_keeps {s : State} (hrestart : ∀ {s : State}, P s → P s.restart)
    (hmark : ∀ {s : State} (b : Bool), P s → P { s with mgmt := { s.mgmt with restartPending := b } })
    (hcount : ∀ {s : State} (f : MgmtCounters → MgmtCounters), P s → P (s.countMgmt f)) (h : P s) :
    P s.restartDue := by
  unfold State.restartDue
  split
  · exact hrestart h
  · exact hcount _ (hmark false h)

theorem State.restartRequest_keeps {s : State} (hdue : ∀ {s : State}, P s → P s.restartDue)
    (hmark : ∀ {s : State} (b : Bool), P s → P { s with mgmt := { s.mgmt with restartPending := b } })
    (hnet : ∀ {s : State} (n : Net), n.straps = s.net.straps → P s → P { s with net := n }) (rq : Request)
    (h : P s) : P (s.restartRequest rq).1 := by
  unfold State.restartRequest State.sendRestartResponse
  simp only
  repeat' split
  · exact h
  · exact h
  · exact hnet (s := { s with mgmt := { s.mgmt with restartPending := true } }) _ (by simp) (hmark true h)
  · exact hdue (hnet (s := { s with mgmt := { s.mgmt with restartPending := true } }) _ (by simp) (hmark true h))

theorem State.frameGone_keeps {s : State} (hdue : ∀ {s : State}, P s → P s.restartDue)
    (hnet : ∀ {s : State} (n : Net), n.straps = s.net.straps → P s → P { s with net := n }) (p : Port)
    (h : P s) : P (s.frameGone p) := by
  have hsent : P ((s.clearSending p).countPort p (fun k => { k with framesSent := k.framesSent + 1 })) :=
    hnet (s := s) _ (by simp [State.clearSending]) h
  unfold State.frameGone
  split
  · exact h
  · simp only
    split
    · exact hnet _ (by simp) (hdue hsent)
    · exact hnet _ (by simp) hsent

theorem State.goDown_keeps {s : State} (hdue : ∀ {s : State}, P s → P s.restartDue)
    (hnet : ∀ {s : State} (n : Net), n.straps = s.net.straps → P s → P { s with net := n })
    (hflag : ∀ {s : State} (f : Flag), P s → P (s.setFlag f))
    (hforget : ∀ {s : State} (p : Backbone), P s → P (s.forgetVia p)) (p : Backbone)
    (h : P s) : P (s.goDown p) := by
  have hdown (e : Egress) : P ((({ s with net := s.net.setEgress p.port e } : State).linkChanged p false).forgetVia p) := by
    refine hforget p (hnet _ ?_ (hflag _ (hnet _ ?_ (hnet _ ?_ h))))
    all_goals simp
  unfold State.goDown
  simp only
  repeat' split
  · exact hdue (hnet _ (by simp) (hdown _))
  · exact hdown _
  · exact h

/-- The three commands that can bring a restart, for a promise that does not read the ports. -/
theorem State.restart_keeps (hrestart : ∀ {s : State}, P s → P s.restart)
    (hmark : ∀ {s : State} (b : Bool), P s → P { s with mgmt := { s.mgmt with restartPending := b } })
    (hcount : ∀ {s : State} (f : MgmtCounters → MgmtCounters), P s → P (s.countMgmt f))
    (hnet : ∀ {s : State} (n : Net), n.straps = s.net.straps → P s → P { s with net := n })
    (hflag : ∀ {s : State} (f : Flag), P s → P (s.setFlag f))
    (hforget : ∀ {s : State} (p : Backbone), P s → P (s.forgetVia p)) :
    (∀ {s : State} (rq : Request), P s → P (s.restartRequest rq).1)
    ∧ (∀ {s : State} (p : Port), P s → P (s.frameGone p)) ∧ ∀ {s : State} (p : Backbone), P s → P (s.goDown p) := by
  have hdue {s : State} (h : P s) : P s.restartDue :=
    State.restartDue_keeps (P := P) hrestart hmark hcount h
  exact ⟨fun rq h => State.restartRequest_keeps (P := P) hdue hmark hnet rq h, fun p h => State.frameGone_keeps (P := P) hdue hnet p h,
    fun p h => State.goDown_keeps (P := P) hdue hnet hflag hforget p h⟩

end

/-! ### A load, a latch reset or a test request: refused, or taken -/

section

variable {P : State → Prop} {s : State} (h : P s)
include h

/-- LOAD RECORD CHANNEL keeps what the state and an accepted load keep. -/
theorem State.loadChannel_keeps {x : Word} {f : ChannelFields}
    (hload : ∀ c r, (s.channel c).trip.set = false → parseChannel f = some r → P (s.loadChannelRecord c r).suspendScan.regrade) :
    P (s.loadChannel x f).1 := by
  unfold State.loadChannel
  split
  · exact h
  · split
    · exact h
    next hlatch =>
      split
      · exact h
      next hparse =>
        split
        · exact h
        · split
          · exact h
          · exact hload _ _ (Bool.not_eq_true _ ▸ hlatch) hparse

theorem State.loadPoll_keeps {x : Word} {f : PollFields}
    (hload : ∀ i c, parsePoll f = some c → s.addressTaken i c = false → P (s.loadPollRecord i c)) :
    P (s.loadPoll x f).1 := by
  unfold State.loadPoll
  split
  · exact h
  · split
    · exact h
    next hparse =>
      split
      · exact h
      next hfree => exact hload _ _ hparse (Bool.not_eq_true _ ▸ hfree)

theorem State.loadPin_keeps {x : Word} {f : PinFields} (hload : ∀ i w, P (s.loadPinWindow i w).protectedWrite) :
    P (s.loadPin x f).1 := by
  unfold State.loadPin
  split
  · exact h
  · split
    · exact h
    · exact hload _ _

theorem State.loadPermit_keeps {x : Word} {f : PermitFields}
    (hload : ∀ (i : Fin 4) r, P (State.protectedWrite { s with calls := { s.calls with permits := s.calls.permits.set i r } })) :
    P (s.loadPermit x f).1 := by
  unfold State.loadPermit
  split
  · exact h
  · split
    · exact h
    · exact hload _ _

theorem State.loadRoute_keeps {x : Word} {f : RouteFields}
    (hload : ∀ (i : Fin 11) r, P (State.protectedWrite { s with evac := { s.evac with routes := s.evac.routes.set i r } })) :
    P (s.loadRoute x f).1 := by
  unfold State.loadRoute
  split
  · exact h
  · split
    · exact h
    · exact hload _ _

theorem State.loadShed_keeps {x : Word} {f : ShedFields} (hload : ∀ i c, P (s.loadShedEntry i c).protectedWrite) :
    P (s.loadShed x f).1 := by
  unfold State.loadShed
  split
  · exact h
  · split
    · exact h
    · exact hload _ _

theorem State.resetTrip_keeps {b : Byte} (hrelease : ∀ c, P (s.releaseTrip c)) : P (s.resetTrip b).1 := by
  unfold State.resetTrip
  split
  · exact h
  · split
    · exact h
    · split
      · exact hrelease _
      · exact h

theorem State.testChannel_keeps {rq : Request} {b : Byte} {v : Word} {n : Byte}
    (htest : ∀ c, (s.channel c).record.enabled = true → v.toNat ≤ (s.channel c).record.gas.fullScale → 1 ≤ n.toNat →
      n.toNat ≤ 32 → P (s.setChannel c ((s.channel c).beginTest rq v.toNat n.toNat))) :
    P (s.testChannel rq b v n).1 := by
  unfold State.testChannel
  split
  · exact h
  · simp only
    split
    · exact h
    · split
      · exact h
      next hgood =>
        simp only [not_or, Bool.not_eq_false, not_lt] at hgood
        obtain ⟨henabled, hvalue, hone, hmost⟩ := hgood
        exact htest _ henabled hvalue hone hmost

omit h in
/-- A reply that is taken answers the poll in flight; every other line message is counted. -/
theorem State.lineMessage_keeps {m : List Byte} (hcount : ∀ f, P (s.countPoller f))
    (htake : ∀ f r, s.poller.inFlight = some f → r.address = f.address → P (s.takeReply f.index r)) :
    P (s.lineMessage m) := by
  have hmatch (r : Reply) : P (s.matchReply r) := by
    unfold State.matchReply
    split
    · exact hcount _
    next hflight =>
      split
      · exact hcount _
      next haddress =>
        split
        · exact hcount _
        · split
          · exact htake _ r hflight (not_not.mp haddress)
          · exact hcount _
  unfold State.lineMessage
  split
  · split
    · exact hmatch _
    · exact hcount _
  · exact hcount _

end

end Sys2Proof.Machine


end

section

set_option Elab.async false

/-! PROOF. The outputs follow (R27, R155): every command keeps the lines' levels and cadences fitting their patterns,
and the end of its event makes the patterns what the sources want. -/

namespace Sys2Proof.Machine

/-- Each of the four lines has a level and a cadence that fit its pattern. -/
def State.LinesFit (s : State) : Prop := ∀ o, (s.evac.lines.get o).Fits

theorem State.LinesFit.unchanged {s t : State} (h : s.LinesFit) (lines : t.evac.lines = s.evac.lines) :
    t.LinesFit := by
  unfold State.LinesFit
  rwa [lines]

theorem Line.start_fits (now : Nat) (p : Pattern) : (Line.start now p).Fits := by
  cases p <;> simp [Line.start, Line.Fits, Pattern.half]

theorem Line.Fits.show {l : Line} (h : l.Fits) (now : Nat) (p : Pattern) : (l.show now p).Fits := by
  unfold Line.show
  split
  · exact h
  · exact Line.start_fits now p

theorem Line.show_pattern (l : Line) (now : Nat) (p : Pattern) : (l.show now p).pattern = p := by
  unfold Line.show
  split
  next e => exact e
  · rfl

theorem Line.Fits.toggle {l : Line} (h : l.Fits) (now : Nat) : (l.toggle now).Fits := by
  obtain ⟨p, b, c⟩ := l
  cases p with
  | off | steady => exact h
  | slow | fast => simp [Line.toggle, Line.Fits, Pattern.half]

@[simp] theorem Lines.get_set (x : Lines) (o o' : Output) (l : Line) :
    (x.set o l).get o' = if o = o' then l else x.get o' := by cases o <;> cases o' <;> rfl

theorem State.drivenLines_get (s : State) (o : Output) :
    s.drivenLines.get o = (s.evac.lines.get o).show s.now (s.wantedPattern o) := by cases o <;> rfl

theorem State.LinesFit.drive {s : State} (h : s.LinesFit) : s.drive.LinesFit := by
  intro o
  show (s.drivenLines.get o).Fits
  rw [State.drivenLines_get]
  exact (h o).show _ _

theorem State.LinesFit.toggleLine {s : State} (h : s.LinesFit) (o : Output) : (s.toggleLine o).LinesFit := by
  intro o'
  simp only [State.toggleLine, Lines.get_set]
  split
  · exact (h o).toggle _
  · exact h o'

theorem State.LinesFit.restart {s : State} (h : s.LinesFit) : s.restart.LinesFit :=
  h.unchanged (by simp [State.restart])

theorem State.linesFit_cold (l : List Instr) (n m : Nat) (straps : Byte) (o i : Bool) :
    (State.cold l n m straps o i).LinesFit := by
  intro o
  cases o <;> exact Line.start_fits 0 .off

/-- Every command's parts keep the lines fitting. -/
theorem State.linesFit_keeps : Keeps State.LinesFit := by
  have unchanged {s t : State} (h : s.LinesFit) (lines : t.evac.lines = s.evac.lines) : t.LinesFit :=
    h.unchanged lines
  obtain ⟨hrequest, hsent, hdown⟩ := State.restart_keeps (P := State.LinesFit) State.LinesFit.restart (fun _ h => h.unchanged rfl)
    (fun _ h => h.unchanged rfl) (fun _ _ h => h.unchanged rfl) (fun _ h => h.unchanged (by simp))
    (fun _ h => h.unchanged (by simp))
  exact {
    drive := State.LinesFit.drive
    toggleLine := fun o h => h.toggleLine o
    cold := State.linesFit_cold
    restartRequest := hrequest
    frameGone := hsent
    goDown := hdown }

/-- The sources do not read the lines or the trip output, so driving the outputs changes no source. -/
theorem State.drive_wantedPattern (s : State) (o : Output) : s.drive.wantedPattern o = s.wantedPattern o := rfl

/-- The end of an event makes the patterns what the sources want (R155). -/
theorem State.concluded_pattern (s : State) (before : Tally) (o : Output) :
    ((s.concluded before).evac.lines.get o).pattern = (s.concluded before).wantedPattern o := by
  have h : ((s.musterFollows before).drivenLines.get o).pattern = (s.musterFollows before).drive.wantedPattern o := by
    rw [State.drivenLines_get, Line.show_pattern, State.drive_wantedPattern]
  exact h

/-- Settles O5: the lines fit after every command, and each event's end drives the patterns and the trip output. -/
theorem outputsFollowInEveryStep : Obligations.OutputsFollowInEveryStep := by
  intro s t h hstep
  obtain ⟨hlines, htrip⟩ := h
  have hfit : s.LinesFit := fun o => (hlines o (by cases o <;> simp)).2
  have hfit' : t.LinesFit := State.linesFit_keeps.step hfit hstep
  obtain rfl | ⟨i, l, n, rfl⟩ := step_cases hstep
  · exact ⟨hlines, htrip⟩
  · exact ⟨fun o _ => ⟨State.concluded_pattern .., hfit' o⟩, State.event_tripOutput ..⟩

end Sys2Proof.Machine

end

section

set_option Elab.async false

/-! PROOF. The scan (R179 to R183): which operations keep the channel records, and that every command keeps the
running CRC the check of the records already fed. -/

namespace Sys2Proof.Machine

/-! ### The operations that leave every channel's record as it was -/

@[simp] theorem State.regrade_channel (s : State) (c : Fin 16) : s.regrade.channel c = s.channel c := by
  rw [State.channel, State.channel, s.regrade_air.1]

@[simp] theorem State.setFlag_channel (s : State) (f : Flag) (c : Fin 16) : (s.setFlag f).channel c = s.channel c := by
  simp [State.channel]

@[simp] theorem State.respond_channel (s : State) (rq : Request) (x : Cause) (data : List Byte) (c : Fin 16) :
    (s.respond rq x data).channel c = s.channel c := by
  simp [State.channel]

@[simp] theorem State.handPanel_channel (s : State) (i : Fin 8) (p : Option PanelContents) (c : Fin 16) :
    (s.handPanel i p).channel c = s.channel c := by
  simp [State.channel]

@[simp] theorem State.emptyPanel_channel (s : State) (i : Fin 8) (c : Fin 16) :
    (s.emptyPanel i).channel c = s.channel c := by
  simp [State.channel]

@[simp] theorem State.nextPoll_channel (s : State) (c : Fin 16) : s.nextPoll.channel c = s.channel c := by
  simp [State.channel]

@[simp] theorem State.learn_channel (s : State) (a : Addr) (l : Location) (c : Fin 16) :
    (s.learn a l).channel c = s.channel c := by
  simp [State.channel]

theorem State.updateChannel_record {s : State} {c : Fin 16} {x : Channel} (h : x.record = (s.channel c).record)
    (d : Fin 16) : ((s.updateChannel c x).channel d).record = (s.channel d).record := by
  rw [State.updateChannel_channel]
  split
  next e => exact e ▸ h
  · rfl

theorem State.setChannel_record {s : State} {c : Fin 16} {x : Channel} (h : x.record = (s.channel c).record)
    (d : Fin 16) : ((s.setChannel c x).channel d).record = (s.channel d).record := by
  rw [State.channel_setChannel]
  split
  next e => exact e ▸ h
  · rfl

@[simp] theorem Channel.take_record (x : Channel) (now : Nat) (r : Reading) : (x.take now r).record = x.record := by
  unfold Channel.take
  simp only
  split <;> rfl

@[simp] theorem Channel.restart_record (x : Channel) (now : Nat) : (x.restart now).record = x.record := by
  unfold Channel.restart
  split <;> rfl

@[simp] theorem State.countPoller_channel (s : State) (f : PollerCounters → PollerCounters) (c : Fin 16) :
    (s.countPoller f).channel c = s.channel c := rfl

@[simp] theorem State.setPollRecord_channel (s : State) (i : Fin 8) (r : PollRecord) (c : Fin 16) :
    (s.setPollRecord i r).channel c = s.channel c := rfl

@[simp] theorem State.freeLine_channel (s : State) (c : Fin 16) : s.freeLine.channel c = s.channel c := rfl

section

variable (s : State) (d : Fin 16)

@[simp] theorem State.takeReadings_record (i : Fin 8) (first second : Reading) :
    ((s.takeReadings i first second).channel d).record = (s.channel d).record := by
  have h (s : State) (c : Fin 16) (r : Reading) : ((s.takeReading c r).channel d).record = (s.channel d).record := by
    unfold State.takeReading
    split
    · exact State.updateChannel_record (Channel.take_record ..) d
    · rfl
  rw [State.takeReadings, State.regrade_channel, h, h]

@[simp] theorem State.deviceGone_record (i : Fin 8) : ((s.deviceGone i).channel d).record = (s.channel d).record := by
  rw [State.deviceGone, State.regrade_channel]
  exact (State.updateChannel_record rfl d).trans (State.updateChannel_record rfl d)

@[simp] theorem State.staleExpires_record (c : Fin 16) : ((s.staleExpires c).channel d).record = (s.channel d).record := by
  rw [State.staleExpires, State.regrade_channel]
  exact State.updateChannel_record (by rfl) d

@[simp] theorem State.releaseTrip_record (c : Fin 16) : ((s.releaseTrip c).channel d).record = (s.channel d).record := by
  rw [State.releaseTrip, State.regrade_channel]
  exact State.updateChannel_record (by rfl) d

@[simp] theorem State.endTest_record (c : Fin 16) (o : TestOutcome) :
    ((s.endTest c o).channel d).record = (s.channel d).record := by
  unfold State.endTest
  split
  · rw [State.respond_channel, State.setFlag_channel]
    exact State.setChannel_record (by rfl) d
  · rfl

@[simp] theorem State.feedTest_record (c : Fin 16) : ((s.feedTest c).channel d).record = (s.channel d).record := by
  unfold State.feedTest
  split
  · simp only
    split
    · rw [State.endTest_record]
      exact State.setChannel_record (by rfl) d
    · exact State.setChannel_record (by rfl) d
  · rfl

@[simp] theorem State.feedTests_record (i : Fin 8) : ((s.feedTests i).channel d).record = (s.channel d).record := by
  rw [State.feedTests, State.feedTest_record, State.feedTest_record]

@[simp] theorem State.takeReply_record (i : Fin 8) (r : Reply) :
    ((s.takeReply i r).channel d).record = (s.channel d).record := by
  rw [State.takeReply, State.nextPoll_channel, State.feedTests_record, State.handPanel_channel,
    State.takeReadings_record, State.learn_channel]
  rfl

@[simp] theorem State.lineMessage_record (m : List Byte) :
    ((s.lineMessage m).channel d).record = (s.channel d).record :=
  State.lineMessage_keeps (P := fun t => (t.channel d).record = (s.channel d).record) (fun _ => rfl)
    (fun _ _ _ _ => State.takeReply_record ..)

@[simp] theorem State.missReply_record (i : Fin 8) : ((s.missReply i).channel d).record = (s.channel d).record := by
  rw [State.missReply, State.nextPoll_channel, State.feedTests_record, State.countPoller_channel]
  split
  · simp only [State.deviceGone_record, State.setPollRecord_channel, State.freeLine_channel]
  · simp only [State.setPollRecord_channel, State.freeLine_channel]

@[simp] theorem State.loadPollRecord_record (i : Fin 8) (c : PollConfig) :
    ((s.loadPollRecord i c).channel d).record = (s.channel d).record := by
  unfold State.loadPollRecord State.abortTests
  rw [State.nextPoll_channel, State.emptyPanel_channel, State.endTest_record, State.endTest_record,
    State.setPollRecord_channel]
  split
  · rw [State.freeLine_channel]
  · rfl

end

/-! ### What the scan reads -/

/-- The scanner's timers, position and state agree, and a scan that has fed nothing has the initial value. -/
def Integrity.Shaped (x : Integrity) : Prop :=
  (x.suspensionTimer.isSome = true ↔ x.state = .suspended) ∧ (x.scanTimer.isSome = true ↔ x.state ≠ .suspended)
  ∧ x.position < 39 ∧ (x.state = .suspended → x.position = 0) ∧ (x.position = 0 → x.runningCrc = 0xFFFF)

theorem State.ScanSound.shaped {s : State} (h : s.ScanSound) : s.integ.Shaped := by
  obtain ⟨hsuspension, hscan, hposition, hzero, hcrc⟩ := h
  refine ⟨hsuspension, hscan, hposition, hzero, fun e => ?_⟩
  rw [hcrc, e]
  rfl

/-- A scan that has fed nothing agrees with any records. -/
theorem State.scanSound_of_start {s : State} (h : s.integ.Shaped) (h0 : s.integ.position = 0) : s.ScanSound := by
  obtain ⟨hsuspension, hscan, hposition, hzero, hcrc⟩ := h
  refine ⟨hsuspension, hscan, hposition, hzero, ?_⟩
  rw [hcrc h0, h0]
  rfl

/-- The bytes of the protected records are read from the channels' records and the four other tables (R177). -/
theorem State.protectedBytes_of_eq {s t : State} (channels : ∀ c, (t.channel c).record = (s.channel c).record)
    (routes : t.evac.routes = s.evac.routes)
    (configs : ∀ i : Fin 4, t.supply.entries[i].config = s.supply.entries[i].config)
    (pins : t.table.pins = s.table.pins) (permits : t.calls.permits = s.calls.permits) :
    t.protectedBytes = s.protectedBytes := by
  funext n
  by_cases h16 : n < 16
  · rw [t.protectedBytes_channel ⟨n, h16⟩, s.protectedBytes_channel ⟨n, h16⟩, channels]
  by_cases h31 : 27 ≤ n ∧ n < 31
  · obtain ⟨k, rfl⟩ : ∃ k, n = 27 + k := ⟨n - 27, by omega⟩
    have hk : k < 4 := by omega
    rw [t.protectedBytes_shed ⟨k, hk⟩, s.protectedBytes_shed ⟨k, hk⟩, configs]
  · simp only [State.protectedBytes, h16, if_false, routes, pins, permits]
    split
    · rfl
    · have hout : ¬ n < 31 := by omega
      simp only [hout, if_false]

/-- The scan goes on agreeing where the scanner, but for its counters, and the records are as they were. -/
theorem State.ScanSound.of_eq {s t : State} (h : s.ScanSound)
    (integ : { t.integ with counters := s.integ.counters } = s.integ)
    (records : t.protectedBytes = s.protectedBytes) : t.ScanSound := by
  unfold State.ScanSound State.scannedBytes at *
  rw [records]
  rw [← integ] at h
  exact h

theorem State.ScanSound.unchanged {s t : State} (h : s.ScanSound) (integ : t.integ = s.integ)
    (channels : t.air.channels = s.air.channels) (routes : t.evac.routes = s.evac.routes)
    (entries : t.supply.entries = s.supply.entries) (pins : t.table.pins = s.table.pins)
    (permits : t.calls.permits = s.calls.permits) : t.ScanSound :=
  h.of_eq (by rw [integ]) (State.protectedBytes_of_eq (fun c => by rw [State.channel, State.channel, channels]) routes
    (fun i => by rw [entries]) pins permits)

/-- An operation that touches the channels, but no channel's record. -/
theorem State.ScanSound.channels {s t : State} (h : s.ScanSound)
    (channels : ∀ c, (t.channel c).record = (s.channel c).record)
    (integ : t.integ = s.integ := by simp) (routes : t.evac.routes = s.evac.routes := by simp)
    (entries : t.supply.entries = s.supply.entries := by simp) (pins : t.table.pins = s.table.pins := by simp)
    (permits : t.calls.permits = s.calls.permits := by simp) : t.ScanSound :=
  h.of_eq (by rw [integ]) (State.protectedBytes_of_eq channels routes (fun i => by rw [entries]) pins permits)

/-! ### The scanner's own operations -/

/-- A recomputation of the grades changes neither the scanner nor a record. -/
theorem State.ScanSound.regrade {s : State} (h : s.ScanSound) : s.regrade.ScanSound := h.channels (by simp)

/-- Whatever the records have become, a protected write leaves a scan that has fed nothing (R180). -/
theorem State.suspendScan_shaped {s : State} (h : s.integ.Shaped) :
    s.suspendScan.integ.Shaped ∧ s.suspendScan.integ.position = 0 := by
  unfold State.suspendScan
  split
  next e =>
    obtain ⟨-, -, -, hzero, -⟩ := id h
    exact ⟨h, hzero e⟩
  · simp [Integrity.Shaped, startTimer, State.countInteg]

theorem State.suspendScan_scanSound {s : State} (h : s.integ.Shaped) : s.suspendScan.ScanSound :=
  State.scanSound_of_start (State.suspendScan_shaped h).1 (State.suspendScan_shaped h).2

theorem State.protectedWrite_scanSound {s : State} (h : s.integ.Shaped) : s.protectedWrite.ScanSound := by
  unfold State.protectedWrite
  split
  next e =>
    obtain ⟨-, -, -, hzero, -⟩ := id h
    exact State.scanSound_of_start h (hzero e)
  · exact (State.suspendScan_scanSound h).regrade

/-- A scan that begins in a state other than SUSPENDED, its suspension timer stopped. -/
theorem State.setIntegrity_scanSound {s : State} {x : IntegrityState} (hx : x ≠ .suspended)
    (hsuspension : s.integ.suspensionTimer = none) (hscan : s.integ.scanTimer.isSome = true)
    (hposition : s.integ.position = 0) (hcrc : s.integ.runningCrc = 0xFFFF) : (s.setIntegrity x).ScanSound := by
  refine State.scanSound_of_start ?_ ?_
  · rw [State.setIntegrity_integ]
    simp [Integrity.Shaped, hsuspension, hscan, hposition, hcrc, hx]
  · rw [State.setIntegrity_integ]
    exact hposition

theorem State.setStoredCheck_scanSound (s : State) (v : Word) : (s.setStoredCheck v).ScanSound :=
  State.setIntegrity_scanSound (by decide) rfl rfl rfl rfl

theorem State.suspensionExpires_scanSound (s : State) : s.suspensionExpires.ScanSound := by
  unfold State.suspensionExpires
  refine State.setIntegrity_scanSound (by decide) ?_ rfl rfl rfl
  simp [State.beginScan]

theorem State.compare_scanSound {s : State} (c : Word) (hsuspension : s.integ.suspensionTimer = none)
    (hscan : s.integ.scanTimer.isSome = true) (hposition : s.integ.position = 0)
    (hcrc : s.integ.runningCrc = 0xFFFF) : (s.compare c).ScanSound := by
  unfold State.compare
  simp only
  split
  · exact State.setIntegrity_scanSound (by decide) hsuspension hscan hposition hcrc
  · refine State.setIntegrity_scanSound (by decide) ?_ ?_ ?_ ?_
    all_goals
      split
      · simpa
      · assumption

/-- A scan step feeds the record at the position; the last one begins a new scan (R179). -/
theorem State.ScanSound.scanStep {s : State} (h : s.ScanSound) (hrun : s.integ.scanTimer.isSome = true) :
    s.scanStep.ScanSound := by
  obtain ⟨hsuspension, hscan, hposition, hzero, hcrc⟩ := h
  have hstate : s.integ.state ≠ .suspended := hscan.mp hrun
  have hstopped : s.integ.suspensionTimer = none := by
    rw [← Option.not_isSome_iff_eq_none, hsuspension]
    exact hstate
  unfold State.scanStep
  simp only
  split
  next hlt =>
    refine ⟨by simp [hstopped, hstate], by simp [startTimer, hstate], hlt, fun e => absurd e hstate, ?_⟩
    show crcFrom s.integ.runningCrc (s.protectedBytes s.integ.position) = crc (s.scannedBytes (s.integ.position + 1))
    rw [State.scannedBytes, List.range_succ, List.flatMap_append, crc, crcFrom_append, hcrc]
    simp [crc, State.scannedBytes]
  · exact State.compare_scanSound _ hstopped rfl rfl rfl

/-! ### Every command -/

theorem State.restart_integ_shaped {s : State} (h : s.integ.Shaped) :
    s.restart.integ.Shaped ∧ s.restart.integ.position = 0 := by
  have e : s.restart.integ = s.zeroCounters.restartIntegrity.integ := by
    simp [State.restart, State.restartIntegrity, State.beginScan]
    congr
  rw [e]
  unfold State.restartIntegrity State.beginScan
  refine ⟨⟨?_, ?_, by simp, fun _ => rfl, fun _ => rfl⟩, rfl⟩
  · simp only [Option.isSome_none, Bool.false_eq_true, false_iff]
    split <;> simp_all
  · simp only [startTimer, Option.isSome_some, true_iff]
    split <;> simp_all

theorem State.ScanSound.takeSample {s : State} (h : s.ScanSound) (n : Nat) (x : Sample) :
    (({ s with supply := { s.supply with sampleTick := n } } : State).takeSample x).ScanSound := by
  refine h.of_eq (by simp) (State.protectedBytes_of_eq (fun c => ?_) (by simp) (fun i => ?_) (by simp) (by simp))
  · simp [State.channel]
  · simp [State.takeSample, mapTable, ShedEntry.judge]

section

variable {s : State} (h : s.ScanSound)
include h

theorem State.ScanSound.loadChannel (x : Word) (f : ChannelFields) : (s.loadChannel x f).1.ScanSound :=
  State.loadChannel_keeps (P := State.ScanSound) h fun _ _ _ _ =>
    State.ScanSound.regrade (State.suspendScan_scanSound (by simpa using h.shaped))

theorem State.ScanSound.loadPoll (x : Word) (f : PollFields) : (s.loadPoll x f).1.ScanSound :=
  State.loadPoll_keeps (P := State.ScanSound) h fun i c _ _ => h.channels (t := s.loadPollRecord i c) (by simp)

theorem State.ScanSound.loadPin (x : Word) (f : PinFields) : (s.loadPin x f).1.ScanSound :=
  State.loadPin_keeps (P := State.ScanSound) h fun _ _ => State.protectedWrite_scanSound (by simpa using h.shaped)

theorem State.ScanSound.loadPermit (x : Word) (f : PermitFields) : (s.loadPermit x f).1.ScanSound :=
  State.loadPermit_keeps (P := State.ScanSound) h fun _ _ => State.protectedWrite_scanSound h.shaped

theorem State.ScanSound.loadRoute (x : Word) (f : RouteFields) : (s.loadRoute x f).1.ScanSound :=
  State.loadRoute_keeps (P := State.ScanSound) h fun _ _ => State.protectedWrite_scanSound h.shaped

theorem State.ScanSound.loadShed (x : Word) (f : ShedFields) : (s.loadShed x f).1.ScanSound :=
  State.loadShed_keeps (P := State.ScanSound) h fun _ _ => State.protectedWrite_scanSound (by simpa using h.shaped)

theorem State.ScanSound.resetTrip (c : Byte) : (s.resetTrip c).1.ScanSound :=
  State.resetTrip_keeps (P := State.ScanSound) h fun c => h.channels (t := s.releaseTrip c) (by simp)

theorem State.ScanSound.testChannel (rq : Request) (c : Byte) (v : Word) (n : Byte) :
    (s.testChannel rq c v n).1.ScanSound :=
  State.testChannel_keeps (P := State.ScanSound) h fun _ _ _ _ _ =>
    h.channels (t := State.setChannel _ _ _) (State.setChannel_record (by rfl))

theorem State.ScanSound.isolationExpires : s.isolationExpires.ScanSound :=
  h.of_eq (by simp [State.isolationExpires, State.countInteg])
    (State.protectedBytes_of_eq (fun c => by simp [State.channel]) (by simp) (fun _ => by simp) (by simp) (by simp))

/-- The counters are not protected (R176, R199). -/
theorem State.ScanSound.clearCounters : s.clearCounters.1.ScanSound :=
  h.of_eq rfl (State.protectedBytes_of_eq (fun _ => rfl) rfl (fun _ => rfl) rfl rfl)

theorem State.ScanSound.restart : s.restart.ScanSound :=
  State.scanSound_of_start (State.restart_integ_shaped h.shaped).1 (State.restart_integ_shaped h.shaped).2

end

theorem State.scanSound_cold (l : List Instr) (n m : Nat) (straps : Byte) (o i : Bool) :
    (State.cold l n m straps o i).ScanSound := by
  refine State.scanSound_of_start ⟨?_, ?_, ?_, fun _ => rfl, fun _ => rfl⟩ rfl
  all_goals simp [State.cold, Integrity.cold, startTimer]

/-- Every command's parts keep the scan. -/
theorem State.scanSound_keeps : Keeps State.ScanSound := by
  have unchanged {s t : State} (h : s.ScanSound) (integ : t.integ = s.integ)
      (channels : t.air.channels = s.air.channels) (routes : t.evac.routes = s.evac.routes)
      (entries : t.supply.entries = s.supply.entries) (pins : t.table.pins = s.table.pins)
      (permits : t.calls.permits = s.calls.permits) : t.ScanSound :=
    h.unchanged integ channels routes entries pins permits
  obtain ⟨hrequest, hsent, hdown⟩ := State.restart_keeps (P := State.ScanSound) State.ScanSound.restart
    (fun _ h => h.unchanged rfl rfl rfl rfl rfl rfl) (fun _ h => h.unchanged rfl rfl rfl rfl rfl rfl)
    (fun _ _ h => h.unchanged rfl rfl rfl rfl rfl rfl) (fun _ h => h.channels (by simp))
    (fun _ h => h.channels (fun _ => rfl))
  exact {
    restartRequest := hrequest
    frameGone := hsent
    goDown := hdown
    cold := State.scanSound_cold
    lineMessage := fun m h => h.channels (by simp)
    missReply := fun _ h => h.channels (by simp)
    staleExpires := fun _ h => h.channels (by simp)
    isolationExpires := State.ScanSound.isolationExpires
    takeSample := fun n x h => h.takeSample n x
    scanStep := fun hrun h => h.scanStep hrun
    suspensionExpires := fun _ _ => State.suspensionExpires_scanSound _
    clearCounters := State.ScanSound.clearCounters
    setCheck := fun v _ => State.setStoredCheck_scanSound _ v
    loadChannel := fun x f h => h.loadChannel x f
    loadPoll := fun x f h => h.loadPoll x f
    loadPin := fun x f h => h.loadPin x f
    loadPermit := fun x f h => h.loadPermit x f
    loadRoute := fun x f h => h.loadRoute x f
    loadShed := fun x f h => h.loadShed x f
    resetTrip := fun c h => h.resetTrip c
    testChannel := fun rq c v n h => h.testChannel rq c v n }

/-- Settles O14: every part of a command keeps the scan (`State.scanSound_keeps`). -/
theorem scanSoundInEveryStep : Obligations.ScanSoundInEveryStep := fun _ _ h hstep => State.scanSound_keeps.step h hstep

end Sys2Proof.Machine

end

section

set_option Elab.async false

/-! PROOF. The channels (R12 to R17, R21, R32, R33): the rule of each operation on one channel, and that every
command keeps every channel sound. -/

namespace Sys2Proof.Machine

/-! ### Entries and averages -/

theorem EntrySound.hold_pos {e : EntryConfig} {x : EntryState} (h : EntrySound e x) : 0 < e.hold :=
  Nat.zero_lt_of_lt h.1

theorem entrySound_clear {e : EntryConfig} (h : 0 < e.hold) : EntrySound e .clear := ⟨h, fun _ => ⟨rfl, rfl⟩⟩

/-- The run starts again and the entry stays SET or CLEAR. -/
theorem EntrySound.runZero {e : EntryConfig} {x : EntryState} (h : EntrySound e x) : EntrySound e ⟨x.set, 0⟩ :=
  ⟨h.hold_pos, fun hd => ⟨(h.2 hd).1, rfl⟩⟩

/-- A run that reaches the hold count starts again (R15). -/
theorem EntryState.advance_run_lt {hold : Nat} (h : 0 < hold) (x : EntryState) : (x.advance hold).run < hold := by
  unfold EntryState.advance
  split
  · exact h
  · show x.run + 1 < hold
    omega

theorem EntrySound.judge {e : EntryConfig} {x : EntryState} (h : EntrySound e x) (d : Direction) (latches : Bool)
    (a : Nat) : EntrySound e (e.judge d latches a x) := by
  have hpos := h.hold_pos
  refine ⟨?_, fun hd => by rw [EntryConfig.judge_disabled hd]; exact ⟨rfl, rfl⟩⟩
  unfold EntryConfig.judge
  repeat' split
  all_goals first | exact hpos | exact EntryState.advance_run_lt hpos x

/-- A TRIP entry that is SET after it was judged has run 0: it became SET by the whole of its run, or it was latched
(R16, R17). -/
theorem EntryConfig.judge_latched_run (e : EntryConfig) (d : Direction) (a : Nat) (x : EntryState)
    (h : (e.judge d true a x).set = true) : (e.judge d true a x).run = 0 := by
  unfold EntryConfig.judge at h ⊢
  split at h
  case isTrue hoff => rw [if_pos hoff]; rfl
  case isFalse hon =>
    rw [if_neg hon]
    split at h
    case isTrue hclear =>
      rw [if_pos hclear]
      split at h
      · simp_all [EntryState.advance]
        split at h <;> simp_all
      · exact absurd h (by simp)
    case isFalse hset => rw [if_neg hset]; rfl

theorem AverageWithin.smooth {full v : Nat} {a : Option Nat} (h : AverageWithin full a) (hv : v ≤ full) (k : Nat) :
    AverageWithin full (some (Machine.smooth k a v)) := by
  rintro _ ⟨⟩
  cases a with
  | none => exact hv
  | some a =>
    have ha : a ≤ full := h a rfl
    have hbetween := (smooth_between k a v).2
    omega

/-! ### A test's shadow copy -/

/-- What a channel's test keeps (R32, R33). -/
def ChannelRecord.TestSound (r : ChannelRecord) (t : ChannelTest) : Prop :=
  r.enabled = true ∧ t.fed < t.count ∧ t.count ≤ 32 ∧ t.value ≤ r.gas.fullScale
  ∧ AverageWithin r.gas.fullScale t.average
  ∧ EntrySound r.alert t.alert ∧ EntrySound r.alarm t.alarm ∧ EntrySound r.trip t.trip

/-- A sample that is not the last one (R33). -/
theorem ChannelRecord.TestSound.feed {r : ChannelRecord} {t : ChannelTest} (h : r.TestSound t)
    (hmore : ¬ (t.feed r).count ≤ (t.feed r).fed) : r.TestSound (t.feed r) := by
  obtain ⟨henabled, -, hcount, hvalue, haverage, halert, halarm, htrip⟩ := h
  exact ⟨henabled, Nat.lt_of_not_le hmore, hcount, hvalue, haverage.smooth hvalue _, halert.judge .., halarm.judge ..,
    htrip.judge ..⟩

/-- A channel after its poll has ended: its test has one more sample, and the last one takes it away (R33). -/
def Channel.fed (x : Channel) : Channel :=
  { x with test := (x.test.map (fun t => t.feed x.record)).filter (fun t => decide (t.fed < t.count)) }

/-! ### One channel -/

theorem Channel.sound_iff (x : Channel) : x.Sound ↔ x.untested.Sound ∧ ∀ t ∈ x.test, x.record.TestSound t := by
  simp [Channel.Sound, Channel.untested, ChannelRecord.TestSound, and_assoc]

section

variable {x : Channel} (h : x.Sound)
include h

theorem Channel.Sound.refresh (silent : Bool) : (x.refresh silent).Sound := h

theorem Channel.Sound.untested : x.untested.Sound := (x.sound_iff.mp h).1

/-- A sample of a test, if there is one (R33). -/
theorem Channel.Sound.fed : x.fed.Sound := by
  obtain ⟨hrest, htest⟩ := x.sound_iff.mp h
  refine (Channel.sound_iff _).mpr ⟨hrest, fun t ht => ?_⟩
  simp only [Channel.fed, Option.mem_def, Option.filter_eq_some_iff, Option.map_eq_some_iff, decide_eq_true_eq] at ht
  obtain ⟨⟨u, hu, rfl⟩, hmore⟩ := ht
  exact (htest u hu).feed (Nat.not_le.mpr hmore)

/-- A reading on an enabled channel (R19, R20). -/
theorem Channel.Sound.take (henabled : x.record.enabled = true) (now : Nat) (r : Reading) : (x.take now r).Sound := by
  obtain ⟨hvalue, haverage, halert, halarm, htrip, hlatch, -, -, htest⟩ := h
  have hmark : (x.heard now r.effectiveStatus).staleTimer.isSome = true
      ↔ x.record.enabled = true ∧ (x.heard now r.effectiveStatus).staleMark = false := by
    simp [Channel.heard, startTimer, henabled]
  unfold Channel.take
  simp only
  split
  · have hv := convert_le x.record.offset x.record.gain x.record.gas.fullScale r.raw.toNat
    exact ⟨hv, haverage.smooth hv _, halert.judge .., halarm.judge .., htrip.judge ..,
      EntryConfig.judge_latched_run _ _ _ _, hmark, fun _ => rfl, htest⟩
  · exact ⟨hvalue, haverage, halert, halarm, htrip, hlatch, hmark, fun _ => rfl, htest⟩

/-- A running stale timer's expiry (R21). -/
theorem Channel.Sound.stale (hruns : x.staleTimer.isSome = true) :
    ({ x with staleMark := true, staleTimer := none } : Channel).Sound := by
  obtain ⟨hvalue, haverage, halert, halarm, htrip, hlatch, hstale, -, htest⟩ := h
  have henabled := (hstale.mp hruns).1
  exact ⟨hvalue, haverage, halert, halarm, htrip, hlatch, by simp, by simp [henabled], htest⟩

/-- A released latch (R28). -/
theorem Channel.Sound.release : ({ x with trip := .clear } : Channel).Sound := by
  obtain ⟨hvalue, haverage, halert, halarm, htrip, -, hstale, hmark, htest⟩ := h
  exact ⟨hvalue, haverage, halert, halarm, entrySound_clear htrip.hold_pos, fun _ => rfl, hstale, hmark, htest⟩

/-- An accepted test (R32). -/
theorem Channel.Sound.beginTest {rq : Request} {value count : Nat} (henabled : x.record.enabled = true)
    (hvalue : value ≤ x.record.gas.fullScale) (hone : 1 ≤ count) (hmost : count ≤ 32) :
    (x.beginTest rq value count).Sound := by
  have hself := h
  obtain ⟨-, haverage, halert, halarm, htrip, -⟩ := h
  refine (Channel.sound_iff _).mpr ⟨hself.untested, ?_⟩
  rintro t ⟨⟩
  exact ⟨henabled, hone, hmost, hvalue, haverage, halert.runZero, halarm.runZero, htrip.runZero⟩

/-- A RESTART (R36). -/
theorem Channel.Sound.restart (now : Nat) : (x.restart now).Sound := by
  obtain ⟨hvalue, haverage, halert, halarm, htrip, hlatch, hstale, hmark, -⟩ := h
  unfold Channel.restart
  split
  next henabled =>
    exact ⟨Nat.zero_le _, by simp [AverageWithin], entrySound_clear halert.hold_pos, entrySound_clear halarm.hold_pos,
      htrip.runZero, fun _ => rfl, by simp [startTimer, henabled], fun _ => rfl, by simp⟩
  · exact ⟨hvalue, haverage, halert, halarm, htrip, hlatch, hstale, hmark, by simp⟩

end

/-- A record whose entries have hold counts of at least 1. -/
def ChannelRecord.Holds (r : ChannelRecord) : Prop := 0 < r.alert.hold ∧ 0 < r.alarm.hold ∧ 0 < r.trip.hold

/-- A channel started by a load (R10). -/
theorem Channel.load_sound {r : ChannelRecord} (hr : r.Holds) {x : Channel} (hx : x.test = none) (now : Nat) :
    (x.load now r).Sound := by
  obtain ⟨halert, halarm, htrip⟩ := hr
  refine ⟨Nat.zero_le _, by simp [Channel.load, AverageWithin], entrySound_clear halert, entrySound_clear halarm,
    entrySound_clear htrip, fun _ => rfl, ?_, fun _ => rfl, by simp [Channel.load, hx]⟩
  cases henabled : r.enabled <;> simp [Channel.load, startTimer, henabled]

theorem parseEntry_hold {f : EntryFields} {full : Nat} {e : EntryConfig} (h : parseEntry f full = some e) :
    0 < e.hold := by
  simp only [parseEntry, between, bind, pure, Option.bind_eq_some_iff, Option.some.injEq,
    Option.ite_none_right_eq_some] at h
  obtain ⟨-, -, -, -, -, -, hold, ⟨⟨hhold, -⟩, rfl⟩, rfl⟩ := h
  exact hhold

/-- A hold count is at least 1 (R9). -/
theorem parseChannel_holds {f : ChannelFields} {r : ChannelRecord} (h : parseChannel f = some r) : r.Holds := by
  simp only [parseChannel, bind, pure, Option.bind_eq_some_iff, Option.some.injEq] at h
  obtain ⟨_, -, _, -, _, -, _, -, _, -, _, -, _, halert, _, halarm, _, htrip, _, -, _, -, rfl⟩ := h
  exact ⟨parseEntry_hold halert, parseEntry_hold halarm, parseEntry_hold htrip⟩

/-! ### Every channel -/

section

variable (s : State)

@[simp] theorem State.regrade_air_channels : s.regrade.air.channels = s.air.channels := s.regrade_air.1

@[simp] theorem State.protectedWrite_air_channels : s.protectedWrite.air.channels = s.air.channels := by
  unfold State.protectedWrite
  split <;> simp

@[simp] theorem State.suspensionExpires_air_channels : s.suspensionExpires.air.channels = s.air.channels := by
  simp [State.suspensionExpires]

@[simp] theorem State.compare_air_channels (x : Word) : (s.compare x).air.channels = s.air.channels := by
  unfold State.compare
  simp only
  split
  · simp
  · rw [State.setIntegrity_channels]
    split <;> simp

@[simp] theorem State.scanStep_air_channels : s.scanStep.air.channels = s.air.channels := by
  unfold State.scanStep
  simp only
  split
  · rfl
  · simp

end


section

variable (s : State) (c d : Fin 16)

/-- The end of a test takes the test away and leaves the other channels (R33). -/
theorem State.endTest_channel (o : TestOutcome) :
    (s.endTest c o).channel d = if c = d then (s.channel d).untested else s.channel d := by
  unfold State.endTest
  split
  · rw [State.respond_channel, State.setFlag_channel, State.channel_setChannel]
    split
    next e => rw [e]; rfl
    · rfl
  next hnone =>
    split
    next e => rw [← e, Channel.untested, ← hnone]
    · rfl

/-- A sample of a test changes the test alone (R33). -/
theorem State.feedTest_channel : (s.feedTest c).channel d = if c = d then (s.channel d).fed else s.channel d := by
  unfold State.feedTest Channel.fed
  split
  next t ht =>
    simp only
    split
    next hend =>
      rw [State.endTest_channel, State.channel_setChannel]
      split
      next e =>
        subst e
        simp only [ht, Option.map_some, Option.filter_some, Nat.not_lt.mpr hend, decide_false, Bool.false_eq_true, if_false]
        rfl
      · rfl
    next hmore =>
      rw [State.channel_setChannel]
      split
      next e =>
        subst e
        simp only [ht, Option.map_some, Option.filter_some, Nat.lt_of_not_le hmore, decide_true, if_true]
      · rfl
  next hnone =>
    split
    next e => subst e; rw [hnone, Option.map_none, Option.filter_none, ← hnone]
    · rfl

end

/-- The promise about every channel, as a definition that does not unfold by itself. -/
def State.EachSound (s : State) : Prop := ∀ c, (s.channel c).Sound

theorem State.eachSound_iff (s : State) : s.EachSound ↔ s.ChannelsSound :=
  ⟨fun h c _ => h c, fun h c => h c (mem_channelIndices c)⟩

section

variable {s : State} (h : s.EachSound)
include h

theorem State.EachSound.unchanged {t : State} (e : t.air.channels = s.air.channels) : t.EachSound :=
  fun c => by
    have hsame : t.channel c = s.channel c := by rw [State.channel, State.channel, e]
    exact hsame ▸ h c

/-- One channel is rewritten, and the others stay. -/
theorem State.EachSound.write {t : State} {c : Fin 16} {x : Channel} (hx : x.Sound)
    (ht : ∀ d, t.channel d = if c = d then x else s.channel d) : t.EachSound := by
  intro d
  rw [ht d]
  split
  · exact hx
  · exact h d

theorem State.eachSound_updateChannel (c : Fin 16) {x : Channel} (hx : x.Sound) :
    (s.updateChannel c x).EachSound :=
  State.EachSound.write h (hx.refresh _) (fun d => State.updateChannel_channel s c d x)

theorem State.eachSound_regrade : s.regrade.EachSound := State.EachSound.unchanged h s.regrade_air.1

theorem State.eachSound_takeReading (c : Fin 16) (r : Reading) : (s.takeReading c r).EachSound := by
  unfold State.takeReading
  split
  next henabled =>
    exact State.eachSound_updateChannel h c ((h c).take henabled _ _)
  · exact h

theorem State.eachSound_takeReadings (i : Fin 8) (first second : Reading) :
    (s.takeReadings i first second).EachSound := by
  have hfirst := State.eachSound_takeReading h (firstChannel i) first
  exact State.eachSound_regrade (State.eachSound_takeReading hfirst (secondChannel i) second)

theorem State.eachSound_refreshChannel (c : Fin 16) : (s.refreshChannel c).EachSound :=
  State.eachSound_updateChannel h c (h c)

theorem State.eachSound_deviceGone (i : Fin 8) : (s.deviceGone i).EachSound := by
  have hfirst := State.eachSound_refreshChannel h (firstChannel i)
  exact State.eachSound_regrade (State.eachSound_refreshChannel hfirst (secondChannel i))

theorem State.eachSound_endTest (c : Fin 16) (o : TestOutcome) : (s.endTest c o).EachSound := by
  refine State.EachSound.write h (c := c) (h c).untested (fun d => ?_)
  rw [State.endTest_channel]
  split
  next e => rw [e]
  · rfl

theorem State.eachSound_feedTest (c : Fin 16) : (s.feedTest c).EachSound := by
  refine State.EachSound.write h (c := c) (h c).fed (fun d => ?_)
  rw [State.feedTest_channel]
  split
  next e => rw [e]
  · rfl

theorem State.eachSound_feedTests (i : Fin 8) : (s.feedTests i).EachSound :=
  State.eachSound_feedTest (State.eachSound_feedTest h _) _

theorem State.eachSound_nextPoll : s.nextPoll.EachSound := h.unchanged (by simp)

theorem State.eachSound_takeReply (i : Fin 8) (r : Reply) : (s.takeReply i r).EachSound := by
  have hhanded {u : State} (hu : u.EachSound) : (u.handPanel i r.panel).EachSound := hu.unchanged (by simp)
  have hlearned {u : State} (hu : u.EachSound) : (u.learn r.address .fieldHere).EachSound := hu.unchanged (by simp)
  unfold State.takeReply
  refine State.eachSound_nextPoll (State.eachSound_feedTests (hhanded
    (State.eachSound_takeReadings (hlearned ?_) i r.first r.second)) i)
  exact h.unchanged rfl

theorem State.eachSound_missReply (i : Fin 8) : (s.missReply i).EachSound := by
  have hcounted {u : State} (hu : u.EachSound) (f : PollerCounters → PollerCounters) : (u.countPoller f).EachSound :=
    hu.unchanged rfl
  unfold State.missReply
  refine State.eachSound_nextPoll (State.eachSound_feedTests (hcounted ?_ _) i)
  split
  · refine State.eachSound_deviceGone ?_ i
    exact h.unchanged rfl
  · exact h.unchanged rfl

theorem State.eachSound_loadPollRecord (i : Fin 8) (c : PollConfig) : (s.loadPollRecord i c).EachSound := by
  have hemptied {u : State} (hu : u.EachSound) : (u.emptyPanel i).EachSound := hu.unchanged (by simp)
  unfold State.loadPollRecord State.abortTests
  refine State.eachSound_nextPoll (hemptied (State.eachSound_endTest (State.eachSound_endTest ?_
    (firstChannel i) .aborted) (secondChannel i) .aborted))
  split <;> exact h.unchanged rfl

theorem State.eachSound_staleExpires {c : Fin 16} (hruns : (s.channel c).staleTimer.isSome = true) :
    (s.staleExpires c).EachSound :=
  State.eachSound_regrade
    (State.eachSound_updateChannel h c ((h c).stale hruns))

theorem State.eachSound_loadChannelRecord (c : Fin 16) {r : ChannelRecord} (hr : r.Holds) :
    (s.loadChannelRecord c r).EachSound := by
  refine State.eachSound_updateChannel (State.eachSound_endTest h c .aborted) c (Channel.load_sound hr ?_ _)
  rw [State.endTest_channel, if_pos rfl]
  rfl

theorem State.eachSound_restartAir : s.restartAir.EachSound := by
  have hall : (channelIndices.foldl (fun s c => s.updateChannel c ((s.channel c).restart s.now)) s).EachSound :=
    List.foldlRecOn (motive := State.EachSound) _ _ h
      (fun _ hv c _ => State.eachSound_updateChannel hv c ((hv c).restart _))
  exact State.EachSound.unchanged (State.eachSound_regrade hall) (by simp [State.restartAir])

theorem State.eachSound_restart : s.restart.EachSound := by
  have hair {u : State} (hu : u.EachSound) : u.restartAir.nextPoll.EachSound :=
    State.eachSound_nextPoll (State.eachSound_restartAir hu)
  unfold State.restart
  exact hair (h.unchanged (by simp))

end

theorem State.eachSound_cold (l : List Instr) (n m : Nat) (straps : Byte) (o i : Bool) :
    (State.cold l n m straps o i).EachSound := by
  have hchannel (c : Fin 16) : (State.cold l n m straps o i).channel c = Channel.cold :=
    getElem_replicate_fin ..
  intro c
  rw [hchannel]
  decide

/-- Every command's parts keep the channels sound. -/
theorem State.eachSound_keeps : Keeps State.EachSound := by
  have unchanged {s t : State} (h : s.EachSound) (channels : t.air.channels = s.air.channels) : t.EachSound :=
    State.EachSound.unchanged h channels
  obtain ⟨hrequest, hsent, hdown⟩ := State.restart_keeps (P := State.EachSound) State.eachSound_restart
    (fun _ h => unchanged h rfl) (fun _ h => unchanged h rfl) (fun _ _ h => unchanged h rfl)
    (fun _ h => unchanged h (by simp)) (fun _ h => unchanged h rfl)
  exact {
    restartRequest := hrequest
    frameGone := hsent
    goDown := hdown
    cold := State.eachSound_cold
    lineMessage := fun m h => State.lineMessage_keeps (P := State.EachSound) (fun _ => unchanged h rfl)
      (fun _ _ _ _ => State.eachSound_takeReply h _ _)
    missReply := fun _ h => State.eachSound_missReply h _
    staleExpires := fun hruns h => State.eachSound_staleExpires h hruns
    loadChannel := fun x f h => State.loadChannel_keeps (P := State.EachSound) h fun c r _ hparse =>
      State.eachSound_regrade (unchanged (State.eachSound_loadChannelRecord h c (parseChannel_holds hparse))
        (by simp))
    loadPin := fun x f h => State.loadPin_keeps (P := State.EachSound) h fun _ _ => unchanged h (by simp)
    loadPermit := fun x f h => State.loadPermit_keeps (P := State.EachSound) h fun _ _ => unchanged h (by simp)
    loadRoute := fun x f h => State.loadRoute_keeps (P := State.EachSound) h fun _ _ => unchanged h (by simp)
    loadShed := fun x f h => State.loadShed_keeps (P := State.EachSound) h fun _ _ => unchanged h (by simp)
    setCheck := fun v h => unchanged h (State.setStoredCheck_channels ..)
    loadPoll := fun x f h => State.loadPoll_keeps (P := State.EachSound) h fun i c _ _ =>
      State.eachSound_loadPollRecord h i c
    resetTrip := fun b h => State.resetTrip_keeps (P := State.EachSound) h fun c =>
      State.eachSound_regrade (State.eachSound_updateChannel h c (h c).release)
    testChannel := fun rq b v n h => State.testChannel_keeps (P := State.EachSound) h
      fun c henabled hvalue hone hmost => State.EachSound.write h
        ((h c).beginTest henabled hvalue hone hmost) (fun d => State.channel_setChannel ..) }

/-- Settles O8: every part of a command keeps the channels sound (`State.eachSound_keeps`). -/
theorem channelsSoundInEveryStep : Obligations.ChannelsSoundInEveryStep :=
  fun s t h hstep => t.eachSound_iff.mp (State.eachSound_keeps.step (s.eachSound_iff.mpr h) hstep)

end Sys2Proof.Machine

end

section

set_option Elab.async false

/-! PROOF. The field line (R37 to R44): the choice of the next poll, that every command keeps the poller's promise,
and what a due record and a line message do. -/

namespace Sys2Proof.Machine

/-! ### The enabled record due earliest (R40) -/

/-- The choice among a rising list of records, with a choice that stands before it: the earliest due time, and the
lower index among equals. -/
theorem earliestFrom_spec (due : Fin 8 → Option Nat) (l : List (Fin 8)) (hrising : l.Pairwise (· < ·)) :
    ∀ best : Option (Fin 8 × Nat), (∀ b u, best = some (b, u) → ∀ j ∈ l, b < j) →
      (earliestFrom due best l = none → best = none ∧ ∀ j ∈ l, due j = none)
      ∧ ∀ i t, earliestFrom due best l = some (i, t) →
          (best = some (i, t) ∨ due i = some t)
          ∧ (∀ b u, best = some (b, u) → t < u ∨ t = u ∧ i ≤ b)
          ∧ ∀ j ∈ l, ∀ e, due j = some e → t < e ∨ t = e ∧ i ≤ j := by
  induction l with
  | nil => simp +contextual [earliestFrom]
  | cons k rest ih =>
    intro best hbest
    obtain ⟨hk, hrest⟩ := List.pairwise_cons.mp hrising
    have hbestRest (b : Fin 8) (u : Nat) (e : best = some (b, u)) (j : Fin 8) (hj : j ∈ rest) : b < j :=
      hbest b u e j (List.mem_cons_of_mem _ hj)
    unfold earliestFrom
    simp only
    split
    next t b u hdue =>
      have hbk : b < k := hbest b u rfl k List.mem_cons_self
      split
      next hsooner =>
        obtain ⟨hnone, hsome⟩ := ih hrest (some (k, t)) (by rintro _ _ ⟨⟩; exact hk)
        refine ⟨fun e => absurd (hnone e).1 (by simp), fun i v e => ?_⟩
        obtain ⟨hsource, hfirst, hothers⟩ := hsome i v e
        have hv := hfirst k t rfl
        grind
      next hlater =>
        obtain ⟨hnone, hsome⟩ := ih hrest (some (b, u)) hbestRest
        refine ⟨fun e => absurd (hnone e).1 (by simp), fun i v e => ?_⟩
        obtain ⟨hsource, hfirst, hothers⟩ := hsome i v e
        have hv := hfirst b u rfl
        grind
    next t hdue =>
      obtain ⟨hnone, hsome⟩ := ih hrest (some (k, t)) (by rintro _ _ ⟨⟩; exact hk)
      refine ⟨fun e => absurd (hnone e).1 (by simp), fun i v e => ?_⟩
      obtain ⟨hsource, hfirst, hothers⟩ := hsome i v e
      have hv := hfirst k t rfl
      grind
    next hdue =>
      obtain ⟨hnone, hsome⟩ := ih hrest _ hbestRest
      grind

theorem mem_pollIndices (i : Fin 8) : i ∈ pollIndices := by revert i; decide

/-- The chosen record is enabled and due, and no enabled record is due before it. -/
theorem State.earliestDue_eq_some {s : State} {i : Fin 8} {t : Nat} (h : s.earliestDue = some (i, t)) :
    (s.pollRecord i).dueTime = some t ∧ ∀ j e, (s.pollRecord j).dueTime = some e → t < e ∨ t = e ∧ i ≤ j := by
  obtain ⟨hdue, -, hleast⟩ := (earliestFrom_spec _ pollIndices (by decide) none (by simp)).2 i t h
  exact ⟨hdue.resolve_left (by simp), fun j e => hleast j (mem_pollIndices j) e⟩

theorem State.earliestDue_eq_none {s : State} (h : s.earliestDue = none) (j : Fin 8) : (s.pollRecord j).dueTime = none :=
  ((earliestFrom_spec _ pollIndices (by decide) none (by simp)).1 h).2 j (mem_pollIndices j)

theorem PollRecord.dueTime_eq_some {r : PollRecord} {t : Nat} :
    r.dueTime = some t ↔ r.config.enabled = true ∧ r.due = some t := by
  simp [PollRecord.dueTime]

/-- A record that is due before every other enabled one is the chosen one. -/
theorem State.earliestDue_of_least {s : State} {i : Fin 8} {d : Nat} (hdue : (s.pollRecord i).dueTime = some d)
    (hleast : ∀ j e, (s.pollRecord j).dueTime = some e → d < e ∨ d = e ∧ i ≤ j) : s.earliestDue = some (i, d) := by
  cases hchosen : s.earliestDue with
  | none => exact absurd (State.earliestDue_eq_none hchosen i) (by simp [hdue])
  | some x =>
    obtain ⟨j, e⟩ := x
    obtain ⟨hj, hbefore⟩ := State.earliestDue_eq_some hchosen
    have hij := hleast j e hj
    have hji := hbefore i d hdue
    have hi : i = j := by omega
    have hd : d = e := by omega
    rw [hi, hd]

/-! ### The poller's promise (R37, R41, R44) -/

/-- What a poll record keeps by itself. -/
def PollRecord.Kept (r : PollRecord) : Prop :=
  (r.due.isSome = true ↔ r.config.enabled = true) ∧ r.misses ≤ 255 ∧ (r.state ≠ .silent → r.misses < 3)

theorem PollRecord.Kept.missed {r : PollRecord} (hr : r.Kept) : r.missed.Kept := by
  obtain ⟨hdue, hmisses, hsilent⟩ := hr
  have hcount : r.missed.misses ≤ 255 := by
    simp only [PollRecord.missed]
    split <;> omega
  refine ⟨hdue, hcount, fun hstate => ?_⟩
  by_contra hmany
  exact hstate (if_pos (Nat.le_of_not_lt hmany))

/-- Two enabled records have two addresses. -/
def PollRecord.Apart (r q : PollRecord) : Prop :=
  r.config.enabled = true → q.config.enabled = true → r.config.address ≠ q.config.address

/-- The poll in flight is its record's. -/
def State.FlightKept (s : State) (f : InFlight) : Prop :=
  (s.pollRecord f.index).config.enabled = true ∧ f.address = (s.pollRecord f.index).config.address
  ∧ f.seq = s.poller.sequence ∧ f.wire = pollWire f.address f.seq

/-- The promise, part by part. -/
structure State.PollsKept (s : State) : Prop where
  timer : s.poller.replyTimer.isSome = true ↔ s.poller.inFlight.isSome = true
  record : ∀ i, (s.pollRecord i).Kept
  apart : ∀ i j, i ≠ j → (s.pollRecord i).Apart (s.pollRecord j)
  flight : ∀ f, s.poller.inFlight = some f → s.FlightKept f

theorem State.pollerSound_iff (s : State) : s.PollerSound ↔ s.PollsKept := by
  constructor
  · rintro ⟨htimer, hrecord, hflight⟩
    refine ⟨htimer, fun i => ?_, fun i j hne => ?_, fun f hf => hflight f hf⟩
    · obtain ⟨hdue, hmisses, hsilent, -⟩ := hrecord i (mem_pollIndices i)
      exact ⟨hdue, hmisses, hsilent⟩
    · obtain ⟨-, -, -, hapart⟩ := hrecord i (mem_pollIndices i)
      exact hapart j (mem_pollIndices j) hne
  · rintro ⟨htimer, hrecord, hapart, hflight⟩
    refine ⟨htimer, fun i _ => ?_, fun f hf => hflight f hf⟩
    obtain ⟨hdue, hmisses, hsilent⟩ := hrecord i
    exact ⟨hdue, hmisses, hsilent, fun j _ hne => hapart i j hne⟩

section

variable {s : State} (h : s.PollsKept)
include h

theorem State.PollsKept.unchanged {t : State} (hrecords : t.poller.records = s.poller.records)
    (hflight : t.poller.inFlight = s.poller.inFlight) (htimer : t.poller.replyTimer = s.poller.replyTimer)
    (hsequence : t.poller.sequence = s.poller.sequence) : t.PollsKept := by
  have hrecord (i : Fin 8) : t.pollRecord i = s.pollRecord i := by rw [State.pollRecord, State.pollRecord, hrecords]
  constructor
  · rw [htimer, hflight]; exact h.timer
  · intro i; rw [hrecord]; exact h.record i
  · intro i j; rw [hrecord, hrecord]; exact h.apart i j
  · intro f hf; rw [State.FlightKept, hrecord, hsequence]; exact h.flight f (hflight ▸ hf)

theorem State.PollsKept.freeLine : s.freeLine.PollsKept :=
  ⟨by simp [State.freeLine], h.record, h.apart, by simp [State.freeLine]⟩

/-- A record is rewritten that no poll is in flight for, or whose loaded fields stay. -/
theorem State.PollsKept.setPollRecord {i : Fin 8} {r : PollRecord} (hr : r.Kept)
    (hapart : ∀ j, i ≠ j → r.Apart (s.pollRecord j))
    (hflight : r.config = (s.pollRecord i).config ∨ ∀ f, s.poller.inFlight = some f → i ≠ f.index) :
    (s.setPollRecord i r).PollsKept := by
  refine ⟨h.timer, fun j => ?_, fun j k hne => ?_, fun f hf => ?_⟩
  · rw [State.pollRecord_setPollRecord]
    split
    · exact hr
    · exact h.record j
  · rw [State.pollRecord_setPollRecord, State.pollRecord_setPollRecord]
    split
    next e =>
      rw [if_neg (e ▸ hne)]
      exact hapart k (e ▸ hne)
    next e =>
      split
      next e' => exact fun hj hr => (hapart j (e' ▸ hne.symm) hr hj).symm
      · exact h.apart j k hne
  · have hold := h.flight f hf
    unfold State.FlightKept at hold ⊢
    rw [State.pollRecord_setPollRecord]
    split
    next e =>
      subst e
      have hconfig := hflight.resolve_right (fun hf' => hf' f hf rfl)
      rw [hconfig]
      exact hold
    · exact hold

/-- A record's dynamic part is rewritten. -/
theorem State.PollsKept.setDynamic {i : Fin 8} {r : PollRecord} (hr : r.Kept)
    (hconfig : r.config = (s.pollRecord i).config) : (s.setPollRecord i r).PollsKept :=
  h.setPollRecord hr (fun j hne => by rw [PollRecord.Apart, hconfig]; exact h.apart i j hne) (.inl hconfig)

theorem State.PollsKept.sendPoll {i : Fin 8} (henabled : (s.pollRecord i).config.enabled = true) :
    (s.sendPoll i).PollsKept := by
  obtain ⟨-, hmisses, hsilent⟩ := h.record i
  have hset := h.setDynamic (i := i) (r := { s.pollRecord i with due := some (s.now + (s.pollRecord i).config.interval.ms) }) ⟨by simp [henabled], hmisses, hsilent⟩ rfl
  refine ⟨by simp [State.sendPoll, startTimer], hset.record, hset.apart, ?_⟩
  rintro f ⟨⟩
  refine ⟨?_, ?_, rfl, rfl⟩
  · show ((s.setPollRecord i _).pollRecord i).config.enabled = true
    rw [State.pollRecord_setPollRecord, if_pos rfl]
    exact henabled
  · show (s.pollRecord i).config.address = ((s.setPollRecord i _).pollRecord i).config.address
    rw [State.pollRecord_setPollRecord, if_pos rfl]

theorem State.PollsKept.nextPoll : s.nextPoll.PollsKept := by
  unfold State.nextPoll
  split
  · exact h
  · split
    next i t hdue =>
      split
      · exact h.sendPoll (PollRecord.dueTime_eq_some.mp (State.earliestDue_eq_some hdue).1).1
      · exact h
    · exact h

theorem State.PollsKept.takeReply (i : Fin 8) (r : Reply) : (s.takeReply i r).PollsKept := by
  obtain ⟨hdue, -, -⟩ := h.record i
  have hkept : (s.pollRecord i).replied.Kept := ⟨hdue, Nat.zero_le _, fun _ => Nat.succ_pos 2⟩
  have hfree : (s.freeLine.countPoller fun k => { k with repliesTaken := k.repliesTaken + 1 }).PollsKept :=
    h.freeLine.unchanged rfl rfl rfl rfl
  have hreplied := hfree.setDynamic (i := i) hkept rfl
  unfold State.takeReply
  refine State.PollsKept.nextPoll (hreplied.unchanged ?_ ?_ ?_ ?_)
  all_goals simp
  all_goals rfl

theorem State.PollsKept.missReply (i : Fin 8) : (s.missReply i).PollsKept := by
  have hmissed : (s.freeLine.setPollRecord i (s.pollRecord i).missed).PollsKept :=
    h.freeLine.setDynamic (h.record i).missed rfl
  have hgone {u : State} (hu : u.PollsKept) : (u.deviceGone i).PollsKept := by
    refine hu.unchanged ?_ ?_ ?_ ?_ <;> simp
  have hcounted {u : State} (hu : u.PollsKept) (f : PollerCounters → PollerCounters) :
      ((u.countPoller f).feedTests i).PollsKept := by
    refine hu.unchanged ?_ ?_ ?_ ?_ <;> simp
  unfold State.missReply
  refine State.PollsKept.nextPoll (hcounted ?_ _)
  split
  · exact hgone hmissed
  · exact hmissed

theorem State.PollsKept.loadPollRecord {i : Fin 8} {c : PollConfig} (hfree : s.addressTaken i c = false) :
    (s.loadPollRecord i c).PollsKept := by
  have hline : (if s.pollingFor i then s.freeLine else s).PollsKept := by
    split
    · exact h.freeLine
    · exact h
  have hload : ((s.pollRecord i).load s.now c).Kept := by
    refine ⟨?_, Nat.zero_le _, fun _ => Nat.succ_pos 2⟩
    cases henabled : c.enabled <;> simp [PollRecord.load, henabled]
  have hapart (j : Fin 8) (hne : i ≠ j) : ((s.pollRecord i).load s.now c).Apart (s.pollRecord j) := by
    intro hi hj e
    simp only [State.addressTaken, Bool.and_eq_false_iff, List.any_eq_false, Bool.and_eq_true, bne_iff_ne, beq_iff_eq,
      not_and] at hfree
    exact hfree.resolve_left (by simpa [PollRecord.load] using hi) j (mem_pollIndices j) ⟨hne.symm, hj⟩ e.symm
  have hset : ((if s.pollingFor i then s.freeLine else s).setPollRecord i ((s.pollRecord i).load s.now c)).PollsKept := by
    refine hline.setPollRecord hload (by split <;> exact hapart) (.inr ?_)
    split
    next => simp [State.freeLine]
    next hpolling =>
      intro f hf e
      simp [State.pollingFor, hf, e] at hpolling
  unfold State.loadPollRecord State.abortTests
  refine State.PollsKept.nextPoll (hset.unchanged ?_ ?_ ?_ ?_)
  all_goals split
  all_goals simp
  all_goals rfl

theorem State.PollsKept.restartPoller : s.restartPoller.PollsKept := by
  have hrecord (i : Fin 8) : s.restartPoller.pollRecord i = (s.pollRecord i).restart s.now := by
    simp [State.restartPoller, State.pollRecord, mapTable]
  refine ⟨by simp [State.restartPoller], fun i => ?_, fun i j hne => ?_, by simp [State.restartPoller]⟩
  · rw [hrecord]
    refine ⟨?_, Nat.zero_le _, fun _ => Nat.succ_pos 2⟩
    cases henabled : (s.pollRecord i).config.enabled <;> simp [PollRecord.restart, henabled]
  · rw [hrecord, hrecord]
    exact h.apart i j hne

theorem State.PollsKept.restart : s.restart.PollsKept := by
  have hzeroed : s.zeroCounters.restartMgmt.restartNet.restartTable.restartCalls.restartSegment.restartEvac.PollsKept := by
    refine h.unchanged ?_ ?_ ?_ ?_ <;> simp
  have hstarted {u : State} (hu : u.PollsKept) : u.restartIntegrity.restartIsolation.restartAir.PollsKept := by
    refine hu.unchanged ?_ ?_ ?_ ?_ <;> simp
  unfold State.restart
  exact State.PollsKept.nextPoll (hstarted hzeroed.restartPoller)

end

theorem State.pollsKept_cold (l : List Instr) (n m : Nat) (straps : Byte) (o i : Bool) :
    (State.cold l n m straps o i).PollsKept := by
  have hrecord (j : Fin 8) : (State.cold l n m straps o i).pollRecord j = PollRecord.cold := getElem_replicate_fin ..
  refine ⟨by simp [State.cold, Poller.cold], fun j => ?_, fun j k _ => ?_, by simp [State.cold, Poller.cold]⟩
  · rw [hrecord]
    exact ⟨by decide, by decide, by decide⟩
  · rw [hrecord, hrecord]
    exact fun he => absurd he (by decide)

/-- Every command's parts keep the poller's promise. -/
theorem State.pollsKept_keeps : Keeps State.PollsKept := by
  have unchanged {s t : State} (h : s.PollsKept) (hrecords : t.poller.records = s.poller.records)
      (hflight : t.poller.inFlight = s.poller.inFlight) (htimer : t.poller.replyTimer = s.poller.replyTimer)
      (hsequence : t.poller.sequence = s.poller.sequence) : t.PollsKept :=
    h.unchanged hrecords hflight htimer hsequence
  obtain ⟨hrequest, hsent, hdown⟩ := State.restart_keeps (P := State.PollsKept) State.PollsKept.restart
    (fun _ h => unchanged h rfl rfl rfl rfl) (fun _ h => unchanged h rfl rfl rfl rfl)
    (fun _ _ h => unchanged h rfl rfl rfl rfl)
    (fun _ h => unchanged h (by simp) (by simp) (by simp) (by simp)) (fun _ h => unchanged h rfl rfl rfl rfl)
  exact {
    restartRequest := hrequest
    frameGone := hsent
    goDown := hdown
    cold := State.pollsKept_cold
    lineMessage := fun m h => State.lineMessage_keeps (P := State.PollsKept) (fun _ => unchanged h rfl rfl rfl rfl)
      (fun _ _ _ _ => h.takeReply _ _)
    missReply := fun _ h => h.missReply _
    nextPoll := State.PollsKept.nextPoll
    loadPoll := fun x f h => State.loadPoll_keeps (P := State.PollsKept) h fun i c _ hfree => h.loadPollRecord hfree }

/-- Settles O13: every part of a command keeps the poller's promise (`State.pollsKept_keeps`). -/
theorem pollerSoundInEveryStep : Obligations.PollerSoundInEveryStep :=
  fun s t h hstep => t.pollerSound_iff.mpr (State.pollsKept_keeps.step (s.pollerSound_iff.mp h) hstep)

/-! ### A record comes due (R40, R41) -/

/-- An event whose work leaves the station entries sends no MUSTER REPORT at its end. -/
theorem exec_settled {i : Instr} {s t : State} (hwork : workOf i { s with scratch := {} } = t)
    (hentries : t.table.entries = s.table.entries) : exec i s = .next t.settled := by
  rw [exec_eq_event, State.event_eq, hwork, State.concluded_eq_settled]
  exact .inl (State.tally_of_entries hentries)

/-- Settles O40: the record is the chosen one (`State.earliestDue_of_least`), and the clock has reached its time. -/
theorem recordDueSendsPoll : Obligations.RecordDueSendsPoll := by
  intro s
  refine ⟨fun i d hfree henabled hdue hleast => ?_, fun hidle => ?_⟩
  · have hchosen : s.earliestDue = some (i, d) :=
      State.earliestDue_of_least (PollRecord.dueTime_eq_some.mpr ⟨henabled, hdue⟩) fun j e hj =>
        have ⟨hj, he⟩ := PollRecord.dueTime_eq_some.mp hj
        hleast j e hj he
    refine exec_settled ?_ rfl
    have htime : State.recordDueTime { s with scratch := {} } = some d := by
      show State.recordDueTime s = some d
      rw [State.recordDueTime, hfree]
      simp only
      rw [hchosen]
      rfl
    have hpoll : (s.at d).nextPoll = (s.at d).sendPoll i := by
      have hchosen' : (s.at d).earliestDue = some (i, d) := hchosen
      rw [State.nextPoll, show (s.at d).poller.inFlight = none from hfree, hchosen']
      exact if_pos (Nat.le_max_right ..)
    show State.recordComesDue { s with scratch := {} } = _
    rw [State.recordComesDue, htime, State.expire_some]
    exact hpoll
  · refine exec_settled ?_ rfl
    have htime : State.recordDueTime { s with scratch := {} } = none := by
      rcases hidle with hflight | hdisabled
      · obtain ⟨f, hf⟩ := Option.isSome_iff_exists.mp hflight
        rw [State.recordDueTime, hf]
      · have hnone : s.earliestDue = none := by
          cases hchosen : s.earliestDue with
          | none => rfl
          | some x =>
            have hx := (PollRecord.dueTime_eq_some.mp (State.earliestDue_eq_some hchosen).1).1
            exact absurd hx (by simp [hdisabled])
        show State.recordDueTime s = none
        rw [State.recordDueTime]
        split
        · rfl
        · rw [hnone]
          rfl
    show State.recordComesDue { s with scratch := {} } = _
    rw [State.recordComesDue, htime, State.expire_none]

/-! ### A line message (R42) -/

theorem Reply.fits_iff {r : Reply} {k : DeviceKind} :
    r.fits k = true ↔ (r.panel.isSome = true ↔ k = .refugePanel) := by
  cases k <;> cases h : r.panel <;> simp [Reply.fits, h]

section

variable {s : State} {m : List Byte}

theorem State.lineMessage_bad (h : checkGood m = false ∨ replyOf m = none) : s.lineMessage m = s.badReply := by
  unfold State.lineMessage
  rcases h with h | h <;> simp [h]

theorem State.lineMessage_reply {r : Reply} (hcheck : checkGood m = true) (hr : replyOf m = some r) :
    s.lineMessage m = s.matchReply r := by
  simp [State.lineMessage, hcheck, hr]

/-- After a choice the poll in flight is the one that was, or a new one with the next sequence. -/
theorem State.nextPoll_timer (s : State) :
    s.nextPoll = s ∨ s.nextPoll.poller.sequence = s.poller.sequence + 1
      ∧ s.nextPoll.poller.replyTimer = some (s.now + 50) := by
  unfold State.nextPoll
  repeat' split
  case h_1.isTrue => exact .inr ⟨rfl, rfl⟩
  all_goals exact .inl rfl

theorem State.nextPoll_counters (s : State) :
    ∃ n, s.nextPoll.poller.counters = { s.poller.counters with pollsSent := n } := by
  unfold State.nextPoll
  repeat' split
  all_goals exact ⟨_, rfl⟩

@[simp] theorem State.concluded_poller (s : State) (before : Tally) : (s.concluded before).poller = s.poller := by
  show (s.musterFollows before).poller = s.poller
  unfold State.musterFollows
  split <;> simp

/-- Whatever was taken with a reply: the line is free, or already polled for another record. -/
theorem State.takeReply_poller (s : State) (i : Fin 8) (r : Reply) :
    ∃ n, (s.takeReply i r).poller.counters
        = { s.poller.counters with repliesTaken := s.poller.counters.repliesTaken + 1, pollsSent := n }
      ∧ ((s.takeReply i r).poller.inFlight = none ∧ (s.takeReply i r).poller.replyTimer = none
        ∨ (s.takeReply i r).poller.sequence = s.poller.sequence + 1
          ∧ (s.takeReply i r).poller.replyTimer = some (s.now + 50)) := by
  unfold State.takeReply
  simp only
  generalize hu : State.feedTests _ i = u
  have hpoller : u.poller = (State.setPollRecord (s.freeLine.countPoller fun k =>
      { k with repliesTaken := k.repliesTaken + 1 }) i (s.pollRecord i).replied).poller := by
    rw [← hu]
    simp
    rfl
  have hnow : u.now = s.now := by
    rw [← hu]
    simp
  obtain ⟨n, hcounters⟩ := u.nextPoll_counters
  refine ⟨n, by rw [hcounters, hpoller]; rfl, ?_⟩
  rcases u.nextPoll_timer with hsame | ⟨hsequence, htimer⟩
  · rw [hsame, hpoller]
    exact .inl ⟨rfl, rfl⟩
  · rw [hsequence, htimer, hpoller, hnow]
    exact .inr ⟨rfl, rfl⟩

end

/-- Settles O41: the classification follows the branches of R42. -/
theorem lineMessagesClassified : Obligations.LineMessagesClassified := by
  intro s m
  have hrun (t : State) (h : State.lineMessage { s with scratch := {} } m = t)
      (hentries : t.table.entries = s.table.entries) : exec (.lineMessageReceived m) s = .next t.settled :=
    exec_settled h hentries
  refine ⟨fun h => hrun _ (State.lineMessage_bad (.inl h)) rfl, fun _ h => hrun _ (State.lineMessage_bad (.inr h)) rfl,
    fun r hcheck hr => ?_⟩
  have hreply := State.lineMessage_reply (s := { s with scratch := {} }) hcheck hr
  refine ⟨fun hfree => hrun _ ?_ rfl, fun f hflight => ⟨fun haddress => hrun _ ?_ rfl, fun haddress hseq => hrun _ ?_ rfl,
    fun haddress hseq hkind => hrun _ ?_ rfl, fun haddress hseq hkind => ?_⟩⟩
  · rw [hreply, State.matchReply, hfree]
    rfl
  · rw [hreply, State.matchReply, hflight]
    exact if_pos haddress
  · rw [hreply, State.matchReply, hflight]
    simp only
    rw [if_neg (not_not.mpr haddress), if_pos hseq]
    rfl
  · have hfits : ¬ r.fits (s.pollRecord f.index).config.kind = true := by
      rw [Reply.fits_iff, hkind]
      cases (s.pollRecord f.index).config.kind <;> simp
    rw [hreply, State.matchReply, hflight]
    simp only
    rw [if_neg (not_not.mpr haddress), if_neg (not_not.mpr hseq)]
    exact if_neg hfits
  · have hfits : r.fits (s.pollRecord f.index).config.kind = true := Reply.fits_iff.mpr hkind
    have htaken : State.lineMessage { s with scratch := {} } m = State.takeReply { s with scratch := {} } f.index r := by
      rw [hreply, State.matchReply, hflight]
      simp only
      rw [if_neg (not_not.mpr haddress), if_neg (not_not.mpr hseq)]
      exact if_pos hfits
    obtain ⟨n, hcounters, hline⟩ := State.takeReply_poller { s with scratch := {} } f.index r
    refine ⟨_, exec_eq_event .., ?_⟩
    rw [State.event_eq]
    have hpoller : ((workOf (.lineMessageReceived m) { s with scratch := {} }).concluded s.tally).poller
        = (State.takeReply { s with scratch := {} } f.index r).poller := by
      rw [← htaken]
      exact State.concluded_poller ..
    rw [hpoller, hcounters]
    exact ⟨rfl, rfl, rfl, hline⟩

end Sys2Proof.Machine

end

section

set_option Elab.async false

/-! PROOF. The parts that the air evaluator, the scanner, the poller's replies and the evacuation state have a share in,
taken apart once for the promises about the station table, the evacuation, the segment and the leg table. -/

namespace Sys2Proof.Machine

/-- What a promise that does not read channels, poller and scanner must keep, for every command to keep it. A part that
is not written out is one that leaves what the promise reads as it was. -/
structure KeepsBlocks (P : State → Prop) : Prop extends KeepsShell P where
  integ : ∀ {s : State} (x : Integrity), P s → P { s with integ := x } := by
    intros; apply unchanged ‹_› <;> simp
  poller : ∀ {s : State} (x : Poller), P s → P { s with poller := x } := by
    intros; apply unchanged ‹_› <;> simp
  permits : ∀ {s : State} (v : Vector PermitRange 4), P s → P { s with calls := { s.calls with permits := v } } := by
    intros; apply unchanged ‹_› <;> simp
  routes : ∀ {s : State} (v : Vector Route 11), P s → P { s with evac := { s.evac with routes := v } } := by
    intros; apply unchanged ‹_› <;> simp
  setFlag : ∀ {s : State} (f : Flag), P s → P (s.setFlag f) := by intros; apply unchanged ‹_› <;> simp
  countEvac : ∀ {s : State} (f : EvacCounters → EvacCounters), P s → P (s.countEvac f) := by
    intros; apply unchanged ‹_› <;> simp
  updateChannel : ∀ {s : State} (c : Fin 16) (x : Channel), P s → P (s.updateChannel c x) := by
    intros; apply unchanged ‹_› <;> simp
  setChannel : ∀ {s : State} (c : Fin 16) (x : Channel), P s → P (s.setChannel c x) := by
    intros; apply unchanged ‹_› <;> simp
  startReportTimer : ∀ {s : State}, P s → P s.startReportTimer := by intros; apply unchanged ‹_› <;> simp
  respond : ∀ {s : State} (rq : Request) (c : Cause) (data : List Byte), P s → P (s.respond rq c data) := by
    intros; apply unchanged ‹_› <;> simp
  loadPinWindow : ∀ {s : State} (i : Fin 4) (w : PinWindow), P s → P (s.loadPinWindow i w) := by
    intros; apply unchanged ‹_› <;> simp
  loadShedEntry : ∀ {s : State} (i : Fin 4) (c : ShedConfig), P s → P (s.loadShedEntry i c) := by
    intros; apply unchanged ‹_› <;> simp
  learn : ∀ {s : State} (a : Addr) (l : Location), P s → P (s.learn a l) := by
    intros; apply unchanged ‹_› <;> simp
  storePanel : ∀ {s : State} (i : Fin 8) (c : PanelContents), P s → P (s.storePanel i c.clean) := by
    intros; apply unchanged ‹_› <;> simp
  emptyPanel : ∀ {s : State} (i : Fin 8), P s → P (s.emptyPanel i) := by intros; apply unchanged ‹_› <;> simp
  enterEvacuate : ∀ {s : State}, s.evac.state = .quiet → P s → P s.enterEvacuate := by
    intros; apply unchanged ‹_› <;> simp
  leaveEvacuate : ∀ {s : State}, s.evac.state = .evacuate → s.triggered = false → P s → P s.leaveEvacuate := by
    intros; apply unchanged ‹_› <;> simp
  noticeRound : ∀ {s : State}, s.evac.state = .evacuate → P s → P s.noticeRound.startRepeat := by
    intros; apply unchanged ‹_› <;> simp
  regrade : ∀ {s : State}, P s → P s.regrade
  takeParameters : ∀ {s : State} (p : Parameters), P s → P (s.takeParameters p)

/-- A promise of both branches. -/
theorem ite_keeps {P : State → Prop} {c : Prop} [Decidable c] {a b : State} (ha : c → P a) (hb : ¬ c → P b) :
    P (if c then a else b) := by
  split
  next h => exact ha h
  next h => exact hb h

section

variable {P : State → Prop} {s : State}

/-! ### The own-grade test and a change of the grades (R24, R25, R29, R139, R150) -/

theorem State.testOwnGrade_keeps (henter : ∀ {s : State}, s.evac.state = .quiet → P s → P s.enterEvacuate) (h : P s) :
    P s.testOwnGrade := by
  unfold State.testOwnGrade
  split
  next hboth => exact henter hboth.1 h
  · exact h

theorem State.testBreaches_keeps (hbreach : ∀ {s : State} (i : Fin 8), P s → P (s.testBreach i)) (h : P s) :
    P s.testBreaches :=
  List.foldlRecOn (motive := P) _ _ h (fun _ hu i _ => hbreach i hu)

/-- The grades are replaced and told, then the segment arbiter and the evacuation controller are handed a new zone
grade. -/
theorem State.regrade_keeps (hgrades : ∀ {s : State} (z r : Grade) (a b : Bool), P s → P ((s.setGrades z r).gradeNotices a b))
    (hseg : ∀ {s : State} (old new : Grade), P s → P (s.segZone old new))
    (henter : ∀ {s : State}, s.evac.state = .quiet → P s → P s.enterEvacuate)
    (hbreach : ∀ {s : State} (i : Fin 8), P s → P (s.testBreach i)) (h : P s) : P s.regrade := by
  unfold State.regrade
  simp only
  split
  · exact hgrades _ _ _ _ h
  · exact State.testBreaches_keeps hbreach (State.testOwnGrade_keeps henter (hseg _ _ (hgrades _ _ _ _ h)))

/-- New parameters: the report timers, the isolation timer, the summaries, then the own-grade test (R194, R195). -/
theorem State.takeParameters_keeps {p : Parameters} (hset : P (State.startIsolation (State.startStatus
      (State.startReportTimer { s with mgmt := { s.mgmt with parameters := p } }))))
    (hsummary : ∀ {s : State} (g : Group), P s → P (s.refreshSummary g))
    (henter : ∀ {s : State}, s.evac.state = .quiet → P s → P s.enterEvacuate) : P (s.takeParameters p) :=
  State.testOwnGrade_keeps henter (List.foldlRecOn (motive := P) _ _ hset (fun _ hu g _ => hsummary g hu))

end

section

variable {P : State → Prop} (k : KeepsBlocks P) {s : State}
include k

/-! ### The evacuation state (R140 to R143) -/

theorem KeepsBlocks.orderedOut (h : P s) : P s.orderedOut := by
  unfold State.orderedOut
  split
  next hquiet => exact k.enterEvacuate hquiet h
  next hevacuate => exact k.noticeRound hevacuate h

theorem KeepsBlocks.stoodDown (h : P s) : P s.stoodDown.1 := by
  unfold State.stoodDown
  split
  · exact h
  next hevacuate =>
    split
    · dsimp only
      exact k.countEvac _ h
    next hgrade => exact k.leaveEvacuate hevacuate (Bool.not_eq_true _ ▸ hgrade) h

theorem KeepsBlocks.standDownRequest (h : P s) : P s.standDownRequest.1 := by
  have hdown := k.stoodDown h
  unfold State.standDownRequest
  split
  next e => rwa [e] at hdown
  next e => rwa [e] at hdown

theorem KeepsBlocks.evacuateOrder (f : Frame) (h : P s) : P (s.evacuateOrder f) := by
  unfold State.evacuateOrder
  split
  · split
    · exact k.orderedOut h
    · exact h
  · exact k.countEvac _ h

theorem KeepsBlocks.standDownOrder (f : Frame) (h : P s) : P (s.standDownOrder f) := by
  unfold State.standDownOrder
  split
  · split
    · exact k.stoodDown h
    · exact h
  · exact k.countEvac _ h

theorem KeepsBlocks.zoneGradeNotice (f : Frame) (h : P s) : P (s.zoneGradeNotice f) := by
  unfold State.zoneGradeNotice
  split
  · split
    · split
      · split
        next hboth => exact k.enterEvacuate hboth.1 h
        · exact h
      · exact k.countEvac _ h
    · exact k.countEvac _ h
  · exact k.countEvac _ h

/-! ### The scanner (R179 to R183) -/

theorem KeepsBlocks.suspendScan (h : P s) : P s.suspendScan := by
  unfold State.suspendScan
  split
  · exact h
  · exact k.integ _ (k.integ _ h)

theorem KeepsBlocks.protectedWrite (h : P s) : P s.protectedWrite := by
  unfold State.protectedWrite
  split
  · exact h
  · exact k.regrade (k.suspendScan h)

theorem KeepsBlocks.setIntegrity (x : IntegrityState) (h : P s) : P (s.setIntegrity x) := by
  unfold State.setIntegrity
  split
  · exact h
  · exact k.regrade (k.integ _ h)

theorem KeepsBlocks.compare (x : Word) (h : P s) : P (s.compare x) := by
  unfold State.compare
  simp only
  split
  · exact k.setIntegrity _ (k.integ _ (k.integ _ h))
  · refine k.setIntegrity _ ?_
    split
    · exact k.setFlag _ (k.integ _ (k.integ _ (k.integ _ h)))
    · exact k.integ _ (k.integ _ (k.integ _ h))

theorem KeepsBlocks.scanStep (h : P s) : P s.scanStep := by
  unfold State.scanStep
  simp only
  split
  · exact k.integ _ h
  · exact k.compare _ (k.integ _ h)

theorem KeepsBlocks.suspensionExpires (h : P s) : P s.suspensionExpires := by
  unfold State.suspensionExpires
  exact k.setIntegrity _ (k.integ _ (k.integ _ (k.setFlag _ (k.integ _ h))))

theorem KeepsBlocks.setStoredCheck (v : Word) (h : P s) : P (s.setStoredCheck v) := by
  unfold State.setStoredCheck
  exact k.setIntegrity _ (k.integ _ (k.integ _ h))

/-! ### Channels and their tests (R7, R10, R22, R28, R33) -/

theorem KeepsBlocks.takeReading (c : Fin 16) (r : Reading) (h : P s) : P (s.takeReading c r) := by
  unfold State.takeReading
  split
  · exact k.updateChannel _ _ h
  · exact h

theorem KeepsBlocks.takeReadings (i : Fin 8) (first second : Reading) (h : P s) : P (s.takeReadings i first second) :=
  k.regrade (k.takeReading _ _ (k.takeReading _ _ h))

theorem KeepsBlocks.deviceGone (i : Fin 8) (h : P s) : P (s.deviceGone i) :=
  k.regrade (k.updateChannel _ _ (k.updateChannel _ _ h))

theorem KeepsBlocks.endTest (c : Fin 16) (o : TestOutcome) (h : P s) : P (s.endTest c o) := by
  unfold State.endTest
  split
  · exact k.respond _ _ _ (k.setFlag _ (k.setChannel _ _ h))
  · exact h

theorem KeepsBlocks.feedTest (c : Fin 16) (h : P s) : P (s.feedTest c) := by
  unfold State.feedTest
  split
  · simp only
    split
    · exact k.endTest _ _ (k.setChannel _ _ h)
    · exact k.setChannel _ _ h
  · exact h

theorem KeepsBlocks.feedTests (i : Fin 8) (h : P s) : P (s.feedTests i) := k.feedTest _ (k.feedTest _ h)

theorem KeepsBlocks.loadChannelRecord (c : Fin 16) (r : ChannelRecord) (h : P s) : P (s.loadChannelRecord c r) :=
  k.updateChannel _ _ (k.endTest _ _ h)

/-! ### The poller (R38, R43, R44) -/

theorem KeepsBlocks.handPanel (i : Fin 8) (p : Option PanelContents) (h : P s) : P (s.handPanel i p) := by
  unfold State.handPanel
  split
  · exact k.storePanel _ _ h
  · exact h

theorem KeepsBlocks.takeReply (i : Fin 8) (r : Reply) (h : P s) : P (s.takeReply i r) := by
  have hread {u : State} (hu : P u) : P ((u.learn r.address .fieldHere).takeReadings i r.first r.second) :=
    k.takeReadings _ _ _ (k.learn _ _ hu)
  unfold State.takeReply
  refine k.nextPoll (k.feedTests _ (k.handPanel _ _ (hread ?_)))
  exact k.poller _ (k.poller _ (k.poller _ h))

theorem KeepsBlocks.missReply (i : Fin 8) (h : P s) : P (s.missReply i) := by
  have hcounted {u : State} (hu : P u) (f : PollerCounters → PollerCounters) : P (u.countPoller f) := k.poller _ hu
  unfold State.missReply
  refine k.nextPoll (k.feedTests _ (hcounted ?_ _))
  split
  · refine k.deviceGone _ ?_
    exact k.poller _ (k.poller _ h)
  · exact k.poller _ (k.poller _ h)

theorem KeepsBlocks.loadPollRecord (i : Fin 8) (c : PollConfig) (h : P s) : P (s.loadPollRecord i c) := by
  unfold State.loadPollRecord State.abortTests
  refine k.nextPoll (k.emptyPanel _ (k.endTest _ _ (k.endTest _ _ ?_)))
  split
  · exact k.poller _ (k.poller _ h)
  · exact k.poller _ h

/-! ### The restart (R200) -/

theorem KeepsBlocks.restartAir (h : P s) : P s.restartAir :=
  k.startReportTimer (k.regrade (List.foldlRecOn (motive := P) _ _ h (fun _ hu c _ => k.updateChannel c _ hu)))

/-- A restart keeps a promise that its first blocks, up to the evacuation controller, keep. -/
theorem KeepsBlocks.restart
    (hhead : P s.zeroCounters.restartMgmt.restartNet.restartTable.restartCalls.restartSegment.restartEvac) :
    P s.restart := by
  have hpoller {u : State} (hu : P u) : P u.restartPoller := k.poller _ hu
  have hinteg {u : State} (hu : P u) : P u.restartIntegrity := k.integ _ (k.integ _ hu)
  have hisolation {u : State} (hu : P u) : P u.restartIsolation := k.surfaceHeard hu
  unfold State.restart
  exact k.nextPoll (k.restartAir (hisolation (hinteg (hpoller hhead))))

/-! ### Every command -/

/-- The parts of the blocks, and the commands that can bring a restart, make up the parts of the commands. -/
theorem KeepsBlocks.keeps (hrestart : (∀ {s : State} (rq : Request), P s → P (s.restartRequest rq).1)
    ∧ (∀ {s : State} (p : Port), P s → P (s.frameGone p)) ∧ ∀ {s : State} (p : Backbone), P s → P (s.goDown p)) :
    Keeps P := {
  k.toKeepsShell with
  restartRequest := hrestart.1
  frameGone := hrestart.2.1
  goDown := hrestart.2.2
  zoneGradeNotice := fun f h => k.zoneGradeNotice f h
  evacuateOrder := fun f h => k.evacuateOrder f h
  standDownOrder := fun f h => k.standDownOrder f h
  loadChannel := fun x f h => State.loadChannel_keeps h fun c r _ _ => k.regrade (k.suspendScan (k.loadChannelRecord c r h))
  loadPoll := fun x f h => State.loadPoll_keeps h fun i c _ _ => k.loadPollRecord i c h
  loadPin := fun x f h => State.loadPin_keeps h fun i w => k.protectedWrite (k.loadPinWindow i w h)
  loadPermit := fun x f h => State.loadPermit_keeps h fun i r => k.protectedWrite (k.permits _ h)
  loadRoute := fun x f h => State.loadRoute_keeps h fun i r => k.protectedWrite (k.routes _ h)
  loadShed := fun x f h => State.loadShed_keeps h fun i c => k.protectedWrite (k.loadShedEntry i c h)
  loadParameters := fun f h => by
    unfold State.loadParameters
    split
    · exact h
    · exact k.takeParameters _ h
  setCheck := fun v h => k.setStoredCheck v h
  resetTrip := fun b h => State.resetTrip_keeps h fun c => k.regrade (k.updateChannel _ _ h)
  testChannel := fun rq b v n h => State.testChannel_keeps h fun c _ _ _ _ => k.setChannel _ _ h
  evacuateRequest := fun h => k.orderedOut h
  standDownRequest := fun h => k.standDownRequest h
  lineMessage := fun m h => State.lineMessage_keeps (fun _ => k.poller _ h) (fun _ _ _ _ => k.takeReply _ _ h)
  missReply := fun _ h => k.missReply _ h
  staleExpires := fun _ h => k.regrade (k.updateChannel _ _ h)
  scanStep := fun _ h => k.scanStep h
  suspensionExpires := fun _ h => k.suspensionExpires h }

end

end Sys2Proof.Machine

end

section

set_option Elab.async false

/-! PROOF. The station table (R51 to R64): the list of entries under each of its changes, the table's operations taken
apart once, and that every command keeps the table an ordered map within its limits. -/

namespace Sys2Proof.Machine

/-! ### The list of entries -/

/-- The entries stand in ascending address order, one for an address (R51). -/
def Ascending (l : List Entry) : Prop := l.Pairwise (fun a b => a.address.toNat < b.address.toNat)

theorem Ascending.unique {l : List Entry} (h : Ascending l) {x y : Entry} (hx : x ∈ l) (hy : y ∈ l)
    (e : x.address = y.address) : x = y := by
  have hnodup : (l.map (fun e => e.address)).Nodup := by
    rw [List.Nodup, List.pairwise_map]
    exact h.imp (fun hlt heq => by simp [heq] at hlt)
  exact List.inj_on_of_nodup_map hnodup hx hy e

theorem findEntry_eq_some {l : List Entry} {a : Addr} {e : Entry} (h : findEntry l a = some e) :
    e ∈ l ∧ e.address = a :=
  ⟨List.mem_of_find?_eq_some h, by simpa using List.find?_some h⟩

theorem findEntry_eq_none {l : List Entry} {a : Addr} : findEntry l a = none ↔ ∀ e ∈ l, e.address ≠ a := by
  simp [findEntry]

theorem Ascending.findEntry {l : List Entry} (h : Ascending l) {e : Entry} (he : e ∈ l) :
    findEntry l e.address = some e := by
  cases hf : Machine.findEntry l e.address with
  | none => exact absurd rfl (findEntry_eq_none.mp hf e he)
  | some x =>
    obtain ⟨hx, haddress⟩ := findEntry_eq_some hf
    rw [h.unique hx he haddress]

theorem insertEntry_perm (e : Entry) (l : List Entry) : (insertEntry e l).Perm (e :: l) := by
  induction l with
  | nil => exact List.Perm.refl _
  | cons x l ih =>
    unfold insertEntry
    split
    · exact List.Perm.refl _
    · exact (ih.cons x).trans (List.Perm.swap e x l)

theorem mem_insertEntry {e x : Entry} {l : List Entry} : x ∈ insertEntry e l ↔ x = e ∨ x ∈ l := by
  rw [(insertEntry_perm e l).mem_iff, List.mem_cons]

/-- A new address goes to its place (R51). -/
theorem Ascending.insert {l : List Entry} (h : Ascending l) {e : Entry} (hnew : ∀ x ∈ l, x.address ≠ e.address) :
    Ascending (insertEntry e l) := by
  induction l with
  | nil => exact List.pairwise_singleton _ _
  | cons x l ih =>
    obtain ⟨hx, hl⟩ := List.pairwise_cons.mp h
    unfold insertEntry
    split
    next hlt =>
      refine List.pairwise_cons.mpr ⟨fun y hy => ?_, h⟩
      rcases List.mem_cons.mp hy with rfl | hy
      · exact hlt
      · exact hlt.trans (hx y hy)
    next hge =>
      have hne : x.address.toNat ≠ e.address.toNat :=
        fun heq => hnew x List.mem_cons_self (BitVec.eq_of_toNat_eq heq)
      refine List.pairwise_cons.mpr ⟨fun y hy => ?_, ih hl (fun y hy => hnew y (List.mem_cons_of_mem _ hy))⟩
      rcases mem_insertEntry.mp hy with rfl | hy
      · omega
      · exact hx y hy

/-- A rewrite of entries that keeps their addresses keeps their order. -/
theorem Ascending.map {l : List Entry} (h : Ascending l) {f : Entry → Entry} (hf : ∀ e, (f e).address = e.address) :
    Ascending (l.map f) := by
  rw [Ascending, List.pairwise_map]
  exact h.imp (fun hlt => by rwa [hf, hf])

theorem Ascending.remove {l : List Entry} (h : Ascending l) (a : Addr) : Ascending (removeEntry a l) :=
  h.filter _

theorem replaceEntry_address (e x : Entry) : (if x.address = e.address then e else x).address = x.address := by
  split
  next h => exact h.symm
  · rfl

theorem removeEntry_length_lt {l : List Entry} {e : Entry} (he : e ∈ l) :
    (removeEntry e.address l).length < l.length :=
  List.length_filter_lt_length_iff_exists.mpr ⟨e, he, by simp⟩

/-- The entry that gives way stands in the table, and may be removed (R57). -/
theorem victimFrom_mem {p : Entry → Bool} {l : List Entry} : ∀ {best : Option Entry} {e : Entry},
    victimFrom p best l = some e → best = some e ∨ e ∈ l ∧ p e = true := by
  induction l with
  | nil => exact fun h => .inl h
  | cons x l ih =>
    intro best e h
    have hpick {b : Bool} (hb : (if p x && b then some x else best) = some e) : best = some e ∨ x = e ∧ p x = true := by
      split at hb
      next hx => exact .inr ⟨Option.some.inj hb, (Bool.and_eq_true_iff.mp hx).1⟩
      · exact .inl hb
    rcases ih h with hbest | ⟨hmem, hp⟩
    · rcases hpick hbest with hb | ⟨rfl, hx⟩
      · exact .inl hb
      · exact .inr ⟨List.mem_cons_self, hx⟩
    · exact .inr ⟨List.mem_cons_of_mem _ hmem, hp⟩

/-- The running count of pinned entries stays within the capacity (R62). -/
theorem pinnedCount_repin (t : Table) (l : List Entry) : ∀ n ≤ pinCapacity,
    n + pinnedCount (repin t n l) ≤ pinCapacity := by
  induction l with
  | nil => exact fun n hn => by simpa [repin, pinnedCount] using hn
  | cons e l ih =>
    intro n hn
    have hcons (b : Bool) (l' : List Entry) :
        pinnedCount ({ e with pinned := b } :: l') = pinnedCount l' + if b then 1 else 0 := by
      simp [pinnedCount, List.countP_cons]
    unfold repin
    simp only [hcons]
    split
    next hp =>
      have hroom : n < pinCapacity := by simpa using (Bool.and_eq_true_iff.mp hp).2
      have := ih (n + 1) hroom
      omega
    next => simpa using ih n hn

theorem repin_address (t : Table) (l : List Entry) : ∀ n,
    (repin t n l).map (fun e => e.address) = l.map (fun e => e.address) := by
  induction l with
  | nil => exact fun _ => rfl
  | cons e l ih => exact fun n => congrArg (List.cons e.address) (ih _)

/-- Only the pins change (R62). -/
theorem mem_repin {t : Table} {l : List Entry} {x : Entry} : ∀ {n}, x ∈ repin t n l →
    ∃ e ∈ l, x = { e with pinned := x.pinned } := by
  induction l with
  | nil => exact fun h => absurd h List.not_mem_nil
  | cons e l ih =>
    intro n h
    rcases List.mem_cons.mp h with rfl | h
    · exact ⟨e, List.mem_cons_self, rfl⟩
    · obtain ⟨y, hy, hx⟩ := ih h
      exact ⟨y, List.mem_cons_of_mem _ hy, hx⟩

theorem ascending_iff (l : List Entry) : Ascending l ↔ (l.map (fun e => e.address)).Pairwise (fun a b => a.toNat < b.toNat) := by
  rw [List.pairwise_map]
  rfl

/-! ### The operations of the table -/

section

variable (s : State)

@[simp] theorem State.rewriteEntry_entries (old new : Entry) :
    (s.rewriteEntry old new).table.entries = replaceEntry new s.table.entries := by
  unfold State.rewriteEntry
  simp only
  repeat' split
  all_goals simp [State.setEntries]

@[simp] theorem State.dropEntry_entries (e : Entry) :
    (s.dropEntry e).table.entries = removeEntry e.address s.table.entries := by
  unfold State.dropEntry
  simp only
  split <;> simp [State.setEntries]

/-- The entry that a creation puts in the table (R52, R61). -/
def State.newEntry (a : Addr) (l : Location) (attach : Option Addr) : Entry :=
  { address := a, location := l, age := 0
    pinned := s.table.matches a && decide (pinnedCount s.table.entries < pinCapacity)
    mark := .none, attach := attach }

@[simp] theorem State.insertNew_entries (a : Addr) (l : Location) (attach : Option Addr) :
    (s.insertNew a l attach).table.entries = insertEntry (s.newEntry a l attach) s.table.entries := by
  unfold State.insertNew
  simp only
  split <;> simp [State.setEntries, State.newEntry]

end

/-- What a promise about the entries must keep, for every operation of the table to keep it. -/
structure KeepsEntries (P : State → Prop) : Prop where
  /-- An entry with its address, mark and pin, and no higher age, takes the place of the one that was. -/
  rewrite : ∀ {s : State} {old new : Entry}, s.entry? new.address = some old → new.mark = old.mark →
    new.pinned = old.pinned → new.age ≤ old.age → P s → P (s.rewriteEntry old new)
  drop : ∀ {s : State} {e : Entry}, e ∈ s.table.entries → P s → P (s.dropEntry e)
  insert : ∀ {s : State} {a : Addr} (l : Location) (attach : Option Addr), s.entry? a = none → s.nodeAddr? ≠ some a →
    s.table.entries.length < tableCapacity → P s → P (s.insertNew a l attach)
  /-- A new entry in a full table, after the one that gave way (R57). -/
  evict : ∀ {s : State} {a : Addr} {e : Entry} (l : Location) (attach : Option Addr) (f : TableCounters → TableCounters),
    e ∈ s.table.entries → s.entry? a = none → s.nodeAddr? ≠ some a → P s →
    P (((s.dropEntry e).countTable f).insertNew a l attach)
  older : ∀ {s : State}, P s → P (s.setEntries (s.table.entries.map Entry.older))
  countTable : ∀ {s : State} (f : TableCounters → TableCounters), P s → P (s.countTable f)
  setFlag : ∀ {s : State} (f : Flag), P s → P (s.setFlag f)

section

variable {P : State → Prop} (k : KeepsEntries P) {s : State}
include k

theorem KeepsEntries.createEntry {a : Addr} (hnew : s.entry? a = none) (l : Location) (attach : Option Addr) (h : P s) :
    P (s.createEntry a l attach) := by
  unfold State.createEntry State.makeRoom
  split
  · exact h
  next hown =>
    split
    next t ht =>
      split at ht
      next hroom =>
        obtain rfl : s = t := Option.some.inj ht
        exact k.insert l attach hnew hown hroom h
      next hfull =>
        split at ht
        next e he =>
          obtain rfl := Option.some.inj ht
          exact k.evict l attach _ ((victimFrom_mem he).resolve_left (by simp)).1 hnew hown h
        · cases ht
    · exact k.setFlag _ (k.countTable _ h)

theorem KeepsEntries.learn (a : Addr) (l : Location) (h : P s) : P (s.learn a l) := by
  unfold State.learn
  split
  next e he =>
    split
    · exact h
    · exact k.rewrite ((findEntry_eq_some he).2 ▸ he) rfl rfl (Nat.zero_le _) h
  next hnew => exact k.createEntry hnew _ _ h

theorem KeepsEntries.learnAnnounce (a : Addr) (l : Location) (attach : Addr) (h : P s) : P (s.learnAnnounce a l attach) := by
  unfold State.learnAnnounce
  split
  next e he =>
    split
    · exact k.learn _ _ h
    · exact k.rewrite ((findEntry_eq_some he).2 ▸ he) rfl rfl (Nat.zero_le _) h
  next hnew => exact k.createEntry hnew _ _ h

theorem KeepsEntries.learnFrame (hmoved : ∀ {s : State} (a : Addr), P s → P (s.unitMoved a)) (p : Port) (f : Frame) (h : P s) :
    P (s.learnFrame p f) := by
  unfold State.learnFrame
  split
  · have hlearnt := k.learnAnnounce f.src (learntLocation p) ‹_› h
    simp only
    split
    · exact hlearnt
    · exact hmoved _ hlearnt
  · exact k.learn _ _ h

theorem KeepsEntries.createForMuster (a : Addr) (h : P s) : P (s.createForMuster a) := by
  unfold State.createForMuster
  split
  · exact h
  next hnew => exact k.createEntry hnew _ _ h

theorem KeepsEntries.ageEntry (a : Addr) (h : P s) : P (s.ageEntry a) := by
  unfold State.ageEntry State.timeOut
  split
  next e he =>
    split
    · split
      · exact k.countTable _ (k.drop (findEntry_eq_some he).1 h)
      · exact k.rewrite ((findEntry_eq_some he).2 ▸ he) rfl rfl (Nat.le_refl _) h
    · exact h
  · exact h

theorem KeepsEntries.ageTable (h : P s) : P s.ageTable :=
  List.foldlRecOn (motive := P) _ _ (k.older h) (fun _ hu a _ => k.ageEntry a hu)

end

/-- What a promise about the entries that does not read marks and panels must keep, for the evacuation's operations to
keep it. -/
structure KeepsTags (P : State → Prop) : Prop extends KeepsEntries P where
  setMark : ∀ {s : State} (a : Addr) (m : Muster), P s → P (s.setMark a m)
  unmark : ∀ {s : State}, P s → P (s.setEntries (s.table.entries.map (fun e => { e with mark := .none })))
  setPanel : ∀ {s : State} (i : Fin 8) (p : Panel), P s → P (s.setPanel i p) := by
    intros; apply unchanged ‹_› <;> simp
  testBreach : ∀ {s : State} (i : Fin 8), P s → P (s.testBreach i) := by intros; apply unchanged ‹_› <;> simp
  setEvacState : ∀ {s : State} (x : EvacState), P s → P (s.setEvacState x) := by
    intros; apply unchanged ‹_› <;> simp
  countEvac : ∀ {s : State} (f : EvacCounters → EvacCounters), P s → P (s.countEvac f) := by
    intros; apply unchanged ‹_› <;> simp
  limitsChanged : ∀ {s : State} (n : Nat) (m : Priority) (c : ClearCause), P s → P (s.limitsChanged n m c) := by
    intros; apply unchanged ‹_› <;> simp
  noticeRound : ∀ {s : State}, P s → P s.noticeRound.startRepeat := by intros; apply unchanged ‹_› <;> simp
  musterReport : ∀ {s : State}, P s → P s.musterReport := by intros; apply unchanged ‹_› <;> simp
  stopRepeat : ∀ {s : State}, P s → P s.stopRepeat := by intros; apply unchanged ‹_› <;> simp

section

variable {P : State → Prop} (k : KeepsTags P) {s : State}
include k

theorem KeepsTags.applyTags (tags : List Addr) (h : P s) : P (s.applyTags tags) :=
  List.foldlRecOn (motive := P) _ _ h (fun _ hu a _ => k.setMark a .inRefuge (k.createForMuster a hu))

theorem KeepsTags.releaseTags (tags : List Addr) (h : P s) : P (s.releaseTags tags) := by
  refine List.foldlRecOn (motive := P) _ _ h (fun u hu a _ => ?_)
  unfold State.untagUnit
  split
  · split
    · exact k.setMark a .notified hu
    · exact hu
  · exact hu

theorem KeepsTags.storePanel (i : Fin 8) (c : PanelContents) (h : P s) : P (s.storePanel i c) := by
  have hset : P (s.setPanel i ((s.panel i).store c)) := k.setPanel i _ h
  unfold State.storePanel
  refine k.testBreach i (ite_keeps (fun _ => k.releaseTags _ (k.applyTags _ ?_)) (fun _ => ?_))
  all_goals exact ite_keeps (fun _ => k.setFlag _ hset) (fun _ => hset)

theorem KeepsTags.emptyPanel (i : Fin 8) (h : P s) : P (s.emptyPanel i) := by
  unfold State.emptyPanel
  exact ite_keeps (fun _ => k.releaseTags _ (k.setPanel i _ h)) (fun _ => k.setPanel i _ h)

theorem KeepsTags.enterEvacuate (h : P s) : P s.enterEvacuate := by
  unfold State.enterEvacuate
  refine k.musterReport (State.testBreaches_keeps k.testBreach (k.noticeRound (List.foldlRecOn (motive := P) _ _ ?_
    (fun _ hu i _ => k.applyTags _ hu))))
  exact k.limitsChanged _ _ _ (k.setFlag _ (k.countEvac _ (k.setEvacState _ h)))

theorem KeepsTags.leaveEvacuate (h : P s) : P s.leaveEvacuate := by
  unfold State.leaveEvacuate
  exact k.musterReport (k.stopRepeat (k.unmark (k.setFlag _ (k.setEvacState _ h))))

theorem KeepsTags.evacAck (f : Frame) (h : P s) : P (s.evacAck f) := by
  unfold State.evacAck
  split
  · simp only
    split
    · split
      · exact k.setMark _ _ (k.countEvac _ h)
      · exact k.countEvac _ h
    · exact k.countEvac _ h
  · exact k.countEvac _ h

end

/-! ### The promise about the table (R51, R61 to R63) -/

/-- The promise, of the node's own address and the entries. -/
structure EntriesKept (own : Option Addr) (l : List Entry) : Prop where
  ascending : Ascending l
  room : l.length ≤ tableCapacity
  pins : pinnedCount l ≤ pinCapacity
  each : ∀ e ∈ l, own ≠ some e.address ∧ e.age ≤ 65535

theorem State.tableSound_iff (s : State) : s.TableSound ↔ EntriesKept s.nodeAddr? s.table.entries :=
  ⟨fun ⟨hascending, hroom, hpins, heach⟩ => ⟨hascending, hroom, hpins, heach⟩,
    fun ⟨hascending, hroom, hpins, heach⟩ => ⟨hascending, hroom, hpins, heach⟩⟩

section

variable {own : Option Addr} {l : List Entry} (h : EntriesKept own l)
include h

/-- Every entry keeps its address and its pin, and is at most 65535 old. -/
theorem EntriesKept.map {f : Entry → Entry} (haddress : ∀ e, (f e).address = e.address)
    (hpinned : ∀ e ∈ l, (f e).pinned = e.pinned) (hage : ∀ e ∈ l, (f e).age ≤ 65535) : EntriesKept own (l.map f) := by
  refine ⟨h.ascending.map haddress, by rw [List.length_map]; exact h.room, ?_, ?_⟩
  · rw [pinnedCount, List.countP_map]
    exact (List.countP_congr (fun e he => by simp [hpinned e he])).trans_le h.pins
  · intro e he
    obtain ⟨x, hx, rfl⟩ := List.mem_map.mp he
    exact ⟨haddress x ▸ (h.each x hx).1, hage x hx⟩

/-- An entry takes the place of the one of its address, with the same pin. -/
theorem EntriesKept.replace {old new : Entry} (hold : findEntry l new.address = some old)
    (hpinned : new.pinned = old.pinned) (hage : new.age ≤ 65535) : EntriesKept own (replaceEntry new l) := by
  obtain ⟨hmem, haddress⟩ := findEntry_eq_some hold
  refine h.map (replaceEntry_address new) (fun x hx => ?_) (fun x hx => ?_)
  · split
    next e => rw [hpinned, h.ascending.unique hx hmem (e.trans haddress.symm)]
    · rfl
  · split
    · exact hage
    · exact (h.each x hx).2

theorem EntriesKept.remove (a : Addr) : EntriesKept own (removeEntry a l) :=
  ⟨h.ascending.remove a, (List.length_filter_le _ _).trans h.room,
    (List.filter_sublist.countP_le).trans h.pins, fun e he => h.each e (List.mem_of_mem_filter he)⟩

/-- A new address, with a pin only where there is room for one (R61). -/
theorem EntriesKept.insert {e : Entry} (hnew : findEntry l e.address = none) (hown : own ≠ some e.address)
    (hroom : l.length < tableCapacity) (hpin : e.pinned = true → pinnedCount l < pinCapacity) (hage : e.age ≤ 65535) :
    EntriesKept own (insertEntry e l) := by
  refine ⟨h.ascending.insert (findEntry_eq_none.mp hnew), ?_, ?_, ?_⟩
  · rw [(insertEntry_perm e l).length_eq]
    exact hroom
  · rw [pinnedCount, (insertEntry_perm e l).countP_eq, List.countP_cons]
    split
    next hp => exact hpin hp
    · exact h.pins
  · intro x hx
    rcases mem_insertEntry.mp hx with rfl | hx
    · exact ⟨hown, hage⟩
    · exact h.each x hx

theorem EntriesKept.repin (t : Table) : EntriesKept own (repin t 0 l) := by
  have hpins := pinnedCount_repin t l 0 (Nat.zero_le _)
  refine ⟨?_, ?_, by omega, fun x hx => ?_⟩
  · rw [ascending_iff, repin_address, ← ascending_iff]
    exact h.ascending
  · rw [← List.length_map (f := fun e : Entry => e.address), repin_address, List.length_map]
    exact h.room
  · obtain ⟨e, he, hxe⟩ := mem_repin hx
    rw [hxe]
    exact h.each e he

end

/-- The promise of a state. -/
def State.TableKept (s : State) : Prop := EntriesKept s.nodeAddr? s.table.entries

section

variable {s : State} (h : s.TableKept)
include h

theorem State.TableKept.unchanged {t : State} (hstraps : t.net.straps = s.net.straps)
    (hentries : t.table.entries = s.table.entries) : t.TableKept := by
  have hown : t.nodeAddr? = s.nodeAddr? := by
    rw [State.nodeAddr?, State.nodeAddr?, Net.nodeAddr?, Net.nodeAddr?, hstraps]
  rw [State.TableKept, hown, hentries]
  exact h

omit h in
/-- The entries have changed, and the node's address has not. -/
theorem State.tableKept_of_entries {t : State} (hstraps : t.net.straps = s.net.straps)
    (hentries : EntriesKept s.nodeAddr? t.table.entries) : t.TableKept := by
  have hown : t.nodeAddr? = s.nodeAddr? := by
    rw [State.nodeAddr?, State.nodeAddr?, Net.nodeAddr?, Net.nodeAddr?, hstraps]
  rw [State.TableKept, hown]
  exact hentries

theorem State.TableKept.rewriteEntry {old new : Entry} (hold : s.entry? new.address = some old)
    (hpinned : new.pinned = old.pinned) (hage : new.age ≤ old.age) : (s.rewriteEntry old new).TableKept := by
  refine State.tableKept_of_entries (s := s) (by simp) ?_
  rw [State.rewriteEntry_entries]
  exact EntriesKept.replace h hold hpinned (hage.trans (h.each old (findEntry_eq_some hold).1).2)

theorem State.TableKept.dropEntry (e : Entry) : (s.dropEntry e).TableKept := by
  refine State.tableKept_of_entries (s := s) (by simp) ?_
  rw [State.dropEntry_entries]
  exact EntriesKept.remove h e.address

theorem State.TableKept.insertNew {a : Addr} (l : Location) (attach : Option Addr) (hnew : s.entry? a = none)
    (hown : s.nodeAddr? ≠ some a) (hroom : s.table.entries.length < tableCapacity) : (s.insertNew a l attach).TableKept := by
  refine State.tableKept_of_entries (s := s) (by simp) ?_
  rw [State.insertNew_entries]
  exact EntriesKept.insert h hnew hown hroom (fun hp => by simpa [State.newEntry] using (Bool.and_eq_true_iff.mp hp).2)
    (Nat.zero_le _)

theorem State.TableKept.setMark (a : Addr) (m : Muster) : (s.setMark a m).TableKept := by
  unfold State.setMark
  split
  next e he =>
    obtain ⟨hmem, haddress⟩ := findEntry_eq_some he
    refine State.tableKept_of_entries (s := s) rfl (EntriesKept.replace (old := e) (new := { e with mark := m }) h ?_ rfl (h.each e hmem).2)
    rw [show ({ e with mark := m } : Entry).address = a from haddress]
    exact he
  · exact h

end

theorem State.TableKept.evictNew {s : State} (h : s.TableKept) {a : Addr} {e : Entry} (l : Location) (attach : Option Addr)
    (f : TableCounters → TableCounters) (he : e ∈ s.table.entries) (hnew : s.entry? a = none) (hown : s.nodeAddr? ≠ some a) :
    (((s.dropEntry e).countTable f).insertNew a l attach).TableKept := by
  have hdropped : ((s.dropEntry e).countTable f).TableKept := (h.dropEntry e).unchanged rfl rfl
  have hentries : ((s.dropEntry e).countTable f).table.entries = removeEntry e.address s.table.entries :=
    s.dropEntry_entries e
  refine hdropped.insertNew l attach ?_ ?_ ?_
  · rw [State.entry?, hentries]
    exact findEntry_eq_none.mpr fun x hx => findEntry_eq_none.mp hnew x (List.mem_of_mem_filter hx)
  · simpa [State.nodeAddr?, Net.nodeAddr?] using hown
  · rw [hentries]
    exact (removeEntry_length_lt he).trans_le h.room

theorem State.tableKept_tags : KeepsTags State.TableKept := by
  have unchanged {s t : State} (h : s.TableKept) (hstraps : t.net.straps = s.net.straps)
      (hentries : t.table.entries = s.table.entries) : t.TableKept := h.unchanged hstraps hentries
  exact {
    rewrite := fun hold _ hpinned hage h => h.rewriteEntry hold hpinned hage
    drop := fun _ h => h.dropEntry _
    insert := fun l attach hnew hown hroom h => h.insertNew l attach hnew hown hroom
    evict := fun l attach f he hnew hown h => h.evictNew l attach f he hnew hown
    older := fun {s} h => State.tableKept_of_entries (s := s) rfl
      (EntriesKept.map h (fun _ => rfl) (fun _ _ => rfl) (fun e _ => by
        unfold Entry.older
        simp only
        split <;> omega))
    countTable := fun _ h => h.unchanged rfl rfl
    setFlag := fun _ h => h.unchanged (by simp) (by simp)
    setMark := fun a m h => h.setMark a m
    unmark := fun {s} h => State.tableKept_of_entries (s := s) rfl
      (EntriesKept.map h (fun _ => rfl) (fun _ _ => rfl) (fun e he => (h.each e he).2)) }

section

variable {s : State} (h : s.TableKept)
include h

theorem State.TableKept.forgetVia (p : Backbone) : (s.forgetVia p).TableKept := by
  refine State.tableKept_of_entries (s := s) rfl (EntriesKept.map h (fun e => ?_) (fun e _ => ?_) (fun e he => ?_))
  all_goals split
  all_goals first | rfl | exact (h.each e he).2

end

/-- The blocks' operations keep the table's promise. -/
theorem State.tableKept_blocks : KeepsBlocks State.TableKept := by
  have unchanged {s t : State} (h : s.TableKept) (hstraps : t.net.straps = s.net.straps)
      (hentries : t.table.entries = s.table.entries) : t.TableKept := h.unchanged hstraps hentries
  have hmoved {s : State} (a : Addr) (h : s.TableKept) : (s.unitMoved a).TableKept := h.unchanged (by simp) (by simp)
  exact {
    cold := fun _ _ _ _ _ _ =>
      ⟨List.Pairwise.nil, Nat.zero_le _, Nat.zero_le _, fun e he => absurd he List.not_mem_nil⟩
    learn := fun a l h => State.tableKept_tags.learn a l h
    learnFrame := fun p f h => State.tableKept_tags.learnFrame hmoved p f h
    ageTable := fun n h => State.tableKept_tags.ageTable (h.unchanged rfl rfl)
    storePanel := fun i c h => State.tableKept_tags.storePanel i _ h
    emptyPanel := fun i h => State.tableKept_tags.emptyPanel i h
    enterEvacuate := fun _ h => State.tableKept_tags.enterEvacuate h
    leaveEvacuate := fun _ _ h => State.tableKept_tags.leaveEvacuate h
    evacAck := fun f h => State.tableKept_tags.evacAck f h
    loadPinWindow := fun {s} i w h => State.tableKept_of_entries (s := s) rfl (EntriesKept.repin h _)
    regrade := fun h => State.regrade_keeps (P := State.TableKept) (fun _ _ _ _ h => h.unchanged (by simp) (by simp))
      (fun _ _ h => h.unchanged (by simp) (by simp)) (fun _ h => State.tableKept_tags.enterEvacuate h)
      (fun _ h => h.unchanged (by simp) (by simp)) h
    takeParameters := fun p h => State.takeParameters_keeps (P := State.TableKept) (h.unchanged rfl rfl)
      (fun _ h => h.unchanged (by simp) (by simp)) (fun _ h => State.tableKept_tags.enterEvacuate h) }

theorem State.TableKept.restart {s : State} (h : s.TableKept) : s.restart.TableKept :=
  State.tableKept_blocks.restart (State.tableKept_of_entries (s := s) (by simp)
    ⟨List.Pairwise.nil, Nat.zero_le _, Nat.zero_le _, fun e he => absurd he List.not_mem_nil⟩)

/-- Every command's parts keep the table's promise. -/
theorem State.tableKept_keeps : Keeps State.TableKept :=
  State.tableKept_blocks.keeps (State.restart_keeps (P := State.TableKept) State.TableKept.restart
    (fun _ h => h.unchanged rfl rfl) (fun _ h => h.unchanged rfl rfl) (fun _ hn h => h.unchanged hn rfl)
    (fun _ h => h.unchanged (by simp) (by simp)) (fun p h => h.forgetVia p))

/-- Settles O6: every part of a command keeps the table's promise (`State.tableKept_keeps`). -/
theorem tableSoundInEveryStep : Obligations.TableSoundInEveryStep :=
  fun s t h hstep => t.tableSound_iff.mpr (State.tableKept_keeps.step (s.tableSound_iff.mp h) hstep)

end Sys2Proof.Machine

end

section

set_option Elab.async false

/-! PROOF. The evacuation (R138 to R150): QUIET below the trigger, the repeat timer, the muster marks and the panels. -/

namespace Sys2Proof.Machine

/-! ### QUIET below the trigger grade (R138, R139) -/

/-- The promise, as a definition that does not unfold by itself. -/
def State.QuietKept (s : State) : Prop := s.QuietBelowTrigger

theorem State.QuietKept.unchanged {s t : State} (h : s.QuietKept) (hstate : t.evac.state = s.evac.state)
    (hzone : t.air.zone = s.air.zone) (hparams : t.mgmt.parameters = s.mgmt.parameters) : t.QuietKept := by
  intro hquiet
  have hbefore := h (hstate ▸ hquiet)
  simpa only [State.triggered, State.params, hzone, hparams] using hbefore

theorem State.quietKept_of_evacuate {s : State} (h : s.evac.state = .evacuate) : s.QuietKept :=
  fun hquiet => by rw [h] at hquiet; cases hquiet

theorem State.enterEvacuate_state (s : State) : s.enterEvacuate.evac.state = .evacuate := by
  have htold (u : State) : u.noticeRound.startRepeat.testBreaches.musterReport.evac.state = u.evac.state := by simp
  unfold State.enterEvacuate
  rw [htold, foldl_keeps (fun u : State => u.evac.state) _ (fun u i => by simp)]
  simp

theorem State.leaveEvacuate_state (s : State) : s.leaveEvacuate.evac.state = .quiet := by
  simp [State.leaveEvacuate]

/-- The own-grade test makes the promise true, whatever was before (R139). -/
theorem State.testOwnGrade_quietKept (s : State) : s.testOwnGrade.QuietKept := by
  unfold State.testOwnGrade
  split
  · exact State.quietKept_of_evacuate s.enterEvacuate_state
  next h => exact fun hquiet => Bool.eq_false_iff.mpr fun htriggered => h ⟨hquiet, htriggered⟩

theorem State.evacZone_quietKept (s : State) : s.evacZone.QuietKept :=
  (State.testOwnGrade_quietKept s).unchanged (by simp [State.evacZone]) (by simp [State.evacZone])
    (by simp [State.evacZone])

theorem State.QuietKept.regrade {s : State} (h : s.QuietKept) : s.regrade.QuietKept := by
  unfold State.regrade
  simp only
  split
  next hsame => exact h.unchanged (by simp) (by simp [hsame]) (by simp)
  next => exact State.evacZone_quietKept _

theorem State.quietKept_blocks : KeepsBlocks State.QuietKept := by
  have unchanged {s t : State} (h : s.QuietKept) (hstate : t.evac.state = s.evac.state)
      (hzone : t.air.zone = s.air.zone) (hparams : t.mgmt.parameters = s.mgmt.parameters) : t.QuietKept :=
    h.unchanged hstate hzone hparams
  exact {
    cold := fun _ _ _ _ _ _ => fun _ => rfl
    regrade := State.QuietKept.regrade
    takeParameters := fun p _ => State.testOwnGrade_quietKept _
    enterEvacuate := fun _ _ => State.quietKept_of_evacuate (State.enterEvacuate_state _)
    leaveEvacuate := fun _ hgrade _ _ => by
      simpa [State.triggered, State.params, State.leaveEvacuate] using hgrade }

theorem State.QuietKept.restart {s : State} (h : s.QuietKept) : s.restart.QuietKept :=
  State.quietKept_blocks.restart (h.unchanged (by simp) (by simp) (by simp))

/-- Every command's parts keep QUIET below the trigger grade. -/
theorem State.quietKept_keeps : Keeps State.QuietKept :=
  State.quietKept_blocks.keeps (State.restart_keeps (P := State.QuietKept) State.QuietKept.restart
    (fun _ h => h.unchanged rfl rfl rfl) (fun _ h => h.unchanged rfl rfl rfl) (fun _ _ h => h.unchanged rfl rfl rfl)
    (fun _ h => h.unchanged (by simp) (by simp) (by simp)) (fun _ h => h.unchanged rfl rfl rfl))

/-! ### The repeat timer (R143, R144) -/

/-- The repeat timer runs exactly in EVACUATE. -/
def State.RepeatKept (s : State) : Prop := s.evac.repeatTimer.isSome = true ↔ s.evac.state = .evacuate

theorem State.RepeatKept.unchanged {s t : State} (h : s.RepeatKept) (hstate : t.evac.state = s.evac.state)
    (htimer : t.evac.repeatTimer = s.evac.repeatTimer) : t.RepeatKept := by
  rw [State.RepeatKept, hstate, htimer]
  exact h

theorem State.repeatKept_of_started {s : State} (hstate : s.evac.state = .evacuate) : s.startRepeat.RepeatKept := by
  simp [State.RepeatKept, State.startRepeat, startTimer, hstate]

theorem State.repeatKept_of_stopped {s : State} (hstate : s.evac.state = .quiet) : s.stopRepeat.RepeatKept := by
  simp [State.RepeatKept, State.stopRepeat, hstate]

theorem State.enterEvacuate_repeatKept (s : State) : s.enterEvacuate.RepeatKept := by
  have htold {u : State} (hu : u.evac.state = .evacuate) :
      u.noticeRound.startRepeat.testBreaches.musterReport.RepeatKept :=
    (State.repeatKept_of_started (s := u.noticeRound) (by simpa using hu)).unchanged (by simp) (by simp)
  unfold State.enterEvacuate
  refine htold ?_
  rw [foldl_keeps (fun u : State => u.evac.state) _ (fun u i => by simp)]
  simp

theorem State.leaveEvacuate_repeatKept (s : State) : s.leaveEvacuate.RepeatKept := by
  have htold {u : State} (hu : u.evac.state = .quiet) : u.stopRepeat.musterReport.RepeatKept :=
    (State.repeatKept_of_stopped hu).unchanged (by simp) (by simp)
  unfold State.leaveEvacuate
  exact htold (by simp)

theorem State.noticeRound_repeatKept {s : State} (h : s.evac.state = .evacuate) :
    s.noticeRound.startRepeat.RepeatKept :=
  State.repeatKept_of_started (by simpa using h)

theorem State.repeatExpires_repeatKept (s : State) : s.repeatExpires.RepeatKept := by
  unfold State.repeatExpires
  split
  next h => exact State.noticeRound_repeatKept h
  next h => exact State.repeatKept_of_stopped h

theorem State.repeatKept_blocks : KeepsBlocks State.RepeatKept := by
  have unchanged {s t : State} (h : s.RepeatKept) (hstate : t.evac.state = s.evac.state)
      (htimer : t.evac.repeatTimer = s.evac.repeatTimer) : t.RepeatKept := h.unchanged hstate htimer
  exact {
    cold := fun _ _ _ _ _ _ => by simp [State.RepeatKept, State.cold, Evacuation.cold]
    repeatExpires := fun _ => State.repeatExpires_repeatKept _
    noticeRound := fun h _ => State.noticeRound_repeatKept h
    enterEvacuate := fun _ _ => State.enterEvacuate_repeatKept _
    leaveEvacuate := fun _ _ _ => State.leaveEvacuate_repeatKept _
    regrade := fun h => State.regrade_keeps (P := State.RepeatKept) (fun _ _ _ _ h => h.unchanged (by simp) (by simp))
      (fun _ _ h => h.unchanged (by simp) (by simp)) (fun _ _ => State.enterEvacuate_repeatKept _)
      (fun _ h => h.unchanged (by simp) (by simp)) h
    takeParameters := fun p h => State.takeParameters_keeps (P := State.RepeatKept) (h.unchanged rfl rfl)
      (fun _ h => h.unchanged (by simp) (by simp)) (fun _ _ => State.enterEvacuate_repeatKept _) }

theorem State.RepeatKept.restart {s : State} (h : s.RepeatKept) : s.restart.RepeatKept :=
  State.repeatKept_blocks.restart (h.unchanged (by simp) (by simp))

theorem State.repeatKept_keeps : Keeps State.RepeatKept :=
  State.repeatKept_blocks.keeps (State.restart_keeps (P := State.RepeatKept) State.RepeatKept.restart
    (fun _ h => h.unchanged rfl rfl) (fun _ h => h.unchanged rfl rfl) (fun _ _ h => h.unchanged rfl rfl)
    (fun _ h => h.unchanged (by simp) (by simp)) (fun _ h => h.unchanged rfl rfl))

/-! ### Marks and panels (R46, R146, R148 to R150) -/

/-- A panel record holds miner units, and a breach and an age only at an open door. -/
def Panel.Kept (p : Panel) : Prop :=
  p.tags.all isMiner = true ∧ (p.door = .closed → p.doorAge = 0 ∧ p.breach = false) ∧ p.doorAge ≤ 65535

/-- A mark stands on a miner's entry, and only in EVACUATE. -/
def MarksKept (state : EvacState) (l : List Entry) : Prop :=
  ∀ e ∈ l, e.mark ≠ .none → state = .evacuate ∧ isMiner e.address = true

/-- The muster promise without the repeat timer. -/
structure State.MusterKept (s : State) : Prop where
  marks : MarksKept s.evac.state s.table.entries
  panels : ∀ i, (s.panel i).Kept

theorem State.musterSound_iff (s : State) : s.MusterSound ↔ s.MusterKept ∧ s.RepeatKept :=
  ⟨fun ⟨hmarks, htimer, hpanels⟩ => ⟨⟨hmarks, fun i => hpanels i (mem_pollIndices i)⟩, htimer⟩,
    fun ⟨⟨hmarks, hpanels⟩, htimer⟩ => ⟨hmarks, htimer, fun i _ => hpanels i⟩⟩

theorem cleanTags_all (tags : List Addr) : (cleanTags tags).all isMiner = true := by
  refine List.foldlRecOn (motive := fun l : List Addr => l.all isMiner = true) _ _ rfl (fun l hl a _ => ?_)
  split
  next h => simp_all
  · exact hl

theorem Panel.Kept.store {p : Panel} (hp : p.Kept) {c : PanelContents} (hc : c.tags.all isMiner = true) : (p.store c).Kept := by
  obtain ⟨-, -, hage⟩ := hp
  refine ⟨hc, fun hclosed => ?_, ?_⟩
  · have hdoor : c.door = .closed := hclosed
    simp [Panel.store, hdoor]
  · simp only [Panel.store]
    split <;> omega

section

variable {s : State} (h : s.MusterKept)
include h

theorem State.MusterKept.unchanged {t : State} (hstate : t.evac.state = s.evac.state)
    (hentries : t.table.entries = s.table.entries) (hpanels : t.evac.panels = s.evac.panels) : t.MusterKept := by
  refine ⟨?_, fun i => ?_⟩
  · rw [hstate, hentries]; exact h.marks
  · rw [State.panel, hpanels]; exact h.panels i

/-- Every entry is one that was, but for a mark that is gone or a new entry without one. -/
theorem State.MusterKept.of_entries {t : State} (hstate : t.evac.state = s.evac.state)
    (hpanels : t.evac.panels = s.evac.panels)
    (hentries : ∀ e ∈ t.table.entries, e.mark = .none ∨ ∃ x ∈ s.table.entries, x.address = e.address ∧ x.mark = e.mark) :
    t.MusterKept := by
  refine ⟨fun e he hmark => ?_, fun i => ?_⟩
  · rcases hentries e he with hnone | ⟨x, hx, haddress, hsame⟩
    · exact absurd hnone hmark
    · rw [hstate, ← haddress]
      exact h.marks x hx (hsame ▸ hmark)
  · rw [State.panel, hpanels]; exact h.panels i

theorem State.MusterKept.rewriteEntry {old new : Entry} (hold : s.entry? new.address = some old)
    (hmark : new.mark = old.mark) : (s.rewriteEntry old new).MusterKept := by
  refine h.of_entries (by simp) (by simp) (fun e he => ?_)
  rw [State.rewriteEntry_entries] at he
  obtain ⟨x, hx, rfl⟩ := List.mem_map.mp he
  obtain ⟨hmem, haddress⟩ := findEntry_eq_some hold
  refine .inr ?_
  split
  · exact ⟨old, hmem, haddress, hmark.symm⟩
  · exact ⟨x, hx, rfl, rfl⟩

theorem State.MusterKept.dropEntry (e : Entry) : (s.dropEntry e).MusterKept := by
  refine h.of_entries (by simp) (by simp) (fun x hx => ?_)
  rw [State.dropEntry_entries] at hx
  exact .inr ⟨x, List.mem_of_mem_filter hx, rfl, rfl⟩

theorem State.MusterKept.insertNew (a : Addr) (l : Location) (attach : Option Addr) :
    (s.insertNew a l attach).MusterKept := by
  refine h.of_entries (by simp) (by simp) (fun x hx => ?_)
  rw [State.insertNew_entries] at hx
  rcases mem_insertEntry.mp hx with rfl | hx
  · exact .inl rfl
  · exact .inr ⟨x, hx, rfl, rfl⟩

/-- In EVACUATE a miner's entry may be marked. -/
theorem State.MusterKept.setMark {a : Addr} (ha : isMiner a = true) (hstate : s.evac.state = .evacuate) (m : Muster) :
    (s.setMark a m).MusterKept := by
  refine ⟨fun e he hmark => ⟨by simpa using hstate, ?_⟩, fun i => by simpa [State.panel] using h.panels i⟩
  unfold State.setMark at he
  split at he
  next x hx =>
    obtain ⟨y, hy, rfl⟩ := List.mem_map.mp he
    split
    · exact (findEntry_eq_some hx).2 ▸ ha
    next hne => exact (h.marks y hy (by simpa [hne] using hmark)).2
  · exact (h.marks e he hmark).2

theorem State.MusterKept.setPanel (i : Fin 8) {p : Panel} (hp : p.Kept) : (s.setPanel i p).MusterKept := by
  refine ⟨h.marks, fun j => ?_⟩
  rw [State.panel_setPanel]
  split
  · exact hp
  · exact h.panels j

end

theorem State.musterKept_older {s : State} (h : s.MusterKept) :
    (s.setEntries (s.table.entries.map Entry.older)).MusterKept := by
  refine h.of_entries (by simp) (by simp) (fun e he => ?_)
  have he' : e ∈ s.table.entries.map Entry.older := he
  obtain ⟨x, hx, rfl⟩ := List.mem_map.mp he'
  exact .inr ⟨x, hx, rfl, rfl⟩

theorem State.musterKept_entries : KeepsEntries State.MusterKept where
  rewrite hold hmark _ _ h := h.rewriteEntry hold hmark
  drop _ h := h.dropEntry _
  insert l attach _ _ _ h := h.insertNew _ l attach
  evict {s _ e} l attach f _ _ _ h := by
    have hdropped : ((s.dropEntry e).countTable f).MusterKept := (h.dropEntry e).unchanged rfl rfl rfl
    exact hdropped.insertNew _ l attach
  older h := State.musterKept_older h
  countTable _ h := h.unchanged rfl rfl rfl
  setFlag _ h := h.unchanged (by simp) (by simp) (by simp)

section

variable {s : State} (h : s.MusterKept)
include h

/-- In EVACUATE a list of miner units is applied, and the state is as it was. -/
theorem State.MusterKept.applyTags {tags : List Addr} (htags : tags.all isMiner = true) (hstate : s.evac.state = .evacuate) :
    (s.applyTags tags).MusterKept := by
  have hboth : (s.applyTags tags).MusterKept ∧ (s.applyTags tags).evac.state = .evacuate := by
    refine List.foldlRecOn (motive := fun u : State => u.MusterKept ∧ u.evac.state = .evacuate) _ _ ⟨h, hstate⟩
      (fun u hu a ha => ⟨?_, by simpa using hu.2⟩)
    have hcreated := State.musterKept_entries.createForMuster a hu.1
    exact hcreated.setMark (List.all_eq_true.mp htags a ha) (by simpa using hu.2) .inRefuge
  exact hboth.1

theorem State.MusterKept.releaseTags (tags : List Addr) : (s.releaseTags tags).MusterKept := by
  refine List.foldlRecOn (motive := State.MusterKept) _ _ h (fun u hu a _ => ?_)
  unfold State.untagUnit
  split
  next e he =>
    obtain ⟨hmem, haddress⟩ := findEntry_eq_some he
    split
    next hmark =>
      obtain ⟨hstate, hminer⟩ := hu.marks e hmem (by rw [hmark.1]; simp)
      exact hu.setMark (haddress ▸ hminer) hstate .notified
    · exact hu
  · exact hu

theorem State.MusterKept.testBreach (i : Fin 8) : (s.testBreach i).MusterKept := by
  unfold State.testBreach
  split
  next hdue =>
    obtain ⟨htags, -, hage⟩ := h.panels i
    have hopen : (s.panel i).door = .opened := by
      simp only [State.breachDue, Bool.and_eq_true, beq_iff_eq] at hdue
      exact hdue.1.1.1.2
    have hset := h.setPanel i (p := { s.panel i with breach := true })
      ⟨htags, fun hclosed => absurd (hopen.symm.trans hclosed) (by simp), hage⟩
    exact hset.unchanged (by simp) (by simp) (by simp)
  · exact h

theorem State.MusterKept.storePanel (i : Fin 8) (c : PanelContents) : (s.storePanel i c.clean).MusterKept := by
  have hset := h.setPanel i ((h.panels i).store (c := c.clean) (cleanTags_all _))
  unfold State.storePanel
  refine State.MusterKept.testBreach (ite_keeps (P := State.MusterKept) (fun hstate => ?_) (fun _ => ?_)) i
  · refine State.MusterKept.releaseTags (State.MusterKept.applyTags ?_ (cleanTags_all _) hstate) _
    exact ite_keeps (P := State.MusterKept) (fun _ => hset.unchanged (by simp) (by simp) (by simp)) (fun _ => hset)
  · exact ite_keeps (P := State.MusterKept) (fun _ => hset.unchanged (by simp) (by simp) (by simp)) (fun _ => hset)

theorem State.MusterKept.emptyPanel (i : Fin 8) : (s.emptyPanel i).MusterKept := by
  have hset := h.setPanel i (p := .empty) ⟨rfl, fun _ => ⟨rfl, rfl⟩, Nat.zero_le _⟩
  unfold State.emptyPanel
  exact ite_keeps (P := State.MusterKept) (fun _ => hset.releaseTags _) (fun _ => hset)

theorem State.MusterKept.enterEvacuate (hquiet : s.evac.state = .quiet) : s.enterEvacuate.MusterKept := by
  have htold {u : State} (hu : u.MusterKept) : u.noticeRound.startRepeat.testBreaches.musterReport.MusterKept := by
    have hround : u.noticeRound.startRepeat.MusterKept := hu.unchanged (by simp) (by simp) (by simp)
    exact (State.testBreaches_keeps (P := State.MusterKept) (fun i h => h.testBreach i) hround).unchanged
      (by simp) (by simp) (by simp)
  have hstarted {u : State} (hstate : u.evac.state = .evacuate) (hentries : u.table.entries = s.table.entries)
      (hpanels : u.evac.panels = s.evac.panels) : u.MusterKept := by
    refine ⟨fun e he hmark => ?_, fun i => ?_⟩
    · obtain ⟨hevacuate, -⟩ := h.marks e (hentries ▸ he) hmark
      rw [hquiet] at hevacuate
      cases hevacuate
    · rw [State.panel, hpanels]; exact h.panels i
  unfold State.enterEvacuate
  refine htold (List.foldlRecOn (motive := fun u : State => u.MusterKept ∧ u.evac.state = .evacuate) _ _ ⟨?_, ?_⟩
    (fun u hu i _ => ⟨hu.1.applyTags (hu.1.panels i).1 hu.2, by simpa using hu.2⟩)).1
  · exact hstarted (by simp) (by simp) (by simp)
  · simp

theorem State.MusterKept.leaveEvacuate : s.leaveEvacuate.MusterKept := by
  have htold {u : State} (hu : u.MusterKept) : u.stopRepeat.musterReport.MusterKept :=
    hu.unchanged (by simp) (by simp) (by simp)
  unfold State.leaveEvacuate
  refine htold ⟨fun e he hmark => absurd ?_ hmark, fun i => ?_⟩
  · have he' : e ∈ List.map (fun e : Entry => { e with mark := .none })
        ((s.setEvacState .quiet).setFlag Flag.evacChange).table.entries := he
    obtain ⟨x, -, rfl⟩ := List.mem_map.mp he'
    rfl
  · have hpanels : ((s.setEvacState .quiet).setFlag Flag.evacChange).evac.panels = s.evac.panels := by simp
    show (((s.setEvacState .quiet).setFlag Flag.evacChange).evac.panels[i]).Kept
    rw [hpanels]
    exact h.panels i

theorem State.MusterKept.evacAck (f : Frame) : (s.evacAck f).MusterKept := by
  have hcounted (g : EvacCounters → EvacCounters) : (s.countEvac g).MusterKept := h.unchanged rfl rfl rfl
  unfold State.evacAck
  split
  next hgood =>
    simp only
    split
    · split
      · have hboth : isMiner f.src = true ∧ s.evac.state = .evacuate := by
          unfold State.ackGood at hgood
          split at hgood <;> simp_all
        exact (hcounted _).setMark hboth.1 hboth.2 _
      · exact hcounted _
    · exact hcounted _
  · exact hcounted _

theorem State.MusterKept.ageDoors (n : Nat) :
    (({ s with evac := { s.evac with doorTick := n } } : State).ageDoors).MusterKept := by
  have holder {p : Panel} (hp : p.Kept) : p.older.Kept := by
    obtain ⟨htags, hclosed, hage⟩ := hp
    unfold Panel.older
    split
    next hopen =>
      refine ⟨htags, fun hshut => absurd (hopen.symm.trans hshut) (by simp), ?_⟩
      simp only
      split <;> omega
    · exact ⟨htags, hclosed, hage⟩
  unfold State.ageDoors
  refine State.testBreaches_keeps (P := State.MusterKept) (fun i h => h.testBreach i) ⟨h.marks, fun i => ?_⟩
  have hpanel := holder (h.panels i)
  simpa [State.panel, mapTable] using hpanel

theorem State.MusterKept.forgetVia (p : Backbone) : (s.forgetVia p).MusterKept := by
  refine h.of_entries rfl rfl (fun e he => ?_)
  have he' : e ∈ s.table.entries.map
      (fun e => if e.location = learntLocation p.port then { e with location := .unknown } else e) := he
  obtain ⟨x, hx, rfl⟩ := List.mem_map.mp he'
  refine .inr ⟨x, hx, ?_⟩
  split <;> exact ⟨rfl, rfl⟩

theorem State.MusterKept.loadPinWindow (i : Fin 4) (w : PinWindow) : (s.loadPinWindow i w).MusterKept := by
  refine h.of_entries rfl rfl (fun e he => ?_)
  obtain ⟨x, hx, hsame⟩ := mem_repin (n := 0) he
  exact .inr ⟨x, hx, by rw [hsame], by rw [hsame]⟩

end

theorem State.musterKept_blocks : KeepsBlocks State.MusterKept := by
  have unchanged {s t : State} (h : s.MusterKept) (hstate : t.evac.state = s.evac.state)
      (hentries : t.table.entries = s.table.entries) (hpanels : t.evac.panels = s.evac.panels) : t.MusterKept :=
    h.unchanged hstate hentries hpanels
  have hmoved {s : State} (a : Addr) (h : s.MusterKept) : (s.unitMoved a).MusterKept :=
    h.unchanged (by simp) (by simp) (by simp)
  exact {
    cold := fun _ _ _ _ _ _ => ⟨fun e he => absurd he List.not_mem_nil, fun i => by
      rw [show State.panel _ i = Panel.empty from getElem_replicate_fin ..]
      exact ⟨rfl, fun _ => ⟨rfl, rfl⟩, Nat.zero_le _⟩⟩
    learn := fun a l h => State.musterKept_entries.learn a l h
    learnFrame := fun p f h => State.musterKept_entries.learnFrame hmoved p f h
    ageTable := fun n h => State.musterKept_entries.ageTable (h.unchanged rfl rfl rfl)
    ageDoors := fun n h => h.ageDoors n
    storePanel := fun i c h => h.storePanel i c
    emptyPanel := fun i h => h.emptyPanel i
    enterEvacuate := fun hquiet h => h.enterEvacuate hquiet
    leaveEvacuate := fun _ _ h => h.leaveEvacuate
    evacAck := fun f h => h.evacAck f
    loadPinWindow := fun i w h => h.loadPinWindow i w
    regrade := fun h => State.regrade_keeps (P := State.MusterKept)
      (fun _ _ _ _ h => h.unchanged (by simp) (by simp) (by simp)) (fun _ _ h => h.unchanged (by simp) (by simp) (by simp))
      (fun hquiet h => h.enterEvacuate hquiet) (fun i h => h.testBreach i) h
    takeParameters := fun p h => State.takeParameters_keeps (P := State.MusterKept) (h.unchanged rfl rfl rfl)
      (fun _ h => h.unchanged (by simp) (by simp) (by simp)) (fun hquiet h => h.enterEvacuate hquiet) }

theorem State.MusterKept.restart {s : State} (h : s.MusterKept) : s.restart.MusterKept := by
  refine State.musterKept_blocks.restart ⟨fun e he => absurd he List.not_mem_nil, fun i => ?_⟩
  rw [show State.panel _ i = Panel.empty from getElem_replicate_fin ..]
  exact ⟨rfl, fun _ => ⟨rfl, rfl⟩, Nat.zero_le _⟩

theorem State.musterKept_keeps : Keeps State.MusterKept :=
  State.musterKept_blocks.keeps (State.restart_keeps (P := State.MusterKept) State.MusterKept.restart
    (fun _ h => h.unchanged rfl rfl rfl) (fun _ h => h.unchanged rfl rfl rfl) (fun _ _ h => h.unchanged rfl rfl rfl)
    (fun _ h => h.unchanged (by simp) (by simp) (by simp)) (fun p h => h.forgetVia p))

/-- Settles O9: QUIET stays below the trigger (`State.quietKept_keeps`), and the marks, the panels and the repeat timer
keep their promises (`State.musterKept_keeps`, `State.repeatKept_keeps`). -/
theorem evacuationSoundInEveryStep : Obligations.EvacuationSoundInEveryStep := by
  refine ⟨fun s t h hstep => State.quietKept_keeps.step h hstep, fun s t h hstep => ?_⟩
  obtain ⟨hmuster, hrepeat⟩ := s.musterSound_iff.mp h
  exact t.musterSound_iff.mpr ⟨State.musterKept_keeps.step hmuster hstep, State.repeatKept_keeps.step hrepeat hstep⟩

end Sys2Proof.Machine

end

section

set_option Elab.async false

/-! PROOF. The haulage segment (R119 to R134): the rule of each move of the segment record, that the closure cause AIR
follows the zone grade, and that the arbiter follows the local population. -/

namespace Sys2Proof.Machine

/-! ### The segment record -/

/-- What holder, closure causes, queue and lease are in each state. -/
def SegShape (state : SegmentState) (holder : Option Truck) (closed : Bool) (queue : List Truck) (lease : Timer) : Prop :=
  match state with
  | .free => holder = none ∧ closed = false ∧ queue = [] ∧ lease = none
  | .held => holder.isSome = true ∧ closed = false ∧ lease.isSome = true
  | .draining => holder.isSome = true ∧ closed = true ∧ queue = [] ∧ lease.isSome = true
  | .lost => holder.isSome = true ∧ (closed = true → queue = []) ∧ lease = none
  | .closed => holder = none ∧ closed = true ∧ queue = [] ∧ lease = none

/-- A queue of at most four vehicles, each once (R123). -/
def QueueKept (q : List Truck) : Prop := q.length ≤ 4 ∧ (q.map (fun t => t.vehicle)).Nodup

/-- The promise about the segment record. -/
structure State.SegKept (s : State) : Prop where
  shape : SegShape s.seg.state s.seg.holder s.seg.causes.any s.seg.queue s.seg.lease
  queue : QueueKept s.seg.queue
  apart : ∀ t, s.seg.holder = some t → t.vehicle ∉ s.seg.queue.map (fun t => t.vehicle)

/-- AIR is a closure cause exactly at ALARM and TRIP (R120). -/
def State.AirKept (s : State) : Prop := s.seg.causes.air = true ↔ s.air.zone.atLeast .alarm = true

theorem State.segmentSound_iff (s : State) : s.SegmentSound ↔ s.SegKept ∧ s.AirKept := by
  constructor
  · rintro ⟨hfree, hheld, hdraining, hlost, hclosed, hlease, hlength, hnodup, hapart, hair⟩
    refine ⟨⟨?_, ⟨hlength, hnodup⟩, fun t ht => hapart t ht⟩, hair⟩
    have hstopped (h : ¬ (s.seg.state = .held ∨ s.seg.state = .draining)) : s.seg.lease = none := by
      rw [← hlease] at h
      simpa using h
    cases hstate : s.seg.state with
    | free =>
      obtain ⟨hholder, hany, hqueue⟩ := hfree hstate
      exact ⟨hholder, hany, hqueue, hstopped (by simp [hstate])⟩
    | held =>
      obtain ⟨hholder, hany⟩ := hheld hstate
      exact ⟨hholder, hany, hlease.mpr (.inl hstate)⟩
    | draining =>
      obtain ⟨hholder, hany, hqueue⟩ := hdraining hstate
      exact ⟨hholder, hany, hqueue, hlease.mpr (.inr hstate)⟩
    | lost =>
      obtain ⟨hholder, hqueue⟩ := hlost hstate
      exact ⟨hholder, hqueue, hstopped (by simp [hstate])⟩
    | closed =>
      obtain ⟨hholder, hany, hqueue⟩ := hclosed hstate
      exact ⟨hholder, hany, hqueue, hstopped (by simp [hstate])⟩
  · rintro ⟨⟨hshape, ⟨hlength, hnodup⟩, hapart⟩, hair⟩
    unfold SegShape at hshape
    cases hstate : s.seg.state <;> simp only [hstate] at hshape
    all_goals
      refine ⟨?_, ?_, ?_, ?_, ?_, ?_, hlength, hnodup, fun t ht => hapart t ht, hair⟩
      all_goals simp_all

theorem Segment.waits_iff (g : Segment) (v : Addr) : g.waits v = true ↔ v ∈ g.queue.map (fun t => t.vehicle) := by
  simp only [Segment.waits, List.any_eq_true, beq_iff_eq, List.mem_map]

theorem Segment.heldBy_iff (g : Segment) (v : Addr) : g.heldBy v = true ↔ ∃ t, g.holder = some t ∧ t.vehicle = v := by
  unfold Segment.heldBy
  split <;> simp_all

section

variable {s : State}

theorem State.SegKept.unchanged {t : State} (h : s.SegKept) (hstate : t.seg.state = s.seg.state)
    (hholder : t.seg.holder = s.seg.holder) (hcauses : t.seg.causes = s.seg.causes) (hqueue : t.seg.queue = s.seg.queue)
    (hlease : t.seg.lease = s.seg.lease) : t.SegKept := by
  constructor
  · rw [hstate, hholder, hcauses, hqueue, hlease]; exact h.shape
  · rw [hqueue]; exact h.queue
  · rw [hholder, hqueue]; exact h.apart

/-- While a cause is present nobody waits. -/
theorem State.SegKept.queue_empty (h : s.SegKept) (hany : s.seg.causes.any = true) : s.seg.queue = [] := by
  have hshape := h.shape
  unfold SegShape at hshape
  cases hstate : s.seg.state <;> simp_all

theorem queueKept_nil : QueueKept [] := ⟨Nat.zero_le _, List.nodup_nil⟩

/-- A vehicle that does not wait becomes the holder while no cause is present (R122, R128). -/
theorem State.grantTo_segKept {t : Truck} (hany : s.seg.causes.any = false) (hqueue : QueueKept s.seg.queue)
    (hnew : t.vehicle ∉ s.seg.queue.map (fun t => t.vehicle)) : (s.grantTo t).SegKept := by
  have hheld : (((s.setSegState .held).setHolder t).startLease).SegKept := by
    refine ⟨⟨rfl, hany, rfl⟩, hqueue, ?_⟩
    rintro u ⟨⟩
    exact hnew
  unfold State.grantTo
  refine hheld.unchanged ?_ ?_ ?_ ?_ ?_ <;> simp

/-- A segment without a holder becomes FREE, and its queue's head the holder (R128). -/
theorem State.becomeFree_segKept (hholder : s.seg.holder = none) (hlease : s.seg.lease = none)
    (hany : s.seg.causes.any = false) (hqueue : QueueKept s.seg.queue) : s.becomeFree.SegKept := by
  unfold State.becomeFree
  split
  next hempty =>
    refine ⟨⟨hholder, hany, hempty, hlease⟩, hqueue, fun t ht => ?_⟩
    rw [show (s.setSegState .free).seg.holder = none from hholder] at ht
    cases ht
  next t rest hcons =>
    rw [hcons] at hqueue
    obtain ⟨hlength, hnodup⟩ := hqueue
    obtain ⟨hnew, hrest⟩ := List.nodup_cons.mp hnodup
    have hgranted : (((s.setSegState .free).setSegQueue rest).grantTo t).SegKept :=
      State.grantTo_segKept hany ⟨Nat.le_of_succ_le hlength, hrest⟩ hnew
    refine hgranted.unchanged ?_ ?_ ?_ ?_ ?_ <;> simp

/-- The holder leaves, whatever the state was (R127, R132). -/
theorem State.vacate_segKept (hempty : s.seg.causes.any = true → s.seg.queue = []) (hqueue : QueueKept s.seg.queue) :
    s.vacate.SegKept := by
  unfold State.vacate
  split
  next hany =>
    have hnone := hempty hany
    exact ⟨⟨rfl, hany, hnone, rfl⟩, hqueue, fun t ht => by cases ht⟩
  next hany => exact State.becomeFree_segKept rfl rfl (Bool.not_eq_true _ ▸ hany) hqueue

end

section

variable {s : State} (h : s.SegKept)
include h

/-- The first cause appears: nobody waits any more (R129). -/
theorem State.SegKept.segCloses (hbefore : s.seg.causes.any = false) {c : Causes} (hafter : c.any = true) :
    ((s.setCauses c).segCloses).SegKept := by
  obtain ⟨hshape, -, -⟩ := h
  have hrefused {u : State} (hu : SegShape u.seg.state u.seg.holder u.seg.causes.any [] u.seg.lease) :
      ((u.refuseAll u.seg.queue).setSegQueue []).SegKept := by
    refine ⟨?_, queueKept_nil, fun t _ => List.not_mem_nil⟩
    simpa [State.setSegQueue] using hu
  unfold State.segCloses
  refine hrefused ?_
  unfold SegShape at hshape
  split
  next hfree =>
    have hfree' : s.seg.state = .free := hfree
    simp only [hfree'] at hshape
    exact ⟨hshape.1, hafter, rfl, hshape.2.2.2⟩
  next t hheld hholder =>
    have hheld' : s.seg.state = .held := hheld
    simp only [hheld'] at hshape
    simpa [SegShape, State.setSegState, State.setCauses, hafter] using ⟨hshape.1, hshape.2.2⟩
  next hfree hheld =>
    cases hstate : s.seg.state with
    | free => exact (hfree hstate).elim
    | held =>
      simp only [hstate] at hshape
      obtain ⟨t, ht⟩ := Option.isSome_iff_exists.mp hshape.1
      exact absurd ht (hheld t hstate)
    | draining =>
      simp only [hstate] at hshape
      exact absurd hshape.2.1 (by simp [hbefore])
    | lost =>
      simp only [hstate] at hshape
      simp [SegShape, State.setCauses, hstate, hshape]
    | closed =>
      simp only [hstate] at hshape
      exact absurd hshape.2.1 (by simp [hbefore])

/-- The last cause disappears (R131). -/
theorem State.SegKept.segOpens {c : Causes} (hbefore : s.seg.causes.any = true) (hafter : c.any = false) :
    ((s.setCauses c).segOpens).SegKept := by
  have hempty := h.queue_empty hbefore
  obtain ⟨hshape, hqueue, hapart⟩ := h
  unfold SegShape at hshape
  unfold State.segOpens
  split
  next hclosed =>
    have hclosed' : s.seg.state = .closed := hclosed
    simp only [hclosed'] at hshape
    exact State.becomeFree_segKept hshape.1 hshape.2.2.2 hafter hqueue
  next t hdraining hholder =>
    have hheld : (((s.setCauses c).setSegState .held).startLease).SegKept :=
      ⟨⟨Option.isSome_iff_exists.mpr ⟨t, hholder⟩, hafter, rfl⟩, hqueue, hapart⟩
    refine hheld.unchanged ?_ ?_ ?_ ?_ ?_ <;> simp
  next hclosed hdraining =>
    refine ⟨?_, hqueue, hapart⟩
    show SegShape s.seg.state s.seg.holder c.any s.seg.queue s.seg.lease
    cases hstate : s.seg.state with
    | free => simp only [hstate] at hshape; exact absurd hshape.2.1 (by simp [hbefore])
    | held => simp only [hstate] at hshape; exact absurd hshape.2.1 (by simp [hbefore])
    | draining =>
      simp only [hstate] at hshape
      obtain ⟨t, ht⟩ := Option.isSome_iff_exists.mp hshape.1
      exact absurd ht (hdraining t hstate)
    | lost => simp only [hstate] at hshape; exact ⟨hshape.1, fun _ => hempty, hshape.2.2⟩
    | closed => exact (hclosed hstate).elim

theorem State.SegKept.changeCauses (c : Causes) : (s.changeCauses c).SegKept := by
  unfold State.changeCauses
  simp only
  split
  next hcloses =>
    obtain ⟨hbefore, hafter⟩ := Bool.and_eq_true_iff.mp hcloses
    exact h.segCloses (by simpa using hbefore) hafter
  next hcloses =>
    split
    next hopens =>
      obtain ⟨hbefore, hafter⟩ := Bool.and_eq_true_iff.mp hopens
      exact h.segOpens hbefore (by simpa using hafter)
    next hopens =>
      have hsame : c.any = s.seg.causes.any := by
        cases hc : c.any <;> cases hs : s.seg.causes.any <;> simp_all
      refine ⟨?_, h.queue, h.apart⟩
      show SegShape s.seg.state s.seg.holder c.any s.seg.queue s.seg.lease
      rw [hsame]
      exact h.shape

theorem State.SegKept.segZone (old new : Grade) : (s.segZone old new).SegKept := by
  have hchanged := h.changeCauses { s.seg.causes with air := new.atLeast .alarm }
  unfold State.segZone
  simp only
  split
  · split
    · refine hchanged.unchanged ?_ ?_ ?_ ?_ ?_ <;> simp
    · exact hchanged
  · exact hchanged

/-- A lease is started where one runs (R124, R126). -/
theorem State.SegKept.startLease (hruns : s.seg.state = .held ∨ s.seg.state = .draining) : s.startLease.SegKept := by
  obtain ⟨hshape, hqueue, hapart⟩ := h
  refine ⟨?_, hqueue, hapart⟩
  show SegShape s.seg.state s.seg.holder s.seg.causes.any s.seg.queue _
  unfold SegShape at hshape ⊢
  rcases hruns with hstate | hstate <;> simp only [hstate] at hshape ⊢
  · exact ⟨hshape.1, hshape.2.1, rfl⟩
  · exact ⟨hshape.1, hshape.2.1, hshape.2.2.1, rfl⟩

theorem State.SegKept.heardFrom (a : Addr) : (s.heardFrom a).SegKept := by
  have hshape := h.shape
  unfold SegShape at hshape
  unfold State.heardFrom
  split
  · split
    next hheld => exact h.startLease (.inl hheld)
    next hdraining => exact h.startLease (.inr hdraining)
    next hlost =>
      simp only [hlost] at hshape
      split
      next hany =>
        have hdraining : ((s.setSegState .draining).startLease).SegKept :=
          ⟨⟨hshape.1, hany, hshape.2.1 hany, rfl⟩, h.queue, h.apart⟩
        refine hdraining.unchanged ?_ ?_ ?_ ?_ ?_ <;> simp
      next hany =>
        have hheld : ((s.setSegState .held).startLease).SegKept :=
          ⟨⟨hshape.1, Bool.not_eq_true _ ▸ hany, rfl⟩, h.queue, h.apart⟩
        refine hheld.unchanged ?_ ?_ ?_ ?_ ?_ <;> simp
    · exact h
    · exact h
  · exact h

/-- The queue is replaced while no cause is present and the segment is not FREE. -/
theorem State.SegKept.setSegQueue {q : List Truck} (hstate : s.seg.state = .held ∨ s.seg.state = .lost)
    (hany : s.seg.causes.any = false) (hq : QueueKept q)
    (hapart : ∀ t, s.seg.holder = some t → t.vehicle ∉ q.map (fun t => t.vehicle)) : (s.setSegQueue q).SegKept := by
  have hshape := h.shape
  unfold SegShape at hshape
  refine ⟨?_, hq, hapart⟩
  show SegShape s.seg.state s.seg.holder s.seg.causes.any q s.seg.lease
  rcases hstate with hstate | hstate <;> simp only [hstate] at hshape ⊢
  · exact hshape
  · exact ⟨hshape.1, fun hcause => absurd hcause (by simp [hany]), hshape.2.2⟩

/-- Vehicles leave the queue. -/
theorem State.SegKept.shrinkQueue {q : List Truck} (hsub : q.Sublist s.seg.queue) : (s.setSegQueue q).SegKept := by
  obtain ⟨hshape, ⟨hlength, hnodup⟩, hapart⟩ := h
  have hvehicles := hsub.map (fun t => t.vehicle)
  have hnil (hempty : s.seg.queue = []) : q = [] := List.sublist_nil.mp (hempty ▸ hsub)
  refine ⟨?_, ⟨hsub.length_le.trans hlength, hvehicles.nodup hnodup⟩, fun t ht hmem => hapart t ht (hvehicles.subset hmem)⟩
  show SegShape s.seg.state s.seg.holder s.seg.causes.any q s.seg.lease
  unfold SegShape at hshape ⊢
  split <;> simp_all

/-- A vehicle that is not the holder joins the queue of a segment without a cause (R123). -/
theorem State.SegKept.joinQueue {v : Addr} (d : Heading) (hholder : ¬ s.seg.heldBy v = true)
    (hstate : s.seg.state = .held ∨ s.seg.state = .lost) (hany : s.seg.causes.any = false) : (s.joinQueue v d).SegKept := by
  obtain ⟨hlength, hnodup⟩ := h.queue
  have hsent {u : State} (hu : u.SegKept) (n : Nat) : (u.sendWait v n).SegKept := by
    refine hu.unchanged ?_ ?_ ?_ ?_ ?_ <;> simp
  unfold State.joinQueue
  split
  next hwaits =>
    have hsame : (s.seg.queue.map (fun t => if t.vehicle = v then (⟨v, d⟩ : Truck) else t)).map (fun t => t.vehicle)
        = s.seg.queue.map (fun t => t.vehicle) := by
      rw [List.map_map]
      refine List.map_congr_left fun t _ => ?_
      simp only [Function.comp]
      split
      next e => exact e.symm
      · rfl
    refine hsent (h.setSegQueue hstate hany ⟨by rwa [List.length_map], by rwa [hsame]⟩ fun t ht => ?_) _
    rw [hsame]
    exact h.apart t ht
  next hwaits =>
    split
    next hroom =>
      have hnew : v ∉ s.seg.queue.map (fun t => t.vehicle) := fun hmem => hwaits ((Segment.waits_iff ..).mpr hmem)
      refine hsent (h.setSegQueue hstate hany ⟨by simpa using hroom, ?_⟩ fun t ht => ?_) _
      · rw [List.map_append]
        refine List.nodup_append.mpr ⟨hnodup, List.nodup_singleton _, fun a ha b hb e => hnew ?_⟩
        rw [List.map_singleton, List.mem_singleton] at hb
        rwa [← show a = v from e.trans hb]
      · rw [List.map_append, List.mem_append]
        rintro (hmem | hmem)
        · exact h.apart t ht hmem
        · exact hholder ((Segment.heldBy_iff ..).mpr ⟨t, ht, by simpa using hmem⟩)
    · refine h.unchanged ?_ ?_ ?_ ?_ ?_ <;> simp

theorem State.SegKept.entryRequest (v : Addr) (d : Heading) : (s.entryRequest v d).SegKept := by
  have hshape := h.shape
  unfold SegShape at hshape
  unfold State.entryRequest
  split
  next hholds =>
    obtain ⟨t, ht, rfl⟩ := (Segment.heldBy_iff ..).mp hholds
    split
    next hheld =>
      simp only [hheld] at hshape
      have hgranted : ((s.setHolder ⟨t.vehicle, d⟩).startLease).SegKept := by
        refine ⟨?_, h.queue, ?_⟩
        · show SegShape s.seg.state (some _) s.seg.causes.any s.seg.queue _
          rw [hheld]
          exact ⟨rfl, hshape.2.1, rfl⟩
        · rintro u ⟨⟩
          exact h.apart t ht
      refine hgranted.unchanged ?_ ?_ ?_ ?_ ?_ <;> simp
    next hdraining =>
      refine (h.startLease (.inr hdraining)).unchanged ?_ ?_ ?_ ?_ ?_ <;> simp
    all_goals exact h
  next hholder =>
    have hrefused (c : EntryRefusal) : (s.sendRefusal v c).SegKept := by
      refine h.unchanged ?_ ?_ ?_ ?_ ?_ <;> simp
    split
    next hfree =>
      simp only [hfree] at hshape
      exact State.grantTo_segKept hshape.2.1 h.queue (by simp [hshape.2.2.1])
    next hheld =>
      simp only [hheld] at hshape
      exact h.joinQueue d hholder (.inl hheld) hshape.2.1
    next hlost =>
      split
      · exact hrefused _
      next hany => exact h.joinQueue d hholder (.inr hlost) (Bool.not_eq_true _ ▸ hany)
    · exact hrefused _
    · exact hrefused _

theorem State.SegKept.vacate : s.vacate.SegKept := State.vacate_segKept h.queue_empty h.queue

theorem State.SegKept.exitNotice (v : Addr) : (s.exitNotice v).SegKept := by
  have hsent {u : State} (hu : u.SegKept) (n : Nat) (l : List Truck) : (u.sendWaits n l).SegKept := by
    refine hu.unchanged ?_ ?_ ?_ ?_ ?_ <;> simp
  unfold State.exitNotice
  split
  · exact h.vacate
  · split
    · exact hsent (h.shrinkQueue (List.eraseIdx_sublist s.seg.queue _)) _ _
    · exact h.unchanged rfl rfl rfl rfl rfl

theorem State.SegKept.releaseHolder : s.releaseHolder.SegKept := by
  unfold State.releaseHolder
  split
  next t _ =>
    have hcauses : ((s.removeHolder.sendWithdraw t.vehicle).setFlag Flag.released).seg.causes = s.seg.causes := by
      simp [State.removeHolder]
    have hqueue : ((s.removeHolder.sendWithdraw t.vehicle).setFlag Flag.released).seg.queue = s.seg.queue := by
      simp [State.removeHolder]
    refine State.vacate_segKept ?_ ?_
    · rw [hcauses, hqueue]; exact h.queue_empty
    · rw [hqueue]; exact h.queue
  · refine State.SegKept.vacate (h.unchanged ?_ ?_ ?_ ?_ ?_) <;> simp

theorem State.SegKept.releaseSegment : s.releaseSegment.1.SegKept := by
  unfold State.releaseSegment
  split
  · exact h.releaseHolder
  · exact h

theorem State.SegKept.leaseExpires (hruns : s.seg.lease.isSome = true) : s.leaseExpires.SegKept := by
  have hshape := h.shape
  unfold SegShape at hshape
  have hlost : ((s.setSegState .lost).stopLease).SegKept := by
    refine ⟨?_, h.queue, h.apart⟩
    show SegShape .lost s.seg.holder s.seg.causes.any s.seg.queue none
    cases hstate : s.seg.state with
    | held => simp only [hstate] at hshape; exact ⟨hshape.1, h.queue_empty, rfl⟩
    | draining => simp only [hstate] at hshape; exact ⟨hshape.1, h.queue_empty, rfl⟩
    | free => simp only [hstate] at hshape; simp [hshape] at hruns
    | lost => simp only [hstate] at hshape; simp [hshape] at hruns
    | closed => simp only [hstate] at hshape; simp [hshape] at hruns
  unfold State.leaseExpires
  refine hlost.unchanged ?_ ?_ ?_ ?_ ?_ <;> simp

theorem State.SegKept.restartSegment : s.restartSegment.SegKept := by
  have hshape := h.shape
  unfold SegShape at hshape
  refine ⟨?_, queueKept_nil, fun t _ => List.not_mem_nil⟩
  show SegShape s.seg.state s.seg.holder s.seg.causes.any [] _
  cases hstate : s.seg.state <;> simp only [hstate] at hshape
  all_goals simp [SegShape, hstate, hshape, State.restartSegment, startTimer]

end

theorem State.segKept_blocks : KeepsBlocks State.SegKept := by
  have unchanged {s t : State} (h : s.SegKept) (hstate : t.seg.state = s.seg.state)
      (hholder : t.seg.holder = s.seg.holder) (hcauses : t.seg.causes = s.seg.causes) (hqueue : t.seg.queue = s.seg.queue)
      (hlease : t.seg.lease = s.seg.lease) : t.SegKept := h.unchanged hstate hholder hcauses hqueue hlease
  exact {
    cold := fun _ _ _ _ _ _ => ⟨⟨rfl, rfl, rfl, rfl⟩, queueKept_nil, fun _ _ => List.not_mem_nil⟩
    heardFrom := fun a h => h.heardFrom a
    entryRequest := fun v d _ h => h.entryRequest v d
    exitNotice := fun v h => h.exitNotice v
    leaseExpires := fun hruns h => h.leaseExpires hruns
    closeSegment := fun h => h.changeCauses _
    openSegment := fun h => h.changeCauses _
    releaseSegment := fun h => h.releaseSegment
    regrade := fun h => State.regrade_keeps (P := State.SegKept) (fun _ _ _ _ h => unchanged h (by simp) (by simp) (by simp) (by simp) (by simp))
      (fun _ _ h => h.segZone _ _) (fun _ h => unchanged h (by simp) (by simp) (by simp) (by simp) (by simp))
      (fun _ h => unchanged h (by simp) (by simp) (by simp) (by simp) (by simp)) h
    takeParameters := fun p h => State.takeParameters_keeps (P := State.SegKept) (unchanged h rfl rfl rfl rfl rfl)
      (fun _ h => unchanged h (by simp) (by simp) (by simp) (by simp) (by simp))
      (fun _ h => unchanged h (by simp) (by simp) (by simp) (by simp) (by simp)) }

theorem State.SegKept.restart {s : State} (h : s.SegKept) : s.restart.SegKept := by
  have hbefore : s.zeroCounters.restartMgmt.restartNet.restartTable.restartCalls.SegKept := by
    refine h.unchanged ?_ ?_ ?_ ?_ ?_ <;> simp
  refine State.segKept_blocks.restart (hbefore.restartSegment.unchanged ?_ ?_ ?_ ?_ ?_) <;> simp

theorem State.segKept_keeps : Keeps State.SegKept :=
  State.segKept_blocks.keeps (State.restart_keeps (P := State.SegKept) State.SegKept.restart
    (fun _ h => h.unchanged rfl rfl rfl rfl rfl) (fun _ h => h.unchanged rfl rfl rfl rfl rfl)
    (fun _ _ h => h.unchanged rfl rfl rfl rfl rfl) (fun _ h => h.unchanged (by simp) (by simp) (by simp) (by simp) (by simp))
    (fun _ h => h.unchanged rfl rfl rfl rfl rfl))

/-! ### The closure cause AIR (R120) -/

theorem State.AirKept.unchanged {s t : State} (h : s.AirKept) (hcauses : t.seg.causes = s.seg.causes)
    (hzone : t.air.zone = s.air.zone) : t.AirKept := by
  rw [State.AirKept, hcauses, hzone]
  exact h

@[simp] theorem State.changeCauses_causes (s : State) (c : Causes) : (s.changeCauses c).seg.causes = c := by
  have hcloses (u : State) : u.segCloses.seg.causes = u.seg.causes := by
    unfold State.segCloses
    simp only
    split <;> simp [State.setSegQueue]
  have hopens (u : State) : u.segOpens.seg.causes = u.seg.causes := by
    unfold State.segOpens
    split <;> simp
  unfold State.changeCauses
  simp only
  split
  · exact hcloses _
  · split
    · exact hopens _
    · rfl

@[simp] theorem State.segZone_causes (s : State) (old new : Grade) :
    (s.segZone old new).seg.causes = { s.seg.causes with air := new.atLeast .alarm } := by
  unfold State.segZone
  simp only
  split
  · split <;> simp
  · simp

theorem State.AirKept.regrade {s : State} (h : s.AirKept) : s.regrade.AirKept := by
  have hevac {u : State} (hu : u.AirKept) : u.evacZone.AirKept := hu.unchanged (by simp) (by simp)
  unfold State.regrade
  simp only
  split
  next hsame => exact h.unchanged (by simp) (by simp [hsame])
  next =>
    refine hevac ?_
    simp [State.AirKept]

theorem State.airKept_blocks : KeepsBlocks State.AirKept := by
  have unchanged {s t : State} (h : s.AirKept) (hcauses : t.seg.causes = s.seg.causes)
      (hzone : t.air.zone = s.air.zone) : t.AirKept := h.unchanged hcauses hzone
  exact {
    cold := fun _ _ _ _ _ _ => by simp [State.AirKept, State.cold, Segment.cold, Air.cold, Grade.atLeast, Grade.code]
    closeSegment := fun h => by simpa [State.AirKept, State.closeSegment, loaded] using h
    openSegment := fun h => by simpa [State.AirKept, State.openSegment, loaded] using h
    regrade := State.AirKept.regrade
    takeParameters := fun p h => State.takeParameters_keeps (P := State.AirKept) (unchanged h rfl rfl)
      (fun _ h => unchanged h (by simp) (by simp)) (fun _ h => unchanged h (by simp) (by simp)) }

theorem State.AirKept.restart {s : State} (h : s.AirKept) : s.restart.AirKept :=
  State.airKept_blocks.restart (h.unchanged (by simp) (by simp))

theorem State.airKept_keeps : Keeps State.AirKept :=
  State.airKept_blocks.keeps (State.restart_keeps (P := State.AirKept) State.AirKept.restart
    (fun _ h => h.unchanged rfl rfl) (fun _ h => h.unchanged rfl rfl) (fun _ _ h => h.unchanged rfl rfl)
    (fun _ h => h.unchanged (by simp) (by simp)) (fun _ h => h.unchanged rfl rfl))

/-! ### The local population (R55, R133) -/

/-- The miner entries at RADIO_HERE of a list. -/
def minersIn (l : List Entry) : Nat := l.countP (fun e => isMiner e.address && e.location == .radioHere)

/-- An entry of the list has the address, at RADIO_HERE. -/
def hereIn (l : List Entry) (v : Addr) : Bool := l.any (fun e => e.address == v && e.location == .radioHere)

/-- The holder is at RADIO_HERE, as a list has it. -/
def holderIn (holder : Option Truck) (l : List Entry) : Bool :=
  match holder with
  | some t => hereIn l t.vehicle
  | none => false

theorem State.minersHere_length (s : State) : s.minersHere.length = minersIn s.table.entries :=
  List.countP_eq_length_filter.symm

/-- Of ascending entries the first of an address is the only one. -/
theorem State.isHere_eq {s : State} (h : Ascending s.table.entries) (v : Addr) : s.isHere v = hereIn s.table.entries v := by
  rw [Bool.eq_iff_iff]
  unfold State.isHere hereIn
  simp only [List.any_eq_true, Bool.and_eq_true, beq_iff_eq]
  split
  next e he =>
    obtain ⟨hmem, haddress⟩ := findEntry_eq_some he
    refine ⟨fun hlocation => ⟨e, hmem, haddress, by simpa using hlocation⟩, ?_⟩
    rintro ⟨x, hx, hxa, hxl⟩
    rw [h.unique hmem hx (haddress.trans hxa.symm)]
    simpa using hxl
  next hnone =>
    refine ⟨fun hfalse => absurd hfalse (by simp), ?_⟩
    rintro ⟨x, hx, hxa, -⟩
    exact absurd hxa (findEntry_eq_none.mp hnone x hx)

/-- The arbiter follows a list of entries: its miner count and its holder's presence are the list's. -/
structure Follows (g : Segment) (l : List Entry) : Prop where
  count : g.minerCount = minersIn l
  here : g.holderHere = holderIn g.holder l

theorem Follows.perm {g : Segment} {l l' : List Entry} (h : Follows g l) (hp : l.Perm l') : Follows g l' := by
  refine ⟨h.count.trans (hp.countP_eq _), h.here.trans ?_⟩
  unfold holderIn hereIn
  split
  · exact hp.any_eq
  · rfl

theorem Follows.of_eq {g g' : Segment} {l : List Entry} (h : Follows g l) (hholder : g'.holder = g.holder)
    (hcount : g'.minerCount = g.minerCount) (hhere : g'.holderHere = g.holderHere) : Follows g' l :=
  ⟨hcount.trans h.count, by rw [hhere, hholder]; exact h.here⟩

/-- Entries that keep addresses and their being at RADIO_HERE. -/
theorem Follows.map {g : Segment} {l : List Entry} (h : Follows g l) {f : Entry → Entry}
    (haddress : ∀ e, (f e).address = e.address)
    (hlocation : ∀ e, (f e).location = .radioHere ↔ e.location = .radioHere) : Follows g (l.map f) := by
  have hsame (e : Entry) : ((f e).location == Location.radioHere) = (e.location == .radioHere) := by
    rw [Bool.eq_iff_iff, beq_iff_eq, beq_iff_eq]
    exact hlocation e
  refine ⟨h.count.trans ?_, h.here.trans ?_⟩
  · rw [minersIn, minersIn, List.countP_map]
    simp only [Function.comp_def, haddress, hsame]
  · unfold holderIn hereIn
    split
    · rw [List.any_map]
      simp only [Function.comp_def, haddress, hsame]
    · rfl

/-- Entries with the addresses and locations of others. -/
theorem Follows.of_places {g : Segment} {l l' : List Entry} (h : Follows g l)
    (hplaces : l'.map (fun e => (e.address, e.location)) = l.map (fun e => (e.address, e.location))) : Follows g l' := by
  have hminers (l : List Entry) : minersIn l
      = (l.map (fun e => (e.address, e.location))).countP (fun p => isMiner p.1 && p.2 == .radioHere) := by
    rw [List.countP_map]
    rfl
  have hhere (l : List Entry) (v : Addr) : hereIn l v
      = (l.map (fun e => (e.address, e.location))).any (fun p => p.1 == v && p.2 == .radioHere) := by
    rw [List.any_map]
    rfl
  refine ⟨h.count.trans ?_, h.here.trans ?_⟩
  · rw [hminers, hminers, hplaces]
  · unfold holderIn
    split
    · rw [hhere, hhere, hplaces]
    · rfl

/-- An entry that is not at RADIO_HERE is not followed. -/
theorem follows_cons_away {g : Segment} {e : Entry} {l : List Entry} (he : e.location ≠ .radioHere) :
    Follows g (e :: l) ↔ Follows g l := by
  have hcount : minersIn (e :: l) = minersIn l := by simp [minersIn, he]
  have hhere (t : Option Truck) : holderIn t (e :: l) = holderIn t l := by
    unfold holderIn hereIn
    split <;> simp [he]
  exact ⟨fun ⟨hc, hh⟩ => ⟨hc.trans hcount, hh.trans (hhere _)⟩, fun ⟨hc, hh⟩ => ⟨hc.trans hcount.symm, hh.trans (hhere _).symm⟩⟩

/-- Two entries of one address, both at RADIO_HERE. -/
theorem Follows.cons_here {g : Segment} {e e' : Entry} {l : List Entry} (h : Follows g (e :: l))
    (haddress : e'.address = e.address) (hlocation : e'.location = e.location) : Follows g (e' :: l) := by
  refine ⟨h.count.trans ?_, h.here.trans ?_⟩
  · simp [minersIn, List.countP_cons, haddress, hlocation]
  · unfold holderIn hereIn
    split <;> simp [haddress, hlocation]

theorem not_isMiner_of_isVehicle {a : Addr} (h : isVehicle a = true) : isMiner a = false := by
  simp only [isVehicle, isMiner, beq_iff_eq] at h ⊢
  simp [h]

/-! What the hand-offs leave of the arbiter's record. -/

section

variable (s : State)

theorem State.proximityFollows_seg (was : Bool) : (s.proximityFollows was).seg.minerCount = s.seg.minerCount
    ∧ (s.proximityFollows was).seg.holderHere = s.seg.holderHere ∧ (s.proximityFollows was).seg.holder = s.seg.holder := by
  simp

theorem State.segMinerArrives_count (a : Addr) : (s.segMinerArrives a).seg.minerCount = s.seg.minerCount + 1 := by
  unfold State.segMinerArrives
  simp only
  repeat' split
  all_goals simp [State.setMinerCount]

theorem State.segMinerLeaves_count : s.segMinerLeaves.seg.minerCount = s.seg.minerCount - 1 := by
  unfold State.segMinerLeaves
  simp only
  split <;> simp [State.setMinerCount]

theorem State.segVehicle_here (v : Addr) (b : Bool) :
    (s.segVehicle v b).seg.holderHere = if s.seg.heldBy v then b else s.seg.holderHere := by
  unfold State.segVehicle
  split <;> simp [State.setHolderHere]

end

theorem hereIn_cons (e : Entry) (l : List Entry) (v : Addr) :
    hereIn (e :: l) v = (e.address == v && e.location == .radioHere || hereIn l v) := rfl

theorem minersIn_cons (e : Entry) (l : List Entry) :
    minersIn (e :: l) = minersIn l + if isMiner e.address && e.location == .radioHere then 1 else 0 :=
  List.countP_cons

theorem hereIn_eq_false {l : List Entry} {v : Addr} (h : ∀ e ∈ l, e.address ≠ v) : hereIn l v = false := by
  simp only [hereIn, List.any_eq_false, Bool.and_eq_true, beq_iff_eq, not_and]
  exact fun e he haddress => absurd haddress (h e he)

/-- An address that is not the holder's changes nothing of the holder's presence. -/
theorem holderIn_cons_of_ne {holder : Option Truck} {e : Entry} {l : List Entry}
    (h : ∀ t, holder = some t → t.vehicle ≠ e.address) : holderIn holder (e :: l) = holderIn holder l := by
  unfold holderIn
  split
  next t =>
    have hne : (e.address == t.vehicle) = false := by simpa using (h t rfl).symm
    rw [hereIn_cons, hne, Bool.false_and, Bool.false_or]
  · rfl

section

variable {s : State} {e : Entry} {l : List Entry} (hvehicle : ∀ t, s.seg.holder = some t → isVehicle t.vehicle = true)
  (hhere : e.location = .radioHere)
include hvehicle hhere

/-- An entry comes to RADIO_HERE, and the arbiter is told (R55, R133). -/
theorem State.arrives_follows (h : Follows s.seg l) (previous : Option Location) :
    Follows (s.arrives e previous).seg (e :: l) := by
  have hlocated {u : State} (hu : Follows u.seg (e :: l)) : Follows (u.locate e previous).seg (e :: l) :=
    hu.of_eq (by simp) (by simp) (by simp)
  unfold State.arrives
  refine hlocated ?_
  split
  next hminer =>
    have hholder (t : Truck) (ht : s.seg.holder = some t) : t.vehicle ≠ e.address := fun heq => by
      have hnot := not_isMiner_of_isVehicle (heq ▸ hvehicle t ht)
      rw [hminer] at hnot
      cases hnot
    constructor
    · rw [State.segMinerArrives_count, minersIn_cons, ← h.count]
      simp [hminer, hhere]
    · have hsame : ((s.evacMinerArrives e).segMinerArrives e.address).seg.holder = s.seg.holder := by simp
      rw [hsame, holderIn_cons_of_ne hholder, ← h.here]
      simp
  next hminer =>
    have hcount : minersIn (e :: l) = minersIn l := by simp [minersIn_cons, hminer]
    split
    next =>
      constructor
      · rw [hcount, ← h.count]
        simp
      · have hsame : (s.segVehicle e.address true).seg.holder = s.seg.holder := by simp
        rw [hsame, State.segVehicle_here]
        split
        next hheld =>
          obtain ⟨t, ht, haddress⟩ := (Segment.heldBy_iff ..).mp hheld
          rw [ht]
          simp [holderIn, hereIn_cons, haddress, hhere]
        next hheld =>
          rw [holderIn_cons_of_ne fun t ht heq => hheld ((Segment.heldBy_iff ..).mpr ⟨t, ht, heq⟩)]
          exact h.here
    next hnot =>
      refine ⟨h.count.trans hcount.symm, ?_⟩
      rw [holderIn_cons_of_ne fun t ht heq => hnot (heq ▸ hvehicle t ht)]
      exact h.here

/-- The entry of an address leaves RADIO_HERE, and the arbiter is told (R55, R133). -/
theorem State.departs_follows (h : Follows s.seg (e :: l)) (hgone : ∀ x ∈ l, x.address ≠ e.address) :
    Follows (s.departs e.address).seg l := by
  unfold State.departs
  split
  next hminer =>
    have hholder (t : Truck) (ht : s.seg.holder = some t) : t.vehicle ≠ e.address := fun heq => by
      have hnot := not_isMiner_of_isVehicle (heq ▸ hvehicle t ht)
      rw [hminer] at hnot
      cases hnot
    constructor
    · rw [State.segMinerLeaves_count, h.count, minersIn_cons]
      simp [hminer, hhere]
    · have hsame : s.segMinerLeaves.seg.holder = s.seg.holder := by simp
      rw [hsame, ← holderIn_cons_of_ne hholder, ← h.here]
      simp
  next hminer =>
    have hcount : minersIn (e :: l) = minersIn l := by simp [minersIn_cons, hminer]
    split
    next =>
      constructor
      · rw [← hcount, ← h.count]
        simp
      · have hsame : (s.segVehicle e.address false).seg.holder = s.seg.holder := by simp
        rw [hsame, State.segVehicle_here]
        split
        next hheld =>
          obtain ⟨t, ht, haddress⟩ := (Segment.heldBy_iff ..).mp hheld
          rw [ht]
          exact (hereIn_eq_false (haddress ▸ hgone)).symm
        next hheld =>
          rw [h.here, holderIn_cons_of_ne fun t ht heq => hheld ((Segment.heldBy_iff ..).mpr ⟨t, ht, heq⟩)]
    next hnot =>
      refine ⟨h.count.trans hcount, ?_⟩
      rw [h.here, holderIn_cons_of_ne fun t ht heq => hnot (heq ▸ hvehicle t ht)]

end

/-! ### The entries of an address and the others -/

theorem Ascending.perm_remove {l : List Entry} (h : Ascending l) {e : Entry} (he : e ∈ l) :
    l.Perm (e :: removeEntry e.address l) := by
  induction l with
  | nil => cases he
  | cons x l ih =>
    obtain ⟨hx, hl⟩ := List.pairwise_cons.mp h
    have hkeep {a : Addr} (hne : ∀ y ∈ l, y.address ≠ a) : removeEntry a l = l :=
      List.filter_eq_self.mpr fun y hy => by simpa using hne y hy
    rcases List.mem_cons.mp he with rfl | he
    · have hothers : removeEntry e.address l = l :=
        hkeep fun y hy heq => by have := hx y hy; rw [heq] at this; omega
      simp only [removeEntry, List.filter_cons, bne_self_eq_false, Bool.false_eq_true, if_false]
      rw [show l.filter (fun y => y.address != e.address) = l from hothers]
    · have hne : x.address ≠ e.address := fun heq => by have := hx e he; rw [heq] at this; omega
      have hcons : removeEntry e.address (x :: l) = x :: removeEntry e.address l := by
        simp [removeEntry, hne]
      rw [hcons]
      exact ((ih hl he).cons x).trans (List.Perm.swap e x _)

theorem replaceEntry_perm {l : List Entry} (h : Ascending l) {old new : Entry} (hold : findEntry l new.address = some old) :
    (replaceEntry new l).Perm (new :: removeEntry old.address l) := by
  obtain ⟨hmem, haddress⟩ := findEntry_eq_some hold
  have hnew : new ∈ replaceEntry new l := List.mem_map.mpr ⟨old, hmem, if_pos haddress⟩
  have hremoved : removeEntry new.address (replaceEntry new l) = removeEntry old.address l := by
    rw [haddress, removeEntry, removeEntry, replaceEntry, List.filter_map]
    have hfilter : (l.filter ((fun e => e.address != new.address) ∘ fun x => if x.address = new.address then new else x))
        = l.filter (fun e => e.address != new.address) :=
      List.filter_congr fun x _ => by simp only [Function.comp, replaceEntry_address]
    rw [hfilter]
    have hsame (x : Entry) (hx : x ∈ l.filter (fun e => e.address != new.address)) :
        (if x.address = new.address then new else x) = id x :=
      if_neg (by simpa using (List.mem_filter.mp hx).2)
    rw [List.map_congr_left hsame, List.map_id]
  have hperm := (h.map (replaceEntry_address new)).perm_remove hnew
  rwa [show List.map _ l = replaceEntry new l from rfl, hremoved] at hperm

theorem removeEntry_address {l : List Entry} {a : Addr} {x : Entry} (hx : x ∈ removeEntry a l) : x.address ≠ a := by
  simpa using (List.mem_filter.mp hx).2

/-! ### The promise about the local population -/

/-- The promise, part by part. -/
structure State.LocalKept (s : State) : Prop where
  ascending : Ascending s.table.entries
  follows : Follows s.seg s.table.entries
  holder : ∀ t, s.seg.holder = some t → isVehicle t.vehicle = true
  queue : ∀ t ∈ s.seg.queue, isVehicle t.vehicle = true

theorem State.populationFollowed_iff (s : State) : s.PopulationFollowed ↔ s.LocalKept := by
  have hholderIn (h : Ascending s.table.entries) : (match s.seg.holder with
      | some t => s.isHere t.vehicle
      | none => false) = holderIn s.seg.holder s.table.entries := by
    unfold holderIn
    cases s.seg.holder with
    | none => rfl
    | some t => exact s.isHere_eq h t.vehicle
  constructor
  · rintro ⟨hascending, hcount, hhere, hholder, hqueue⟩
    exact ⟨hascending, ⟨hcount.trans s.minersHere_length, hhere.trans (hholderIn hascending)⟩,
      fun t ht => hholder t ht, hqueue⟩
  · rintro ⟨hascending, ⟨hcount, hhere⟩, hholder, hqueue⟩
    exact ⟨hascending, hcount.trans s.minersHere_length.symm, hhere.trans (hholderIn hascending).symm,
      fun t ht => hholder t ht, hqueue⟩

section

variable {s : State} (h : s.LocalKept)
include h

theorem State.LocalKept.unchanged {t : State} (hentries : t.table.entries = s.table.entries)
    (hholder : t.seg.holder = s.seg.holder) (hqueue : t.seg.queue = s.seg.queue)
    (hcount : t.seg.minerCount = s.seg.minerCount) (hhere : t.seg.holderHere = s.seg.holderHere) : t.LocalKept := by
  constructor
  · rw [hentries]; exact h.ascending
  · rw [hentries]; exact h.follows.of_eq hholder hcount hhere
  · rw [hholder]; exact h.holder
  · rw [hqueue]; exact h.queue

/-- Entries that keep addresses and their being at RADIO_HERE. -/
theorem State.LocalKept.map {f : Entry → Entry} (haddress : ∀ e, (f e).address = e.address)
    (hlocation : ∀ e, (f e).location = .radioHere ↔ e.location = .radioHere) :
    (s.setEntries (s.table.entries.map f)).LocalKept :=
  ⟨h.ascending.map haddress, h.follows.map haddress hlocation, h.holder, h.queue⟩

theorem State.LocalKept.rewriteEntry {old new : Entry} (hold : s.entry? new.address = some old) :
    (s.rewriteEntry old new).LocalKept := by
  obtain ⟨hmem, haddress⟩ := findEntry_eq_some hold
  have hbefore : Follows s.seg (old :: removeEntry old.address s.table.entries) :=
    h.follows.perm (h.ascending.perm_remove hmem)
  have hafter {g : Segment} (hg : Follows g (new :: removeEntry old.address s.table.entries)) :
      Follows g (replaceEntry new s.table.entries) := hg.perm (replaceEntry_perm h.ascending hold).symm
  refine ⟨?_, ?_, by simpa using h.holder, by simpa using h.queue⟩
  · rw [State.rewriteEntry_entries]
    exact h.ascending.map (replaceEntry_address new)
  · rw [State.rewriteEntry_entries]
    refine hafter ?_
    unfold State.rewriteEntry
    simp only
    split
    next hcomes =>
      have hrest := (follows_cons_away hcomes.1).mp hbefore
      exact State.arrives_follows (s := s.setEntries (replaceEntry new s.table.entries)) h.holder hcomes.2 hrest _
    next hcomes =>
      split
      next hleaves =>
        have hrest := State.departs_follows (s := s.setEntries (replaceEntry new s.table.entries)) h.holder hleaves.1 hbefore
          fun x hx => removeEntry_address hx
        exact (follows_cons_away hleaves.2).mpr hrest
      next hleaves =>
        by_cases hhere : old.location = .radioHere
        · have hnew : new.location = .radioHere := by simpa [hhere] using hleaves
          exact hbefore.cons_here haddress.symm (hnew.trans hhere.symm)
        · have hnew : new.location ≠ .radioHere := by simpa [hhere] using hcomes
          exact (follows_cons_away hnew).mpr ((follows_cons_away hhere).mp hbefore)

theorem State.LocalKept.dropEntry {e : Entry} (he : e ∈ s.table.entries) : (s.dropEntry e).LocalKept := by
  have hbefore : Follows s.seg (e :: removeEntry e.address s.table.entries) :=
    h.follows.perm (h.ascending.perm_remove he)
  refine ⟨?_, ?_, by simpa using h.holder, by simpa using h.queue⟩
  · rw [State.dropEntry_entries]
    exact h.ascending.remove _
  · rw [State.dropEntry_entries]
    unfold State.dropEntry
    simp only
    split
    next hhere =>
      exact State.departs_follows (s := s.setEntries _) h.holder hhere hbefore fun x hx => removeEntry_address hx
    next haway => exact (follows_cons_away haway).mp hbefore

theorem State.LocalKept.insertNew {a : Addr} (l : Location) (attach : Option Addr) (hnew : s.entry? a = none) :
    (s.insertNew a l attach).LocalKept := by
  have hafter {g : Segment} (hg : Follows g (s.newEntry a l attach :: s.table.entries)) :
      Follows g (insertEntry (s.newEntry a l attach) s.table.entries) := hg.perm (insertEntry_perm _ _).symm
  refine ⟨?_, ?_, by simpa using h.holder, by simpa using h.queue⟩
  · rw [State.insertNew_entries]
    exact h.ascending.insert (findEntry_eq_none.mp hnew)
  · rw [State.insertNew_entries]
    refine hafter ?_
    have harrives {u : State} (hu : u.seg = s.seg) (hhere : (s.newEntry a l attach).location = .radioHere) :
        Follows (u.arrives (s.newEntry a l attach) none).seg (s.newEntry a l attach :: s.table.entries) :=
      State.arrives_follows (hu ▸ h.holder) hhere (hu ▸ h.follows) none
    unfold State.insertNew
    simp only
    split
    next hhere => exact harrives rfl hhere
    next haway => exact (follows_cons_away (e := s.newEntry a l attach) haway).mpr h.follows

theorem State.LocalKept.setMark (a : Addr) (m : Muster) : (s.setMark a m).LocalKept := by
  unfold State.setMark
  split
  next e he =>
    obtain ⟨hmem, -⟩ := findEntry_eq_some he
    have hsame (x : Entry) (hx : x ∈ s.table.entries) :
        (if x.address = e.address then { e with mark := m } else x)
          = if x.address = e.address then { x with mark := m } else x := by
      split
      next heq => rw [h.ascending.unique hx hmem heq]
      · rfl
    have hreplace : replaceEntry { e with mark := m } s.table.entries
        = s.table.entries.map (fun x => if x.address = e.address then { x with mark := m } else x) :=
      List.map_congr_left hsame
    rw [hreplace]
    refine h.map (fun x => ?_) (fun x => ?_)
    all_goals split <;> rfl
  · exact h

end

theorem State.localKept_tags : KeepsTags State.LocalKept := by
  have unchanged {s t : State} (h : s.LocalKept) (hentries : t.table.entries = s.table.entries)
      (hholder : t.seg.holder = s.seg.holder) (hqueue : t.seg.queue = s.seg.queue)
      (hcount : t.seg.minerCount = s.seg.minerCount) (hhere : t.seg.holderHere = s.seg.holderHere) : t.LocalKept :=
    h.unchanged hentries hholder hqueue hcount hhere
  exact {
    rewrite := fun hold _ _ _ h => h.rewriteEntry hold
    drop := fun he h => h.dropEntry he
    insert := fun l attach hnew _ _ h => h.insertNew l attach hnew
    evict := fun {s a e} l attach f he hnew _ h => by
      have hdropped : ((s.dropEntry e).countTable f).LocalKept := (h.dropEntry he).unchanged rfl rfl rfl rfl rfl
      refine hdropped.insertNew l attach ?_
      have hentries : ((s.dropEntry e).countTable f).table.entries = removeEntry e.address s.table.entries :=
        s.dropEntry_entries e
      rw [State.entry?, hentries]
      exact findEntry_eq_none.mpr fun x hx => findEntry_eq_none.mp hnew x (List.mem_of_mem_filter hx)
    older := fun h => h.map (fun _ => rfl) (fun _ => Iff.rfl)
    countTable := fun _ h => h.unchanged rfl rfl rfl rfl rfl
    setFlag := fun _ h => h.unchanged (by simp) (by simp) (by simp) (by simp) (by simp)
    setMark := fun a m h => h.setMark a m
    unmark := fun h => h.map (fun _ => rfl) (fun _ => Iff.rfl) }

/-! The arbiter's own moves. -/

section

variable {s : State} (h : s.LocalKept)
include h

/-- A vehicle becomes the holder, and its presence is taken from the table (R122, R133). -/
theorem State.LocalKept.grantTo {t : Truck} (ht : isVehicle t.vehicle = true) : (s.grantTo t).LocalKept := by
  have hentries : (s.grantTo t).table.entries = s.table.entries := by simp
  have hholder : (s.grantTo t).seg.holder = some t := by simp [State.grantTo, State.setHolder, State.setHolderHere]
  have hhere : (s.grantTo t).seg.holderHere = s.isHere t.vehicle := by
    simp only [State.grantTo, State.proximityFollows_seg]
    rfl
  refine ⟨hentries ▸ h.ascending, ?_, ?_, by simpa using h.queue⟩
  · rw [hentries]
    refine ⟨by simpa using h.follows.count, ?_⟩
    rw [hhere, hholder]
    exact s.isHere_eq h.ascending t.vehicle
  · rw [hholder]
    rintro u ⟨⟩
    exact ht

theorem State.LocalKept.setSegQueue {q : List Truck} (hq : ∀ t ∈ q, isVehicle t.vehicle = true) : (s.setSegQueue q).LocalKept :=
  ⟨h.ascending, h.follows.of_eq rfl rfl rfl, h.holder, hq⟩

theorem State.LocalKept.removeHolder : s.removeHolder.LocalKept :=
  ⟨h.ascending, ⟨h.follows.count, rfl⟩, fun _ ht => absurd ht.symm (Option.some_ne_none _), h.queue⟩

theorem State.LocalKept.becomeFree : s.becomeFree.LocalKept := by
  unfold State.becomeFree
  split
  · exact h.unchanged rfl rfl rfl rfl rfl
  next t rest hcons =>
    have hqueue := h.queue
    rw [hcons] at hqueue
    have hfree : (s.setSegState .free).LocalKept := h.unchanged rfl rfl rfl rfl rfl
    have hgranted := (hfree.setSegQueue fun u hu => hqueue u (List.mem_cons_of_mem _ hu)).grantTo
      (hqueue t List.mem_cons_self)
    refine hgranted.unchanged ?_ ?_ ?_ ?_ ?_ <;> simp

theorem State.LocalKept.vacate : s.vacate.LocalKept := by
  unfold State.vacate
  split
  · exact h.removeHolder.unchanged rfl rfl rfl rfl rfl
  · exact h.removeHolder.becomeFree

theorem State.LocalKept.changeCauses (c : Causes) : (s.changeCauses c).LocalKept := by
  have hset : (s.setCauses c).LocalKept := h.unchanged rfl rfl rfl rfl rfl
  have hcloses : (s.setCauses c).segCloses.LocalKept := by
    have hrefused {u : State} (hu : u.LocalKept) (q : List Truck) : (u.refuseAll q).LocalKept := by
      refine hu.unchanged ?_ ?_ ?_ ?_ ?_ <;> simp
    unfold State.segCloses
    refine State.LocalKept.setSegQueue (hrefused ?_ _) (fun t ht => absurd ht List.not_mem_nil)
    split
    · exact hset.unchanged rfl rfl rfl rfl rfl
    · refine hset.unchanged ?_ ?_ ?_ ?_ ?_ <;> simp
    · exact hset
  have hopens : (s.setCauses c).segOpens.LocalKept := by
    unfold State.segOpens
    split
    · exact hset.becomeFree
    · refine hset.unchanged ?_ ?_ ?_ ?_ ?_ <;> simp
    · exact hset
  unfold State.changeCauses
  exact ite_keeps (P := State.LocalKept) (fun _ => hcloses)
    (fun _ => ite_keeps (P := State.LocalKept) (fun _ => hopens) (fun _ => hset))

theorem State.LocalKept.segZone (old new : Grade) : (s.segZone old new).LocalKept := by
  have hchanged := h.changeCauses { s.seg.causes with air := new.atLeast .alarm }
  unfold State.segZone
  simp only
  split
  · split
    · refine hchanged.unchanged ?_ ?_ ?_ ?_ ?_ <;> simp
    · exact hchanged
  · exact hchanged

theorem State.LocalKept.joinQueue {v : Addr} (d : Heading) (hv : isVehicle v = true) : (s.joinQueue v d).LocalKept := by
  have hsent {u : State} (hu : u.LocalKept) (n : Nat) : (u.sendWait v n).LocalKept := by
    refine hu.unchanged ?_ ?_ ?_ ?_ ?_ <;> simp
  unfold State.joinQueue
  split
  · refine hsent (h.setSegQueue fun t ht => ?_) _
    obtain ⟨u, hu, rfl⟩ := List.mem_map.mp ht
    split
    · exact hv
    · exact h.queue u hu
  · split
    · refine hsent (h.setSegQueue fun t ht => ?_) _
      rcases List.mem_append.mp ht with ht | ht
      · exact h.queue t ht
      · rw [List.mem_singleton.mp ht]
        exact hv
    · refine h.unchanged ?_ ?_ ?_ ?_ ?_ <;> simp

theorem State.LocalKept.entryRequest {v : Addr} (d : Heading) (hv : isVehicle v = true) : (s.entryRequest v d).LocalKept := by
  have hrefused (c : EntryRefusal) : (s.sendRefusal v c).LocalKept := by
    refine h.unchanged ?_ ?_ ?_ ?_ ?_ <;> simp
  unfold State.entryRequest
  split
  next hholds =>
    obtain ⟨t, ht, rfl⟩ := (Segment.heldBy_iff ..).mp hholds
    split
    next hheld =>
      have hset : (s.setHolder ⟨t.vehicle, d⟩).LocalKept := by
        refine ⟨h.ascending, ⟨h.follows.count, h.follows.here.trans ?_⟩, ?_, h.queue⟩
        · rw [ht]
          rfl
        · rintro u ⟨⟩
          exact hv
      refine hset.unchanged ?_ ?_ ?_ ?_ ?_ <;> simp
    next hdraining => refine h.unchanged ?_ ?_ ?_ ?_ ?_ <;> simp
    all_goals exact h
  next hholder =>
    split
    · exact h.grantTo hv
    · exact h.joinQueue d hv
    · exact ite_keeps (P := State.LocalKept) (fun _ => hrefused _) (fun _ => h.joinQueue d hv)
    · exact hrefused _
    · exact hrefused _

theorem State.LocalKept.exitNotice (v : Addr) : (s.exitNotice v).LocalKept := by
  have hsent {u : State} (hu : u.LocalKept) (n : Nat) (l : List Truck) : (u.sendWaits n l).LocalKept := by
    refine hu.unchanged ?_ ?_ ?_ ?_ ?_ <;> simp
  unfold State.exitNotice
  split
  · exact h.vacate
  · split
    · exact hsent (h.setSegQueue fun t ht => h.queue t ((List.eraseIdx_sublist s.seg.queue _).subset ht)) _ _
    · exact h.unchanged rfl rfl rfl rfl rfl

theorem State.LocalKept.releaseSegment : s.releaseSegment.1.LocalKept := by
  have htold {u : State} (hu : u.LocalKept) (v : Addr) : ((u.sendWithdraw v).setFlag Flag.released).LocalKept := by
    refine hu.unchanged ?_ ?_ ?_ ?_ ?_ <;> simp
  unfold State.releaseSegment State.releaseHolder
  split
  · show State.LocalKept (match s.seg.holder with | some t => _ | none => _)
    split
    · exact (htold h.removeHolder _).vacate
    · refine State.LocalKept.vacate (h.unchanged ?_ ?_ ?_ ?_ ?_) <;> simp
  · exact h

theorem State.LocalKept.forgetVia (p : Backbone) : (s.forgetVia p).LocalKept := by
  refine h.map (fun e => ?_) (fun e => ?_)
  · split <;> rfl
  · split
    next hvia => rw [hvia]; cases p <;> simp [Backbone.port, learntLocation]
    · exact Iff.rfl

theorem State.LocalKept.loadPinWindow (i : Fin 4) (w : PinWindow) : (s.loadPinWindow i w).LocalKept := by
  have hplaces (t : Table) (l : List Entry) : ∀ n,
      (repin t n l).map (fun e => (e.address, e.location)) = l.map (fun e => (e.address, e.location)) := by
    induction l with
    | nil => exact fun _ => rfl
    | cons e l ih => exact fun n => congrArg (List.cons (e.address, e.location)) (ih _)
  refine ⟨?_, h.follows.of_places (hplaces _ _ _), h.holder, h.queue⟩
  show Ascending (repin _ 0 s.table.entries)
  rw [ascending_iff, repin_address, ← ascending_iff]
  exact h.ascending

end

/-- The blocks' operations keep the arbiter's view of the population. -/
theorem State.localKept_blocks : KeepsBlocks State.LocalKept := by
  have unchanged {s t : State} (h : s.LocalKept) (hentries : t.table.entries = s.table.entries)
      (hholder : t.seg.holder = s.seg.holder) (hqueue : t.seg.queue = s.seg.queue)
      (hcount : t.seg.minerCount = s.seg.minerCount) (hhere : t.seg.holderHere = s.seg.holderHere) : t.LocalKept :=
    h.unchanged hentries hholder hqueue hcount hhere
  have hmoved {s : State} (a : Addr) (h : s.LocalKept) : (s.unitMoved a).LocalKept :=
    h.unchanged (by simp) (by simp) (by simp) (by simp) (by simp)
  exact {
    cold := fun _ _ _ _ _ _ => ⟨List.Pairwise.nil, ⟨rfl, rfl⟩, fun _ ht => absurd ht.symm (Option.some_ne_none _),
      fun _ ht => absurd ht List.not_mem_nil⟩
    learn := fun a l h => State.localKept_tags.learn a l h
    learnFrame := fun p f h => State.localKept_tags.learnFrame hmoved p f h
    ageTable := fun n h => State.localKept_tags.ageTable (h.unchanged rfl rfl rfl rfl rfl)
    storePanel := fun i c h => State.localKept_tags.storePanel i _ h
    emptyPanel := fun i h => State.localKept_tags.emptyPanel i h
    enterEvacuate := fun _ h => State.localKept_tags.enterEvacuate h
    leaveEvacuate := fun _ _ h => State.localKept_tags.leaveEvacuate h
    evacAck := fun f h => State.localKept_tags.evacAck f h
    loadPinWindow := fun i w h => h.loadPinWindow i w
    entryRequest := fun v d hv h => h.entryRequest d hv
    exitNotice := fun v h => h.exitNotice v
    closeSegment := fun h => h.changeCauses _
    openSegment := fun h => h.changeCauses _
    releaseSegment := fun h => h.releaseSegment
    regrade := fun h => State.regrade_keeps (P := State.LocalKept)
      (fun _ _ _ _ h => h.unchanged (by simp) (by simp) (by simp) (by simp) (by simp)) (fun _ _ h => h.segZone _ _)
      (fun _ h => State.localKept_tags.enterEvacuate h) (fun i h => State.localKept_tags.testBreach i h) h
    takeParameters := fun p h => State.takeParameters_keeps (P := State.LocalKept) (h.unchanged rfl rfl rfl rfl rfl)
      (fun _ h => h.unchanged (by simp) (by simp) (by simp) (by simp) (by simp))
      (fun _ h => State.localKept_tags.enterEvacuate h) }

theorem State.LocalKept.restart {s : State} (h : s.LocalKept) : s.restart.LocalKept := by
  refine State.localKept_blocks.restart ⟨List.Pairwise.nil, ⟨rfl, ?_⟩, by simpa using h.holder, fun _ ht => by cases ht⟩
  show false = holderIn s.seg.holder []
  cases s.seg.holder <;> rfl

theorem State.localKept_keeps : Keeps State.LocalKept :=
  State.localKept_blocks.keeps (State.restart_keeps (P := State.LocalKept) State.LocalKept.restart
    (fun _ h => h.unchanged rfl rfl rfl rfl rfl) (fun _ h => h.unchanged rfl rfl rfl rfl rfl)
    (fun _ _ h => h.unchanged rfl rfl rfl rfl rfl)
    (fun _ h => h.unchanged (by simp) (by simp) (by simp) (by simp) (by simp)) (fun p h => h.forgetVia p))

/-- Settles O10: the segment record and its cause AIR (`State.segKept_keeps`, `State.airKept_keeps`), and the arbiter's
view of the local population (`State.localKept_keeps`). -/
theorem segmentSoundInEveryStep : Obligations.SegmentSoundInEveryStep := by
  refine ⟨fun s t h hstep => ?_, fun s t h hstep => ?_⟩
  · obtain ⟨hseg, hair⟩ := s.segmentSound_iff.mp h
    exact t.segmentSound_iff.mpr ⟨State.segKept_keeps.step hseg hstep, State.airKept_keeps.step hair hstep⟩
  · exact t.populationFollowed_iff.mpr (State.localKept_keeps.step (s.populationFollowed_iff.mp h) hstep)

end Sys2Proof.Machine

end

section

set_option Elab.async false

/-! PROOF. The leg table (R94 to R114): the rule of each change of a leg, the limits, and that every command keeps the
start list, the limits, the setup timers and the partners. -/

namespace Sys2Proof.Machine

/-! ### Clearing a leg (R109) -/

section

variable (s : State)

@[simp] theorem State.leg_setStartList (l : List (Fin 8)) (k : Fin 8) : (s.setStartList l).leg k = s.leg k := rfl

@[simp] theorem State.leg_pairNotices (l p : Leg) (c : ClearCause) (w : ClearFrom) (k : Fin 8) :
    (s.pairNotices l p c w).leg k = s.leg k := by
  simp [State.leg]

@[simp] theorem State.leg_clearNotices (l : Leg) (c : ClearCause) (w : ClearFrom) (k : Fin 8) :
    (s.clearNotices l c w).leg k = s.leg k := by
  simp [State.leg]

@[simp] theorem State.setLeg_startList (i : Fin 8) (l : Leg) : (s.setLeg i l).calls.startList = s.calls.startList := rfl

/-- A leg after its clear. -/
def Leg.cleared (l : Leg) (c : ClearCause) : Leg :=
  { l with state := .idle, setupTimer := none, lastCause := some c, partner := none }

/-- A clear of a leg that is not IDLE clears the leg and its partner here, and no other. -/
theorem State.clearLeg_leg {i : Fin 8} (hbusy : (s.leg i).state ≠ .idle) (c : ClearCause) (w : ClearFrom) (k : Fin 8) :
    (s.clearLeg i c w).leg k
      = if k = i ∨ s.partnerOf i = some k then (s.leg k).cleared c else s.leg k := by
  unfold State.clearLeg
  rw [if_neg hbusy]
  cases hpartner : s.partnerOf i with
  | none =>
    simp only [State.becomeIdle, State.enterClearing, State.leg_setLeg, State.leg_clearNotices, State.leg_setStartList,
      Leg.enter, Leg.cleared, reduceCtorEq, or_false, if_true]
    by_cases hk : k = i
    · simp [hk]
    · simp [hk, Ne.symm hk]
  | some j =>
    simp only [State.becomeIdle, State.enterClearing, State.leg_setLeg, State.leg_pairNotices, State.leg_setStartList,
      Leg.enter, Leg.cleared, Option.some.injEq, if_true]
    by_cases hk : k = i
    · by_cases hkj : j = k
      · subst hk; subst hkj; simp
      · subst hk; simp [hkj]
    · by_cases hkj : j = k
      · subst hkj; simp [Ne.symm hk]
      · simp [hk, hkj, Ne.symm hk]

/-- They leave the start list. -/
theorem State.clearLeg_startList {i : Fin 8} (hbusy : (s.leg i).state ≠ .idle) (c : ClearCause) (w : ClearFrom) :
    (s.clearLeg i c w).calls.startList
      = s.calls.startList.filter (fun k => decide (¬ (k = i ∨ s.partnerOf i = some k))) := by
  unfold State.clearLeg
  rw [if_neg hbusy]
  cases hpartner : s.partnerOf i with
  | none =>
    simp only [State.becomeIdle_frame, State.clearNotices_frame, State.enterClearing, State.setStartList_startList]
    exact List.filter_congr fun k _ => by
      rw [Bool.eq_iff_iff]
      simp
  | some j =>
    simp only [State.becomeIdle_frame, State.pairNotices_frame, State.enterClearing, State.setStartList_startList,
      List.filter_filter]
    exact List.filter_congr fun k _ => by
      rw [Bool.eq_iff_iff]
      simp only [Bool.and_eq_true, bne_iff_ne, Option.some.injEq, decide_eq_true_eq, not_or]
      exact ⟨fun ⟨hj, hi⟩ => ⟨hi, Ne.symm hj⟩, fun ⟨hi, hj⟩ => ⟨Ne.symm hj, hi⟩⟩

theorem State.clearLeg_idle {i : Fin 8} (hidle : (s.leg i).state = .idle) (c : ClearCause) (w : ClearFrom) :
    s.clearLeg i c w = s := if_pos hidle

theorem State.partnerOf_eq_some {i j : Fin 8} : s.partnerOf i = some j ↔ (s.leg i).partner = some j ∧ (s.leg j).state ≠ .idle := by
  unfold State.partnerOf
  split
  next k hk => grind
  next hnone => simp [hnone]

end

/-! ### The promise without the limits -/

/-- A leg is not left in CLEARING, and its setup timer runs exactly in ORIGINATING and RINGING (R94, R103). -/
def Leg.Kept (l : Leg) : Prop :=
  l.state ≠ .clearing ∧ (l.setupTimer.isSome = true ↔ l.state = .originating ∨ l.state = .ringing)

theorem Leg.counting_iff (l : Leg) : l.counting = true ↔ l.state = .originating ∨ l.state = .ringing ∨ l.state = .active := by
  simp [Leg.counting, or_assoc]

/-- The start list is the counting legs, each once, and partners name each other (R94, R103). -/
structure State.LegsKept (s : State) : Prop where
  nodup : s.calls.startList.Nodup
  leg : ∀ i, (s.leg i).Kept
  listed : ∀ i, i ∈ s.calls.startList ↔ (s.leg i).counting = true
  partner : ∀ i j, (s.leg i).partner = some j → (s.leg i).counting = true ∧ (s.leg j).partner = some i ∧ j ≠ i

/-- The start list is within a ceiling, and none of it below a minimum priority (R97). -/
def State.Within (s : State) (ceiling minimum : Nat) : Prop :=
  s.calls.startList.length ≤ ceiling ∧ ∀ i ∈ s.calls.startList, minimum ≤ (s.leg i).priority.code

/-- The promise about the leg table. -/
structure State.CallsKept (s : State) : Prop where
  legs : s.LegsKept
  limits : s.Within s.ceiling s.minimum.code

theorem mem_legIndices (i : Fin 8) : i ∈ legIndices := by revert i; decide

theorem State.callsSound_iff (s : State) : s.CallsSound ↔ s.CallsKept := by
  constructor
  · rintro ⟨hnodup, hlength, hlegs⟩
    have hleg (i : Fin 8) := hlegs i (mem_legIndices i)
    refine ⟨⟨hnodup, fun i => ?_, fun i => (hleg i).2.1, fun i j hj => ?_⟩, hlength, fun i hi => ?_⟩
    · obtain ⟨hclearing, -, -, htimer, -⟩ := hleg i
      exact ⟨hclearing, htimer⟩
    · obtain ⟨-, -, -, -, hpartner⟩ := hleg i
      exact hpartner j hj
    · obtain ⟨-, hlisted, hminimum, -, -⟩ := hleg i
      exact hminimum (hlisted.mp hi)
  · rintro ⟨⟨hnodup, hleg, hlisted, hpartner⟩, hlength, hminimum⟩
    refine ⟨hnodup, hlength, fun i _ => ?_⟩
    obtain ⟨hclearing, htimer⟩ := hleg i
    exact ⟨hclearing, hlisted i, fun hcount => hminimum i ((hlisted i).mpr hcount), htimer, fun j hj => hpartner i j hj⟩

section

variable {s : State}

theorem State.LegsKept.unchanged {t : State} (h : s.LegsKept) (hlegs : t.calls.legs = s.calls.legs)
    (hlist : t.calls.startList = s.calls.startList) : t.LegsKept := by
  have hleg (i : Fin 8) : t.leg i = s.leg i := by rw [State.leg, State.leg, hlegs]
  constructor
  · rw [hlist]; exact h.nodup
  · intro i; rw [hleg]; exact h.leg i
  · intro i; rw [hleg, hlist]; exact h.listed i
  · intro i j; rw [hleg, hleg]; exact h.partner i j

theorem State.CallsKept.unchanged {t : State} (h : s.CallsKept) (hlegs : t.calls.legs = s.calls.legs)
    (hlist : t.calls.startList = s.calls.startList) (hshed : t.supply.shedLevel = s.supply.shedLevel)
    (hstate : t.evac.state = s.evac.state) : t.CallsKept := by
  have hleg (i : Fin 8) : t.leg i = s.leg i := by rw [State.leg, State.leg, hlegs]
  refine ⟨h.legs.unchanged hlegs hlist, ?_⟩
  obtain ⟨hlength, hminimum⟩ := h.limits
  have hc : t.ceiling = s.ceiling := by rw [State.ceiling, State.ceiling, hshed]
  have hm : t.minimum = s.minimum := by rw [State.minimum, State.minimum, hshed, hstate]
  rw [State.Within, hlist, hc, hm]
  exact ⟨hlength, fun i hi => by rw [hleg]; exact hminimum i hi⟩

end

/-- A clear loosens nothing. -/
theorem State.Within.clearLeg {s : State} {n m : Nat} (hwithin : s.Within n m) (i : Fin 8) (c : ClearCause) (w : ClearFrom) :
    (s.clearLeg i c w).Within n m := by
  by_cases hbusy : (s.leg i).state = .idle
  · rw [s.clearLeg_idle hbusy]
    exact hwithin
  obtain ⟨hlength, hminimum⟩ := hwithin
  rw [State.Within, s.clearLeg_startList hbusy]
  refine ⟨(List.length_filter_le _ _).trans hlength, fun k hk => ?_⟩
  obtain ⟨hmem, hstays⟩ := List.mem_filter.mp hk
  rw [s.clearLeg_leg hbusy, if_neg (by simpa using hstays)]
  exact hminimum k hmem

section

variable {s : State} (h : s.LegsKept)
include h

theorem State.LegsKept.busy {i : Fin 8} (hi : i ∈ s.calls.startList) : (s.leg i).state ≠ .idle := by
  have hcount := ((s.leg i).counting_iff).mp ((h.listed i).mp hi)
  rcases hcount with e | e | e <;> simp [e]

/-- A counting leg without the idle one: it is on the start list. -/
theorem State.LegsKept.mem_of_busy {i : Fin 8} (hi : (s.leg i).state ≠ .idle) : i ∈ s.calls.startList := by
  rw [h.listed, Leg.counting_iff]
  obtain ⟨hclearing, -⟩ := h.leg i
  cases hstate : (s.leg i).state <;> simp_all

theorem State.LegsKept.countingLegs_eq : s.countingLegs = s.calls.startList.length := by
  have hperm : (legIndices.filter (fun i => (s.leg i).counting)).Perm s.calls.startList := by
    refine (List.perm_ext_iff_of_nodup ((by decide : legIndices.Nodup).filter _) h.nodup).mpr fun i => ?_
    rw [List.mem_filter, h.listed]
    exact ⟨fun ⟨_, hc⟩ => hc, fun hc => ⟨mem_legIndices i, hc⟩⟩
  rw [State.countingLegs, List.countP_eq_length_filter, hperm.length_eq]

/-- A leg that goes with a clear takes its partner along. -/
theorem State.LegsKept.goes_symm {i j k : Fin 8} (hpartner : (s.leg k).partner = some j)
    (hj : j = i ∨ s.partnerOf i = some j) : k = i ∨ s.partnerOf i = some k := by
  obtain ⟨hcount, hback, -⟩ := h.partner k j hpartner
  have hbusy : (s.leg k).state ≠ .idle := h.busy ((h.listed k).mpr hcount)
  rcases hj with rfl | hj
  · exact .inr ((s.partnerOf_eq_some).mpr ⟨hback, hbusy⟩)
  · obtain ⟨hij, -⟩ := (s.partnerOf_eq_some).mp hj
    obtain ⟨-, hji, -⟩ := h.partner i j hij
    exact .inl (Option.some.inj (hback.symm.trans hji))

theorem State.LegsKept.clearLeg (i : Fin 8) (c : ClearCause) (w : ClearFrom) : (s.clearLeg i c w).LegsKept := by
  by_cases hbusy : (s.leg i).state = .idle
  · rw [s.clearLeg_idle hbusy]
    exact h
  refine ⟨?_, fun k => ?_, fun k => ?_, fun k j hj => ?_⟩
  · rw [s.clearLeg_startList hbusy]
    exact h.nodup.filter _
  · rw [s.clearLeg_leg hbusy]
    split
    · simp [Leg.Kept, Leg.cleared]
    · exact h.leg k
  · rw [s.clearLeg_leg hbusy, s.clearLeg_startList hbusy, List.mem_filter, h.listed]
    split
    next hgoes => simp [hgoes, Leg.cleared, Leg.counting]
    next hstays => simp [hstays]
  · rw [s.clearLeg_leg hbusy] at hj ⊢
    split at hj
    · cases hj
    next hstays =>
      have hjstays : ¬ (j = i ∨ s.partnerOf i = some j) := fun hgoes => hstays (h.goes_symm hj hgoes)
      rw [if_neg hstays, s.clearLeg_leg hbusy, if_neg hjstays]
      exact h.partner k j hj

/-- A clear of a listed leg shortens the start list. -/
theorem State.LegsKept.clearLeg_length {i : Fin 8} (hi : i ∈ s.calls.startList) (c : ClearCause) (w : ClearFrom) :
    (s.clearLeg i c w).calls.startList.length < s.calls.startList.length := by
  rw [s.clearLeg_startList (h.busy hi)]
  exact List.length_filter_lt_length_iff_exists.mpr ⟨i, hi, by simp⟩

/-- A leg is rewritten with its place in the start list and its partner. -/
theorem State.LegsKept.setLeg {i : Fin 8} {l : Leg} (hl : l.Kept) (hcount : l.counting = (s.leg i).counting)
    (hpartner : l.partner = (s.leg i).partner) : (s.setLeg i l).LegsKept := by
  have hcounting (k : Fin 8) : ((s.setLeg i l).leg k).counting = (s.leg k).counting := by
    rw [State.leg_setLeg]
    split
    next e => rw [hcount, e]
    · rfl
  have hpartners (k : Fin 8) : ((s.setLeg i l).leg k).partner = (s.leg k).partner := by
    rw [State.leg_setLeg]
    split
    next e => rw [hpartner, e]
    · rfl
  refine ⟨h.nodup, fun k => ?_, fun k => ?_, fun k j => ?_⟩
  · rw [State.leg_setLeg]
    split
    · exact hl
    · exact h.leg k
  · rw [hcounting]
    exact h.listed k
  · rw [hcounting, hpartners, hpartners]
    exact h.partner k j

end

/-! ### The limits (R97, R98) -/

@[simp] theorem State.clearLeg_limits (s : State) (i : Fin 8) (c : ClearCause) (w : ClearFrom) :
    (s.clearLeg i c w).ceiling = s.ceiling ∧ (s.clearLeg i c w).minimum = s.minimum := by
  simp [State.ceiling, State.minimum]

theorem State.CallsKept.clearLeg {s : State} (h : s.CallsKept) (i : Fin 8) (c : ClearCause) (w : ClearFrom) :
    (s.clearLeg i c w).CallsKept := by
  refine ⟨h.legs.clearLeg i c w, ?_⟩
  obtain ⟨hceiling, hminimum⟩ := s.clearLeg_limits i c w
  rw [hceiling, hminimum]
  exact h.limits.clearLeg i c w

theorem State.Within.mono {s : State} {n m n' m' : Nat} (h : s.Within n m) (hn : n ≤ n') (hm : m' ≤ m) : s.Within n' m' :=
  ⟨h.1.trans hn, fun i hi => hm.trans (h.2 i hi)⟩

theorem State.newestLeg_eq_none {s : State} {p : Leg → Bool} (h : s.newestLeg p = none) (i : Fin 8)
    (hi : i ∈ s.calls.startList) : p (s.leg i) = false := by
  have hnone := List.find?_eq_none.mp h i (List.mem_reverse.mpr hi)
  simpa using hnone

theorem State.newestLeg_eq_some {s : State} {p : Leg → Bool} {i : Fin 8} (h : s.newestLeg p = some i) :
    i ∈ s.calls.startList ∧ p (s.leg i) = true :=
  ⟨List.mem_reverse.mp (List.mem_of_find?_eq_some h), List.find?_some (p := fun i => p (s.leg i)) h⟩

theorem Priority.code_le (p : Priority) : p.code ≤ 2 := by cases p <;> decide

/-- Some counting leg has the lowest priority. -/
theorem foldr_min_mem (f : Fin 8 → Nat) (hf : ∀ i, f i ≤ 2) (l : List (Fin 8)) (hl : l ≠ []) :
    ∃ i ∈ l, f i = l.foldr (fun i n => min (f i) n) 2 := by
  induction l with
  | nil => exact absurd rfl hl
  | cons i l ih =>
    rw [List.foldr_cons]
    by_cases hempty : l = []
    · subst hempty
      exact ⟨i, List.mem_singleton_self i, (Nat.min_eq_left (hf i)).symm⟩
    · obtain ⟨j, hj, hmin⟩ := ih hempty
      rw [← hmin]
      rcases Nat.le_total (f i) (f j) with hle | hle
      · exact ⟨i, List.mem_cons_self, (Nat.min_eq_left hle).symm⟩
      · exact ⟨j, List.mem_cons_of_mem _ hj, (Nat.min_eq_right hle).symm⟩

theorem State.weakestLeg_isSome {s : State} (h : s.calls.startList ≠ []) : s.weakestLeg.isSome = true := by
  cases hweakest : s.weakestLeg with
  | some i => rfl
  | none =>
    obtain ⟨i, hi, hmin⟩ := foldr_min_mem (fun i => (s.leg i).priority.code) (fun i => Priority.code_le _) _ h
    have hne := State.newestLeg_eq_none hweakest i hi
    exact absurd hmin (by simpa [State.lowestPriority] using hne)

theorem State.limitVictim_mem {s : State} {i : Fin 8} (h : s.limitVictim = some i) : i ∈ s.calls.startList := by
  unfold State.limitVictim at h
  split at h
  next j hj =>
    obtain rfl := Option.some.inj h
    exact (State.newestLeg_eq_some hj).1
  next =>
    split at h
    · exact (State.newestLeg_eq_some h).1
    · cases h

/-- No leg to clear is what the limits hold means (R98). -/
theorem State.within_of_noVictim {s : State} (h : s.limitVictim = none) : s.Within s.ceiling s.minimum.code := by
  unfold State.limitVictim at h
  split at h
  · cases h
  next hminimum =>
    refine ⟨?_, fun i hi => by simpa using State.newestLeg_eq_none hminimum i hi⟩
    split at h
    next hmany =>
      have hsome := State.weakestLeg_isSome (s := s) (fun hempty => by simp [hempty] at hmany)
      rw [h] at hsome
      cases hsome
    next hfew => exact Nat.le_of_not_lt hfew

/-- Enough rounds bring the legs within the limits (R98). -/
theorem State.LegsKept.enforceLimits {c : ClearCause} (fuel : Nat) : ∀ {s : State}, s.LegsKept →
    s.calls.startList.length ≤ fuel → (State.enforceLimits c fuel s).CallsKept := by
  induction fuel with
  | zero =>
    intro s h hlength
    have hempty : s.calls.startList = [] := List.eq_nil_of_length_eq_zero (Nat.le_zero.mp hlength)
    rw [State.enforceLimits]
    exact ⟨h, by rw [hempty]; exact Nat.zero_le _, fun i hi => by rw [hempty] at hi; cases hi⟩
  | succ fuel ih =>
    intro s h hlength
    unfold State.enforceLimits
    split
    next i hi =>
      have hshorter := h.clearLeg_length (State.limitVictim_mem hi) c .node
      refine ih ((h.clearLeg i c .node).unchanged rfl rfl) (Nat.le_of_lt_succ (hshorter.trans_le hlength))
    next hnone => exact ⟨h, State.within_of_noVictim hnone⟩

theorem State.LegsKept.length_le {s : State} (h : s.LegsKept) : s.calls.startList.length ≤ 8 := by
  simpa using h.nodup.length_le_card

/-- Whatever the limits become, the legs are within them after the change (R98). -/
theorem State.LegsKept.limitsChanged {s : State} (h : s.LegsKept) {n : Nat} {m : Priority} (hwithin : s.Within n m.code)
    (c : ClearCause) : (s.limitsChanged n m c).CallsKept := by
  unfold State.limitsChanged
  split
  next => exact (h.enforceLimits (c := c) 8 h.length_le).unchanged (by simp) (by simp) (by simp) (by simp)
  next hstay =>
    refine ⟨h, ?_⟩
    by_cases htighter : s.ceiling < n ∨ m.code < s.minimum.code
    · refine State.within_of_noVictim ?_
      simpa [htighter] using hstay
    · obtain ⟨hn, hm⟩ := not_or.mp htighter
      exact hwithin.mono (Nat.le_of_not_lt hn) (Nat.le_of_not_lt hm)

/-! ### A leg is found and taken (R102, R103) -/

theorem Leg.activate_kept (l : Leg) : l.activate.Kept := by simp [Leg.Kept, Leg.activate]

section

variable {s : State} (h : s.CallsKept)
include h

/-- A leg is rewritten with its place in the start list, its priority and its partner. -/
theorem State.CallsKept.setLeg {i : Fin 8} {l : Leg} (hl : l.Kept) (hcount : l.counting = (s.leg i).counting)
    (hpartner : l.partner = (s.leg i).partner) (hpriority : l.priority = (s.leg i).priority) :
    (s.setLeg i l).CallsKept := by
  refine ⟨h.legs.setLeg hl hcount hpartner, h.limits.1, fun k hk => ?_⟩
  have hminimum := h.limits.2 k hk
  rw [State.leg_setLeg]
  split
  next e => rw [hpriority, e]; exact hminimum
  · exact hminimum

theorem State.CallsKept.activate {i : Fin 8} (hi : (s.leg i).counting = true) : (s.setLeg i (s.leg i).activate).CallsKept :=
  h.setLeg (Leg.activate_kept _) (hi ▸ rfl) rfl rfl

/-- A leg's counters are rewritten. -/
theorem State.CallsKept.recount {i : Fin 8} {l : Leg} (hstate : l.state = (s.leg i).state)
    (htimer : l.setupTimer = (s.leg i).setupTimer) (hpartner : l.partner = (s.leg i).partner)
    (hpriority : l.priority = (s.leg i).priority) : (s.setLeg i l).CallsKept := by
  refine h.setLeg ?_ ?_ hpartner hpriority
  · rw [Leg.Kept, hstate, htimer]
    exact h.legs.leg i
  · rw [Leg.counting, Leg.counting, hstate]

end

theorem State.idleLeg_idle {s : State} {i : Fin 8} (hi : s.idleLeg = some i) : (s.leg i).state = .idle := by
  have hfound := List.find?_some (p := fun i => (s.leg i).state == .idle) hi
  simpa using hfound

/-- The leg that a setup takes. -/
def State.newLeg (s : State) (x : LegState) (d : LegDirection) (c : Setup) : Leg :=
  { state := x
    callId := c.callId
    direction := d
    localParty := if d = .orig then c.caller else c.callee
    remoteParty := if d = .orig then c.callee else c.caller
    priority := c.priority
    setupTimer := if x = .active then none else startTimer s.now s.params.setup.ms
    lastVoice := none
    voiceIn := 0
    voiceOut := 0
    voiceDropped := 0
    lastCause := none
    partner := none }

@[simp] theorem State.takeLeg_leg (s : State) (i : Fin 8) (x : LegState) (d : LegDirection) (c : Setup) (k : Fin 8) :
    (s.takeLeg i x d c).leg k = if i = k then s.newLeg x d c else s.leg k :=
  s.leg_setLeg i k _

theorem State.takeLeg_startList (s : State) (i : Fin 8) (x : LegState) (d : LegDirection) (c : Setup) :
    (s.takeLeg i x d c).calls.startList = s.calls.startList ++ [i] := rfl

section

variable {s : State} (h : s.CallsKept)
include h

/-- No partner names an IDLE leg. -/
theorem State.CallsKept.not_partner {i k : Fin 8} (hidle : (s.leg i).state = .idle) : (s.leg k).partner ≠ some i := by
  intro hk
  obtain ⟨-, hback, -⟩ := h.legs.partner k i hk
  obtain ⟨hcount, -⟩ := h.legs.partner i k hback
  simp [Leg.counting, hidle] at hcount

/-- An IDLE leg is taken while the limits leave room for it. -/
theorem State.CallsKept.takeLeg {i : Fin 8} {x : LegState} {c : Setup} (d : LegDirection)
    (hidle : (s.leg i).state = .idle) (hroom : s.calls.startList.length < s.ceiling)
    (hminimum : s.minimum.code ≤ c.priority.code) (hx : x = .originating ∨ x = .ringing ∨ x = .active) :
    (s.takeLeg i x d c).CallsKept := by
  have hnew : i ∉ s.calls.startList := fun hi => h.legs.busy hi hidle
  have hcount : (s.newLeg x d c).counting = true := (Leg.counting_iff _).mpr hx
  refine ⟨⟨?_, fun k => ?_, fun k => ?_, fun k j hj => ?_⟩, ?_, fun k hk => ?_⟩
  · rw [State.takeLeg_startList]
    exact List.nodup_append.mpr ⟨h.legs.nodup, List.nodup_singleton i, fun a ha b hb e =>
      hnew (List.mem_singleton.mp hb ▸ e ▸ ha)⟩
  · rw [State.takeLeg_leg]
    split
    · rcases hx with rfl | rfl | rfl <;> simp [Leg.Kept, State.newLeg, startTimer]
    · exact h.legs.leg k
  · rw [State.takeLeg_leg, State.takeLeg_startList, List.mem_append, List.mem_singleton]
    split
    next e => simp [e, hcount]
    next e => rw [or_iff_left (Ne.symm e)]; exact h.legs.listed k
  · rw [State.takeLeg_leg] at hj ⊢
    split at hj
    · cases hj
    next e =>
      have hij : i ≠ j := fun e' => h.not_partner hidle (e' ▸ hj)
      rw [if_neg e, State.takeLeg_leg, if_neg hij]
      exact h.legs.partner k j hj
  · rw [State.takeLeg_startList, List.length_append]
    exact hroom
  · rw [State.takeLeg_leg]
    split
    · exact hminimum
    next e =>
      rw [State.takeLeg_startList, List.mem_append, List.mem_singleton, or_iff_left (Ne.symm e)] at hk
      exact h.limits.2 k hk

/-- Two counting legs without partners become each other's (R103). -/
theorem State.CallsKept.pairLegs {i j : Fin 8} (hne : i ≠ j) (hi : (s.leg i).counting = true) (hj : (s.leg j).counting = true)
    (hi' : (s.leg i).partner = none) (hj' : (s.leg j).partner = none) : (s.pairLegs i j).CallsKept := by
  have hleg (k : Fin 8) : (s.pairLegs i j).leg k = if j = k then { s.leg j with partner := some i }
      else if i = k then { s.leg i with partner := some j } else s.leg k := by
    simp [State.pairLegs, hne]
  have hkept (k : Fin 8) (p : Option (Fin 8)) : ({ s.leg k with partner := p } : Leg).Kept := h.legs.leg k
  refine ⟨⟨h.legs.nodup, fun k => ?_, fun k => ?_, fun k l hl => ?_⟩, h.limits.1, fun k hk => ?_⟩
  · rw [hleg]
    split
    · exact hkept j _
    · split
      · exact hkept i _
      · exact h.legs.leg k
  · rw [hleg]
    split
    next e => subst e; exact h.legs.listed j
    · split
      next e => subst e; exact h.legs.listed i
      · exact h.legs.listed k
  · rw [hleg] at hl ⊢
    split at hl
    next e =>
      obtain rfl := Option.some.inj hl
      subst e
      refine ⟨by rw [if_pos rfl]; exact hj, ?_, hne⟩
      rw [hleg, if_neg hne.symm, if_pos rfl]
    next ej =>
      rw [if_neg ej]
      split at hl
      next e =>
        obtain rfl := Option.some.inj hl
        subst e
        refine ⟨by rw [if_pos rfl]; exact hi, ?_, hne.symm⟩
        rw [hleg, if_pos rfl]
      next ei =>
        obtain ⟨hcount, hback, hlk⟩ := h.legs.partner k l hl
        have hil : i ≠ l := fun e => by rw [← e, hi'] at hback; cases hback
        have hjl : j ≠ l := fun e => by rw [← e, hj'] at hback; cases hback
        rw [if_neg ei, hleg, if_neg hjl, if_neg hil]
        exact ⟨hcount, hback, hlk⟩
  · have hminimum := h.limits.2 k hk
    rw [hleg]
    split
    next e => subst e; exact hminimum
    · split
      next e => subst e; exact hminimum
      · exact hminimum

/-- What a search for a leg leaves: room for the leg it found, and every leg that is at least as strong and has no
partner (R102). -/
structure State.RoomFor (s t : State) (p : Priority) (o : Option (Fin 8)) : Prop where
  kept : t.CallsKept
  idle : ∀ i, o = some i → (t.leg i).state = .idle ∧ t.calls.startList.length < t.ceiling
  minimum : t.minimum = s.minimum
  strong : ∀ k, p.code ≤ (s.leg k).priority.code → (s.leg k).partner = none → t.leg k = s.leg k

theorem State.CallsKept.allocate (p : Priority) : State.RoomFor s (s.allocate p).1 p (s.allocate p).2 := by
  unfold State.allocate
  split
  next hroom =>
    rw [h.legs.countingLegs_eq] at hroom
    exact ⟨h, fun i hi => ⟨State.idleLeg_idle hi, hroom⟩, rfl, fun _ _ _ => rfl⟩
  next hfull =>
    split
    next i hi =>
      obtain ⟨hmem, -⟩ := State.newestLeg_eq_some hi
      split
      next hweaker =>
        have hcleared : (((s.clearLeg i .preempted .node).setFlag Flag.preempted).countCalls
            (fun k => { k with preemptions := k.preemptions + 1 })).CallsKept :=
          (h.clearLeg i .preempted .node).unchanged (by simp) (by simp) (by simp) (by simp)
        have hleg (k : Fin 8) : (((s.clearLeg i .preempted .node).setFlag Flag.preempted).countCalls
            (fun k => { k with preemptions := k.preemptions + 1 })).leg k = (s.clearLeg i .preempted .node).leg k := by
          simp [State.leg]
        refine ⟨hcleared, fun k hk => ⟨State.idleLeg_idle hk, ?_⟩, ?_, fun k hstrong hpartner => ?_⟩
        · have hshorter := h.legs.clearLeg_length hmem .preempted .node
          have hlength := hshorter.trans_le h.limits.1
          simpa [State.ceiling] using hlength
        · simp [State.minimum]
        · rw [hleg, s.clearLeg_leg (h.legs.busy hmem), if_neg]
          rintro (rfl | hk)
          · omega
          · obtain ⟨hik, -⟩ := (s.partnerOf_eq_some).mp hk
            rw [(h.legs.partner i k hik).2.1] at hpartner
            cases hpartner
      · exact ⟨h, fun _ hk => (by cases hk), rfl, fun _ _ _ => rfl⟩
    · exact ⟨h, fun _ hk => (by cases hk), rfl, fun _ _ _ => rfl⟩

/-- The search's outcome, with the setup at or above the minimum where a leg is found (R105). -/
theorem State.CallsKept.findRoom (p : Priority) : (s.findRoom p).1.CallsKept
    ∧ ∀ i, (s.findRoom p).2 = .inl i → State.RoomFor s (s.findRoom p).1 p (some i) ∧ s.minimum.code ≤ p.code := by
  have hallocate := h.allocate p
  unfold State.findRoom
  split
  · exact ⟨h, fun i hi => by cases hi⟩
  next hminimum =>
    split
    next t i hi =>
      rw [hi] at hallocate
      refine ⟨hallocate.kept, ?_⟩
      rintro j ⟨⟩
      exact ⟨hallocate, Nat.le_of_not_lt hminimum⟩
    next t hi =>
      rw [hi] at hallocate
      exact ⟨hallocate.kept, fun i hi => by cases hi⟩

end

theorem State.findLeg_eq_some {s : State} {p : Leg → Bool} {i : Fin 8} (hi : s.findLeg p = some i) :
    (s.leg i).state ≠ .idle ∧ p (s.leg i) = true := by
  have hfound := List.find?_some (p := fun i => (s.leg i).state != .idle && p (s.leg i)) hi
  simpa using hfound

/-! ### Setups (R100 to R105, R111, R112) -/

section

variable {s : State} (h : s.CallsKept)
include h

theorem State.CallsKept.originate (m : Message) : (s.originate m).CallsKept := h.unchanged rfl rfl rfl rfl

theorem State.CallsKept.refuseSetup (c : Setup) (cause : ClearCause) : (s.refuseSetup c cause).CallsKept :=
  h.unchanged (by simp) (by simp) (by simp) (by simp)

/-- The callee's leg of a call between two units here: the caller's leg is still there (R103). -/
theorem State.CallsKept.acceptOriginating {i : Fin 8} {c : Setup} (hidle : (s.leg i).state = .idle)
    (hroom : s.calls.startList.length < s.ceiling) (hminimum : s.minimum.code ≤ c.priority.code) (won : Bool) :
    (s.acceptOriginating i c won).CallsKept := by
  have htaken := h.takeLeg .orig hidle hroom hminimum (.inl rfl)
  unfold State.acceptOriginating
  simp only
  split
  · obtain ⟨hkept, hfound⟩ := htaken.findRoom c.priority
    split
    next t j hj =>
      rw [hj] at hkept hfound
      obtain ⟨⟨-, hroomy, hsame, hstrong⟩, -⟩ := hfound j rfl
      obtain ⟨hjidle, hjroom⟩ := hroomy j rfl
      have hi : t.leg i = s.newLeg .originating .orig c := by
        have hleg := hstrong i (by simp [State.newLeg]) (by simp [State.newLeg])
        rwa [State.takeLeg_leg, if_pos rfl] at hleg
      have hne : i ≠ j := fun e => by rw [← e, hi] at hjidle; cases hjidle
      have htmin : t.minimum.code ≤ c.priority.code := by
        have hm : t.minimum = s.minimum := hsame.trans (by simp [State.minimum])
        rw [hm]
        exact hminimum
      have hboth := hkept.takeLeg .term hjidle hjroom htmin (.inr (.inl rfl))
      have hi' : (t.takeLeg j .ringing .term c).leg i = s.newLeg .originating .orig c := by
        rw [State.takeLeg_leg, if_neg hne.symm, hi]
      have hj' : (t.takeLeg j .ringing .term c).leg j = t.newLeg .ringing .term c := by
        rw [State.takeLeg_leg, if_pos rfl]
      have hpaired := hboth.pairLegs hne (by rw [hi']; rfl) (by rw [hj']; rfl) (by rw [hi']; rfl) (by rw [hj']; rfl)
      have hcounting {k : Fin 8} (hk : k = i ∨ k = j) :
          (((t.takeLeg j .ringing .term c).pairLegs i j).leg k).counting = true := by
        rcases hk with rfl | rfl
        · simp [State.pairLegs, hne, hne.symm, hi, Leg.counting, State.newLeg]
        · simp [State.pairLegs, hne, Leg.counting, State.newLeg]
      split
      · have hfirst := hpaired.activate (hcounting (.inl rfl))
        refine State.CallsKept.originate (State.CallsKept.originate (hfirst.activate ?_) _) _
        rw [State.leg_setLeg, if_neg hne]
        exact hcounting (.inr rfl)
      · exact State.CallsKept.originate (hpaired.originate _) _
    next t cause hj =>
      rw [hj] at hkept
      exact hkept.clearLeg _ _ _
  · exact htaken.originate _

theorem State.CallsKept.originating (c : Setup) (won : Bool) : (s.originating c won).CallsKept := by
  unfold State.originating
  simp only
  split
  · exact h.refuseSetup _ _
  · split
    · exact h.refuseSetup _ _
    · obtain ⟨hkept, hfound⟩ := h.findRoom c.clamped.priority
      split
      next t i hi =>
        rw [hi] at hkept hfound
        obtain ⟨⟨-, hroomy, hsame, -⟩, hminimum⟩ := hfound i rfl
        obtain ⟨hidle, hroom⟩ := hroomy i rfl
        exact hkept.acceptOriginating hidle hroom (by rw [hsame]; exact hminimum) won
      next t cause hi =>
        rw [hi] at hkept
        exact hkept.refuseSetup _ _

theorem State.CallsKept.terminating (c : Setup) (active : Bool) : (s.terminating c active).1.CallsKept := by
  obtain ⟨hkept, hfound⟩ := h.findRoom c.priority
  unfold State.terminating
  split
  next t cause hi =>
    rw [hi] at hkept
    exact hkept.refuseSetup _ _
  next t i hi =>
    rw [hi] at hkept hfound
    obtain ⟨⟨-, hroomy, hsame, -⟩, hminimum⟩ := hfound i rfl
    obtain ⟨hidle, hroom⟩ := hroomy i rfl
    rw [← hsame] at hminimum
    split
    · exact State.CallsKept.originate ((hkept.takeLeg .term hidle hroom hminimum (.inr (.inr rfl))).originate _) _
    · exact (hkept.takeLeg .term hidle hroom hminimum (.inr (.inl rfl))).originate _

theorem State.CallsKept.glareOriginating {i : Fin 8} (hi : (s.leg i).state = .ringing) (c : Setup) :
    (s.glareOriginating i c).CallsKept := by
  have hcount : (s.leg i).counting = true := (Leg.counting_iff _).mpr (.inr (.inl hi))
  have hactive := h.activate hcount
  unfold State.glareOriginating
  split
  · refine State.CallsKept.originate (State.CallsKept.originate ?_ _) _
    split
    next j hj =>
      split
      · obtain ⟨-, hback, hne⟩ := h.legs.partner i j hj
        obtain ⟨hjcount, -⟩ := h.legs.partner j i hback
        refine hactive.activate ?_
        rw [State.leg_setLeg, if_neg hne.symm]
        exact hjcount
      · exact hactive
    · exact hactive
  · exact (h.clearLeg i .glare .node).originating c true

theorem State.CallsKept.glareTerminating {i : Fin 8} (hi : (s.leg i).state = .originating) (c : Setup) :
    (s.glareTerminating i c).1.CallsKept := by
  have hcount : (s.leg i).counting = true := (Leg.counting_iff _).mpr (.inl hi)
  unfold State.glareTerminating
  split
  · exact State.CallsKept.originate ((h.activate hcount).originate _) _
  · exact (h.clearLeg i .glare .node).terminating c true

theorem State.CallsKept.setupFromRadio (f : Frame) (c : Setup) : (s.setupFromRadio f c).CallsKept := by
  have hstray : s.straySignal.CallsKept := h.unchanged rfl rfl rfl rfl
  unfold State.setupFromRadio
  split
  · split
    · split
      · exact hstray
      · exact h.refuseSetup _ _
    · split
      next i hi =>
        obtain ⟨-, hp⟩ := State.findLeg_eq_some hi
        simp only [Bool.and_eq_true, beq_iff_eq] at hp
        exact h.glareOriginating hp.1.1.2 c
      · exact h.originating c false
  · exact hstray

theorem State.CallsKept.setupFromBackbone (f : Frame) (c : Setup) : (s.setupFromBackbone f c).1.CallsKept := by
  have hstray : s.straySignal.CallsKept := h.unchanged rfl rfl rfl rfl
  unfold State.setupFromBackbone
  split
  · split
    · exact hstray
    · split
      next i hi =>
        obtain ⟨-, hp⟩ := State.findLeg_eq_some hi
        simp only [Bool.and_eq_true, beq_iff_eq] at hp
        exact h.glareTerminating hp.1.1.2 c
      · exact h.terminating c false
  · exact h

/-! ### Call frames on a leg (R106, R107, R110, R114) -/

theorem State.CallsKept.alertingOnLeg (p : Port) (f : Frame) (i : Fin 8) : (s.alertingOnLeg p f i).1.CallsKept := by
  unfold State.alertingOnLeg
  simp only
  split
  · exact h
  · exact h.unchanged rfl rfl rfl rfl

theorem State.CallsKept.answerOnLeg (p : Port) (f : Frame) (i : Fin 8) : (s.answerOnLeg p f i).1.CallsKept := by
  unfold State.answerOnLeg
  simp only
  split
  next hanswers =>
    refine h.activate ((Leg.counting_iff _).mpr ?_)
    rcases hanswers with ⟨-, hstate, -⟩ | ⟨-, hstate, -⟩
    · exact .inl hstate
    · exact .inr (.inl hstate)
  · exact h.unchanged rfl rfl rfl rfl

theorem State.CallsKept.clearOnLeg (p : Port) (f : Frame) (c : ClearCause) (i : Fin 8) : (s.clearOnLeg p f c i).1.CallsKept :=
  h.clearLeg i c _

theorem State.CallsKept.voiceOnLeg (p : Port) (f : Frame) (x : Byte) (i : Fin 8) : (s.voiceOnLeg p f x i).1.CallsKept := by
  unfold State.voiceOnLeg
  simp only
  repeat' split
  all_goals exact h.recount rfl rfl rfl rfl

end

/-- A call frame's handling keeps what its handling on a leg and its count as a stray keep. -/
theorem State.callFrame_kept {P : State → Prop} {s : State} {p : Port} {f : Frame} {c : CallId}
    {g : State → Fin 8 → State × Bool} {stray : Option (State → State)} (hg : ∀ {s : State} (i : Fin 8), P s → P (g s i).1)
    (hstray : ∀ k, stray = some k → P s → P (k s)) (h : P s) : P (s.callFrame p f c g stray).1 := by
  have hlegs (l : List (Fin 8)) : ∀ {s : State}, P s → P (State.onLegs g s l).1 := by
    induction l with
    | nil => exact fun h => h
    | cons i rest ih =>
      intro s h
      simp only [State.onLegs]
      split
      · exact ih h
      · exact ih (hg i h)
  unfold State.callFrame
  simp only
  split
  · split
    next k =>
      split
      · exact hstray k rfl h
      · exact h
    · exact h
  · exact hlegs _ h

theorem State.CallsKept.inspect {s : State} (h : s.CallsKept) (p : Port) (f : Frame) : (s.inspect p f).1.CallsKept := by
  have hcounted {s : State} (h : s.CallsKept) (g : CallCounters → CallCounters) : (s.countCalls g).CallsKept :=
    h.unchanged rfl rfl rfl rfl
  unfold State.inspect
  split
  · split
    · split
      · exact h.setupFromRadio f _
      · exact h.setupFromBackbone f _
    · exact h
  · exact State.callFrame_kept (P := State.CallsKept) (fun i h => h.alertingOnLeg p f i)
      (by rintro k ⟨⟩ h; exact hcounted h _) h
  · exact State.callFrame_kept (P := State.CallsKept) (fun i h => h.answerOnLeg p f i)
      (by rintro k ⟨⟩ h; exact hcounted h _) h
  · split
    · exact State.callFrame_kept (P := State.CallsKept) (fun i h => h.clearOnLeg p f _ i) (by rintro k ⟨⟩) h
    · exact h
  · split
    · exact State.callFrame_kept (P := State.CallsKept) (fun i h => h.voiceOnLeg p f _ i)
        (by rintro k ⟨⟩ h; exact hcounted h _) h
    · exact h
  · exact h

theorem minimumPriority_quiet_le (shed : Nat) (e : EvacState) :
    (minimumPriority shed .quiet).code ≤ (minimumPriority shed e).code := by
  unfold minimumPriority
  split
  · exact Nat.le_refl _
  · split
    · exact Nat.le_refl _
    · cases e <;> simp [Priority.code]

/-! ### The other commands -/

section

variable {s : State} (h : s.CallsKept)
include h

theorem State.CallsKept.unitMoved (a : Addr) : (s.unitMoved a).CallsKept :=
  List.foldlRecOn (motive := State.CallsKept) _ _ h
    (fun _ hu i _ => ite_keeps (P := State.CallsKept) (fun _ => hu.clearLeg i _ _) (fun _ => hu))

theorem State.CallsKept.learnFrame (p : Port) (f : Frame) : (s.learnFrame p f).CallsKept := by
  have hlearnt (l : Location) (a : Addr) : (s.learnAnnounce f.src l a).CallsKept :=
    h.unchanged (by simp) (by simp) (by simp) (by simp)
  unfold State.learnFrame
  split
  · exact ite_keeps (P := State.CallsKept) (fun _ => hlearnt _ _) (fun _ => (hlearnt _ _).unitMoved _)
  · exact h.unchanged (by simp) (by simp) (by simp) (by simp)

theorem State.CallsKept.setupExpires (i : Fin 8) : (s.setupExpires i).CallsKept :=
  (h.clearLeg i .noAnswer .node).unchanged rfl rfl rfl rfl

/-- Entering EVACUATE raises the minimum, and the change clears what falls below it (R98, R142). -/
theorem State.CallsKept.enterEvacuate : s.enterEvacuate.CallsKept := by
  have htold {u : State} (hu : u.CallsKept) : u.noticeRound.startRepeat.testBreaches.musterReport.CallsKept :=
    hu.unchanged (by simp) (by simp) (by simp) (by simp)
  have htags {u : State} (hu : u.CallsKept) (tags : List Addr) : (u.applyTags tags).CallsKept :=
    hu.unchanged (by simp) (by simp) (by simp) (by simp)
  have hentered {u : State} (hlegs : u.calls.legs = s.calls.legs) (hlist : u.calls.startList = s.calls.startList) :
      (u.limitsChanged s.ceiling s.minimum .evacuating).CallsKept := by
    refine (h.legs.unchanged hlegs hlist).limitsChanged ?_ .evacuating
    rw [State.Within, hlist]
    exact ⟨h.limits.1, fun i hi => by rw [State.leg, hlegs]; exact h.limits.2 i hi⟩
  unfold State.enterEvacuate
  refine htold (List.foldlRecOn (motive := State.CallsKept) _ _ (hentered ?_ ?_) (fun u hu i _ => htags hu _))
  all_goals simp

/-- Leaving EVACUATE loosens the minimum (R98, R143). -/
theorem State.CallsKept.leaveEvacuate : s.leaveEvacuate.CallsKept := by
  refine ⟨h.legs.unchanged (by simp) (by simp), ?_⟩
  have hceiling : s.leaveEvacuate.ceiling = s.ceiling := by simp [State.ceiling]
  have hminimum : s.leaveEvacuate.minimum = minimumPriority s.supply.shedLevel .quiet := by
    rw [State.minimum, State.leaveEvacuate_state]
    simp
  have hleg (i : Fin 8) : s.leaveEvacuate.leg i = s.leg i := by simp [State.leg]
  have hlist : s.leaveEvacuate.calls.startList = s.calls.startList := by simp
  rw [hceiling, hminimum, State.Within, hlist]
  exact ⟨h.limits.1, fun i hi => by rw [hleg]; exact (minimumPriority_quiet_le _ _).trans (h.limits.2 i hi)⟩

/-- A new shed level, whatever it is (R98, R171). -/
theorem State.CallsKept.reshed : s.reshed.CallsKept := by
  have hlevel {u : State} (hlegs : u.calls.legs = s.calls.legs) (hlist : u.calls.startList = s.calls.startList) :
      (u.limitsChanged s.ceiling s.minimum .shed).CallsKept := by
    refine (h.legs.unchanged hlegs hlist).limitsChanged ?_ .shed
    rw [State.Within, hlist]
    exact ⟨h.limits.1, fun i hi => by rw [State.leg, hlegs]; exact h.limits.2 i hi⟩
  unfold State.reshed
  simp only
  split
  · exact h
  · refine (hlevel (u := State.countSupply _ _) ?_ ?_).unchanged rfl rfl rfl rfl
    all_goals simp

theorem State.CallsKept.zeroCounters : s.zeroCounters.CallsKept := by
  have hleg (i : Fin 8) : s.zeroCounters.leg i = (s.leg i).zeroed := by
    simp [State.leg, State.zeroCounters, mapTable]
  refine ⟨⟨h.legs.nodup, fun i => ?_, fun i => ?_, fun i j => ?_⟩, h.limits.1, fun i hi => ?_⟩
  · rw [hleg]; exact h.legs.leg i
  · rw [hleg]; exact h.legs.listed i
  · rw [hleg, hleg]; exact h.legs.partner i j
  · rw [hleg]; exact h.limits.2 i hi

end

/-- A leg table as at COLD START (R118). -/
theorem State.callsKept_of_cold {s : State} (hlegs : s.calls.legs = Vector.replicate 8 Leg.cold)
    (hlist : s.calls.startList = []) : s.CallsKept := by
  have hleg (i : Fin 8) : s.leg i = Leg.cold := by
    rw [State.leg, hlegs]
    exact getElem_replicate_fin ..
  refine ⟨⟨?_, fun i => ?_, fun i => ?_, fun i j hj => ?_⟩, ?_, fun i hi => ?_⟩
  · rw [hlist]; exact List.nodup_nil
  · rw [hleg]; simp [Leg.Kept, Leg.cold]
  · rw [hleg, hlist]; simp [Leg.counting, Leg.cold]
  · rw [hleg] at hj; cases hj
  · rw [hlist]; exact Nat.zero_le _
  · rw [hlist] at hi; cases hi

theorem State.callsKept_blocks : KeepsBlocks State.CallsKept := by
  have unchanged {s t : State} (h : s.CallsKept) (hlegs : t.calls.legs = s.calls.legs)
      (hlist : t.calls.startList = s.calls.startList) (hshed : t.supply.shedLevel = s.supply.shedLevel)
      (hstate : t.evac.state = s.evac.state) : t.CallsKept := h.unchanged hlegs hlist hshed hstate
  exact {
    cold := fun _ _ _ _ _ _ => State.callsKept_of_cold rfl rfl
    inspect := fun p f h => h.inspect p f
    learnFrame := fun p f h => h.learnFrame p f
    setupExpires := fun i h => h.setupExpires i
    enterEvacuate := fun _ h => h.enterEvacuate
    leaveEvacuate := fun _ _ h => h.leaveEvacuate
    clearCounters := fun h => h.zeroCounters.unchanged rfl rfl rfl rfl
    takeSample := fun n x h => State.CallsKept.reshed (h.unchanged rfl rfl rfl rfl)
    loadShedEntry := fun i c h => State.CallsKept.reshed (h.unchanged rfl rfl rfl rfl)
    regrade := fun h => State.regrade_keeps (P := State.CallsKept) (fun _ _ _ _ h => h.unchanged (by simp) (by simp) (by simp) (by simp))
      (fun _ _ h => h.unchanged (by simp) (by simp) (by simp) (by simp)) (fun _ h => h.enterEvacuate)
      (fun _ h => h.unchanged (by simp) (by simp) (by simp) (by simp)) h
    takeParameters := fun p h => State.takeParameters_keeps (P := State.CallsKept) (h.unchanged rfl rfl rfl rfl)
      (fun _ h => h.unchanged (by simp) (by simp) (by simp) (by simp)) (fun _ h => h.enterEvacuate) }

theorem State.CallsKept.restart {s : State} (_ : s.CallsKept) : s.restart.CallsKept :=
  State.callsKept_blocks.restart (State.callsKept_of_cold rfl rfl)

theorem State.callsKept_keeps : Keeps State.CallsKept :=
  State.callsKept_blocks.keeps (State.restart_keeps (P := State.CallsKept) State.CallsKept.restart
    (fun _ h => h.unchanged rfl rfl rfl rfl) (fun _ h => h.unchanged rfl rfl rfl rfl)
    (fun _ _ h => h.unchanged rfl rfl rfl rfl) (fun _ h => h.unchanged (by simp) (by simp) (by simp) (by simp))
    (fun _ h => h.unchanged rfl rfl rfl rfl))

/-- Settles O11: every part of a command keeps the leg table's promise (`State.callsKept_keeps`). -/
theorem callsSoundInEveryStep : Obligations.CallsSoundInEveryStep :=
  fun s t h hstep => t.callsSound_iff.mpr (State.callsKept_keeps.step (s.callsSound_iff.mp h) hstep)

end Sys2Proof.Machine

end

section

set_option Elab.async false

/-! PROOF. What the blocks send: every block's operation reaches the sending side of the forwarding engine by the frames
it originates alone, so a promise about the engine that originations and service choices keep is kept by every block. -/

namespace Sys2Proof.Machine

/-- What a promise about the forwarding engine and the scheduler must keep, for every command to keep it, but for the
commands that can bring a restart. -/
structure KeepsNet (P : Net → Prop) : Prop where
  originate : ∀ {n : Net} (l : List Entry) (shed : Nat) (m : Message), P n → P (n.originate l shed m)
  originateTo : ∀ {n : Net} (shed : Nat) (p : Port) (m : Message), P n → P (n.originateTo shed p m)
  choose : ∀ {n : Net} (shed : Nat) (p : Port), P n → P (n.choose shed p)
  count : ∀ {n : Net} (p : Port) (f : PortCounters → PortCounters), P n → P (n.count p f)
  decide : ∀ {n : Net} (l : List Entry) (shed : Nat) (p : Port) (f : Frame), P n → P (n.decide l shed (some p) f)
  relayAdd : ∀ {n : Net} (a : Addr) (q : Byte), P n → P { n with relay := relayAdd n.relay a q }
  relayTick : ∀ {n : Net} (d : Nat), P n → P { n with relayTick := d, relay := relayAged n.relay }
  banks : ∀ {n : Net} (b : Banks), P n → P { n with banks := b }
  select : ∀ {n : Net} (b : Bank), P n →
    P { n with outbye := n.outbye.select b, inbye := n.inbye.select b, radio := n.radio.select b }
  zeroed : ∀ {n : Net}, P n → P { n with outbye := n.outbye.zeroed, inbye := n.inbye.zeroed, radio := n.radio.zeroed }
  cold : ∀ (now : Nat) (straps : Byte) (o i : Bool), P (Net.cold now straps o i)
  comesUp : ∀ {s : State} (p : Backbone), (s.net.port p.port).up = false → P s.net →
    P ((s.linkChanged p true).choosePort p.port).net

@[simp] theorem State.takeLeg_net (s : State) (i : Fin 8) (x : LegState) (d : LegDirection) (c : Setup) :
    (s.takeLeg i x d c).net = s.net := rfl

@[simp] theorem State.pairLegs_net (s : State) (i j : Fin 8) : (s.pairLegs i j).net = s.net := rfl

section

variable {P : Net → Prop} (k : KeepsNet P) {s : State} (h : P s.net)
include k h

theorem KeepsNet.sent (m : Message) : P (s.originate m).net := k.originate _ _ _ h

theorem KeepsNet.sentTo (p : Port) (m : Message) : P (s.originateTo p m).net := k.originateTo _ _ _ h

theorem KeepsNet.sentCounted {f : State → State} (hf : P (f s).net) (m : Message) : P (s.originateCounted f m).net := by
  unfold State.originateCounted
  split
  · exact h
  · exact k.sent hf m

/-! ### The leg table -/

theorem KeepsNet.sendClear (a : Addr) (c : CallId) (x : ClearCause) : P (s.sendClear a c x).net := k.sent h _

theorem KeepsNet.clearNotices (l : Leg) (c : ClearCause) (w : ClearFrom) : P (s.clearNotices l c w).net := by
  unfold State.clearNotices
  repeat' split
  · exact h
  · exact k.sendClear h ..
  · exact k.sendClear h ..
  · exact k.sendClear (k.sendClear h ..) ..

theorem KeepsNet.pairNotices (l p : Leg) (c : ClearCause) (w : ClearFrom) : P (s.pairNotices l p c w).net := by
  unfold State.pairNotices
  repeat' split
  · exact h
  · exact k.sendClear h ..
  · exact k.sendClear h ..
  · exact k.sendClear (k.sendClear h ..) ..

theorem KeepsNet.clearLeg (i : Fin 8) (c : ClearCause) (w : ClearFrom) : P (s.clearLeg i c w).net := by
  unfold State.clearLeg
  repeat' split
  · exact h
  next j _ => exact k.pairNotices (s := (s.enterClearing i c).enterClearing j c) h ..
  · exact k.clearNotices (s := s.enterClearing i c) h ..

theorem KeepsNet.clearForLimit (c : ClearCause) (i : Fin 8) : P (s.clearForLimit c i).net := k.clearLeg h i c .node

omit h in
theorem KeepsNet.enforceLimits (c : ClearCause) (n : Nat) :
    ∀ {s : State}, P s.net → P (State.enforceLimits c n s).net := by
  induction n with
  | zero => exact fun h => h
  | succ n ih =>
    intro s h
    unfold State.enforceLimits
    split
    · exact ih (k.clearForLimit h c _)
    · exact h

theorem KeepsNet.limitsChanged (n : Nat) (m : Priority) (c : ClearCause) : P (s.limitsChanged n m c).net := by
  unfold State.limitsChanged
  split
  · exact k.enforceLimits c 8 h
  · exact h

theorem KeepsNet.allocate (p : Priority) : P (s.allocate p).1.net := by
  unfold State.allocate
  repeat' split
  · exact h
  · exact k.clearLeg h ..
  · exact h
  · exact h

theorem KeepsNet.refuseSetup (c : Setup) (x : ClearCause) : P (s.refuseSetup c x).net := k.sendClear h ..

theorem KeepsNet.findRoom (p : Priority) : P (s.findRoom p).1.net := by
  have hroom := k.allocate h p
  unfold State.findRoom
  repeat' split
  · exact h
  next e => rwa [e] at hroom
  next e => rwa [e] at hroom

theorem KeepsNet.answerBoth (a b : Addr) (c : CallId) : P (s.answerBoth a b c).net := k.sent (k.sent h _) _

theorem KeepsNet.acceptOriginating (i : Fin 8) (c : Setup) (won : Bool) : P (s.acceptOriginating i c won).net := by
  have htaken : P (s.takeLeg i .originating .orig c).net := h
  have hroom := k.findRoom htaken c.priority
  unfold State.acceptOriginating
  simp only
  split
  · split
    next e =>
      rw [e] at hroom
      split
      · refine k.sent (k.sent ?_ _) _
        simpa only [State.setLeg_net, State.pairLegs_net, State.takeLeg_net] using hroom
      · refine k.sent (k.sent ?_ _) _
        simpa only [State.setLeg_net, State.pairLegs_net, State.takeLeg_net] using hroom
    next e =>
      rw [e] at hroom
      exact k.clearLeg hroom ..
  · exact k.sent htaken _

theorem KeepsNet.originating (c : Setup) (won : Bool) : P (s.originating c won).net := by
  have hroom := k.findRoom h c.clamped.priority
  unfold State.originating
  simp only
  repeat' split
  · exact k.refuseSetup h ..
  · exact k.refuseSetup h ..
  next e =>
    rw [e] at hroom
    exact k.acceptOriginating hroom ..
  next e =>
    rw [e] at hroom
    exact k.refuseSetup hroom ..

theorem KeepsNet.terminating (c : Setup) (active : Bool) : P (s.terminating c active).1.net := by
  have hroom := k.findRoom h c.priority
  unfold State.terminating
  split
  next e =>
    rw [e] at hroom
    exact k.refuseSetup hroom ..
  next e =>
    rw [e] at hroom
    split
    · exact k.answerBoth (s := State.takeLeg _ _ _ _ _) hroom ..
    · exact k.sent (s := State.takeLeg _ _ _ _ _) hroom _

theorem KeepsNet.glareOriginating (i : Fin 8) (c : Setup) : P (s.glareOriginating i c).net := by
  unfold State.glareOriginating
  split
  · refine k.answerBoth ?_ ..
    split
    · split
      · exact h
      · exact h
    · exact h
  · exact k.originating (k.clearLeg h ..) ..

theorem KeepsNet.glareTerminating (i : Fin 8) (c : Setup) : P (s.glareTerminating i c).1.net := by
  unfold State.glareTerminating
  split
  · exact k.answerBoth h ..
  · exact k.terminating (k.clearLeg h ..) ..

theorem KeepsNet.setupFromRadio (f : Frame) (c : Setup) : P (s.setupFromRadio f c).net := by
  unfold State.setupFromRadio
  repeat' split
  · exact h
  · exact k.refuseSetup h ..
  · exact k.glareOriginating h ..
  · exact k.originating h ..
  · exact h

theorem KeepsNet.setupFromBackbone (f : Frame) (c : Setup) : P (s.setupFromBackbone f c).1.net := by
  unfold State.setupFromBackbone
  repeat' split
  · exact h
  · exact k.glareTerminating h ..
  · exact k.terminating h ..
  · exact h

theorem KeepsNet.inspect (p : Port) (f : Frame) : P (s.inspect p f).1.net := by
  have halert {s : State} (i : Fin 8) (h : P s.net) : P (s.alertingOnLeg p f i).1.net := by
    unfold State.alertingOnLeg
    simp only
    split
    · exact h
    · exact h
  have hanswer {s : State} (i : Fin 8) (h : P s.net) : P (s.answerOnLeg p f i).1.net := by
    unfold State.answerOnLeg
    simp only
    split
    · exact h
    · exact h
  have hvoice {s : State} (x : Byte) (i : Fin 8) (h : P s.net) : P (s.voiceOnLeg p f x i).1.net := by
    unfold State.voiceOnLeg
    simp only
    repeat' split
    all_goals exact h
  unfold State.inspect
  split
  · split
    · split
      · exact k.setupFromRadio h ..
      · exact k.setupFromBackbone h ..
    · exact h
  · exact State.callFrame_kept (P := fun s => P s.net) halert (by rintro g ⟨⟩ h; exact h) h
  · exact State.callFrame_kept (P := fun s => P s.net) hanswer (by rintro g ⟨⟩ h; exact h) h
  · split
    · exact State.callFrame_kept (P := fun s => P s.net) (fun i h => k.clearLeg h i _ _) (by rintro g ⟨⟩) h
    · exact h
  · split
    · exact State.callFrame_kept (P := fun s => P s.net) (hvoice _) (by rintro g ⟨⟩ h; exact h) h
    · exact h
  · exact h

theorem KeepsNet.unitMoved (a : Addr) : P (s.unitMoved a).net := by
  refine List.foldlRecOn (motive := fun s : State => P s.net) _ _ h (fun u hu i _ => ?_)
  split
  · exact k.clearLeg hu ..
  · exact hu

/-! ### The segment arbiter -/

theorem KeepsNet.sendGrant (v : Addr) : P (s.sendGrant v).net := k.sentCounted h (f := fun s => s.countSeg _) h _

theorem KeepsNet.sendWait (v : Addr) (n : Nat) : P (s.sendWait v n).net := k.sentCounted h (f := fun s => s.countSeg _) h _

theorem KeepsNet.sendRefusal (v : Addr) (c : EntryRefusal) : P (s.sendRefusal v c).net :=
  k.sentCounted h (f := fun s => s.countSeg _) h _

theorem KeepsNet.sendWithdraw (v : Addr) : P (s.sendWithdraw v).net := by
  unfold State.sendWithdraw
  split
  · exact h
  · refine k.sentCounted h ?_ _
    exact h

omit h in
theorem KeepsNet.sendWaits (q : List Truck) : ∀ (n : Nat) {s : State}, P s.net → P (s.sendWaits n q).net := by
  induction q with
  | nil => exact fun _ _ h => h
  | cons t q ih => exact fun n s h => ih (n + 1) (k.sendWait h _ _)

theorem KeepsNet.sendProximity (a : Addr) : P (s.sendProximity a).net :=
  k.sentCounted h (f := fun s => s.countSeg _) h _

theorem KeepsNet.sendProximityHolder : P s.sendProximityHolder.net := by
  unfold State.sendProximityHolder
  split
  · exact k.sendProximity h _
  · exact h

theorem KeepsNet.proximityStarts : P s.proximityStarts.net :=
  List.foldlRecOn (motive := fun s : State => P s.net) _ _ (k.sendProximityHolder h)
    (fun _ hu _ _ => k.sendProximity hu _)

theorem KeepsNet.proximityFollows (was : Bool) : P (s.proximityFollows was).net := by
  unfold State.proximityFollows
  split
  · exact k.proximityStarts h
  · exact h

theorem KeepsNet.segMinerArrives (a : Addr) : P (s.segMinerArrives a).net := by
  have hset (n : Nat) : P (s.setMinerCount n).net := h
  unfold State.segMinerArrives
  simp only
  repeat' split
  · exact k.sendProximity (k.sendProximityHolder (hset _)) _
  · exact k.proximityStarts (hset _)
  · exact h

theorem KeepsNet.segMinerLeaves : P s.segMinerLeaves.net := by
  have hset (n : Nat) : P (s.setMinerCount n).net := h
  unfold State.segMinerLeaves
  simp only
  split
  · exact k.sendProximityHolder (hset _)
  · exact h

theorem KeepsNet.segVehicle (v : Addr) (here : Bool) : P (s.segVehicle v here).net := by
  unfold State.segVehicle
  split
  · exact k.proximityFollows (s := s.setHolderHere here) h _
  · exact h

theorem KeepsNet.grantTo (t : Truck) : P (s.grantTo t).net := by
  have hgranted := k.sendGrant (s := ((s.setSegState .held).setHolder t).startLease) h t.vehicle
  unfold State.grantTo
  simp only
  generalize (((s.setSegState .held).setHolder t).startLease).sendGrant t.vehicle = u at hgranted
  refine k.proximityFollows ?_ _
  exact hgranted

theorem KeepsNet.becomeFree : P s.becomeFree.net := by
  unfold State.becomeFree
  split
  · exact h
  next rest _ => exact k.sendWaits rest 0 (k.grantTo (s := (s.setSegState .free).setSegQueue rest) h _)

theorem KeepsNet.vacate : P s.vacate.net := by
  unfold State.vacate
  split
  · exact h
  · exact k.becomeFree (s := s.removeHolder) h

theorem KeepsNet.refuseAll (q : List Truck) : P (s.refuseAll q).net :=
  List.foldlRecOn (motive := fun s : State => P s.net) _ _ h (fun _ hu _ _ => k.sendRefusal hu _ _)

theorem KeepsNet.segCloses : P s.segCloses.net := by
  unfold State.segCloses
  refine k.refuseAll ?_ _
  split
  · exact h
  · exact k.sendWithdraw (s := s.setSegState .draining) h _
  · exact h

theorem KeepsNet.segOpens : P s.segOpens.net := by
  unfold State.segOpens
  split
  · exact k.becomeFree h
  · exact k.sendGrant (s := (s.setSegState .held).startLease) h _
  · exact h

theorem KeepsNet.changeCauses (c : Causes) : P (s.changeCauses c).net := by
  unfold State.changeCauses
  simp only
  repeat' split
  · exact k.segCloses (s := s.setCauses c) h
  · exact k.segOpens (s := s.setCauses c) h
  · exact h

theorem KeepsNet.segZone (old new : Grade) : P (s.segZone old new).net := by
  have hcauses := k.changeCauses h { s.seg.causes with air := new.atLeast .alarm }
  unfold State.segZone
  simp only
  repeat' split
  · exact k.sendWithdraw hcauses _
  · exact hcauses
  · exact hcauses

theorem KeepsNet.heardFrom (a : Addr) : P (s.heardFrom a).net := by
  unfold State.heardFrom
  repeat' split
  · exact h
  · exact h
  · exact k.sendWithdraw (s := (s.setSegState .draining).startLease) h _
  · exact k.sendGrant (s := (s.setSegState .held).startLease) h _
  all_goals exact h

theorem KeepsNet.joinQueue (v : Addr) (d : Heading) : P (s.joinQueue v d).net := by
  have hset (q : List Truck) : P (s.setSegQueue q).net := h
  unfold State.joinQueue
  repeat' split
  · exact k.sendWait (hset _) ..
  · exact k.sendWait (hset _) ..
  · exact k.sendRefusal h ..

theorem KeepsNet.entryRequest (v : Addr) (d : Heading) : P (s.entryRequest v d).net := by
  unfold State.entryRequest
  split
  · split
    · exact k.sendGrant (s := (s.setHolder ⟨v, d⟩).startLease) h _
    · exact k.sendWithdraw (s := s.startLease) h _
    all_goals exact h
  · split
    · exact k.grantTo h _
    · exact k.joinQueue h ..
    · split
      · exact k.sendRefusal h ..
      · exact k.joinQueue h ..
    · exact k.sendRefusal h ..
    · exact k.sendRefusal h ..

theorem KeepsNet.exitNotice (v : Addr) : P (s.exitNotice v).net := by
  have hset (q : List Truck) : P (s.setSegQueue q).net := h
  unfold State.exitNotice
  repeat' split
  · exact k.vacate h
  · exact k.sendWaits _ _ (hset _)
  · exact h

theorem KeepsNet.releaseHolder : P s.releaseHolder.net := by
  unfold State.releaseHolder
  split
  · exact k.vacate (s := State.setFlag _ _) (k.sendWithdraw (s := s.removeHolder) h _)
  · exact k.vacate (s := s.setFlag _) h

/-! ### The hand-offs of the station table, and what the evacuation controller sends -/

theorem KeepsNet.sendEvacNotice (a : Addr) : P (s.sendEvacNotice a).net :=
  k.sentCounted h (f := fun s => s.countEvac _) h _

theorem KeepsNet.locate (e : Entry) (l : Option Location) : P (s.locate e l).net := by
  unfold State.locate
  split
  · exact k.sentCounted h (f := fun s => s.countTable _) h _
  · exact h

theorem KeepsNet.evacMinerArrives (e : Entry) : P (s.evacMinerArrives e).net := by
  unfold State.evacMinerArrives
  split
  · exact k.sendEvacNotice h _
  · exact h

theorem KeepsNet.arrives (e : Entry) (l : Option Location) : P (s.arrives e l).net := by
  unfold State.arrives
  refine k.locate ?_ e l
  repeat' split
  · exact k.segMinerArrives (k.evacMinerArrives h e) _
  · exact k.segVehicle h ..
  · exact h

theorem KeepsNet.departs (a : Addr) : P (s.departs a).net := by
  unfold State.departs
  repeat' split
  · exact k.segMinerLeaves h
  · exact k.segVehicle h ..
  · exact h

theorem KeepsNet.rewriteEntry (old new : Entry) : P (s.rewriteEntry old new).net := by
  have hset (l : List Entry) : P (s.setEntries l).net := h
  unfold State.rewriteEntry
  simp only
  repeat' split
  · exact k.arrives (hset _) ..
  · exact k.departs (hset _) _
  · exact h

theorem KeepsNet.dropEntry (e : Entry) : P (s.dropEntry e).net := by
  have hset (l : List Entry) : P (s.setEntries l).net := h
  unfold State.dropEntry
  simp only
  split
  · exact k.departs (hset _) _
  · exact h

theorem KeepsNet.insertNew (a : Addr) (l : Location) (attach : Option Addr) : P (s.insertNew a l attach).net := by
  unfold State.insertNew
  simp only
  split
  · refine k.arrives ?_ _ _
    simpa only [State.countTable_net, State.setEntries_net] using h
  · exact h

theorem KeepsNet.noticeRound : P s.noticeRound.net :=
  List.foldlRecOn (motive := fun s : State => P s.net) _ _ h (fun _ hu a _ => k.sendEvacNotice hu a)

theorem KeepsNet.musterReport : P s.musterReport.net :=
  k.sentCounted (s := { s with scratch := { s.scratch with mustered := true } }) h (f := fun s => s.countEvac _) h _

theorem KeepsNet.testBreach (i : Fin 8) : P (s.testBreach i).net := by
  unfold State.testBreach
  split
  · exact k.sent (s := s.setPanel i _) h _
  · exact h

theorem KeepsNet.ageDoors : P s.ageDoors.net :=
  State.testBreaches_keeps (P := fun s => P s.net) (fun i h => k.testBreach h i)
    (s := { s with evac := { s.evac with panels := mapTable Panel.older s.evac.panels } }) h

/-! ### The other blocks -/

theorem KeepsNet.airReport : P s.airReport.net := k.sent h _

theorem KeepsNet.gradeNotices (a b : Bool) : P (s.gradeNotices a b).net := by
  unfold State.gradeNotices
  have hzone : P (if a = true then s.originate (msgZoneGrade s.own s.air.zone s.causeChannel) else s).net := by
    split
    · exact k.sent h _
    · exact h
  generalize (if a = true then s.originate (msgZoneGrade s.own s.air.zone s.causeChannel) else s) = t at hzone
  have hrefuge : P (if b = true then t.originate (msgRefugeAir t.own t.air.refuge) else t).net := by
    split
    · exact k.sent hzone _
    · exact hzone
  simp only
  split
  · exact k.airReport hrefuge
  · exact hrefuge

theorem KeepsNet.respond (rq : Request) (c : Cause) (l : List Byte) : P (s.respond rq c l).net := by
  unfold State.respond
  refine k.sentTo ?_ _ _
  split
  · exact h
  · exact h

theorem KeepsNet.answer (rq : Request) (v : Verdict) : P (s.answer rq v).net := by
  cases v with
  | done _ => exact k.respond h ..
  | refused _ => exact k.respond h ..
  | later => exact h

theorem KeepsNet.reshed : P s.reshed.net := by
  unfold State.reshed
  simp only
  split
  · exact h
  · refine k.choose _ _ (k.choose _ _ (k.choose _ _ (k.limitsChanged ?_ _ _ _)))
    exact h

theorem KeepsNet.statusExpires : P s.statusExpires.net := by
  unfold State.statusExpires State.sendStatus
  split
  · exact h
  · exact k.sent (s := s.countMgmt _) h _

end

section

variable {P : Net → Prop} (k : KeepsNet P) {s : State}
include k

/-! ### The station table and the evacuation marks, through their own parts -/

theorem KeepsNet.keepsTags : KeepsTags (fun s => P s.net) where
  rewrite := fun _ _ _ _ h => k.rewriteEntry h _ _
  drop := fun _ h => k.dropEntry h _
  insert := fun l a _ _ _ h => k.insertNew h _ l a
  evict := fun l a _ _ _ _ h => k.insertNew (s := State.countTable _ _) (k.dropEntry h _) _ l a
  older := fun h => h
  countTable := fun _ h => h
  setFlag := fun _ h => h
  setMark := fun a m h => by
    unfold State.setMark
    split
    · exact h
    · exact h
  unmark := fun h => h
  setPanel := fun _ _ h => h
  testBreach := fun i h => k.testBreach h i
  setEvacState := fun _ h => h
  countEvac := fun _ h => h
  limitsChanged := fun n m c h => k.limitsChanged h n m c
  noticeRound := fun h => k.noticeRound h
  musterReport := fun h => k.musterReport h
  stopRepeat := fun h => h

theorem KeepsNet.takeSample (x : Sample) (h : P s.net) : P (s.takeSample x).net :=
  k.reshed (s := { s.countSupply _ with supply := _ }) h

theorem KeepsNet.goUp (p : Backbone) (h : P s.net) : P (s.goUp p).net := by
  unfold State.goUp
  split
  · exact h
  next hup => exact k.comesUp p (Bool.not_eq_true _ ▸ hup) h

/-- The parts of the blocks keep what the sending side keeps. -/
theorem KeepsNet.blocks : KeepsBlocks (fun s => P s.net) where
  moved := fun _ _ _ _ h => h
  drive := fun h => h
  musterReport := fun h => k.musterReport h
  countMgmt := fun _ h => h
  surfaceHeard := fun h => h
  answer := fun rq v h => k.answer h rq v
  countPort := fun p f h => k.count p f h
  learnFrame := fun p f h => k.keepsTags.learnFrame (fun a h => k.unitMoved h a) p f h
  heardFrom := fun a h => k.heardFrom h a
  relayAdd := fun a q h => k.relayAdd a q h
  inspect := fun p f h => k.inspect h p f
  decide := fun p f h => k.decide _ _ p f h
  sosFrame := fun f h => by
    unfold State.sosFrame State.storeSos
    repeat' split
    all_goals exact h
  sosCancel := fun f h => by
    unfold State.sosCancel
    split
    · exact h
    · exact h
  badEntryFrame := fun h => h
  entryRequest := fun v d _ h => k.entryRequest h v d
  exitNotice := fun v h => k.exitNotice h v
  evacAck := fun f h => k.keepsTags.evacAck f h
  loadWatch := fun x f h => by
    unfold State.loadWatch
    repeat' split
    all_goals exact h
  loadPlan := fun x v h => by
    unfold State.loadPlan
    repeat' split
    · exact h
    · exact h
    · exact h
    · exact k.banks _ h
  selectPlan := fun b h => by
    unfold State.selectPlan
    split
    · exact h
    · exact k.select _ h
  closeSegment := fun h => k.changeCauses h _
  openSegment := fun h => k.changeCauses h _
  releaseSegment := fun h => by
    unfold State.releaseSegment
    split
    · exact k.releaseHolder h
    · exact h
  cancelSos := fun u h => by
    unfold State.cancelSos
    split
    · exact h
    · exact h
  clearFlags := fun g x h => by
    unfold State.clearFlags
    split
    · exact h
    · exact h
  ackAttention := fun g h => by
    unfold State.ackAttention
    repeat' split
    all_goals exact h
  clearCounters := fun h => k.zeroed h
  cold := fun _ n _ straps o i => k.cold n straps o i
  goUp := fun p h => k.goUp p h
  ageTable := fun _ h => k.keepsTags.ageTable h
  relayTick := fun d h => k.relayTick d h
  ageDoors := fun _ h => k.ageDoors h
  takeSample := fun _ x h => k.takeSample x h
  nextPoll := fun h => by simpa using h
  airReport := fun h => k.airReport h
  setupExpires := fun i h => k.clearLeg h i .noAnswer .node
  leaseExpires := fun _ h => h
  repeatExpires := fun h => by
    unfold State.repeatExpires
    split
    · exact k.noticeRound h
    · exact h
  isolationExpires := fun h => h
  statusExpires := fun h => k.statusExpires h
  toggleLine := fun _ h => h
  integ := fun _ h => h
  poller := fun _ h => h
  permits := fun _ h => h
  routes := fun _ h => h
  setFlag := fun _ h => h
  countEvac := fun _ h => h
  updateChannel := fun c x h => by simpa using h
  setChannel := fun _ _ h => h
  startReportTimer := fun h => h
  respond := fun rq c l h => k.respond h rq c l
  loadPinWindow := fun _ _ h => h
  loadShedEntry := fun i c h => k.reshed h
  learn := fun a l h => k.keepsTags.learn a l h
  storePanel := fun i c h => k.keepsTags.storePanel i _ h
  emptyPanel := fun i h => k.keepsTags.emptyPanel i h
  enterEvacuate := fun _ h => k.keepsTags.enterEvacuate h
  leaveEvacuate := fun _ _ h => k.keepsTags.leaveEvacuate h
  noticeRound := fun _ h => k.noticeRound h
  regrade := fun h => State.regrade_keeps (P := fun s => P s.net) (fun {s} z r a b h => k.gradeNotices (s := s.setGrades z r) h a b)
    (fun old new h => k.segZone h old new) (fun _ h => k.keepsTags.enterEvacuate h) (fun i h => k.testBreach h i) h
  takeParameters := fun p h => State.takeParameters_keeps (P := fun s => P s.net) h
    (fun g h => by
      unfold State.refreshSummary
      split
      · exact h
      · exact h)
    (fun _ h => k.keepsTags.enterEvacuate h)

/-- A restart keeps what the restarted engine keeps (R93, R175). -/
theorem KeepsNet.restart (hnet : P s.zeroCounters.restartMgmt.restartNet.net) : P s.restart.net :=
  k.blocks.restart hnet

end

end Sys2Proof.Machine

end

section

set_option Elab.async false

/-! PROOF. The ports, the SOS list and the relay list (R82, R83, R151, R159 to R162). -/

namespace Sys2Proof.Machine

/-! ### The SOS list (R151, R152) -/

/-- At most 8 origins, each once, each a miner unit. -/
structure SosKept (l : List Addr) : Prop where
  room : l.length ≤ sosCapacity
  nodup : l.Nodup
  miners : l.all isMiner = true

theorem SosKept.nil : SosKept [] := ⟨Nat.zero_le _, List.nodup_nil, rfl⟩

theorem SosKept.filter {l : List Addr} (h : SosKept l) (p : Addr → Bool) : SosKept (l.filter p) :=
  ⟨(List.length_filter_le _ _).trans h.room, h.nodup.filter _,
    List.all_eq_true.mpr fun a ha => List.all_eq_true.mp h.miners a (List.mem_of_mem_filter ha)⟩

theorem isMiner_of_sosGood {f : Frame} (h : sosGood f = true) : isMiner f.src = true := by
  unfold sosGood at h
  split at h
  · exact (Bool.and_eq_true_iff.mp h).1
  · cases h

theorem SosKept.push {l : List Addr} {a : Addr} (h : SosKept l) (hroom : l.length < sosCapacity)
    (hnew : l.contains a = false) (ha : isMiner a = true) : SosKept (l ++ [a]) := by
  refine ⟨by simpa using hroom, ?_, ?_⟩
  · rw [List.nodup_append_comm]
    exact List.nodup_cons.mpr ⟨by simpa using hnew, h.nodup⟩
  · simpa using ⟨List.all_eq_true.mp h.miners, ha⟩

theorem SosKept.sosFrame {s : State} (h : SosKept s.evac.sos) (f : Frame) : SosKept (s.sosFrame f).evac.sos := by
  unfold State.sosFrame
  split
  next hgood =>
    unfold State.storeSos
    repeat' split
    · exact h
    next hnew hroom => exact h.push hroom (Bool.not_eq_true _ ▸ hnew) (isMiner_of_sosGood hgood)
    · exact h
    · exact h
  · exact h

theorem SosKept.sosCancel {s : State} (h : SosKept s.evac.sos) (f : Frame) : SosKept (s.sosCancel f).evac.sos := by
  unfold State.sosCancel
  split
  · exact h.filter _
  · exact h

theorem SosKept.cancelSos {s : State} (h : SosKept s.evac.sos) (u : Word) : SosKept (s.cancelSos u).1.evac.sos := by
  unfold State.cancelSos
  split
  · exact h.filter _
  · exact h

/-- The promise, of the state. -/
def State.SosListKept (s : State) : Prop := SosKept s.evac.sos

theorem State.sosListKept_blocks : KeepsBlocks State.SosListKept := by
  have unchanged {s t : State} (h : s.SosListKept) (e : t.evac.sos = s.evac.sos) : t.SosListKept := by
    rw [SosListKept, e]
    exact h
  exact {
    cold := fun _ _ _ _ _ _ => SosKept.nil
    sosFrame := fun f h => SosKept.sosFrame h f
    sosCancel := fun f h => SosKept.sosCancel h f
    cancelSos := fun u h => SosKept.cancelSos h u
    regrade := fun h => unchanged h (by simp)
    takeParameters := fun p h => unchanged h (by simp) }

theorem State.sosListKept_keeps : Keeps State.SosListKept :=
  State.sosListKept_blocks.keeps (State.restart_keeps (P := State.SosListKept)
    (fun _ => State.sosListKept_blocks.restart SosKept.nil)
    (fun _ h => h) (fun _ h => h) (fun _ _ h => h) (fun _ h => h) (fun _ h => h))

/-! ### The relay list (R82, R83) -/

/-- At most 16 keys, each once, each younger than 30 ticks. -/
structure RelayKept (l : List RelayEntry) : Prop where
  room : l.length ≤ 16
  nodup : (l.map (fun e => (e.origin, e.seq))).Nodup
  young : ∀ e ∈ l, e.age < 30

theorem RelayKept.nil : RelayKept [] := ⟨Nat.zero_le _, List.nodup_nil, by simp⟩

theorem RelayKept.sublist {l l' : List RelayEntry} (h : RelayKept l) (hs : l'.Sublist l) : RelayKept l' :=
  ⟨hs.length_le.trans h.room, h.nodup.sublist (hs.map _), fun e he => h.young e (hs.subset he)⟩

theorem RelayKept.add {l : List RelayEntry} (h : RelayKept l) (a : Addr) (q : Byte) : RelayKept (relayAdd l a q) := by
  unfold relayAdd
  split
  · exact h
  next hnew =>
    have hnew : ∀ e ∈ l, (e.origin, e.seq) ≠ (a, q) := by simpa [relayHolds] using hnew
    have hpush {l' : List RelayEntry} (hs : l'.Sublist l) (hroom : l'.length < 16) :
        RelayKept (l' ++ [⟨a, q, 0⟩]) := by
      obtain ⟨-, hnodup, hyoung⟩ := h.sublist hs
      refine ⟨by simpa using hroom, ?_, ?_⟩
      · rw [List.map_append, List.nodup_append_comm]
        refine List.nodup_cons.mpr ⟨fun hmem => ?_, hnodup⟩
        obtain ⟨e, he, heq⟩ := List.mem_map.mp hmem
        exact hnew e (hs.subset he) heq
      · intro e he
        rcases List.mem_append.mp he with he | he
        · exact hyoung e he
        · rw [List.mem_singleton.mp he]
          exact Nat.zero_lt_succ 29
    split
    next hfull =>
      refine hpush (List.drop_sublist 1 l) ?_
      have := h.room
      rw [List.length_drop]
      omega
    next hroom => exact hpush (List.Sublist.refl l) (not_le.mp hroom)

theorem RelayKept.aged {l : List RelayEntry} (h : RelayKept l) : RelayKept (relayAged l) := by
  have hmap : ((l.map (fun e => { e with age := e.age + 1 })).map (fun e => (e.origin, e.seq))).Nodup := by
    simpa [Function.comp_def] using h.nodup
  unfold relayAged
  refine ⟨(List.length_filter_le _ _).trans (by simpa using h.room), hmap.sublist (List.filter_sublist.map _), ?_⟩
  intro e he
  simpa using (List.mem_filter.mp he).2

theorem RelayKept.header {n : Net} (h : RelayKept n.relay) (own : Addr) (m : Message) :
    RelayKept (n.header own m).2.relay := by
  unfold Net.header
  dsimp only
  split
  · exact h.add _ _
  · exact h

theorem relayKept_net : KeepsNet (fun n => RelayKept n.relay) where
  originate := fun l shed m h => by
    unfold Net.originate
    split
    · exact h
    · simpa using h.header _ m
  originateTo := fun shed p m h => by
    unfold Net.originateTo
    split
    · exact h
    · simpa using h.header _ m
  choose := fun shed p h => by simpa using h
  count := fun p f h => by simpa using h
  decide := fun l shed p f h => by simpa using h
  relayAdd := fun a q h => h.add a q
  relayTick := fun _ h => h.aged
  banks := fun _ h => h
  select := fun _ h => h
  zeroed := fun h => h
  cold := fun _ _ _ _ => RelayKept.nil
  comesUp := fun p _ h => by simpa [State.choosePort, State.linkChanged, State.countPort] using h

theorem RelayKept.restart {s : State} (_ : RelayKept s.net.relay) : RelayKept s.restart.net.relay :=
  relayKept_net.restart RelayKept.nil

theorem RelayKept.restartDue {s : State} (h : RelayKept s.net.relay) : RelayKept s.restartDue.net.relay :=
  State.restartDue_keeps (P := fun s => RelayKept s.net.relay) RelayKept.restart (fun _ h => h) (fun _ h => h) h

theorem RelayKept.restartRequest {s : State} (h : RelayKept s.net.relay) (rq : Request) :
    RelayKept (s.restartRequest rq).1.net.relay := by
  unfold State.restartRequest State.sendRestartResponse
  simp only
  repeat' split
  · exact h
  · exact h
  · simp only [Net.choose_kept, Net.setEgress_kept]
    exact h.header _ _
  · refine RelayKept.restartDue ?_
    simp only [Net.count_kept]
    exact h.header _ _

theorem RelayKept.frameGone {s : State} (h : RelayKept s.net.relay) (p : Port) : RelayKept (s.frameGone p).net.relay := by
  have hsent (f : PortCounters → PortCounters) : RelayKept ((s.clearSending p).countPort p f).net.relay := by
    simpa [State.countPort, State.clearSending] using h
  unfold State.frameGone
  repeat' split
  · exact h
  · simpa [State.choosePort] using (hsent _).restartDue
  · simpa [State.choosePort] using hsent _

theorem RelayKept.goDown {s : State} (h : RelayKept s.net.relay) (p : Backbone) : RelayKept (s.goDown p).net.relay := by
  unfold State.goDown
  simp only
  repeat' split
  · refine RelayKept.restartDue ?_
    simpa [State.countPort, State.linkChanged, State.forgetVia] using h
  · simpa [State.countPort, State.linkChanged, State.forgetVia] using h
  · exact h

theorem relayKept_keeps : Keeps (fun s => RelayKept s.net.relay) :=
  relayKept_net.blocks.keeps ⟨fun rq h => h.restartRequest rq, fun p h => h.frameGone p, fun p h => h.goDown p⟩

theorem State.alarmListsSound_iff (s : State) : s.AlarmListsSound ↔ s.SosListKept ∧ RelayKept s.net.relay :=
  ⟨fun ⟨hsosRoom, hsosNodup, hsosMiners, hroom, hnodup, hyoung⟩ =>
      ⟨⟨hsosRoom, hsosNodup, hsosMiners⟩, ⟨hroom, hnodup, hyoung⟩⟩,
    fun ⟨⟨hsosRoom, hsosNodup, hsosMiners⟩, hroom, hnodup, hyoung⟩ =>
      ⟨hsosRoom, hsosNodup, hsosMiners, hroom, hnodup, hyoung⟩⟩

/-! ### The queues of a port (R159, R160, R162) -/

@[simp] theorem Queues.get_set (q : Queues) (c d : TrafficClass) (l : List Frame) :
    (q.set c l).get d = if c = d then l else q.get d := by
  cases c <;> cases d <;> rfl

theorem Queues.get_empty (c : TrafficClass) : ({} : Queues).get c = [] := by cases c <;> rfl

/-- The queues are within their capacities and hold frames of their class, the AIR queue one report of a source, and
what goes out is the frame's bytes. -/
structure EgressKept (e : Egress) (p : Port) (via : Byte) : Prop where
  room : ∀ c, (e.queues.get c).length ≤ queueCapacity c
  cls : ∀ c, ∀ f ∈ e.queues.get c, f.cls = c
  sources : (e.queues.air.map (fun f => f.src)).Nodup
  wire : ∀ t ∈ e.sending, t.wire = t.frame.wire p via

theorem EgressKept.of_empty {e : Egress} {p : Port} {via : Byte} (hq : e.queues = {}) (hs : e.sending = none) :
    EgressKept e p via := by
  refine ⟨fun c => ?_, fun c => ?_, ?_, ?_⟩
  · rw [hq, Queues.get_empty]; exact Nat.zero_le _
  · rw [hq, Queues.get_empty]; exact fun _ hf => absurd hf List.not_mem_nil
  · rw [hq]; exact List.nodup_nil
  · rw [hs]; exact fun _ ht => by cases ht

section

variable {e : Egress} {p : Port} {via : Byte} (h : EgressKept e p via)
include h

theorem EgressKept.unchanged {e' : Egress} (hq : e'.queues = e.queues) (hs : e'.sending = e.sending) :
    EgressKept e' p via :=
  ⟨hq ▸ h.room, hq ▸ h.cls, hq ▸ h.sources, hs ▸ h.wire⟩

theorem EgressKept.setQueue {c : TrafficClass} {l : List Frame} (hroom : l.length ≤ queueCapacity c)
    (hcls : ∀ f ∈ l, f.cls = c) (hsources : c = .air → (l.map (fun f => f.src)).Nodup) :
    EgressKept (e.setQueue c l) p via := by
  refine ⟨fun d => ?_, fun d => ?_, ?_, h.wire⟩
  · rw [Egress.setQueue, Queues.get_set]
    split
    next e => exact e ▸ hroom
    · exact h.room d
  · rw [Egress.setQueue, Queues.get_set]
    split
    next e => exact e ▸ hcls
    · exact h.cls d
  · show (((e.queues.set c l).get .air).map (fun f => f.src)).Nodup
    rw [Queues.get_set]
    split
    next e => exact hsources e
    · exact h.sources

omit h in
theorem replaceSameSource_length (f : Frame) (l : List Frame) : (replaceSameSource f l).length = l.length := by
  induction l with
  | nil => rfl
  | cons x l ih =>
    unfold replaceSameSource
    split
    · rfl
    · exact congrArg (· + 1) ih

omit h in
/-- The report takes the place of that of its source, so the sources stay as they are (R160). -/
theorem replaceSameSource_sources (f : Frame) (l : List Frame) :
    (replaceSameSource f l).map (fun x => x.src) = l.map (fun x => x.src) := by
  induction l with
  | nil => rfl
  | cons x l ih =>
    unfold replaceSameSource
    split
    next hx => simp [hx]
    · exact congrArg (x.src :: ·) ih

omit h in
theorem mem_replaceSameSource {f x : Frame} {l : List Frame} (hx : x ∈ replaceSameSource f l) : x = f ∨ x ∈ l := by
  induction l with
  | nil => exact absurd hx List.not_mem_nil
  | cons y l ih =>
    unfold replaceSameSource at hx
    split at hx
    · exact (List.mem_cons.mp hx).imp_right (List.mem_cons_of_mem y)
    · rcases List.mem_cons.mp hx with rfl | hx
      · exact .inr List.mem_cons_self
      · exact (ih hx).imp_right (List.mem_cons_of_mem y)

/-- A frame is offered to its queue (R159, R160). -/
theorem EgressKept.enqueue (f : Frame) : EgressKept (e.enqueue f) p via := by
  have hcls := h.cls f.cls
  have hpush {l : List Frame} (hl : ∀ x ∈ l, x ∈ e.queues.get f.cls) : ∀ x ∈ l ++ [f], x.cls = f.cls := by
    intro x hx
    rcases List.mem_append.mp hx with hx | hx
    · exact hcls x (hl x hx)
    · rw [List.mem_singleton.mp hx]
  unfold Egress.enqueue
  simp only
  split
  next hboth =>
    obtain ⟨hair, -⟩ := hboth
    rw [hair] at hcls
    refine (h.setQueue (c := .air) (l := replaceSameSource f (e.queues.get f.cls)) ?_ ?_ fun _ => ?_).unchanged rfl rfl
    · rw [replaceSameSource_length, hair]; exact h.room .air
    · intro x hx
      rcases mem_replaceSameSource hx with rfl | hx
      · exact hair
      · exact hcls x (hair ▸ hx)
    · rw [replaceSameSource_sources, hair]; exact h.sources
  next hnew =>
    split
    next hroom =>
      refine h.setQueue (by simpa using hroom) (hpush fun _ hx => hx) fun hair => ?_
      rw [List.map_append, List.nodup_append_comm]
      refine List.nodup_cons.mpr ⟨fun hmem => hnew ⟨hair, ?_⟩, hair ▸ h.sources⟩
      obtain ⟨x, hx, hsrc⟩ := List.mem_map.mp hmem
      exact List.any_eq_true.mpr ⟨x, hx, by simpa using hsrc⟩
    · split
      next hfull holdest =>
        refine (h.setQueue (c := f.cls) (l := (e.queues.get f.cls).drop 1 ++ [f]) ?_
          (hpush fun _ hx => List.mem_of_mem_drop hx) fun hair => ?_).unchanged rfl rfl
        · have hmost := h.room f.cls
          have hsome : 0 < queueCapacity f.cls := by cases f.cls <;> decide
          simp only [List.length_append, List.length_drop, List.length_singleton]
          omega
        · rw [hair] at holdest; cases holdest
      · exact h.unchanged rfl rfl

theorem EgressKept.send (restart : Bool) (f : Frame) : EgressKept (e.send p via restart f) p via :=
  ⟨h.room, h.cls, h.sources, fun t ht => by cases ht; rfl⟩

/-- The oldest frame of a class starts going out. -/
theorem EgressKept.serve (c : TrafficClass) : EgressKept (e.serve p via c) p via := by
  unfold Egress.serve
  split
  · exact h
  next f rest hq =>
    have hroom := h.room c
    have hcls := h.cls c
    rw [hq] at hroom hcls
    refine (h.setQueue (Nat.le_of_succ_le hroom) (fun x hx => hcls x (List.mem_cons_of_mem f hx)) fun hc => ?_).send _ f
    subst hc
    have hsources : ((f :: rest).map (fun f => f.src)).Nodup := hq ▸ h.sources
    exact (List.nodup_cons.mp hsources).2

/-- The choice of a free port (R162). -/
theorem EgressKept.choose (banks : Banks) (shed : Nat) : EgressKept (e.choose banks shed p via) p via := by
  unfold Egress.choose
  repeat' split
  · exact h
  · exact (h.unchanged (e' := { e with ahead := none }) rfl rfl).send _ _
  next c x _ =>
    exact (h.unchanged (e' := { e with active := x.active, position := x.position, pendingBank := x.pending }) rfl rfl).serve c
  · exact h
  · exact h.serve _

end

theorem Egress.serve_sending {e : Egress} {p : Port} {via : Byte} {c : TrafficClass} (hc : e.queues.get c ≠ []) :
    (e.serve p via c).sending ≠ none := by
  unfold Egress.serve
  split
  next hq => exact absurd hq hc
  · exact fun h => by cases h

/-- A port that chose and sends nothing has no alarm and no RESTART response waiting (R162, R200). -/
theorem Egress.choose_idle {e : Egress} {banks : Banks} {shed : Nat} {p : Port} {via : Byte}
    (hidle : (e.choose banks shed p via).sending = none) :
    (e.choose banks shed p via).queues.alarm = [] ∧ (e.choose banks shed p via).ahead = none := by
  cases hs : e.sending with
  | some t => simp [Egress.choose, hs] at hidle
  | none =>
    cases ha : e.ahead with
    | some f => simp [Egress.choose, hs, ha, Egress.send] at hidle
    | none =>
      by_cases halarm : e.queues.alarm = []
      · cases hsearch : planSearch banks shed e.queues 32 ⟨e.active, e.position, e.pendingBank⟩ with
        | none => simp [Egress.choose, hs, ha, halarm, hsearch]
        | some found =>
          obtain ⟨c, x⟩ := found
          obtain ⟨k, -, hserv, -⟩ := (planSearch_eq_some_iff ..).mp hsearch
          obtain ⟨-, hq, -⟩ := Banks.servableAt_eq_some_iff.mp hserv
          simp only [Egress.choose, hs, ha, halarm, hsearch, List.isEmpty_nil, if_true] at hidle
          exact absurd hidle (Egress.serve_sending (by exact hq))
      · simp only [Egress.choose, hs, ha, List.isEmpty_iff, halarm, if_false] at hidle
        exact absurd hidle (Egress.serve_sending (by exact halarm))

/-! ### A port (R161, R162) -/

/-- A port whose choice may still be open: a DOWN port holds no frame. -/
structure PortKept (x : PortState) (p : Port) (via : Byte) : Prop where
  egress : EgressKept x.egress p via
  down : x.up = false → x.egress.queues = {} ∧ x.egress.sending = none ∧ x.egress.ahead = none

/-- A port that is UP and sends nothing has no alarm and no RESTART response waiting. -/
def PortState.Settled (x : PortState) : Prop :=
  x.up = true → x.egress.sending = none → x.egress.queues.alarm = [] ∧ x.egress.ahead = none

theorem PortState.sound_iff (x : PortState) (p : Port) (via : Byte) :
    x.Sound p via ↔ PortKept x p via ∧ x.Settled := by
  constructor
  · rintro ⟨hqueues, hsources, hwire, hdown, hsettled⟩
    refine ⟨⟨⟨fun c => (hqueues c ?_).1, fun c => (hqueues c ?_).2, hsources, hwire⟩, hdown⟩, hsettled⟩
    · cases c <;> simp
    · cases c <;> simp
  · rintro ⟨⟨⟨hroom, hcls, hsources, hwire⟩, hdown⟩, hsettled⟩
    exact ⟨fun c _ => ⟨hroom c, hcls c⟩, hsources, hwire, hdown, hsettled⟩

theorem PortKept.of_empty {x : PortState} {p : Port} {via : Byte} (hq : x.egress.queues = {})
    (hs : x.egress.sending = none) (ha : x.egress.ahead = none) : PortKept x p via ∧ x.Settled :=
  ⟨⟨.of_empty hq hs, fun _ => ⟨hq, hs, ha⟩⟩, fun _ _ => ⟨by rw [hq], ha⟩⟩

theorem PortKept.unchanged {x x' : PortState} {p : Port} {via : Byte} (h : PortKept x p via)
    (hup : x'.up = x.up) (hq : x'.egress.queues = x.egress.queues) (hs : x'.egress.sending = x.egress.sending)
    (ha : x'.egress.ahead = x.egress.ahead) : PortKept x' p via :=
  ⟨h.egress.unchanged hq hs, by rw [hup, hq, hs, ha]; exact h.down⟩

theorem PortState.Settled.unchanged {x x' : PortState} (h : x.Settled)
    (hup : x'.up = x.up) (hq : x'.egress.queues = x.egress.queues) (hs : x'.egress.sending = x.egress.sending)
    (ha : x'.egress.ahead = x.egress.ahead) : x'.Settled := by
  rw [Settled, hup, hq, hs, ha]
  exact h

/-! ### The ports (R90) -/

/-- The ports, of which one may still have its choice to make; RADIO is UP. -/
structure Net.Open (n : Net) (free : Option Port) : Prop where
  radio : n.radio.up = true
  kept : ∀ p, PortKept (n.port p) p n.viaByte
  settled : ∀ p, free ≠ some p → (n.port p).Settled

theorem Net.viaByte_of_straps {n m : Net} (h : m.straps = n.straps) : m.viaByte = n.viaByte := by
  simp [Net.viaByte, Net.nodeAddr?, h]

theorem Net.Open.straps {n m : Net} {free : Option Port} (h : n.Open free) (hstraps : m.straps = n.straps)
    (hports : ∀ p, m.port p = n.port p) : m.Open free := by
  refine ⟨?_, fun p => ?_, fun p hp => ?_⟩
  · exact (congrArg (fun x => x.up) (hports .radio)).trans h.radio
  · rw [hports, Net.viaByte_of_straps hstraps]
    exact h.kept p
  · rw [hports]
    exact h.settled p hp

section

variable {n : Net} {free : Option Port} (h : n.Open free)
include h

/-- Every port's queues and transmission stay as they were. -/
theorem Net.Open.unchanged {m : Net} (hstraps : m.straps = n.straps) (hports : ∀ p, (m.port p).up = (n.port p).up
      ∧ (m.port p).egress.queues = (n.port p).egress.queues ∧ (m.port p).egress.sending = (n.port p).egress.sending
      ∧ (m.port p).egress.ahead = (n.port p).egress.ahead) : m.Open free := by
  refine ⟨(hports .radio).1.trans h.radio, fun p => ?_, fun p hp => ?_⟩
  · obtain ⟨hup, hq, hs, ha⟩ := hports p
    rw [Net.viaByte_of_straps hstraps]
    exact (h.kept p).unchanged hup hq hs ha
  · obtain ⟨hup, hq, hs, ha⟩ := hports p
    exact (h.settled p hp).unchanged hup hq hs ha

/-- One port is replaced; its own choice may be left open. -/
theorem Net.Open.setPort {p : Port} {x : PortState} {free' : Option Port} (hup : p = .radio → x.up = true)
    (hx : PortKept x p n.viaByte) (hsettled : free' = some p ∨ x.Settled)
    (hfree : ∀ q, q ≠ p → free' ≠ some q → free ≠ some q) : (n.setPort p x).Open free' := by
  have hvia : (n.setPort p x).viaByte = n.viaByte := Net.viaByte_of_straps (n.setPort_kept p x).1
  refine ⟨?_, fun q => ?_, fun q hq => ?_⟩
  · have hport : ((n.setPort p x).port .radio).up = true := by
      rw [Net.port_setPort]
      split
      next e => exact hup e
      · exact h.radio
    exact hport
  · rw [Net.port_setPort, hvia]
    split
    next e => exact e ▸ hx
    · exact h.kept q
  · rw [Net.port_setPort]
    split
    next e => exact hsettled.resolve_left (e ▸ hq)
    next e => exact h.settled q (hfree q (Ne.symm e) hq)

theorem Net.Open.count (p : Port) (f : PortCounters → PortCounters) : (n.count p f).Open free := by
  obtain ⟨hstraps, -, -, -, -, -, hports⟩ := n.count_kept p f
  refine h.unchanged hstraps fun q => ?_
  rw [(hports q).1, (hports q).2]
  exact ⟨rfl, rfl, rfl, rfl⟩

/-- A port's choice settles it (R162). -/
theorem Net.Open.choose (shed : Nat) {p : Port} (hfree : ∀ q, free = some q → q = p) : (n.choose shed p).Open none := by
  have hothers : ∀ q, q ≠ p → none ≠ some q → free ≠ some q := fun q hne _ e => hne (hfree q e)
  unfold Net.choose Net.setEgress
  split
  next hup =>
    refine h.setPort (fun _ => hup) ⟨(h.kept p).egress.choose _ _, fun hdown => ?_⟩ (.inr fun _ hs => ?_) hothers
    · rw [hup] at hdown; cases hdown
    · exact Egress.choose_idle hs
  next hdown =>
    refine ⟨h.radio, h.kept, fun q _ => ?_⟩
    by_cases hq : q = p
    · subst hq
      exact fun hup => absurd hup hdown
    · exact h.settled q (hothers q hq (by simp))

end

/-- The promise, of the engine. -/
def Net.PortsKept (n : Net) : Prop := n.Open none

theorem State.portsSound_iff (s : State) : s.PortsSound ↔ s.net.PortsKept := by
  unfold State.PortsSound
  simp only [PortState.sound_iff]
  constructor
  · rintro ⟨hradio, hports⟩
    refine ⟨hradio, fun p => (hports p ?_).1, fun p _ => (hports p ?_).2⟩
    · cases p <;> simp
    · cases p <;> simp
  · rintro ⟨hradio, hkept, hsettled⟩
    exact ⟨hradio, fun p _ => ⟨hkept p, hsettled p (by simp)⟩⟩

section

variable {n : Net} (h : n.PortsKept)
include h

theorem Net.PortsKept.choose (shed : Nat) (p : Port) : (n.choose shed p).PortsKept :=
  Net.Open.choose h shed (fun _ e => by cases e)

theorem Net.PortsKept.count (p : Port) (f : PortCounters → PortCounters) : (n.count p f).PortsKept := Net.Open.count h p f

theorem Net.PortsKept.countArrival (a : Option Port) (f : PortCounters → PortCounters) : (n.countArrival a f).PortsKept := by
  cases a with
  | none => exact h
  | some p => exact h.count p f

/-- A frame that is dropped at its queue leaves the queues as they were. -/
theorem Net.PortsKept.offer (shed : Nat) {p : Port} (hup : (n.port p).up = true) (f : Frame) :
    (n.offer shed p f).PortsKept := by
  have henqueued : (n.setEgress p ((n.port p).egress.enqueue f)).Open (some p) := by
    refine Net.Open.setPort (free' := some p) h (fun _ => hup)
      ⟨(h.kept p).egress.enqueue f, fun hdown => absurd (hup.symm.trans hdown) Bool.noConfusion⟩ (.inl rfl) (by simp)
  rcases n.offer_cases shed p f with ⟨-, e⟩ | ⟨htakes, e⟩
  · rw [e]
    exact henqueued.choose shed (fun q hq => (Option.some.inj hq).symm)
  · obtain ⟨hnew, hfull, holdest⟩ := (Egress.takes_eq_false_iff _ _).mp htakes
    have hdropped := Egress.enqueue_dropsNew (or_iff_not_imp_left.mpr fun hair => hnew (not_not.mp hair)) hfull
      (Bool.not_eq_true _ ▸ holdest)
    rw [e]
    refine Net.Open.setPort h (fun _ => hup) ⟨(h.kept p).egress.enqueue f, fun hdown =>
      absurd (hup.symm.trans hdown) Bool.noConfusion⟩ (.inr ?_) (fun _ _ _ => by simp)
    rw [hdropped]
    exact (h.settled p (by simp)).unchanged rfl rfl rfl rfl

theorem Net.PortsKept.offerAll (shed : Nat) (ports : List Port) (hup : ∀ p ∈ ports, (n.port p).up = true) (f : Frame) :
    (n.offerAll shed ports f).PortsKept := by
  unfold Net.offerAll
  induction ports generalizing n with
  | nil => exact h
  | cons p ports ih =>
    obtain ⟨hp, hrest⟩ := List.forall_mem_cons.mp hup
    obtain ⟨-, -, -, -, -, -, hkept⟩ := n.offer_kept shed p f
    exact ih (h.offer shed hp f) (fun q hq => (hkept q).1.trans (hrest q hq))

omit h in
theorem Net.up_of_mem_floodPorts {a : Option Port} {p : Port} (hp : p ∈ n.floodPorts a) : (n.port p).up = true := by
  unfold Net.floodPorts at hp
  rcases List.mem_append.mp hp with hp | hp
  · split at hp
    next hup =>
      rw [List.mem_singleton.mp hp]
      exact (Bool.and_eq_true_iff.mp hup).1
    · cases hp
  · split at hp
    next hup =>
      rw [List.mem_singleton.mp hp]
      exact (Bool.and_eq_true_iff.mp hup).1
    · cases hp

theorem Net.PortsKept.sendTo (shed : Nat) (p : Port) (f : Frame) : (n.sendTo shed p f).PortsKept := by
  unfold Net.sendTo
  split
  next hup => exact h.offer shed hup f
  · exact h.count ..

theorem Net.PortsKept.sendVia (shed : Nat) (a : Option Port) (p : Port) (f : Frame) : (n.sendVia shed a p f).PortsKept := by
  unfold Net.sendVia
  split
  · exact h.count ..
  · exact h.sendTo ..

theorem Net.PortsKept.flood (shed : Nat) (a : Option Port) (f : Frame) : (n.flood shed a f).PortsKept := by
  unfold Net.flood
  simp only
  split
  · exact h.countArrival ..
  · exact h.offerAll shed _ (fun p hp => Net.up_of_mem_floodPorts hp) f

theorem Net.PortsKept.sendBroadcast (shed : Nat) (a : Option Port) (f : Frame) : (n.sendBroadcast shed a f).PortsKept := by
  have hup : ∀ p ∈ n.floodPorts a ++ (if broadcastOnRadio a f then [Port.radio] else []), (n.port p).up = true := by
    intro p hp
    rcases List.mem_append.mp hp with hp | hp
    · exact Net.up_of_mem_floodPorts hp
    · split at hp
      · rw [List.mem_singleton.mp hp]
        exact h.radio
      · cases hp
  unfold Net.sendBroadcast
  simp only
  generalize n.floodPorts a ++ _ = ports at hup
  split
  · exact h.countArrival ..
  · exact h.offerAll shed ports hup f

theorem Net.PortsKept.decide (l : List Entry) (shed : Nat) (a : Option Port) (f : Frame) : (n.decide l shed a f).PortsKept := by
  unfold Net.decide
  repeat' split
  · exact h
  · exact h
  · exact h.sendBroadcast ..
  · exact h.countArrival ..
  · exact h
  · exact h.offer shed (p := .radio) h.radio f
  · exact h
  · exact h.sendVia ..
  · exact h
  · exact h.sendVia ..
  · exact h
  · exact h.flood ..
  · exact h
  · exact h.flood ..

theorem Net.PortsKept.header (own : Addr) (m : Message) : (n.header own m).2.PortsKept := by
  obtain ⟨hstraps, -, -, hports⟩ := n.header_kept own m
  exact Net.Open.straps h hstraps hports

theorem Net.PortsKept.unchanged {m : Net} (hstraps : m.straps = n.straps) (hports : ∀ p, (m.port p).up = (n.port p).up
      ∧ (m.port p).egress.queues = (n.port p).egress.queues ∧ (m.port p).egress.sending = (n.port p).egress.sending
      ∧ (m.port p).egress.ahead = (n.port p).egress.ahead) : m.PortsKept :=
  Net.Open.unchanged h hstraps hports

end

/-- Three ports without a frame. -/
theorem Net.portsKept_of_empty {n : Net} (hradio : n.radio.up = true) (hports : ∀ p, (n.port p).egress.queues = {}
      ∧ (n.port p).egress.sending = none ∧ (n.port p).egress.ahead = none) : n.PortsKept := by
  have hempty (p : Port) : PortKept (n.port p) p n.viaByte ∧ (n.port p).Settled := by
    obtain ⟨hq, hs, ha⟩ := hports p
    exact PortKept.of_empty hq hs ha
  exact ⟨hradio, fun p => (hempty p).1, fun p _ => (hempty p).2⟩

/-- A link that comes UP finds its port empty (R90). -/
theorem Net.PortsKept.comesUp {s : State} (p : Backbone) (hdown : (s.net.port p.port).up = false) (h : s.net.PortsKept) :
    ((s.linkChanged p true).choosePort p.port).net.PortsKept := by
  obtain ⟨hq, hs, ha⟩ := (h.kept p.port).down hdown
  have hup : (s.net.setPort p.port { s.net.port p.port with up := true }).PortsKept :=
    Net.Open.setPort h (fun _ => rfl) ⟨.of_empty hq hs, fun e => by cases e⟩ (.inr fun _ _ => ⟨by rw [hq], ha⟩)
      (fun _ _ _ => by simp)
  exact Net.PortsKept.choose (Net.PortsKept.count hup p.port _) _ p.port

theorem portsKept_net : KeepsNet Net.PortsKept where
  originate := fun l shed m h => by
    unfold Net.originate
    split
    · exact h
    · exact (h.header _ m).decide ..
  originateTo := fun shed p m h => by
    unfold Net.originateTo
    split
    · exact h
    · exact (h.header _ m).sendTo ..
  choose := fun shed p h => h.choose shed p
  count := fun p f h => h.count p f
  decide := fun l shed p f h => h.decide ..
  relayAdd := fun a q h => h.unchanged rfl (fun p => by cases p <;> exact ⟨rfl, rfl, rfl, rfl⟩)
  relayTick := fun _ h => h.unchanged rfl (fun p => by cases p <;> exact ⟨rfl, rfl, rfl, rfl⟩)
  banks := fun _ h => h.unchanged rfl (fun p => by cases p <;> exact ⟨rfl, rfl, rfl, rfl⟩)
  select := fun _ h => h.unchanged rfl (fun p => by cases p <;> exact ⟨rfl, rfl, rfl, rfl⟩)
  zeroed := fun h => h.unchanged rfl (fun p => by cases p <;> exact ⟨rfl, rfl, rfl, rfl⟩)
  cold := fun _ _ _ _ => Net.portsKept_of_empty rfl (fun p => by cases p <;> exact ⟨rfl, rfl, rfl⟩)
  comesUp := fun p hdown h => h.comesUp p hdown

/-! ### The commands that can bring a restart (R161, R162, R200) -/

/-- A restart empties every port (R175). -/
theorem Net.PortsKept.restart {s : State} (hradio : s.net.radio.up = true) : s.restart.net.PortsKept :=
  portsKept_net.restart (Net.portsKept_of_empty hradio (fun p => by cases p <;> exact ⟨rfl, rfl, rfl⟩))

/-- A restart that falls due leaves no more choices open than there were. -/
theorem Net.Open.restartDue {s : State} {free : Option Port} (h : s.net.Open free) : s.restartDue.net.Open free := by
  unfold State.restartDue
  split
  · have hkept := Net.PortsKept.restart h.radio
    exact ⟨hkept.radio, hkept.kept, fun p _ => hkept.settled p (by simp)⟩
  · exact h

theorem Net.PortsKept.restartRequest {s : State} (h : s.net.PortsKept) (rq : Request) :
    (s.restartRequest rq).1.net.PortsKept := by
  have hheader (own : Addr) (m : Message) := h.header own m
  unfold State.restartRequest State.sendRestartResponse
  simp only
  repeat' split
  · exact h
  · exact h
  next hup =>
    refine Net.Open.choose (free := some rq.port) ?_ _ (fun q hq => (Option.some.inj hq).symm)
    refine Net.Open.setPort (hheader _ _) (fun _ => hup) ?_ (.inl rfl) (fun _ _ _ => by simp)
    exact ⟨((hheader _ _).kept rq.port).egress.unchanged rfl rfl, fun hdown => absurd (hup.symm.trans hdown) Bool.noConfusion⟩
  · have hcounted (own : Addr) (m : Message) (f : PortCounters → PortCounters) := (hheader own m).count rq.port f
    refine Net.Open.restartDue ?_
    dsimp only
    exact hcounted _ _ _

theorem Net.PortsKept.frameGone {s : State} (h : s.net.PortsKept) (p : Port) : (s.frameGone p).net.PortsKept := by
  unfold State.frameGone
  split
  · exact h
  next t ht =>
    have hup : (s.net.port p).up = true := by
      by_contra hdown
      obtain ⟨-, hs, -⟩ := (h.kept p).down (Bool.not_eq_true _ ▸ hdown)
      rw [hs] at ht; cases ht
    have hcleared : (s.clearSending p).net.Open (some p) := by
      refine Net.Open.setPort h (fun _ => hup) ?_ (.inl rfl) (fun _ _ _ => by simp)
      obtain ⟨hroom, hcls, hsources, -⟩ := (h.kept p).egress
      exact ⟨⟨hroom, hcls, hsources, fun _ e => by cases e⟩, fun hdown => absurd (hup.symm.trans hdown) Bool.noConfusion⟩
    have hsent (f : PortCounters → PortCounters) : ((s.clearSending p).countPort p f).net.Open (some p) :=
      Net.Open.count hcleared p f
    simp only
    refine Net.Open.choose (free := some p) ?_ _ (fun q hq => (Option.some.inj hq).symm)
    split
    · exact Net.Open.restartDue (hsent _)
    · exact hsent _

@[simp] theorem Net.setPort_setPort (n : Net) (p : Port) (x y : PortState) :
    (n.setPort p x).setPort p y = n.setPort p y := by
  cases p <;> rfl

theorem State.linkChanged_net (s : State) (p : Backbone) (up : Bool) : (s.linkChanged p up).net =
    (s.net.setPort p.port { s.net.port p.port with up := up }).count p.port
      (fun k => { k with linkChanges := k.linkChanges + 1 }) := rfl

theorem Net.PortsKept.goDown {s : State} (h : s.net.PortsKept) (p : Backbone) : (s.goDown p).net.PortsKept := by
  have hdown : (({ s with net := s.net.setEgress p.port (s.net.port p.port).egress.flush } : State).linkChanged p false).net.PortsKept := by
    rw [State.linkChanged_net]
    refine Net.PortsKept.count ?_ _ _
    obtain ⟨hkept, hsettled⟩ := PortKept.of_empty (via := s.net.viaByte) (p := p.port)
      (x := { s.net.port p.port with egress := (s.net.port p.port).egress.flush, up := false }) rfl rfl rfl
    simp only [Net.setEgress, Net.port_setPort, if_true, Net.setPort_setPort]
    exact Net.Open.setPort h (by cases p <;> simp [Backbone.port]) hkept (.inr hsettled) (fun _ _ _ => by simp)
  unfold State.goDown
  simp only
  repeat' split
  · have hcounted (f : PortCounters → PortCounters) := hdown.count p.port f
    refine Net.Open.restartDue ?_
    dsimp only [State.countPort, State.forgetVia, State.setEntries]
    exact hcounted _
  · exact hdown
  · exact h

theorem portsKept_keeps : Keeps (fun s => s.net.PortsKept) :=
  portsKept_net.blocks.keeps ⟨fun rq h => h.restartRequest rq, fun p h => h.frameGone p, fun p h => h.goDown p⟩

/-- Settles O12: the ports, the SOS list and the relay list are kept by every part of a command (`portsKept_keeps`,
`State.sosListKept_keeps`, `relayKept_keeps`). -/
theorem portsAndAlarmListsSoundInEveryStep : Obligations.PortsAndAlarmListsSoundInEveryStep := by
  refine ⟨fun s t h hstep => ?_, fun s t h hstep => ?_⟩
  · exact t.portsSound_iff.mpr (portsKept_keeps.step (s.portsSound_iff.mp h) hstep)
  · obtain ⟨hsos, hrelay⟩ := s.alarmListsSound_iff.mp h
    exact t.alarmListsSound_iff.mpr ⟨State.sosListKept_keeps.step hsos hstep, relayKept_keeps.step hrelay hstep⟩

end Sys2Proof.Machine

end

section

set_option Elab.async false

/-! PROOF. CLEAR COUNTERS (R199), the relay list's tick and the cadence (R83, R155), the plan requests (R165, R166). -/

namespace Sys2Proof.Machine

/-! ### CLEAR COUNTERS (R199) -/

theorem getElem_mapTable {α : Type} {n : Nat} (f : α → α) (v : Vector α n) (i : Fin n) : (mapTable f v)[i] = f v[i] := by
  simp [mapTable]

theorem exec_clearCounters (rq : Request) (s : State) :
    exec (.clearCounters rq) s = s.requestEvent rq false (fun u => u.clearCounters) := rfl

/-- Settles O38: the state that is answered is `clearCounters` of the state in which the request has been counted. -/
theorem clearCountersClearsOnlyCounters : Obligations.ClearCountersClearsOnlyCounters := by
  intro s rq haccepts
  refine ⟨s.asTaken.clearCounters.1, ?_, fun p => ?_, fun i => ?_, rfl⟩
  · rw [exec_clearCounters]
    exact State.requestEvent_done_settled haccepts rfl rfl
  · cases p <;> rfl
  · exact getElem_mapTable Leg.zeroed s.calls.legs i

/-! ### The relay list's tick and the cadence (R83, R155) -/

theorem relayAged_eq (l : List RelayEntry) :
    relayAged l = (l.filter (fun e => decide (e.age + 1 < 30))).map (fun e => { e with age := e.age + 1 }) := by
  unfold relayAged
  rw [List.filter_map]
  rfl

/-- Outputs that follow already are not moved by driving them (R27, R155). -/
theorem State.OutputsFollow.drive {s : State} (h : s.OutputsFollow) : s.drive = s := by
  obtain ⟨hlines, htrip⟩ := h
  have hline (o : Output) : (s.evac.lines.get o).show s.now (s.wantedPattern o) = s.evac.lines.get o :=
    if_pos (hlines o (by cases o <;> simp)).1
  have hdriven : s.drivenLines = s.evac.lines := by
    have hsiren := hline .siren
    have hstrobe := hline .strobe
    have hfault := hline .faultLine
    have haux := hline .aux
    simp only [Lines.get] at hsiren hstrobe hfault haux
    rw [State.drivenLines, hsiren, hstrobe, hfault, haux]
  have htripped : (s.air.zone == Grade.trip) = s.air.tripOutput := by
    rw [Bool.eq_iff_iff, beq_iff_eq]
    exact htrip.symm
  rw [State.drive, hdriven, htripped]

/-- Settles O59: the list's tick ages before it removes, and the half of a cadence leaves every pattern as its sources
want it, so that driving the outputs at the event's end changes nothing. -/
theorem relayTickAndCadence : Obligations.RelayTickAndCadence := by
  intro s
  refine ⟨?_, fun o d half hfollow hcadence hpattern => ?_⟩
  · refine exec_settled (t := { s.at s.net.relayTick with net := { s.net with
      relayTick := max s.now s.net.relayTick + 1000, relay := _ } }) ?_ rfl
    rw [← relayAged_eq]
    rfl
  · have hhalf : (s.evac.lines.get o).pattern.half = some half := by
      rcases hpattern with ⟨hp, rfl⟩ | ⟨hp, rfl⟩
      · rw [hp]; rfl
      · rw [hp]; rfl
    have hwork : workOf (.outputCadenceToggle o) { s with scratch := {} } = (s.at d).toggleLine o := by
      show State.expire { s with scratch := {} } (s.evac.lines.get o).cadence (fun u => u.toggleLine o) = _
      rw [hcadence]
      rfl
    have htoggle : (s.evac.lines.get o).toggle (max s.now d)
        = ⟨(s.evac.lines.get o).pattern, !(s.evac.lines.get o).asserted, some (max s.now d + half)⟩ := by
      rw [Line.toggle, hhalf]
    have htoggled : (s.at d).toggleLine o = { s.at d with evac := { s.evac with
        lines := s.evac.lines.set o ((s.evac.lines.get o).toggle (max s.now d)) } } := rfl
    obtain ⟨hlines, htrip⟩ := hfollow
    have hfollow' : ((s.at d).toggleLine o).OutputsFollow := by
      refine ⟨fun o' ho' => ?_, htrip⟩
      obtain ⟨hwanted, hfits⟩ := hlines o' ho'
      rw [htoggled, htoggle, Lines.get_set]
      split
      next e =>
        subst e
        exact ⟨hwanted, by rw [← htoggle]; exact hfits.toggle _⟩
      · exact ⟨hwanted, hfits⟩
    rw [exec_settled hwork rfl, State.settled, hfollow'.drive, htoggled, htoggle]
    rfl

/-! ### SELECT PLAN and LOAD RECORD PLAN (R165, R166) -/

theorem exec_selectPlan (rq : Request) (v : Byte) (s : State) :
    exec (.selectPlan rq v) s = s.requestEvent rq false (fun u => u.selectPlan v) := rfl

theorem exec_loadRecordPlan (rq : Request) (x : Word) (v : Byte) (s : State) :
    exec (.loadRecordPlan rq x v) s = s.requestEvent rq false (fun u => u.loadPlan x v) := rfl

theorem PlanEntry.ofCode_code (e : PlanEntry) : PlanEntry.ofCode e.code = some e := by
  cases e <;> rfl

theorem PlanEntry.ofCode_of_bad {n : Nat} (h : n = 0 ∨ 6 < n) : PlanEntry.ofCode n = none := by
  have hne : n ≠ 1 ∧ n ≠ 2 ∧ n ≠ 3 ∧ n ≠ 4 ∧ n ≠ 5 ∧ n ≠ 6 := by omega
  simp [PlanEntry.ofCode, hne]

theorem Net.bankInUse_iff {n : Net} {b : Bank} :
    n.bankInUse b = true ↔ ∃ p, (n.port p).egress.active = b ∨ (n.port p).egress.pendingBank = some b := by
  simp only [Net.bankInUse, List.any_eq_true, Bool.or_eq_true, beq_iff_eq, List.mem_cons, List.not_mem_nil, or_false]
  constructor
  · rintro ⟨x, rfl | rfl | rfl, hx⟩
    · exact ⟨.outbye, hx⟩
    · exact ⟨.inbye, hx⟩
    · exact ⟨.radio, hx⟩
  · rintro ⟨p, hp⟩
    cases p with
    | outbye => exact ⟨_, .inl rfl, hp⟩
    | inbye => exact ⟨_, .inr (.inl rfl), hp⟩
    | radio => exact ⟨_, .inr (.inr rfl), hp⟩

section

variable {s : State}

theorem State.selectPlan_of_bank {v : Byte} {b : Bank} (h : b.code = v.toNat) :
    s.selectPlan v = ({ s with net := { s.net with
      outbye := s.net.outbye.select b, inbye := s.net.inbye.select b, radio := s.net.radio.select b } }, .done []) := by
  rw [State.selectPlan, Bank.ofCode_eq_some_iff.mpr h.symm]
  rfl

theorem State.loadPlan_of_badIndex {x : Word} (h : 512 ≤ x.toNat ∨ 32 ≤ x.toNat % 256) (v : Byte) :
    s.loadPlan x v = (s, .refused .badIndex) := by
  rw [State.loadPlan, planIndex_of_bad h]

variable {x : Word} {b : Bank} {i : Fin 32} (hx : x.toNat = 256 * b.code + i.val) {v : Byte}
include hx

theorem State.loadPlan_of_badValue (h : v.toNat = 0 ∨ 6 < v.toNat) : s.loadPlan x v = (s, .refused .badValue) := by
  simp only [State.loadPlan, planIndex_of_eq hx, PlanEntry.ofCode_of_bad h]

theorem State.loadPlan_of_inUse {e : PlanEntry} (he : e.code = v.toNat) (h : s.net.bankInUse b = true) :
    s.loadPlan x v = (s, .refused .activeBank) := by
  simp only [State.loadPlan, planIndex_of_eq hx, ← he, PlanEntry.ofCode_code, if_pos h]

theorem State.loadPlan_of_free {e : PlanEntry} (he : e.code = v.toNat) (h : ¬ s.net.bankInUse b = true) :
    s.loadPlan x v = ({ s with net := { s.net with banks := s.net.banks.write b i e } }, .done []) := by
  simp only [State.loadPlan, planIndex_of_eq hx, ← he, PlanEntry.ofCode_code, if_neg h, loaded]

end

/-- Settles O33: the index is judged first, then the value, then whether a port uses the bank. -/
theorem plansSelectedAndLoaded : Obligations.PlansSelectedAndLoaded := by
  refine ⟨fun s rq v haccepts => ⟨fun hbad => ?_, fun b hb => ?_⟩, fun s rq x v haccepts =>
    ⟨fun hbad => ?_, fun b i hx => ⟨fun hbad => ?_, fun e he => ⟨fun huse => ?_, fun hfree => ?_⟩⟩⟩⟩
  · rw [exec_selectPlan]
    refine State.requestEvent_refused haccepts (by decide) ?_
    rw [State.selectPlan, Bank.ofCode_of_le hbad]
  · have hselected := State.selectPlan_of_bank (s := s.asTaken) hb
    exact State.requestEvent_done_settled haccepts (f := fun u => u.selectPlan v) hselected rfl
  · exact State.requestEvent_refused haccepts (by decide) (State.loadPlan_of_badIndex hbad v)
  · exact State.requestEvent_refused haccepts (by decide) (State.loadPlan_of_badValue hx hbad)
  · exact State.requestEvent_refused haccepts (by decide) (State.loadPlan_of_inUse hx he (Net.bankInUse_iff.mpr huse))
  · have hunused : ¬ s.asTaken.net.bankInUse b = true := by
      rw [Net.bankInUse_iff]
      rintro ⟨p, hp⟩
      exact hp.elim (hfree p).1 (hfree p).2
    have hloaded := State.loadPlan_of_free hx he hunused
    rw [exec_loadRecordPlan, State.requestEvent_done_settled haccepts (f := fun u => u.loadPlan x v) hloaded rfl]
    cases b <;> rfl

end Sys2Proof.Machine

end

section

set_option Elab.async false

/-! PROOF. The voice window (R114), SOS frames and acknowledgements (R145, R151, R152). -/

namespace Sys2Proof.Machine

/-! ### A handling that reads and writes its own leg alone (R96) -/

/-- The handling of a call frame on the legs that are not IDLE, when it rewrites its own leg alone. -/
theorem State.onLegs_each {g : State → Fin 8 → State × Bool} {φ : Leg → Leg} {ψ : Leg → Bool}
    (hg : ∀ (s : State) (i : Fin 8), g s i = (s.setLeg i (φ (s.leg i)), ψ (s.leg i))) (l : List (Fin 8)) :
    ∀ {s : State}, l.Nodup → (∀ i ∈ l, (s.leg i).state ≠ .idle) →
      (s.onLegs g l).1 = { s with calls := { s.calls with legs := (s.onLegs g l).1.calls.legs } }
      ∧ (∀ j, (s.onLegs g l).1.leg j = if j ∈ l then φ (s.leg j) else s.leg j)
      ∧ ((s.onLegs g l).2 = true ↔ ∀ i ∈ l, ψ (s.leg i) = true) := by
  induction l with
  | nil => exact fun _ _ => ⟨rfl, fun j => by simp [State.onLegs], by simp [State.onLegs]⟩
  | cons i l ih =>
    intro s hnodup hbusy
    obtain ⟨hi, hnodup⟩ := List.nodup_cons.mp hnodup
    have hleg (j : Fin 8) : (s.setLeg i (φ (s.leg i))).leg j = if i = j then φ (s.leg i) else s.leg j := State.leg_setLeg ..
    have hrest : ∀ j ∈ l, (s.setLeg i (φ (s.leg i))).leg j = s.leg j := fun j hj => by
      have hne : i ≠ j := fun e => hi (e ▸ hj)
      rw [hleg, if_neg hne]
    obtain ⟨hstate, hlegs, hpass⟩ := ih (s := s.setLeg i (φ (s.leg i))) hnodup
      (fun j hj => by rw [hrest j hj]; exact hbusy j (List.mem_cons_of_mem i hj))
    rw [State.onLegs, if_neg (hbusy i List.mem_cons_self)]
    simp only [hg]
    refine ⟨hstate, fun j => ?_, ?_⟩
    · rw [hlegs, hleg]
      by_cases hji : j = i
      · subst hji
        simp [hi]
      · simp [hji, Ne.symm hji]
    · rw [Bool.and_eq_true, hpass, List.forall_mem_cons]
      exact and_congr_right fun _ => forall₂_congr fun j hj => by rw [hrest j hj]

/-! ### The voice window (R114) -/

/-- VOICE is newer than the last one passed: modulo 256, by at most 128. -/
theorem voiceNewer_iff {last : Option Byte} {x : Byte} : voiceNewer last x = true ↔ ∀ y, last = some y →
    1 ≤ (x.toNat + 256 - y.toNat) % 256 ∧ (x.toNat + 256 - y.toNat) % 256 ≤ 128 := by
  cases last with
  | none => simp [voiceNewer]
  | some y =>
    have hdiff : (x - y).toNat = (x.toNat + 256 - y.toNat) % 256 := by
      have hy := y.isLt
      rw [BitVec.toNat_sub]
      congr 1
      omega
    simp [voiceNewer, hdiff]

/-- VOICE passes on an ACTIVE leg, from the leg's own unit or when it is newer. -/
def Leg.passesVoice (l : Leg) (p : Port) (f : Frame) (x : Byte) : Bool :=
  l.state == .active && (unitSide p f l || voiceNewer l.lastVoice x)

/-- The leg after a VOICE on it. -/
def Leg.voiced (l : Leg) (p : Port) (f : Frame) (x : Byte) : Leg :=
  if l.passesVoice p f x then
    if unitSide p f l then { l with voiceIn := l.voiceIn + 1 }
    else { l with lastVoice := some x, voiceOut := l.voiceOut + 1 }
  else { l with voiceDropped := l.voiceDropped + 1 }

theorem State.voiceOnLeg_eq (s : State) (p : Port) (f : Frame) (x : Byte) (i : Fin 8) :
    s.voiceOnLeg p f x i = (s.setLeg i ((s.leg i).voiced p f x), (s.leg i).passesVoice p f x) := by
  unfold State.voiceOnLeg Leg.voiced Leg.passesVoice
  simp only
  split
  next hactive =>
    split
    next hunit => simp [hactive, hunit]
    next hfar =>
      split
      next hnewer => simp [hactive, hfar, hnewer]
      next hold => simp [hactive, hfar, hold]
  next hidle => simp [hidle]

theorem unitSide_iff {p : Port} {f : Frame} {l : Leg} : unitSide p f l = true ↔ p = .radio ∧ f.src = l.localParty := by
  simp [unitSide]

theorem legMatches_iff {p : Port} {f : Frame} {c : CallId} {l : Leg} : legMatches p f c l = true ↔
    l.state ≠ .idle ∧ l.callId = c ∧ (f.dest = l.localParty ∨ p = .radio ∧ f.src = l.localParty) := by
  simp [legMatches, unitSide_iff, and_assoc]

theorem Leg.passesVoice_iff {l : Leg} {p : Port} {f : Frame} {x : Byte} : l.passesVoice p f x = true ↔
    l.state = .active ∧ ((p = .radio ∧ f.src = l.localParty) ∨ ∀ y, l.lastVoice = some y →
      1 ≤ (x.toNat + 256 - y.toNat) % 256 ∧ (x.toNat + 256 - y.toNat) % 256 ≤ 128) := by
  simp only [Leg.passesVoice, Bool.and_eq_true, beq_iff_eq, Bool.or_eq_true, unitSide_iff, voiceNewer_iff]

theorem kind?_of_codes {f : Frame} {k : FrameKind} (hcls : f.cls = k.codes.1) (hkind : f.kind = k.codes.2) :
    f.kind? = some k := by
  rw [Frame.kind?, hcls, hkind, FrameKind.ofCodes_codes]

/-- Settles O53: the legs that VOICE matches are handled one after another, each on its own record
(`State.onLegs_each`). -/
theorem voiceWindow : Obligations.VoiceWindow := by
  intro s p f n k x coded hcls hkind hpayload hcoded unit found newer passes hsome
  have hinspect : s.inspect p f = s.callFrame p f ⟨n, k⟩ (fun s i => s.voiceOnLeg p f x i)
      (some (fun s => s.countCalls (fun k => { k with voiceStrays := k.voiceStrays + 1 }))) := by
    rw [State.inspect, kind?_of_codes (k := .voice) hcls hkind, hpayload]
    exact if_pos hcoded
  have hmem (i : Fin 8) : i ∈ legIndices.filter (fun i => legMatches p f ⟨n, k⟩ (s.leg i)) ↔ found i := by
    rw [List.mem_filter, legMatches_iff]
    exact and_iff_right (mem_legIndices i)
  have hmatched : (legIndices.filter (fun i => legMatches p f ⟨n, k⟩ (s.leg i))).isEmpty = false := by
    obtain ⟨i, hi⟩ := hsome
    exact List.isEmpty_eq_false_iff_exists_mem.mpr ⟨i, (hmem i).mpr hi⟩
  rw [hinspect, State.callFrame]
  simp only [hmatched, Bool.false_eq_true, if_false]
  obtain ⟨hstate, hlegs, hpass⟩ := State.onLegs_each
    (φ := fun l => l.voiced p f x) (ψ := fun l => l.passesVoice p f x) (fun s i => s.voiceOnLeg_eq p f x i)
    (legIndices.filter (fun i => legMatches p f ⟨n, k⟩ (s.leg i))) (s := s) ((by decide : legIndices.Nodup).filter _)
    (fun i hi => ((hmem i).mp hi).1)
  refine ⟨_, _, rfl, ?_, hstate, fun i hi => ?_, fun i hi => ?_⟩
  · rw [hpass]
    exact forall_congr' fun i => by rw [hmem, Leg.passesVoice_iff]
  · rw [hlegs, if_neg (mt (hmem i).mp hi)]
  · have hpasses : (s.leg i).passesVoice p f x = true ↔ passes i := Leg.passesVoice_iff
    have hunit : unitSide p f (s.leg i) = true ↔ unit i := unitSide_iff
    rw [hlegs, if_pos ((hmem i).mpr hi), Leg.voiced]
    refine ⟨fun hactive hu => ?_, fun hactive hu hn => ?_, fun hno => ?_⟩
    · rw [if_pos (hpasses.mpr ⟨hactive, .inl hu⟩), if_pos (hunit.mpr hu)]
    · rw [if_pos (hpasses.mpr ⟨hactive, .inr hn⟩), if_neg (mt hunit.mp hu)]
    · rw [if_neg (mt hpasses.mp hno)]

/-! ### The bytes of a word -/

theorem wordOf_highByte_lowByte (w : Word) : wordOf (w.extractLsb' 8 8) (w.extractLsb' 0 8) = w := by
  refine BitVec.eq_of_getLsbD_eq fun i hi => ?_
  simp only [wordOf, BitVec.getLsbD_append, BitVec.getLsbD_extractLsb']
  by_cases h : i < 8
  · simp [h]
  · have hlt : i - 8 < 8 := by omega
    have hadd : 8 + (i - 8) = i := by omega
    simp [h, hlt, hadd]

theorem highByte_wordOf (a b : Byte) : (wordOf a b).extractLsb' 8 8 = a := by
  refine BitVec.eq_of_getLsbD_eq fun i hi => ?_
  have hge : ¬ 8 + i < 8 := by omega
  simp only [wordOf, BitVec.getLsbD_append, BitVec.getLsbD_extractLsb', hi, hge]
  simp

theorem lowByte_wordOf (a b : Byte) : (wordOf a b).extractLsb' 0 8 = b := by
  refine BitVec.eq_of_getLsbD_eq fun i hi => ?_
  simp only [wordOf, BitVec.getLsbD_append, BitVec.getLsbD_extractLsb', hi, Nat.zero_add]
  simp

theorem wordBytes_wordOf (a b : Byte) : wordBytes (wordOf a b) = [a, b] := by
  rw [wordBytes, highByte_wordOf, lowByte_wordOf]

theorem eq_wordBytes_iff {a b : Byte} {w : Word} : [a, b] = wordBytes w ↔ wordOf a b = w := by
  constructor
  · intro h
    obtain ⟨ha, hb⟩ : a = w.extractLsb' 8 8 ∧ b = w.extractLsb' 0 8 := by simpa [wordBytes] using h
    rw [ha, hb, wordOf_highByte_lowByte]
  · rintro rfl
    rw [wordBytes_wordOf]

/-! ### The SOS list and the acknowledgements (R145, R151, R152) -/

theorem exec_cancelSos (rq : Request) (v : Word) (s : State) :
    exec (.cancelSos rq v) s = s.requestEvent rq false (fun u => u.cancelSos v) := rfl

/-- An SOS or SOS CANCEL is a miner's own. -/
theorem sosGood_iff {f : Frame} : sosGood f = true ↔ isMiner f.src = true ∧ f.payload = wordBytes f.src := by
  unfold sosGood
  split
  next a b h => rw [h, eq_wordBytes_iff, Bool.and_eq_true, beq_iff_eq]
  next hno =>
    exact ⟨fun h => (by cases h), fun ⟨_, h⟩ => absurd h (hno _ _)⟩

theorem State.attachedHere_iff {s : State} {a : Addr} : s.attachedHere a = true ↔
    ∃ e own, s.entry? a = some e ∧ s.nodeAddr? = some own ∧ e.location = .radioHere ∧ e.attach = some own := by
  unfold State.attachedHere
  split
  next e own he hown => simp [he, hown]
  next hno =>
    refine ⟨fun h => (by cases h), ?_⟩
    rintro ⟨e, own, he, hown, -⟩
    exact absurd hown (hno e own he)

/-- A frame of a kind in the table, whose payload fits it, is handed to its block (R87). -/
theorem State.deliver_of_fits {s : State} {p : Port} {f : Frame} {k : FrameKind} (hk : f.kind? = some k)
    (hfits : payloadFits k f.payload = true) : s.deliver p f = s.hand p f k := by
  rw [State.deliver, hk]
  exact if_pos hfits

/-- In an ordered table the entry of an address is the one whose mark is set. -/
theorem State.setMark_eq_marked {s : State} (h : Ascending s.table.entries) (a : Addr) (m : Muster) :
    s.setMark a m = s.marked a m := by
  unfold State.setMark State.marked
  split
  next e he =>
    obtain ⟨hmem, haddress⟩ := findEntry_eq_some he
    have hmap : replaceEntry { e with mark := m } s.table.entries
        = s.table.entries.map (fun e => if e.address = a then { e with mark := m } else e) := by
      refine List.map_congr_left fun x hx => ?_
      simp only [haddress]
      split
      next hxa => rw [h.unique hx hmem (hxa.trans haddress.symm), haddress]
      · rfl
    rw [State.setEntries, hmap]
  next hnone =>
    have hmap : s.table.entries.map (fun e => if e.address = a then { e with mark := m } else e) = s.table.entries :=
      (List.map_congr_left fun x hx => if_neg (findEntry_eq_none.mp hnone x hx)).trans (List.map_id _)
    rw [hmap]

theorem State.entry?_isSome_iff {s : State} {a : Addr} :
    (s.entry? a).isSome = true ↔ ∃ e ∈ s.table.entries, e.address = a := by
  simp [State.entry?, findEntry]

/-- An EVAC ACK is a miner's own, names this node, and comes in EVACUATE from a unit with an entry (R145). -/
theorem State.ackGood_iff {s : State} {f : Frame} {unit node : Addr} (h : f.payload = wordBytes unit ++ wordBytes node) :
    s.ackGood f = true ↔ isMiner f.src = true ∧ unit = f.src ∧ s.nodeAddr? = some node ∧ s.evac.state = .evacuate
      ∧ (s.entry? f.src).isSome = true := by
  have hbytes : f.payload = [unit.extractLsb' 8 8, unit.extractLsb' 0 8, node.extractLsb' 8 8, node.extractLsb' 0 8] := h
  rw [State.ackGood, hbytes]
  simp only [wordOf_highByte_lowByte, Bool.and_eq_true, beq_iff_eq, and_assoc]

/-- Settles O36: an SOS frame is a miner's own exactly where its payload is its source (`sosGood_iff`), and in an ordered
table an acknowledgement marks one entry (`State.setMark_eq_marked`). -/
theorem cancelSosRemovesOrigin : Obligations.CancelSosRemovesOrigin := by
  intro s
  refine ⟨fun rq v haccepts => ⟨fun hminer => ?_, fun hnot => ?_⟩, fun f => ⟨fun hown => ?_, fun hnot => ?_⟩,
    fun p f unit hpayload => ?_, fun p f own unit node hnode hsorted hkind hpayload => ?_⟩
  · have hdone : s.asTaken.cancelSos v = (s.asTaken.removeSos v, .done (flagByte (s.evac.sos.contains v))) :=
      if_pos hminer
    rw [exec_cancelSos, State.requestEvent_done_settled (f := fun u => u.cancelSos v) haccepts hdone rfl]
    by_cases hmem : v ∈ s.evac.sos
    · rw [if_pos hmem, List.contains_iff_mem.mpr hmem]
      rfl
    · rw [if_neg hmem, Bool.eq_false_iff.mpr (mt List.contains_iff_mem.mp hmem)]
      rfl
  · exact State.requestEvent_refused (f := fun u => u.cancelSos v) haccepts (by decide) (if_neg (by simp [hnot]))
  · exact if_pos (sosGood_iff.mpr hown)
  · exact if_neg (mt sosGood_iff.mp hnot)
  · intro taken attached discarded k heard
    have hgood : sosGood f = true ↔ taken := by
      rw [sosGood_iff, hpayload]
      refine and_congr_right fun _ => ?_
      rw [show wordBytes unit = [unit.extractLsb' 8 8, unit.extractLsb' 0 8] from rfl, eq_wordBytes_iff,
        wordOf_highByte_lowByte]
    have hfits : payloadFits .sos f.payload = true ∧ payloadFits .sosCancel f.payload = true := by
      rw [hpayload]
      exact ⟨rfl, rfl⟩
    refine ⟨fun hk => State.deliver_of_fits hk hfits.2, fun hk => ?_⟩
    have hdeliver : s.deliver p f = s.sosFrame f := State.deliver_of_fits hk hfits.1
    have hstore (htaken : taken) : s.sosFrame f = heard.storeSos f.src := if_pos (hgood.mpr htaken)
    have hattached : heard.attachedHere f.src = true ↔ attached := State.attachedHere_iff
    refine ⟨fun hnot => ?_, fun htaken hno => ?_, fun htaken hhere hnew => ⟨fun hroom => ?_, fun hfull => ?_⟩⟩
    · rw [hdeliver, State.sosFrame, if_neg (mt hgood.mp hnot)]
      rfl
    · rw [hdeliver, hstore htaken, State.storeSos]
      by_cases hhere : attached
      · have hmem : heard.evac.sos.contains f.src = true :=
          List.contains_iff_mem.mpr (hno.resolve_left (not_not.mpr hhere))
        rw [if_pos (hattached.mpr hhere), if_pos hmem]
      · rw [if_neg (mt hattached.mp hhere)]
    all_goals
      have hout : ¬ heard.evac.sos.contains f.src = true := mt List.contains_iff_mem.mp hnew
      rw [hdeliver, hstore htaken, State.storeSos, if_pos (hattached.mpr hhere), if_neg hout]
    · exact if_pos hroom
    · have hout : ¬ heard.evac.sos.length < sosCapacity := not_lt.mpr hfull
      rw [if_neg hout]
      rfl
  · intro taken
    have hfits : payloadFits .evacAck f.payload = true := by rw [hpayload]; rfl
    have hdeliver : s.deliver p f = s.evacAck f := by
      rw [State.deliver_of_fits hkind hfits, State.hand, State.ifAddressed, hnode]
    have hgood : s.ackGood f = true ↔ taken := by
      rw [State.ackGood_iff hpayload, hnode, Option.some.injEq, State.entry?_isSome_iff, eq_comm (a := own)]
    refine ⟨fun htaken => ?_, fun hnot => ?_⟩
    · have hack := hgood.mpr htaken
      obtain ⟨-, -, -, -, e, he, haddress⟩ := htaken
      have hentry (g : EvacCounters → EvacCounters) : (s.countEvac g).entry? f.src = some e :=
        haddress ▸ Ascending.findEntry hsorted he
      have honly : ∀ x ∈ s.table.entries, x.address = f.src → x = e := fun x hx hsrc =>
        Ascending.unique hsorted hx he (hsrc.trans haddress.symm)
      rw [hdeliver, State.evacAck, if_pos hack]
      simp only [hentry]
      by_cases hmark : e.mark = .none
      · have hmap : s.table.entries.map (fun x => if x.address = f.src ∧ x.mark = .none then { x with mark := .notified } else x)
            = s.table.entries.map (fun x => if x.address = f.src then { x with mark := .notified } else x) := by
          refine List.map_congr_left fun x hx => if_congr (and_iff_left_of_imp fun hsrc => ?_) rfl rfl
          rw [honly x hx hsrc, hmark]
        rw [if_pos hmark, State.setMark_eq_marked (by exact hsorted), State.marked, hmap]
        rfl
      · have hmap : s.table.entries.map (fun x => if x.address = f.src ∧ x.mark = .none then { x with mark := .notified } else x)
            = s.table.entries := by
          refine (List.map_congr_left fun x hx => if_neg ?_).trans (List.map_id _)
          rintro ⟨hsrc, hnone⟩
          exact hmark (honly x hx hsrc ▸ hnone)
        rw [if_neg hmark, hmap]
        rfl
    · rw [hdeliver, State.evacAck, if_neg (mt hgood.mp hnot)]
      rfl

end Sys2Proof.Machine

end

section

set_option Elab.async false

/-! PROOF. The air evaluator in the statements' words: a rewritten channel with its flags (R30), the recomputed grades
with their notices (R24, R25, R29, R31), and the end of a channel test (R33). -/

namespace Sys2Proof.Machine

/-! ### The node's own address in a message (R91) -/

/-- A message that names the node is sent by a node with an address alone. -/
theorem State.originate_own (s : State) (m : Addr → Message) : s.originate (m s.own) = s.originate (m (s.nodeAddr?.getD 0)) := by
  have hown : s.nodeAddr? = none ∨ s.nodeAddr? = some s.own := by
    unfold State.nodeAddr? Net.nodeAddr? State.own
    split
    · exact .inr rfl
    · exact .inl rfl
  rcases hown with h | h
  · have hnone : s.net.nodeAddr? = none := h
    simp only [State.originate, Net.originate, hnone]
  · rw [h, Option.getD_some]

/-! ### A rewritten channel and its flags (R30) -/

theorem State.updateChannel_eq_channelSet (s : State) (c : Fin 16) (x : Channel) :
    s.updateChannel c x = s.channelSet c (x.refresh (s.deviceSilent c)) := by
  unfold State.updateChannel State.channelSet
  simp only [decide_eq_true_eq]
  rfl

@[simp] theorem State.channelSet_channel (s : State) (c d : Fin 16) (x : Channel) :
    (s.channelSet c x).channel d = if c = d then x else s.channel d := by
  have hair : (s.channelSet c x).air = (s.setChannel c x).air := by
    unfold State.channelSet
    simp only [decide_eq_true_eq]
    repeat' split
    all_goals rfl
  rw [State.channel, hair]
  exact State.channel_setChannel ..

/-! ### The recomputed grades and their notices (R24, R25, R29, R31) -/

theorem State.reportStarted_eq (s : State) (t : TimerSetting) : startOrStop s.now t (s.reportLength t) = s.reportStarted t := by
  unfold startOrStop State.reportStarted State.reportLength
  split
  · rfl
  · split
    · rfl
    · rw [Nat.one_mul]

@[simp] theorem State.originate_nodeAddr? (s : State) (m : Message) : (s.originate m).nodeAddr? = s.nodeAddr? :=
  Net.nodeAddr?_of_straps (s.originate_net m).1

theorem State.causeByte_eq (s : State) : (match s.causeChannel with
    | some c => byteOf c.val
    | none => 255) = s.causeByte := by
  rw [State.causeChannel, State.scoped, List.find?_filter, State.causeByte]
  simp only [Bool.decide_and, Bool.decide_eq_true] <;> rfl

theorem State.airReport_eq (s : State) : s.airReport = { s.originate s.airReportNow with
    air := { s.air with reportTimer := s.reportStarted s.params.airReport } } := by
  rw [State.airReport, State.startReportTimer]
  simp only [State.reportStarted_eq]
  rfl

theorem State.gradeNotices_eq_gradesTold (s : State) :
    (s.setGrades s.zoneNow s.refugeNow).gradeNotices (s.zoneNow != s.air.zone) (s.refugeNow != s.air.refuge)
      = s.gradesTold := by
  have hzone (t : State) : t.originate (msgZoneGrade t.own t.air.zone t.causeChannel) = t.originate ⟨.zoneGrade, broadcast,
      wordBytes (t.nodeAddr?.getD 0) ++ [byteOf t.air.zone.code, t.causeByte]⟩ := by
    rw [t.originate_own (fun a => msgZoneGrade a t.air.zone t.causeChannel), ← State.causeByte_eq]
    rfl
  have hrefuge (t : State) : t.originate (msgRefugeAir t.own t.air.refuge) = t.originate ⟨.refugeAir, broadcast,
      wordBytes (t.nodeAddr?.getD 0) ++ [byteOf t.air.refuge.code]⟩ := t.originate_own (fun a => msgRefugeAir a t.air.refuge)
  unfold State.gradeNotices State.gradesTold
  simp only [hzone, hrefuge, State.airReport_eq, bne_iff_ne, ne_eq, ite_not, State.setGrades]
  split
  · split
    · rfl
    · rfl
  · split
    · rfl
    · rw [State.originate_nodeAddr?]
      rfl

/-- Recomputing the grades tells them, then hands a new zone grade on. -/
theorem State.regrade_eq_regraded (s : State) : s.regrade = s.regraded := by
  unfold State.regrade State.regraded
  simp only [State.gradeNotices_eq_gradesTold]

/-! ### A channel test (R33) -/

theorem TestOutcome.code_complete : byteOf TestOutcome.complete.code = 0 := rfl

theorem State.endTest_eq (s : State) (c : Fin 16) (o : TestOutcome) : s.endTest c o = match (s.channel c).test with
    | none => s
    | some t => s.testEnded c t (byteOf o.code) := by
  unfold State.endTest
  cases (s.channel c).test with
  | none => rfl
  | some t => rfl

theorem State.endTest_aborted (s : State) (c : Fin 16) : s.endTest c .aborted = s.testAborted c := by
  rw [State.endTest_eq, State.testAborted]
  rfl

/-- The test that ends need not stand in the channel's record. -/
theorem State.testEnded_setTest (s : State) (c : Fin 16) (x : Option ChannelTest) (t : ChannelTest) (o : Byte) :
    (s.setChannel c { s.channel c with test := x }).testEnded c t o = s.testEnded c t o := by
  have hset : (s.setChannel c { s.channel c with test := x }).setChannel c
      { (s.setChannel c { s.channel c with test := x }).channel c with test := none }
        = s.setChannel c { s.channel c with test := none } := by
    rw [State.channel_setChannel, if_pos rfl]
    simp [State.setChannel]
  unfold State.testEnded
  exact congrArg (fun u : State => (u.setFlag Flag.testDone).answerDone t.request _) hset

theorem State.feedTest_eq_testFed (s : State) (c : Fin 16) : s.feedTest c = s.testFed c := by
  unfold State.feedTest State.testFed
  cases ht : (s.channel c).test with
  | none => rfl
  | some t =>
    simp only
    by_cases hmore : t.fed + 1 < t.count
    · have hnot : ¬ (t.feed (s.channel c).record).count ≤ (t.feed (s.channel c).record).fed := not_le.mpr hmore
      rw [if_neg hnot, if_pos hmore]
      rfl
    · have hlast : (t.feed (s.channel c).record).count ≤ (t.feed (s.channel c).record).fed := not_lt.mp hmore
      rw [if_pos hlast, if_neg hmore, State.endTest_eq, State.channel_setChannel, if_pos rfl]
      exact State.testEnded_setTest ..

end Sys2Proof.Machine

end

section

set_option Elab.async false

/-! PROOF. What a change of a channel or of the scanner's state brings: flags that stay set, recomputed grades; RESET
TRIP (R28), a stale timer's expiry (R21), a scan step and the suspension timer's expiry (R179 to R183). -/

namespace Sys2Proof.Machine

/-! ### A flag that is set stays set through a change of the grades (R195) -/

theorem and_ne_zero_of_or {x y b : BitVec 56} (h : x &&& b ≠ 0) : (x ||| y) &&& b ≠ 0 := by
  intro hzero
  refine h (BitVec.eq_of_getLsbD_eq fun i hi => ?_)
  have hbit := congrArg (·.getLsbD i) hzero
  simp only [BitVec.getLsbD_and, BitVec.getLsbD_or] at hbit ⊢
  cases hx : x.getLsbD i with
  | false => simp
  | true => simpa [hx] using hbit

theorem State.flagSet_setFlag {s : State} {f : Flag} (h : s.flagSet f = true) (g : Flag) : (s.setFlag g).flagSet f = true := by
  unfold State.flagSet at h ⊢
  by_cases e : f.group = g.group
  · rw [e, State.setFlag, State.flags_setFlagGroup_same]
    rw [e] at h
    simp only [bne_iff_ne] at h ⊢
    exact and_ne_zero_of_or h
  · rw [State.setFlag_flags_of_ne s e]
    exact h

/-- A flag that is set is set. -/
theorem State.flagSet_setFlag_self (s : State) {f : Flag} (hf : f.number < f.group.count) : (s.setFlag f).flagSet f = true := by
  rw [State.flagSet_eq_getLsbD hf, State.setFlag_getLsbD hf]
  simp

/-- The flag is set, as a promise. -/
def State.Flagged (f : Flag) (s : State) : Prop := s.flagSet f = true

section

variable {f : Flag} {s t : State} (h : s.Flagged f)
include h

theorem State.Flagged.unchanged (e : t.mgmt.attention = s.mgmt.attention) : t.Flagged f := by
  unfold State.Flagged State.flagSet State.flags
  rw [e]
  exact h

theorem State.Flagged.setFlag (g : Flag) : (s.setFlag g).Flagged f := State.flagSet_setFlag h g

theorem State.Flagged.sendWithdraw (v : Addr) : (s.sendWithdraw v).Flagged f := by
  unfold State.sendWithdraw State.originateCounted
  split
  · exact h
  · split
    · exact h
    · refine State.Flagged.unchanged (s := State.setFlag _ Flag.withdraw) (State.Flagged.setFlag ?_ _) rfl
      exact h

theorem State.Flagged.segCloses : s.segCloses.Flagged f := by
  have hsent (v : Addr) : ((s.setSegState .draining).sendWithdraw v).Flagged f :=
    State.Flagged.sendWithdraw (s := s.setSegState .draining) h v
  unfold State.segCloses
  split
  · exact h.unchanged (by simp)
  next v _ _ => exact (hsent v.vehicle).unchanged (by simp)
  · exact h.unchanged (by simp)

theorem State.Flagged.changeCauses (c : Causes) : (s.changeCauses c).Flagged f := by
  unfold State.changeCauses
  simp only
  repeat' split
  · exact State.Flagged.segCloses (s := s.setCauses c) h
  · exact h.unchanged (by simp)
  · exact h

theorem State.Flagged.segZone (old new : Grade) : (s.segZone old new).Flagged f := by
  have hcauses := h.changeCauses { s.seg.causes with air := new.atLeast .alarm }
  unfold State.segZone
  simp only
  repeat' split
  · exact hcauses.sendWithdraw _
  · exact hcauses
  · exact hcauses

theorem State.Flagged.testBreach (i : Fin 8) : (s.testBreach i).Flagged f := by
  unfold State.testBreach
  split
  · refine State.Flagged.unchanged (s := State.setFlag _ Flag.breach) (State.Flagged.setFlag ?_ _) rfl
    exact h
  · exact h

theorem State.Flagged.limitsChanged (n : Nat) (m : Priority) (c : ClearCause) : (s.limitsChanged n m c).Flagged f := by
  have henforced : (State.enforceLimits c 8 s).Flagged f := h.unchanged (by simp)
  unfold State.limitsChanged
  split
  · exact henforced.setFlag _
  · exact h

end

theorem State.flagged_keepsTags (f : Flag) : KeepsTags (State.Flagged f) := by
  have unchanged {s t : State} (h : s.Flagged f) (e : t.mgmt.attention = s.mgmt.attention) : t.Flagged f := h.unchanged e
  exact {
    rewrite := fun _ _ _ _ h => unchanged h (by simp)
    drop := fun _ h => unchanged h (by simp)
    insert := fun l a _ _ _ h => unchanged h (by simp)
    evict := fun l a _ _ _ _ h => unchanged h (by simp)
    older := fun h => h
    countTable := fun _ h => h
    setFlag := fun g h => h.setFlag g
    setMark := fun _ _ h => unchanged h (by simp)
    unmark := fun h => h
    testBreach := fun i h => h.testBreach i
    limitsChanged := fun n m c h => h.limitsChanged n m c }

theorem State.Flagged.regrade {f : Flag} {s : State} (h : s.Flagged f) : s.regrade.Flagged f :=
  State.regrade_keeps (P := State.Flagged f) (fun _ _ _ _ h => h.unchanged (by simp)) (fun old new h => h.segZone old new)
    (fun _ h => (State.flagged_keepsTags f).enterEvacuate h) (fun i h => h.testBreach i) h

/-! ### The grades after a regrade -/

section

variable (s : State)

theorem State.regraded_zone : s.regraded.air.zone = s.regraded.zoneNow := by
  rw [← State.regrade_eq_regraded]
  obtain ⟨hchannels, hzone, -⟩ := s.regrade_air
  rw [hzone, State.zoneNow, State.zoneNow, State.scopeGrade_of_channels hchannels]
  simp

theorem State.regraded_refuge : s.regraded.air.refuge = s.regraded.refugeNow := by
  rw [← State.regrade_eq_regraded]
  obtain ⟨hchannels, -, hrefuge⟩ := s.regrade_air
  rw [hrefuge, State.refugeNow, State.refugeNow, State.scopeGrade_of_channels hchannels]

theorem State.regraded_channels : s.regraded.air.channels = s.air.channels := by
  rw [← State.regrade_eq_regraded]
  exact s.regrade_air.1

theorem State.regraded_channel (c : Fin 16) : s.regraded.channel c = s.channel c :=
  congrArg (fun v : Vector Channel 16 => v[c]) s.regraded_channels

/-- What recomputed grades leave as it was. -/
@[simp] theorem State.regraded_frame : s.regraded.now = s.now ∧ s.regraded.poller = s.poller
    ∧ s.regraded.supply = s.supply ∧ s.regraded.integ = s.integ ∧ s.regraded.mgmt.parameters = s.mgmt.parameters
    ∧ s.regraded.mgmt.counters = s.mgmt.counters ∧ s.regraded.table.pins = s.table.pins
    ∧ s.regraded.table.watches = s.table.watches ∧ s.regraded.calls.permits = s.calls.permits
    ∧ s.regraded.evac.routes = s.evac.routes ∧ s.regraded.net.banks = s.net.banks := by
  rw [← State.regrade_eq_regraded]
  simp

theorem State.Flagged.regraded {s : State} {f : Flag} (h : s.Flagged f) : s.regraded.Flagged f := by
  rw [← State.regrade_eq_regraded]
  exact h.regrade

end

/-! ### A rewritten channel's flags (R30) -/

section

variable (s : State) (c : Fin 16) (x : Channel)

@[simp] theorem State.channelSet_frame : (s.channelSet c x).now = s.now ∧ (s.channelSet c x).poller = s.poller
    ∧ (s.channelSet c x).supply = s.supply ∧ (s.channelSet c x).integ = s.integ ∧ (s.channelSet c x).table = s.table
    ∧ (s.channelSet c x).calls = s.calls ∧ (s.channelSet c x).evac = s.evac ∧ (s.channelSet c x).net = s.net
    ∧ (s.channelSet c x).seg = s.seg ∧ (s.channelSet c x).mgmt.parameters = s.mgmt.parameters
    ∧ (s.channelSet c x).mgmt.counters = s.mgmt.counters := by
  unfold State.channelSet
  simp only [decide_eq_true_eq]
  repeat' split
  all_goals simp

theorem Flag.channel_number_lt : (Flag.channelFault c).number < (Flag.channelFault c).group.count
    ∧ (Flag.gradeUp c).number < (Flag.gradeUp c).group.count
    ∧ (Flag.gradeDown c).number < (Flag.gradeDown c).group.count := by
  have := c.isLt
  simp only [Flag.channelFault, Flag.gradeUp, Flag.gradeDown, Group.count]
  omega

theorem ite_setFlag {s t : State} {f g : Flag} {b : Bool} (ht : t.Flagged f) :
    (if b then t.setFlag g else t).Flagged f := by
  split
  · exact ht.setFlag g
  · exact ht

theorem State.channelSet_fault (h : x.state = .fault) (hold : (s.channel c).state ≠ .fault) :
    (s.channelSet c x).Flagged (Flag.channelFault c) := by
  unfold State.channelSet
  simp only
  refine ite_setFlag (s := s) (ite_setFlag (s := s) ?_)
  rw [if_pos (by simpa using ⟨h, hold⟩)]
  exact State.flagSet_setFlag_self _ (Flag.channel_number_lt c).1

theorem State.channelSet_gradeUp (h : (s.channel c).effective.code < x.effective.code) :
    (s.channelSet c x).Flagged (Flag.gradeUp c) := by
  unfold State.channelSet
  simp only
  refine ite_setFlag (s := s) ?_
  rw [if_pos (by simpa using h)]
  exact State.flagSet_setFlag_self _ (Flag.channel_number_lt c).2.1

end

/-! ### RESET TRIP (R28) -/

theorem exec_resetTrip (rq : Request) (x : Byte) (s : State) :
    exec (.resetTrip rq x) s = s.requestEvent rq false (fun u => u.resetTrip x) := rfl

theorem toNat_setWidth_byte (x : Byte) : (x.setWidth 16).toNat = x.toNat := by
  have := x.isLt
  simp only [BitVec.toNat_setWidth]
  omega

section

variable {s : State} {x : Byte}

theorem State.resetTrip_of_badIndex (h : 16 ≤ x.toNat) : s.resetTrip x = (s, .refused .badIndex) := by
  rw [State.resetTrip, indexBelow_of_le (by rwa [toNat_setWidth_byte])]

variable {c : Fin 16} (hc : x.toNat = c.val)
include hc

theorem State.resetTrip_of_index : s.resetTrip x = if (s.channel c).trip.set = false then loaded s
    else if (s.channel c).tripClears then loaded (s.releaseTrip c) else (s, .refused .stillBeyond) := by
  rw [State.resetTrip, indexBelow_of_eq (by rwa [toNat_setWidth_byte])]

end

theorem Channel.tripClears_of_average {x : Channel} {a : Nat} (h : x.average = some a) :
    x.tripClears = x.record.trip.clears x.record.gas.direction a := by
  rw [Channel.tripClears, h]

/-- Settles O20: a released channel is rewritten with its TRIP entry CLEAR, and the grades are worked out once. -/
theorem resetTripReleasesLatch : Obligations.ResetTripReleasesLatch := by
  intro s rq x haccepts
  refine ⟨fun hbad => ?_, fun c hc => ⟨fun hclear => ?_, fun hset hnone => ?_, fun a hset haverage =>
    ⟨fun hbeyond => ?_, fun hclears => ?_⟩⟩⟩
  · exact State.requestEvent_refused haccepts (by decide) (State.resetTrip_of_badIndex hbad)
  · have hdone : s.asTaken.resetTrip x = (s.asTaken, .done []) := by
      rw [State.resetTrip_of_index hc]
      exact if_pos hclear
    exact State.requestEvent_done_settled (f := fun u => u.resetTrip x) haccepts hdone rfl
  · have hno : (s.channel c).tripClears = false := by rw [Channel.tripClears, hnone]
    refine State.requestEvent_refused (f := fun u => u.resetTrip x) haccepts (by decide) ?_
    rw [State.resetTrip_of_index hc, State.asTaken_channel, hset, hno]
    rfl
  · have hno : (s.channel c).tripClears = false := by rw [Channel.tripClears_of_average haverage, hbeyond]
    refine State.requestEvent_refused (f := fun u => u.resetTrip x) haccepts (by decide) ?_
    rw [State.resetTrip_of_index hc, State.asTaken_channel, hset, hno]
    rfl
  · have hyes : (s.channel c).tripClears = true := by rw [Channel.tripClears_of_average haverage, hclears]
    have hdone : s.asTaken.resetTrip x = (s.asTaken.releaseTrip c, .done []) := by
      rw [State.resetTrip_of_index hc, State.asTaken_channel, hset, hyes]
      rfl
    have hrelease : s.asTaken.releaseTrip c = (s.asTaken.channelSet c
        (Channel.refresh { s.channel c with trip := .clear } (s.deviceSilent c))).regraded := by
      rw [State.releaseTrip, State.regrade_eq_regraded, State.updateChannel_eq_channelSet]
      rfl
    have hchannel (d : Fin 16) : (s.asTaken.releaseTrip c).channel d
        = if c = d then Channel.refresh { s.channel c with trip := .clear } (s.deviceSilent c) else s.channel d := by
      rw [hrelease, State.regraded_channel, State.channelSet_channel]
      rfl
    refine ⟨s.asTaken.releaseTrip c, State.requestEvent_done (f := fun u => u.resetTrip x) haccepts hdone, ?_, ?_, ?_,
      ?_, ?_, fun d hd => ?_, ?_⟩
    · rw [hchannel, if_pos rfl]; rfl
    · rw [hchannel, if_pos rfl]; rfl
    · rw [hchannel, if_pos rfl]; rfl
    · rw [hchannel, if_pos rfl]; rfl
    · rw [hchannel, if_pos rfl, hrelease]
    · rw [hchannel, if_neg (Ne.symm hd)]
    · rw [hrelease]
      refine ⟨State.regraded_zone _, State.regraded_refuge _, ?_⟩
      simp [State.asTaken]

/-! ### A stale timer's expiry (R21) -/

/-- Settles O22: the channel is rewritten with its mark set, which makes it FAULT, and the grades are worked out once. -/
theorem staleTimerPutsChannelInFault : Obligations.StaleTimerPutsChannelInFault := by
  intro s c
  refine ⟨fun hstopped => ?_, fun d hd henabled => ?_⟩
  · refine exec_settled ?_ rfl
    show State.expire { s with scratch := {} } (s.channel c).staleTimer (fun u => u.staleExpires c) = _
    rw [hstopped]
    rfl
  · intro x u
    have hx : Channel.refresh { s.channel c with staleMark := true, staleTimer := none } (s.deviceSilent c) = x := by
      have hstate : Channel.stateNow { s.channel c with staleMark := true, staleTimer := none } (s.deviceSilent c) = .fault := by
        simp [Channel.stateNow, henabled]
      simp only [Channel.refresh, hstate]
      rfl
    have hwork : workOf (.staleTimerExpiry c) { s with scratch := {} } = u := by
      show State.expire { s with scratch := {} } (s.channel c).staleTimer (fun u => u.staleExpires c) = u
      rw [hd, State.expire_some, State.staleExpires, State.regrade_eq_regraded, State.updateChannel_eq_channelSet]
      exact congrArg (fun y => ((s.at d).channelSet c y).regraded) hx
    have hchannel (e : Fin 16) : u.channel e = if c = e then x else s.channel e := by
      rw [State.regraded_channel, State.channelSet_channel]
      rfl
    refine ⟨?_, ?_, fun hold => ?_, fun hrise => ?_, fun e he => ?_, State.regraded_zone _, State.regraded_refuge _, ?_⟩
    · rw [exec_eq_event, State.event_eq, hwork]
    · rw [hchannel, if_pos rfl]
    · exact (State.channelSet_fault (s.at d) c x rfl hold).regraded
    · exact (State.channelSet_gradeUp (s.at d) c x hrise).regraded
    · rw [hchannel, if_neg (Ne.symm he)]
    · refine ⟨?_, ?_, ?_, ?_, ?_, ?_⟩
      all_goals simp [u, State.at]

end Sys2Proof.Machine

end

section

set_option Elab.async false

/-! PROOF. The scanner's step and its suspension timer (R179 to R183), the report timers (R31, R186, R198) and TEST
CHANNEL (R32). -/

namespace Sys2Proof.Machine

/-! ### The scanner's state changes (R183) -/

theorem State.setIntegrity_same {s : State} {x : IntegrityState} (h : s.integ.state = x) : s.setIntegrity x = s := if_pos h

theorem State.setIntegrity_other {s : State} {x : IntegrityState} (h : s.integ.state ≠ x) :
    s.setIntegrity x = ({ s with integ := { s.integ with state := x } } : State).regraded := by
  rw [← State.regrade_eq_regraded]
  exact if_neg h

theorem State.scanStep_feeds {s : State} (h : s.integ.position < 38) : s.scanStep = { s with integ := { s.integ with
    position := s.integ.position + 1
    runningCrc := crcFrom s.integ.runningCrc (s.protectedBytes s.integ.position), scanTimer := some (s.now + 10) } } :=
  if_pos (show s.integ.position + 1 < 39 by omega)

theorem State.scanStep_compares {s : State} (h : 38 ≤ s.integ.position) :
    s.scanStep = s.beginScan.compare (crcFrom s.integ.runningCrc (s.protectedBytes s.integ.position)) :=
  if_neg (show ¬ s.integ.position + 1 < 39 by omega)

/-- The scanner after a comparison (R179), its state included. -/
def Integrity.compared (x : Integrity) (now : Nat) (check : Word) : Integrity :=
  { x with
    position := 0, runningCrc := 0xFFFF, scanTimer := some (now + 10), lastCheck := some check
    state := if check = x.storedCheck then .checking else .fault
    counters := { x.counters with
      scansCompleted := x.counters.scansCompleted + 1
      mismatches := x.counters.mismatches + (if check = x.storedCheck then 0 else 1) } }

section

variable (s : State) (check : Word)

theorem State.compare_match (h : check = s.integ.storedCheck) : s.beginScan.compare check
    = ({ s with integ := { s.integ.compared s.now check with state := s.integ.state } } : State).setIntegrity .checking := by
  unfold State.compare
  refine (if_pos h).trans (congrArg (fun t : State => t.setIntegrity .checking) ?_)
  simp only [Integrity.compared, if_pos h, add_zero]
  rfl

theorem State.compare_mismatch (h : check ≠ s.integ.storedCheck) : s.beginScan.compare check
    = (if s.integ.state = .checking then
        ({ s with integ := { s.integ.compared s.now check with state := s.integ.state } } : State).setFlag Flag.integrity
      else { s with integ := { s.integ.compared s.now check with state := s.integ.state } }).setIntegrity .fault := by
  have hcompared : ({ s with integ := { s.integ.compared s.now check with state := s.integ.state } } : State)
      = ((({ s.beginScan with integ := { s.beginScan.integ with lastCheck := some check } } : State).countInteg
        (fun k => { k with scansCompleted := k.scansCompleted + 1 })).countInteg
          (fun k => { k with mismatches := k.mismatches + 1 })) := by
    simp only [Integrity.compared, if_neg h]
    rfl
  unfold State.compare
  exact (if_neg h).trans (congrArg (fun t : State => State.setIntegrity (if s.integ.state = .checking then
    t.setFlag Flag.integrity else t) .fault) hcompared.symm)

/-- The scanner with its state put where the comparison puts it. -/
theorem Integrity.compared_withState {x : Integrity} {now : Nat} {y : IntegrityState} (h : (x.compared now check).state = y) :
    { x.compared now check with state := y } = x.compared now check := by
  rw [← h]

theorem State.compare_same (h : (s.integ.compared s.now check).state = s.integ.state) :
    s.beginScan.compare check = { s with integ := s.integ.compared s.now check } := by
  have hwhole : ({ s with integ := { s.integ.compared s.now check with state := s.integ.state } } : State)
      = { s with integ := s.integ.compared s.now check } := by rw [Integrity.compared_withState check h]
  by_cases e : check = s.integ.storedCheck
  · have hstate : s.integ.state = .checking := h.symm.trans (if_pos e)
    rw [State.compare_match s check e, hwhole]
    exact State.setIntegrity_same (if_pos e)
  · have hstate : s.integ.state = .fault := h.symm.trans (if_neg e)
    rw [State.compare_mismatch s check e, if_neg (by simp [hstate]), hwhole]
    exact State.setIntegrity_same (if_neg e)

theorem State.compare_moved (h : (s.integ.compared s.now check).state ≠ s.integ.state) : s.beginScan.compare check
    = (if s.integ.state = .checking then
        ({ s with integ := s.integ.compared s.now check } : State).setFlag Flag.integrity
      else { s with integ := s.integ.compared s.now check }).regraded := by
  have hnew (y : IntegrityState) (hy : (s.integ.compared s.now check).state = y) :
      ({ s with integ := { s.integ.compared s.now check with state := y } } : State)
        = { s with integ := s.integ.compared s.now check } := by rw [Integrity.compared_withState check hy]
  by_cases e : check = s.integ.storedCheck
  · have hstate : s.integ.state ≠ .checking := fun hold => h ((if_pos e).trans hold.symm)
    rw [State.compare_match s check e, if_neg hstate, ← hnew .checking (if_pos e)]
    exact State.setIntegrity_other hstate
  · have hstate : s.integ.state ≠ .fault := fun hold => h ((if_neg e).trans hold.symm)
    rw [State.compare_mismatch s check e, ← hnew .fault (if_neg e)]
    split
    · exact State.setIntegrity_other (s := State.setFlag _ _) hstate
    · exact State.setIntegrity_other hstate

end

theorem Grade.higher_alarm_atLeast (g : Grade) : (Grade.higher g .alarm).atLeast .alarm = true := by
  cases g <;> rfl

/-- An event's step, from what its work makes of the state. -/
theorem exec_concluded {i : Instr} {s t : State} (hwork : workOf i { s with scratch := {} } = t) :
    exec i s = .next (t.concluded s.tally) := by
  rw [exec_eq_event, State.event_eq, hwork]

/-- The scanner after the suspension timer's expiry (R182). -/
def Integrity.suspensionOver (x : Integrity) (now : Nat) : Integrity :=
  { x with
    state := .fault, suspensionTimer := none, position := 0, runningCrc := 0xFFFF, scanTimer := some (now + 10)
    counters := { x.counters with suspensionExpiries := x.counters.suspensionExpiries + 1 } }

theorem State.suspensionExpires_eq {s : State} (h : s.integ.state = .suspended) : s.suspensionExpires
    = (({ s with integ := s.integ.suspensionOver s.now } : State).setFlag Flag.integrity).regraded := by
  have hmoved (t : State) (ht : t.integ.state = .suspended) : t.setIntegrity .fault = _ :=
    State.setIntegrity_other (s := t) (x := .fault) (by rw [ht]; decide)
  exact hmoved _ h

/-- Settles O58: a new state is a new floor, and one regrade tells it. -/
theorem scanStepsAndSuspensionExpiry : Obligations.ScanStepsAndSuspensionExpiry := by
  intro s d x now fed
  have hstep (h : x.scanTimer = some d) : workOf .scanStep { s with scratch := {} } = (s.at d).scanStep := by
    show State.expire { s with scratch := {} } s.integ.scanTimer State.scanStep = _
    rw [h]
    rfl
  refine ⟨fun htimer hposition => ?_, fun htimer hposition => ?_, fun htimer hsuspended => ?_⟩
  · exact exec_settled ((hstep htimer).trans (State.scanStep_feeds hposition)) rfl
  · intro compared
    have hcompares := (hstep htimer).trans (State.scanStep_compares (s := s.at d) hposition)
    refine ⟨fun hsame => exec_settled (hcompares.trans (State.compare_same (s.at d) fed hsame)) rfl, fun hmoved => ?_⟩
    intro moved
    have hframe (t : State) (ht : t = if x.state = .checking then moved.setFlag Flag.integrity else moved) :
        t.integ = compared ∧ t.air.channels = s.air.channels ∧ t.poller = s.poller ∧ t.supply = s.supply
          ∧ t.mgmt.parameters = s.mgmt.parameters := by
      subst ht
      split <;> simp [moved, State.at]
    obtain ⟨hinteg, hchannels, hpoller, hsupply, hparameters⟩ := hframe _ rfl
    refine ⟨_, exec_concluded (hcompares.trans (State.compare_moved (s.at d) fed hmoved)), ?_, rfl,
      State.regraded_zone _, (State.regraded_channels _).trans hchannels, ?_, ?_, ?_, fun hchecking => ?_⟩
    · exact (State.regraded_frame _).2.2.2.1.trans hinteg
    · exact (State.regraded_frame _).2.1.trans hpoller
    · exact (State.regraded_frame _).2.2.1.trans hsupply
    · exact (State.regraded_frame _).2.2.2.2.1.trans hparameters
    · refine State.Flagged.regraded ?_
      show State.Flagged _ (if x.state = .checking then moved.setFlag Flag.integrity else moved)
      rw [if_pos hchecking]
      exact State.flagSet_setFlag_self _ (by decide)
  · have hwork : workOf .suspensionTimerExpiry { s with scratch := {} }
        = (({ s.at d with integ := x.suspensionOver now } : State).setFlag Flag.integrity).regraded := by
      show State.expire { s with scratch := {} } s.integ.suspensionTimer State.suspensionExpires = _
      rw [htimer]
      exact State.suspensionExpires_eq (s := s.at d) hsuspended
    have hinteg : (({ s.at d with integ := x.suspensionOver now } : State).setFlag Flag.integrity).regraded.integ
        = x.suspensionOver now := by simp
    refine ⟨_, exec_concluded hwork, hinteg, by rw [hinteg], State.Flagged.regraded
      (State.flagSet_setFlag_self _ (by decide)), ?_, State.regraded_zone _, ?_, ?_, ?_, ?_⟩
    · rw [State.regraded_zone, State.zoneNow, hinteg]
      exact Grade.higher_alarm_atLeast _
    all_goals simp [State.regraded_channels, State.at]

/-! ### The report timers (R31, R186, R198) -/

theorem State.summaryByte_eq_sum (s : State) :
    let bit (b : Bool) (n : Nat) : Nat := if b then 2 ^ n else 0
    s.summaryByte = byteOf (bit s.mgmt.attention.air.summary 0 + bit s.mgmt.attention.call.summary 1
      + bit s.mgmt.attention.truck.summary 2 + bit s.mgmt.attention.refuge.summary 3
      + bit s.mgmt.attention.node.summary 4) := by
  unfold State.summaryByte
  simp only
  generalize s.mgmt.attention.air.summary = a
  generalize s.mgmt.attention.call.summary = b
  generalize s.mgmt.attention.truck.summary = c
  generalize s.mgmt.attention.refuge.summary = d
  generalize s.mgmt.attention.node.summary = e
  revert a b c d e
  decide

theorem byteOf_yesNo (b : Bool) : (if b then (0 : Byte) else 1) = byteOf (if b then 0 else 1) := by
  cases b <;> rfl

theorem State.statusExpires_eq {s : State} (h : s.nodeAddr?.isSome = true) : s.statusExpires
    = ({ s with mgmt := { s.mgmt with
        statusTimer := s.reportStarted s.params.status
        counters := { s.mgmt.counters with statusReports := s.mgmt.counters.statusReports + 1 } } } : State).originate
      ⟨.nodeStatus, s.params.control,
        (s.countMgmt (fun k => { k with statusReports := k.statusReports + 1 })).statusPayload⟩ := by
  obtain ⟨own, hown⟩ := Option.isSome_iff_exists.mp h
  rw [← State.reportStarted_eq, State.statusExpires, State.sendStatus, hown]
  rfl

/-- Settles O23. -/
theorem reportTimersSendReports : Obligations.ReportTimersSendReports := by
  refine ⟨fun s d h => ?_, fun s d => ⟨fun h => ?_, fun h hown => ?_⟩⟩
  · refine exec_settled ?_ (congrArg (·.entries) (State.originate_table (s.at d) s.airReportNow))
    show State.expire { s with scratch := {} } s.air.reportTimer State.airReportExpires = _
    rw [h, State.expire_some]
    exact State.airReport_eq _
  · refine exec_settled ?_ rfl
    show State.expire { s with scratch := {} } s.mgmt.isolationTimer State.isolationExpires = _
    rw [h]
    rfl
  · intro bit
    refine exec_settled ?_ ?_
    · show State.expire { s with scratch := {} } s.mgmt.statusTimer State.statusExpires = _
      rw [h, State.expire_some]
      refine (State.statusExpires_eq (s := s.at d) hown).trans ?_
      rw [State.statusPayload, State.summaryByte_eq_sum, byteOf_yesNo]
      rfl
    · simp [State.at]

/-! ### TEST CHANNEL (R32) -/

section

variable {s : State} {rq : Request} {x n : Byte} {v : Word}

theorem State.testChannel_of_badIndex (h : 16 ≤ x.toNat) : s.testChannel rq x v n = (s, .refused .badIndex) := by
  rw [State.testChannel, indexBelow_of_le (by rwa [toNat_setWidth_byte])]

theorem State.testChannel_of_index {c : Fin 16} (hc : x.toNat = c.val) : s.testChannel rq x v n
    = if (s.channel c).test.isSome then (s, .refused .busy)
      else if (s.channel c).record.enabled = false ∨ (s.channel c).record.gas.fullScale < v.toNat
        ∨ n.toNat < 1 ∨ 32 < n.toNat then (s, .refused .badValue)
      else (s.setChannel c ((s.channel c).beginTest rq v.toNat n.toNat), .later) := by
  rw [State.testChannel, indexBelow_of_eq (by rwa [toNat_setWidth_byte])]

end

/-- Settles O21: an accepted test is answered later, so the event's work is the shadow copy alone. -/
theorem testChannelBuildsShadow : Obligations.TestChannelBuildsShadow := by
  intro s rq x n v haccepts
  refine ⟨fun hbad => ?_, fun c hc => ⟨fun hbusy => ?_, fun hfree => ⟨fun hbad => ?_, fun henabled hscale hone hmax => ?_⟩⟩⟩
  · exact State.requestEvent_refused (f := fun u => u.testChannel rq x v n) haccepts (by decide)
      (State.testChannel_of_badIndex hbad)
  · refine State.requestEvent_refused (f := fun u => u.testChannel rq x v n) haccepts (by decide) ?_
    rw [State.testChannel_of_index hc, State.asTaken_channel, if_pos hbusy]
  · refine State.requestEvent_refused (f := fun u => u.testChannel rq x v n) haccepts (by decide) ?_
    rw [State.testChannel_of_index hc, State.asTaken_channel, hfree, if_neg (by simp), if_pos hbad]
  · have hlater : s.asTaken.testChannel rq x v n
        = (s.asTaken.setChannel c ((s.channel c).beginTest rq v.toNat n.toNat), .later) := by
      rw [State.testChannel_of_index hc, State.asTaken_channel, hfree, if_neg (by simp),
        if_neg (by simp [henabled]; omega)]
    have haccepted := State.requestEvent_accepted haccepts false (fun u => u.testChannel rq x v n)
    simp only [hlater] at haccepted
    refine haccepted.trans (congrArg _ (State.concluded_eq_settled (.inl (State.tally_of_entries rfl))))

end Sys2Proof.Machine

end

section

set_option Elab.async false

/-! PROOF. LOAD RECORD CHANNEL (R9 to R11): what the checks accept, and the restart of an accepted load's channel. -/

namespace Sys2Proof.Machine

/-! ### The codes of a channel record's fields -/

theorem yesNo_of_lt {n : Nat} (h : n < 2) : yesNo n = some (decide (n = 1)) := by
  obtain rfl | rfl : n = 0 ∨ n = 1 := by omega
  · rfl
  · rfl

theorem Scope.ofCode_of_lt {n : Nat} (h : n < 2) : ∃ x : Scope, Scope.ofCode n = some x ∧ x.code = n := by
  obtain rfl | rfl : n = 0 ∨ n = 1 := by omega
  · exact ⟨.zone, rfl, rfl⟩
  · exact ⟨.refuge, rfl, rfl⟩

theorem Scope.lt_of_ofCode {n : Nat} {x : Scope} (h : Scope.ofCode n = some x) : n < 2 := by
  unfold Scope.ofCode at h
  split at h
  · omega
  · split at h
    · omega
    · cases h

theorem FaultAction.ofCode_of_lt {n : Nat} (h : n < 3) : ∃ x : FaultAction, FaultAction.ofCode n = some x ∧ x.code = n := by
  obtain rfl | rfl | rfl : n = 0 ∨ n = 1 ∨ n = 2 := by omega
  · exact ⟨.alert, rfl, rfl⟩
  · exact ⟨.alarm, rfl, rfl⟩
  · exact ⟨.trip, rfl, rfl⟩

theorem FaultAction.lt_of_ofCode {n : Nat} {x : FaultAction} (h : FaultAction.ofCode n = some x) : n < 3 := by
  unfold FaultAction.ofCode at h
  repeat' split at h
  · omega
  · omega
  · omega
  · cases h

theorem Gas.ofCode_of_lt {n : Nat} (h : n < 4) : ∃ g : Gas, Gas.ofCode n = some g ∧ g.code = n := by
  obtain rfl | rfl | rfl | rfl : n = 0 ∨ n = 1 ∨ n = 2 ∨ n = 3 := by omega
  · exact ⟨.ch4, rfl, rfl⟩
  · exact ⟨.co, rfl, rfl⟩
  · exact ⟨.o2, rfl, rfl⟩
  · exact ⟨.airv, rfl, rfl⟩

theorem Gas.code_of_ofCode {n : Nat} {g : Gas} (h : Gas.ofCode n = some g) : g.code = n ∧ n < 4 := by
  have hn : n < 4 := by
    by_contra hn
    rw [Gas.ofCode, if_neg (by omega), if_neg (by omega), if_neg (by omega), if_neg (by omega)] at h
    cases h
  obtain ⟨g', hg', hcode⟩ := Gas.ofCode_of_lt hn
  exact ⟨Option.some.inj (h.symm.trans hg') ▸ hcode, hn⟩

theorem fullScaleOfCode_code (g : Gas) : fullScaleOfCode g.code = g.fullScale := by
  cases g <;> rfl

theorem Gas.direction_rising (g : Gas) (h : risingCode g.code) : g.direction = .rising := by
  cases g with
  | ch4 => rfl
  | co => rfl
  | o2 => exact absurd h (by decide)
  | airv => exact absurd h (by decide)

theorem Gas.direction_falling (g : Gas) (h : ¬ risingCode g.code) : g.direction = .falling := by
  cases g with
  | ch4 => exact absurd (by decide) h
  | co => exact absurd (by decide) h
  | o2 => rfl
  | airv => rfl

theorem upTo_of_le {bound n : Nat} (h : n ≤ bound) : upTo bound n = some n := if_pos h

theorem between_of_le {low high n : Nat} (h : low ≤ n) (h' : n ≤ high) : between low high n = some n := if_pos ⟨h, h'⟩

theorem TimerSetting.count_ofByte (b : Byte) : (TimerSetting.ofByte b).count.val = b.toNat % 32 := by
  simp [TimerSetting.ofByte]

theorem TimerSetting.count_ofByte_eq_zero (b : Byte) : (TimerSetting.ofByte b).count = 0 ↔ b.toNat % 32 = 0 := by
  rw [← TimerSetting.count_ofByte, Fin.ext_iff]
  rfl

theorem TimeUnit.code_ofCode (c : BitVec 2) : (TimeUnit.ofCode c).code = c := by
  revert c
  decide

/-- Bit 5 of a setting's byte is not kept. -/
theorem TimerSetting.byte_ofByte (b : Byte) : (TimerSetting.ofByte b).byte = b &&& 0xDF := by
  revert b
  decide

/-! ### The checks of R9 -/

/-- The grade entry of fields in range. -/
def entryOf (f : EntryFields) : EntryConfig :=
  ⟨decide (f.enabled.toNat = 1), f.level.toNat, f.band.toNat, f.hold.toNat⟩

section

variable {f : EntryFields} {full : Nat}

theorem parseEntry_of_inRange (h : EntryInRange f full) (hplain : f.enabled.toNat < 2) : parseEntry f full = some (entryOf f) := by
  obtain ⟨⟨hlow, hhigh⟩, hlevel, hband⟩ := h
  simp only [parseEntry, yesNo_of_lt hplain, upTo_of_le hlevel, upTo_of_le hband, between_of_le hlow hhigh]
  rfl

theorem inRange_of_parseEntry {e : EntryConfig} (h : parseEntry f full = some e) : EntryInRange f full := by
  simp only [parseEntry, bind, pure, Option.bind_eq_some_iff, upTo, between, Option.ite_none_right_eq_some] at h
  obtain ⟨_, -, _, ⟨hlevel, -⟩, _, ⟨hband, -⟩, _, ⟨hhold, -⟩, -⟩ := h
  exact ⟨hhold, hlevel, hband⟩

theorem yesWord_of_lt {w : Word} (h : w.toNat < 2) : yesWord (decide (w.toNat = 1)) = w := by
  refine BitVec.eq_of_toNat_eq ?_
  obtain e | e : w.toNat = 0 ∨ w.toNat = 1 := by omega
  all_goals
    rw [e]
    rfl

theorem entryOf_words (h : f.enabled.toNat < 2) : (entryOf f).words = [f.enabled, f.level, f.band, f.hold] := by
  simp only [EntryConfig.words, entryOf, yesWord_of_lt h, BitVec.ofNat_toNat, BitVec.setWidth_eq]

end

section

variable {f : ChannelFields}

/-- The record of fields in range, but for the values of its three codes. -/
def recordOf (f : ChannelFields) (scope : Scope) (gas : Gas) (action : FaultAction) : ChannelRecord :=
  ⟨decide (f.enabled.toNat = 1), scope, gas, f.offset.toNat, f.gain.toNat, f.shift.toNat, (entryOf f.alert), (entryOf f.alarm),
    (entryOf f.trip), action, TimerSetting.ofByte (f.stale.extractLsb' 0 8)⟩

theorem highByte_of_lt {w : Word} (h : w.toNat < 256) : w.extractLsb' 8 8 = 0 := by
  refine BitVec.eq_of_toNat_eq ?_
  simp only [BitVec.extractLsb'_toNat, Nat.shiftRight_eq_div_pow]
  simp
  omega

theorem staleSetting_of_plain {w : Word} (hcount : w.toNat % 32 ≠ 0) (hplain : w.toNat < 256) :
    staleSetting w = some (TimerSetting.ofByte (w.extractLsb' 0 8)) := by
  have hlow : ¬ (TimerSetting.ofByte (w.extractLsb' 0 8)).count = 0 := by
    rw [TimerSetting.count_ofByte_eq_zero]
    simp only [BitVec.extractLsb'_toNat, Nat.shiftRight_zero]
    omega
  rw [staleSetting, if_pos (highByte_of_lt hplain), runningSetting]
  exact if_neg hlow

theorem count_of_staleSetting {w : Word} {t : TimerSetting} (h : staleSetting w = some t) : w.toNat % 32 ≠ 0 := by
  intro hcount
  have hlow : (TimerSetting.ofByte (w.extractLsb' 0 8)).count = 0 := by
    rw [TimerSetting.count_ofByte_eq_zero]
    simp only [BitVec.extractLsb'_toNat, Nat.shiftRight_zero]
    omega
  have hnone : runningSetting (w.extractLsb' 0 8) = none := if_pos hlow
  rw [staleSetting, hnone, ite_self] at h
  cases h

theorem parseChannel_of_inRange (h : ChannelInRange f) (hplain : ChannelPlain f) : ∃ scope gas action,
    scope.code = f.scope.toNat ∧ gas.code = f.gas.toNat ∧ action.code = f.faultAction.toNat
      ∧ parseChannel f = some (recordOf f scope gas action) := by
  obtain ⟨hscope, hgas, haction, hgain, hoffset, hshift, halert, halarm, htrip, hstale⟩ := h
  obtain ⟨henabled, halertPlain, halarmPlain, htripPlain, hstalePlain⟩ := hplain
  obtain ⟨scope, hscope, hscopeCode⟩ := Scope.ofCode_of_lt hscope
  obtain ⟨gas, hgas, hgasCode⟩ := Gas.ofCode_of_lt hgas
  obtain ⟨action, haction, hactionCode⟩ := FaultAction.ofCode_of_lt haction
  rw [← hgasCode, fullScaleOfCode_code] at halert halarm htrip
  have hgainMost : f.gain.toNat ≤ 65535 := Nat.le_of_lt_succ f.gain.isLt
  refine ⟨scope, gas, action, hscopeCode, hgasCode, hactionCode, ?_⟩
  simp only [parseChannel, yesNo_of_lt henabled, hscope, hgas, haction, upTo_of_le hoffset, upTo_of_le hshift,
    between_of_le (Nat.one_le_iff_ne_zero.mpr hgain) hgainMost, parseEntry_of_inRange halert halertPlain,
    parseEntry_of_inRange halarm halarmPlain, parseEntry_of_inRange htrip htripPlain, staleSetting_of_plain hstale hstalePlain,
    bind, pure, Option.bind_some]
  rfl

theorem inRange_of_parseChannel {r : ChannelRecord} (h : parseChannel f = some r) : ChannelInRange f := by
  simp only [parseChannel, bind, pure, Option.bind_eq_some_iff, Option.some.injEq] at h
  obtain ⟨_, -, _, hscope, gas, hgas, _, hoffset, _, hgain, _, hshift, _, halert, _, halarm, _, htrip, _, haction, _, hstale, -⟩ := h
  simp only [upTo, between, Option.ite_none_right_eq_some] at hoffset hgain hshift
  obtain ⟨hgasCode, hgasLess⟩ := Gas.code_of_ofCode hgas
  have hfull : fullScaleOfCode f.gas.toNat = gas.fullScale := by rw [← hgasCode, fullScaleOfCode_code]
  exact ⟨Scope.lt_of_ofCode hscope, hgasLess, FaultAction.lt_of_ofCode haction, Nat.one_le_iff_ne_zero.mp hgain.1.1, hoffset.1,
    hshift.1, hfull ▸ inRange_of_parseEntry halert, hfull ▸ inRange_of_parseEntry halarm,
    hfull ▸ inRange_of_parseEntry htrip, count_of_staleSetting hstale⟩

end

/-! ### The checks of R11 -/

section

variable {f : ChannelFields} {scope : Scope} {gas : Gas} {action : FaultAction}

theorem bandGood_entryOf (e : EntryFields) (gas : Gas) :
    (entryOf e).bandGood gas.direction gas.fullScale = true ↔ BandPasses e gas.code := by
  rw [BandPasses, fullScaleOfCode_code]
  by_cases hrising : risingCode gas.code
  · simp only [EntryConfig.bandGood, entryOf, gas.direction_rising hrising, hrising, Bool.or_eq_true,
      Bool.not_eq_true', decide_eq_false_iff_not, Bool.and_eq_true]
    grind
  · simp only [EntryConfig.bandGood, entryOf, gas.direction_falling hrising, hrising, Bool.or_eq_true,
      Bool.not_eq_true', decide_eq_false_iff_not, Bool.and_eq_true]
    grind

theorem bandsGood_recordOf (hgas : gas.code = f.gas.toNat) :
    (recordOf f scope gas action).bandsGood = true ↔ BandsPass f := by
  rw [BandsPass, ← hgas]
  simp only [← bandGood_entryOf, ChannelRecord.bandsGood, recordOf, List.all_cons, List.all_nil,
    Bool.and_eq_true, Bool.and_true]

theorem inOrder_entryOf (x y : EntryFields) (gas : Gas) :
    entriesInOrder gas.direction (entryOf x) (entryOf y) = true ↔ OrderPasses x y gas.code := by
  rw [OrderPasses]
  by_cases hrising : risingCode gas.code
  · simp only [entriesInOrder, levelsInOrder, entryOf, gas.direction_rising hrising, hrising, Bool.or_eq_true,
      Bool.not_eq_true', decide_eq_false_iff_not]
    grind
  · simp only [entriesInOrder, levelsInOrder, entryOf, gas.direction_falling hrising, hrising, Bool.or_eq_true,
      Bool.not_eq_true', decide_eq_false_iff_not]
    grind

theorem orderGood_recordOf (hgas : gas.code = f.gas.toNat) :
    (recordOf f scope gas action).orderGood = true ↔ OrdersPass f := by
  rw [OrdersPass, ← hgas]
  simp only [← inOrder_entryOf, ChannelRecord.orderGood, recordOf, Bool.and_eq_true, and_assoc]

end

/-! ### LOAD RECORD CHANNEL -/

theorem exec_loadRecordChannel (rq : Request) (x : Word) (f : ChannelFields) (s : State) :
    exec (.loadRecordChannel rq x f) s = s.requestEvent rq false (fun u => u.loadChannel x f) := rfl

section

variable {s : State} {x : Word} {f : ChannelFields}

theorem State.loadChannel_of_badIndex (h : 16 ≤ x.toNat) : s.loadChannel x f = (s, .refused .badIndex) := by
  rw [State.loadChannel, indexBelow_of_le h]

variable {c : Fin 16} (hc : x.toNat = c.val)
include hc

theorem State.loadChannel_of_latched (h : (s.channel c).trip.set = true) :
    s.loadChannel x f = (s, .refused .tripLatched) := by
  rw [State.loadChannel, indexBelow_of_eq hc]
  exact if_pos h

variable (hfree : (s.channel c).trip.set = false)
include hfree

theorem State.loadChannel_of_badValue (h : parseChannel f = none) : s.loadChannel x f = (s, .refused .badValue) := by
  simp only [State.loadChannel, indexBelow_of_eq hc, hfree, h, Bool.false_eq_true, if_false]

theorem State.loadChannel_of_record {r : ChannelRecord} (h : parseChannel f = some r) : s.loadChannel x f
    = if r.bandsGood = false then (s, .refused .badBand)
      else if r.orderGood = false then (s, .refused .badOrder)
      else loaded (s.loadChannelRecord c r).suspendScan.regrade := by
  simp only [State.loadChannel, indexBelow_of_eq hc, hfree, h, Bool.false_eq_true, if_false]

end

/-- Settles O18. -/
theorem loadChannelRefusals : Obligations.LoadChannelRefusals := by
  intro s rq x f haccepts
  have hrefused (k : Cause) (hk : k ≠ .none) (h : s.asTaken.loadChannel x f = (s.asTaken, .refused k)) :=
    State.requestEvent_refused (r := false) (f := fun u => u.loadChannel x f) haccepts hk h
  refine ⟨fun hbad => hrefused _ (by decide) (State.loadChannel_of_badIndex hbad), fun c hc => ⟨fun hlatched =>
    hrefused _ (by decide) (State.loadChannel_of_latched hc hlatched), fun hfree => ⟨fun hrange => ?_,
    fun hrange hplain => ?_⟩⟩⟩
  · refine hrefused _ (by decide) (State.loadChannel_of_badValue hc hfree ?_)
    exact Option.eq_none_iff_forall_not_mem.mpr fun r hr => hrange (inRange_of_parseChannel hr)
  · obtain ⟨scope, gas, action, -, hgas, -, hparse⟩ := parseChannel_of_inRange hrange hplain
    have hrecord := State.loadChannel_of_record (s := s.asTaken) hc hfree hparse
    refine ⟨fun hbands => hrefused _ (by decide) (hrecord.trans (if_pos ?_)), fun hbands horder =>
      hrefused _ (by decide) (hrecord.trans ((if_neg ?_).trans (if_pos ?_)))⟩
    · exact Bool.eq_false_iff.mpr fun h => hbands ((bandsGood_recordOf hgas).mp h)
    · rw [(bandsGood_recordOf hgas).mpr hbands]
      decide
    · exact Bool.eq_false_iff.mpr fun h => horder ((orderGood_recordOf hgas).mp h)

/-! ### The restart of an accepted load's channel (R10) -/

theorem State.suspendScan_eq (s : State) : s.suspendScan = { s with integ := s.integ.afterProtectedWrite s.now } := by
  unfold State.suspendScan Integrity.afterProtectedWrite
  cases s.integ.state with
  | suspended => rfl
  | checking => rfl
  | fault => rfl

/-- The bytes of a setting's word: the high byte is 0, and bit 5 is not kept. -/
theorem staleWord_of_plain {w : Word} (h : w.toNat < 256) :
    ((0 : Byte) ++ (TimerSetting.ofByte (w.extractLsb' 0 8)).byte : Word) = w &&& 0x00DF := by
  rw [TimerSetting.byte_ofByte]
  have hw : w = (0 : Byte) ++ w.extractLsb' 0 8 :=
    (wordOf_highByte_lowByte w).symm.trans (congrArg (wordOf · _) (highByte_of_lt h))
  generalize w.extractLsb' 0 8 = b at hw
  rw [hw, show (0x00DF : Word) = (0 : Byte) ++ (0xDF : Byte) from rfl, BitVec.and_append]
  rfl

theorem recordOf_bytes {f : ChannelFields} {scope : Scope} {gas : Gas} {action : FaultAction} (hplain : ChannelPlain f)
    (hscope : scope.code = f.scope.toNat) (hgas : gas.code = f.gas.toNat) (haction : action.code = f.faultAction.toNat) :
    recordBytes (recordOf f scope gas action).words
      = [f.enabled, f.scope, f.gas, f.offset, f.gain, f.shift,
         f.alert.enabled, f.alert.level, f.alert.band, f.alert.hold,
         f.alarm.enabled, f.alarm.level, f.alarm.band, f.alarm.hold,
         f.trip.enabled, f.trip.level, f.trip.band, f.trip.hold,
         f.faultAction, f.stale &&& 0x00DF].flatMap wordBytes := by
  obtain ⟨henabled, halert, halarm, htrip, hstale⟩ := hplain
  rw [recordBytes, ChannelRecord.words]
  simp only [recordOf, hscope, hgas, haction, staleWord_of_plain hstale, entryOf_words halert, entryOf_words halarm,
    entryOf_words htrip, yesWord_of_lt henabled, BitVec.ofNat_toNat, BitVec.setWidth_eq, List.cons_append, List.nil_append]

section

variable (x : Channel) (now : Nat) (r : ChannelRecord) (silent : Bool)

theorem Channel.load_off (h : r.enabled = false) : ((x.load now r).refresh silent).state = .off
    ∧ ((x.load now r).refresh silent).staleTimer = none ∧ ((x.load now r).refresh silent).effective = .normal := by
  simp [Channel.refresh, Channel.load, Channel.stateNow, Channel.effectiveNow, h]

theorem Channel.load_warming (h : r.enabled = true) : ((x.load now r).refresh false).state = .warming
    ∧ ((x.load now r).refresh false).effective = .alert := by
  simp [Channel.refresh, Channel.load, Channel.stateNow, Channel.effectiveNow, h]
  rfl

theorem Channel.load_fault (h : r.enabled = true) : ((x.load now r).refresh true).state = .fault
    ∧ ((x.load now r).refresh true).effective = r.faultAction.grade := by
  simp [Channel.refresh, Channel.load, Channel.stateNow, Channel.effectiveNow, h]
  cases r.faultAction <;> rfl

theorem Channel.load_staleTimer (h : r.enabled = true) : ((x.load now r).refresh silent).staleTimer = some (now + r.stale.ms) :=
  if_pos h

end

section

variable (s : State) (c : Fin 16)

@[simp] theorem State.testAborted_frame : (s.testAborted c).now = s.now ∧ (s.testAborted c).poller = s.poller
    ∧ (s.testAborted c).supply = s.supply ∧ (s.testAborted c).integ = s.integ ∧ (s.testAborted c).table = s.table
    ∧ (s.testAborted c).calls = s.calls ∧ (s.testAborted c).evac = s.evac ∧ (s.testAborted c).net.banks = s.net.banks
    ∧ (s.testAborted c).mgmt.parameters = s.mgmt.parameters := by
  rw [← State.endTest_aborted]
  simp

theorem State.testAborted_channel (d : Fin 16) :
    (s.testAborted c).channel d = if c = d then { s.channel c with test := none } else s.channel d := by
  rw [← State.endTest_aborted, State.endTest_channel]
  split
  next h =>
    subst h
    rfl
  · rfl

theorem State.loadChannelRecord_eq (r : ChannelRecord) : s.loadChannelRecord c r = (s.testAborted c).channelSet c
    (Channel.refresh (Channel.load { s.channel c with test := none } s.now r) (s.deviceSilent c)) := by
  rw [State.loadChannelRecord, State.updateChannel_eq_channelSet, State.endTest_aborted, State.testAborted_channel, if_pos rfl]
  simp [State.deviceSilent, State.pollRecord]

end

/-- Settles O19: the load is one rewritten channel, one protected write and one regrade. -/
theorem loadChannelRestartsChannel : Obligations.LoadChannelRestartsChannel := by
  intro s rq x f c haccepts hc hfree hrange hplain hbands horders
  obtain ⟨scope, gas, action, hscope, hgas, haction, hparse⟩ := parseChannel_of_inRange hrange hplain
  obtain ⟨r, hr⟩ : ∃ r, r = recordOf f scope gas action := ⟨_, rfl⟩
  obtain ⟨y, hy⟩ : ∃ y, y = Channel.refresh (Channel.load { s.channel c with test := none } s.now r) (s.deviceSilent c) :=
    ⟨_, rfl⟩
  obtain ⟨v, hv⟩ : ∃ v : State, v = { (s.asTaken.testAborted c).channelSet c y with
      integ := s.integ.afterProtectedWrite s.now } := ⟨_, rfl⟩
  have hrestarted : s.asTaken.loadChannelRecord c r = (s.asTaken.testAborted c).channelSet c y :=
    (State.loadChannelRecord_eq s.asTaken c r).trans (congrArg _ hy.symm)
  have hsuspended : (s.asTaken.loadChannelRecord c r).suspendScan = v := by
    rw [State.suspendScan_eq, hrestarted, hv]
    simp
  have hload : s.asTaken.loadChannel x f = (v.regraded, .done []) := by
    rw [State.loadChannel_of_record (s := s.asTaken) hc hfree hparse, (bandsGood_recordOf hgas).mpr hbands,
      (orderGood_recordOf hgas).mpr horders, if_neg (by decide), if_neg (by decide), ← hr, hsuspended,
      State.regrade_eq_regraded]
    rfl
  have hchannel (d : Fin 16) : v.regraded.channel d = if c = d then y else s.channel d := by
    rw [State.regraded_channel, hv]
    show ((s.asTaken.testAborted c).channelSet c y).channel d = _
    rw [State.channelSet_channel, State.testAborted_channel]
    split <;> rfl
  have hown : v.regraded.channel c = y := (hchannel c).trans (if_pos rfl)
  have hrecord : y.record = r := by rw [hy]; rfl
  have hinteg : v.regraded.integ = s.integ.afterProtectedWrite s.now := by rw [(State.regraded_frame v).2.2.2.1, hv]
  have henabled : r.enabled = decide (f.enabled.toNat = 1) := by rw [hr]; rfl
  refine ⟨v.regraded, State.requestEvent_done (f := fun u => u.loadChannel x f) haccepts hload, ?_⟩
  rw [hown, hinteg, hrecord, State.regraded_zone, State.regraded_refuge, ← hv]
  refine ⟨hr ▸ recordOf_bytes hplain hscope hgas haction, ?_, ?_, ?_, ?_, ?_, ?_, ?_, ?_, fun hoff => ?_, fun hon => ?_, rfl, rfl,
    rfl, rfl, fun d hd => (hchannel d).trans (if_neg (Ne.symm hd)), ?_⟩
  · rw [hy]; rfl
  · rw [hy]; rfl
  · rw [hy]; rfl
  · rw [hy]; rfl
  · rw [hy]; rfl
  · rw [hy]; rfl
  · rw [hy]; rfl
  · rw [hy]; rfl
  · rw [hy]
    exact Channel.load_off _ _ _ _ (by simp [henabled, hoff])
  · have hon : r.enabled = true := by simp [henabled, hon]
    refine ⟨hy ▸ Channel.load_staleTimer _ _ _ _ hon, fun hanswers => ?_, fun hsilent => ?_⟩
    · rw [hy, hanswers]
      exact Channel.load_warming _ _ _ hon
    · rw [hy, hsilent]
      exact Channel.load_fault _ _ _ hon
  · simp [hv, State.asTaken]

end Sys2Proof.Machine

end

section

set_option Elab.async false

/-! PROOF. LOAD RECORD PIN, PERMIT and ROUTE: the refusals, the records they store and the protected write that each of
them is (R60, R62, R99, R154, R180). -/

namespace Sys2Proof.Machine

/-! ### A protected write (R180) -/

section

variable (s : State)

theorem State.protectedWrite_eq : s.protectedWrite = if s.integ.state = .suspended then s
    else ({ s with integ := s.integ.afterProtectedWrite s.now } : State).regraded := by
  rw [← State.regrade_eq_regraded, ← State.suspendScan_eq]
  unfold State.protectedWrite
  cases s.integ.state with
  | suspended => rfl
  | checking => rfl
  | fault => rfl

@[simp] theorem State.protectedWrite_integ : s.protectedWrite.integ = s.integ.afterProtectedWrite s.now := by
  rw [State.protectedWrite_eq, Integrity.afterProtectedWrite]
  split
  · rfl
  · simp

theorem Integrity.afterProtectedWrite_ne_fault (x : Integrity) (now : Nat) (h : x.state ≠ .fault) :
    (x.afterProtectedWrite now).state ≠ .fault := by
  unfold Integrity.afterProtectedWrite
  split
  · exact h
  · simp

theorem State.protectedWrite_grades (h : s.integ.state ≠ .suspended) : s.protectedWrite.air.zone = s.scopeGrade .zone
    ∧ s.protectedWrite.air.zone = s.protectedWrite.zoneNow ∧ s.protectedWrite.air.refuge = s.protectedWrite.refugeNow := by
  have hsuspended : s.protectedWrite.integ.state ≠ .fault := by simp [Integrity.afterProtectedWrite, h]
  have hregraded : s.protectedWrite = _ := s.protectedWrite_eq.trans (if_neg h)
  have hzone : s.protectedWrite.air.zone = s.protectedWrite.zoneNow := by rw [hregraded]; exact State.regraded_zone _
  refine ⟨?_, hzone, by rw [hregraded]; exact State.regraded_refuge _⟩
  rw [hzone, State.zoneNow_of_not_fault hsuspended, State.scopeGrade_of_channels (State.protectedWrite_air_channels s)]

/-- With grades that follow and no floor to lift, a protected write stops the scan and does nothing else. -/
theorem State.GradesFollow.protectedWrite_eq {s : State} (h : s.GradesFollow) (hfault : s.integ.state ≠ .fault) :
    s.protectedWrite = { s with integ := s.integ.afterProtectedWrite s.now } := by
  obtain ⟨-, hzone, hrefuge⟩ := h
  rw [State.protectedWrite_eq]
  split
  next e => rw [Integrity.afterProtectedWrite, if_pos e]
  · rw [← State.regrade_eq_regraded]
    refine State.regrade_of_unchanged ?_ hrefuge.symm
    rw [State.zoneNow_of_not_fault (Integrity.afterProtectedWrite_ne_fault _ _ hfault)]
    exact (hzone.trans (State.zoneNow_of_not_fault hfault)).symm

end

/-! ### The fields of the three records -/

theorem decide_toNat_eq_one {n : Nat} (w : BitVec (n + 1)) : decide (w.toNat = 1) = (w == 1) := by
  have hone : (1 : BitVec (n + 1)).toNat = 1 := by simp
  by_cases h : w = 1
  · subst h
    simp
  · have hnat : w.toNat ≠ 1 := fun e => h (BitVec.eq_of_toNat_eq (e.trans hone.symm))
    rw [decide_eq_false hnat, beq_eq_false_iff_ne.mpr h]

theorem yesNo_of_word {n : Nat} {w : BitVec (n + 1)} (h : w.toNat < 2) : yesNo w.toNat = some (w == 1) := by
  rw [yesNo_of_lt h, decide_toNat_eq_one]

theorem parsePin_of_plain {f : PinFields} (h : f.valid.toNat < 2) : parsePin f = some ⟨f.valid == 1, f.base, f.mask⟩ := by
  rw [parsePin, yesNo_of_word h]
  rfl

section

variable {f : PermitFields} (hminer : f.miner.toNat < 2) (hvehicle : f.vehicle.toNat < 2)
include hminer hvehicle

theorem parsePermit_of_crossed (h : f.high.toNat < f.low.toNat) : parsePermit f = none := by
  rw [parsePermit, yesNo_of_word hminer, yesNo_of_word hvehicle]
  exact if_neg (Nat.not_le.mpr h)

theorem parsePermit_of_ordered (h : f.low.toNat ≤ f.high.toNat) :
    parsePermit f = some ⟨f.low, f.high, f.miner == 1, f.vehicle == 1⟩ := by
  rw [parsePermit, yesNo_of_word hminer, yesNo_of_word hvehicle]
  exact if_pos h

end

theorem Pattern.ofCode_code (p : Pattern) : Pattern.ofCode p.code = some p := by
  cases p <;> rfl

theorem Pattern.ofCode_of_le {n : Nat} (h : 4 ≤ n) : Pattern.ofCode n = none := by
  rw [Pattern.ofCode, if_neg (by omega), if_neg (by omega), if_neg (by omega), if_neg (by omega)]

theorem parseRoute_of_codes {f : RouteFields} {r : Route} (hsiren : r.siren.code = f.siren.toNat)
    (hstrobe : r.strobe.code = f.strobe.toNat) (hfault : r.faultLine.code = f.faultLine.toNat)
    (haux : r.aux.code = f.aux.toNat) : parseRoute f = some r := by
  simp only [parseRoute, ← hsiren, ← hstrobe, ← hfault, ← haux, Pattern.ofCode_code]
  rfl

theorem parseRoute_of_bad {f : RouteFields}
    (h : 4 ≤ f.siren.toNat ∨ 4 ≤ f.strobe.toNat ∨ 4 ≤ f.faultLine.toNat ∨ 4 ≤ f.aux.toNat) : parseRoute f = none := by
  refine Option.eq_none_iff_forall_not_mem.mpr fun r hr => ?_
  simp only [parseRoute, bind, pure, Option.mem_def, Option.bind_eq_some_iff] at hr
  obtain ⟨_, hsiren, _, hstrobe, _, hfault, _, haux, -⟩ := hr
  obtain h | h | h | h := h
  · exact absurd ((Pattern.ofCode_of_le h).symm.trans hsiren) (by simp)
  · exact absurd ((Pattern.ofCode_of_le h).symm.trans hstrobe) (by simp)
  · exact absurd ((Pattern.ofCode_of_le h).symm.trans hfault) (by simp)
  · exact absurd ((Pattern.ofCode_of_le h).symm.trans haux) (by simp)

/-! ### The pinned flags after a load of a pin window (R62) -/

/-- An entry's flag looks at the matching entries before it: the running count stops at the capacity. -/
theorem repin_eq_zipIdx (t : Table) (m : Nat) (l : List Entry) : repin t (min 104 m) l
    = l.zipIdx.map (fun e => { e.1 with
        pinned := t.matches e.1.address
          && decide (m + (l.take e.2).countP (fun d => t.matches d.address) < 104) }) := by
  induction l generalizing m with
  | nil => rfl
  | cons e l ih =>
    have hcapacity : decide (min 104 m < 104) = decide (m < 104) := by simp
    have hnext : (if (t.matches e.address && decide (min 104 m < 104)) = true then min 104 m + 1 else min 104 m)
        = min 104 (m + if t.matches e.address then 1 else 0) := by
      cases t.matches e.address with
      | false => simp
      | true =>
        simp only [Bool.true_and, decide_eq_true_eq, if_true]
        split <;> omega
    have hstep : repin t (min 104 m) (e :: l) = { e with pinned := t.matches e.address && decide (min 104 m < 104) }
        :: repin t (if (t.matches e.address && decide (min 104 m < 104)) = true then min 104 m + 1 else min 104 m) l := rfl
    rw [hstep, hnext, ih, List.zipIdx_cons', hcapacity]
    simp [List.countP_cons, Nat.add_assoc, Nat.add_comm]

theorem State.loadPinWindow_eq (s : State) (i : Fin 4) (w : PinWindow) : s.loadPinWindow i w = { s with
    table := { s.table with
      pins := s.table.pins.set i w
      entries := s.table.entries.zipIdx.map (fun e => { e.1 with
        pinned := Table.matches { s.table with pins := s.table.pins.set i w } e.1.address
          && decide ((s.table.entries.take e.2).countP
            (fun d => Table.matches { s.table with pins := s.table.pins.set i w } d.address) < 104) }) } } := by
  have h := repin_eq_zipIdx { s.table with pins := s.table.pins.set i w } 0 s.table.entries
  simp only [Nat.zero_add] at h
  rw [← h]
  rfl

/-! ### The loads -/

section

variable {s : State} {x : Word}

theorem State.loadPin_of_badIndex (f : PinFields) (h : 4 ≤ x.toNat) : s.loadPin x f = (s, .refused .badIndex) := by
  rw [State.loadPin, indexBelow_of_le h]

theorem State.loadPin_of_window {f : PinFields} {i : Fin 4} {w : PinWindow} (hi : x.toNat = i.val)
    (h : parsePin f = some w) : s.loadPin x f = ((s.loadPinWindow i w).protectedWrite, .done []) := by
  simp only [State.loadPin, indexBelow_of_eq hi, h]
  rfl

theorem State.loadPermit_of_badIndex (f : PermitFields) (h : 4 ≤ x.toNat) :
    s.loadPermit x f = (s, .refused .badIndex) := by
  rw [State.loadPermit, indexBelow_of_le h]

theorem State.loadPermit_of_none {f : PermitFields} {i : Fin 4} (hi : x.toNat = i.val) (h : parsePermit f = none) :
    s.loadPermit x f = (s, .refused .badValue) := by
  simp only [State.loadPermit, indexBelow_of_eq hi, h]

theorem State.loadPermit_of_range {f : PermitFields} {i : Fin 4} {r : PermitRange} (hi : x.toNat = i.val)
    (h : parsePermit f = some r) : s.loadPermit x f
      = (({ s with calls := { s.calls with permits := s.calls.permits.set i r } } : State).protectedWrite, .done []) := by
  simp only [State.loadPermit, indexBelow_of_eq hi, h]
  rfl

theorem State.loadRoute_of_badIndex (f : RouteFields) (h : 11 ≤ x.toNat) :
    s.loadRoute x f = (s, .refused .badIndex) := by
  rw [State.loadRoute, indexBelow_of_le h]

theorem State.loadRoute_of_none {f : RouteFields} {i : Fin 11} (hi : x.toNat = i.val) (h : parseRoute f = none) :
    s.loadRoute x f = (s, .refused .badValue) := by
  simp only [State.loadRoute, indexBelow_of_eq hi, h]

theorem State.loadRoute_of_route {f : RouteFields} {i : Fin 11} {r : Route} (hi : x.toNat = i.val)
    (h : parseRoute f = some r) : s.loadRoute x f
      = (({ s with evac := { s.evac with routes := s.evac.routes.set i r } } : State).protectedWrite, .done []) := by
  simp only [State.loadRoute, indexBelow_of_eq hi, h]
  rfl

end

/-- A load has stored a record, and nothing that its protected write looks at has changed. -/
structure LoadedOver (s v : State) : Prop where
  now : v.now = s.now
  integ : v.integ = s.integ
  air : v.air = s.air
  poller : v.poller = s.poller
  supply : v.supply = s.supply
  parameters : v.mgmt.parameters = s.mgmt.parameters

section

variable {s v : State} (h : LoadedOver s v)
include h

theorem LoadedOver.gradesFollow (hfollow : s.GradesFollow) : v.GradesFollow :=
  hfollow.unchanged (by rw [h.air]) (by rw [h.air]) (by rw [h.air]) (by rw [h.poller]) (by rw [h.integ])

/-- What a load's protected write brings: the scan, the grades, and with grades that follow nothing else. -/
theorem LoadedOver.protectedWrite : v.protectedWrite.integ = s.integ.afterProtectedWrite s.now
    ∧ (s.integ.state ≠ .suspended → v.protectedWrite.air.zone = s.scopeGrade .zone
        ∧ v.protectedWrite.air.zone = v.protectedWrite.zoneNow ∧ v.protectedWrite.air.refuge = v.protectedWrite.refugeNow)
    ∧ v.protectedWrite.air.channels = s.air.channels ∧ v.protectedWrite.poller = s.poller
    ∧ v.protectedWrite.supply = s.supply ∧ v.protectedWrite.mgmt.parameters = s.mgmt.parameters := by
  refine ⟨by rw [State.protectedWrite_integ, h.integ, h.now], fun hstate => ?_, ?_, ?_, ?_, ?_⟩
  · obtain ⟨hzone, hzoneNow, hrefuge⟩ := v.protectedWrite_grades (h.integ ▸ hstate)
    exact ⟨hzone.trans (State.scopeGrade_of_channels (by rw [h.air]) _), hzoneNow, hrefuge⟩
  · simp [h.air]
  · simp [h.poller]
  · simp [h.supply]
  · simp [h.parameters]

theorem LoadedOver.protectedWrite_eq (hfollow : s.GradesFollow) (hfault : s.integ.state ≠ .fault) :
    v.protectedWrite = { v with integ := s.integ.afterProtectedWrite s.now } := by
  rw [(h.gradesFollow hfollow).protectedWrite_eq (by rw [h.integ]; exact hfault), h.integ, h.now]

end

/-- Settles O29: each load is a stored record and a protected write. -/
theorem loadsOfProtectedRecords : Obligations.LoadsOfProtectedRecords := by
  intro s rq x haccepts
  refine ⟨fun f => ⟨fun hbad => ?_, fun i hi hvalid => ?_⟩,
    fun f => ⟨fun hbad => ?_, fun i hi hminer hvehicle => ⟨fun hcrossed => ?_, fun hordered => ?_⟩⟩,
    fun f => ⟨fun hbad => ?_, fun i hi => ⟨fun hbad => ?_, fun r hsiren hstrobe hfault haux => ?_⟩⟩⟩
  · exact State.requestEvent_refused (f := fun u => u.loadPin x f) haccepts (by decide) (State.loadPin_of_badIndex f hbad)
  · obtain ⟨v, hv⟩ : ∃ v, v = s.asTaken.loadPinWindow i ⟨f.valid == 1, f.base, f.mask⟩ := ⟨_, rfl⟩
    have hload : s.asTaken.loadPin x f = (v.protectedWrite, .done []) :=
      hv ▸ State.loadPin_of_window hi (parsePin_of_plain hvalid)
    have hover : LoadedOver s v := by subst hv; exact ⟨rfl, rfl, rfl, rfl, rfl, rfl⟩
    obtain ⟨hinteg, hgrades, hchannels, hpoller, hsupply, hparameters⟩ := hover.protectedWrite
    refine ⟨v.protectedWrite, State.requestEvent_done (f := fun u => u.loadPin x f) haccepts hload, ?_, hinteg, hgrades,
      hchannels, hpoller, hsupply, hparameters, fun hfollow hstate => ?_⟩
    · simp [hv, State.loadPinWindow_eq]
    · rw [hover.protectedWrite_eq hfollow hstate, hv, State.loadPinWindow_eq]
      rfl
  · exact State.requestEvent_refused (f := fun u => u.loadPermit x f) haccepts (by decide) (State.loadPermit_of_badIndex f hbad)
  · exact State.requestEvent_refused (f := fun u => u.loadPermit x f) haccepts (by decide)
      (State.loadPermit_of_none hi (parsePermit_of_crossed hminer hvehicle hcrossed))
  · obtain ⟨v, hv⟩ : ∃ v : State, v = { s.asTaken with calls := { s.calls with
        permits := s.calls.permits.set i ⟨f.low, f.high, f.miner == 1, f.vehicle == 1⟩ } } := ⟨_, rfl⟩
    have hload : s.asTaken.loadPermit x f = (v.protectedWrite, .done []) :=
      hv ▸ State.loadPermit_of_range hi (parsePermit_of_ordered hminer hvehicle hordered)
    have hover : LoadedOver s v := by subst hv; exact ⟨rfl, rfl, rfl, rfl, rfl, rfl⟩
    obtain ⟨hinteg, hgrades, hchannels, hpoller, hsupply, hparameters⟩ := hover.protectedWrite
    refine ⟨v.protectedWrite, State.requestEvent_done (f := fun u => u.loadPermit x f) haccepts hload, ?_, hinteg, hgrades,
      hchannels, hpoller, hsupply, hparameters, fun hfollow hstate => ?_⟩
    · simp [hv]
    · rw [hover.protectedWrite_eq hfollow hstate, hv]
  · exact State.requestEvent_refused (f := fun u => u.loadRoute x f) haccepts (by decide) (State.loadRoute_of_badIndex f hbad)
  · exact State.requestEvent_refused (f := fun u => u.loadRoute x f) haccepts (by decide)
      (State.loadRoute_of_none hi (parseRoute_of_bad hbad))
  · obtain ⟨v, hv⟩ : ∃ v : State, v = { s.asTaken with evac := { s.evac with routes := s.evac.routes.set i r } } := ⟨_, rfl⟩
    have hload : s.asTaken.loadRoute x f = (v.protectedWrite, .done []) :=
      hv ▸ State.loadRoute_of_route hi (parseRoute_of_codes hsiren hstrobe hfault haux)
    have hover : LoadedOver s v := by subst hv; exact ⟨rfl, rfl, rfl, rfl, rfl, rfl⟩
    obtain ⟨hinteg, hgrades, hchannels, hpoller, hsupply, hparameters⟩ := hover.protectedWrite
    refine ⟨v.protectedWrite, State.requestEvent_done (f := fun u => u.loadRoute x f) haccepts hload, ?_, hinteg, hgrades,
      hchannels, hpoller, hsupply, hparameters, fun hfollow hstate => ?_⟩
    · simp [hv]
    · rw [hover.protectedWrite_eq hfollow hstate, hv]

end Sys2Proof.Machine

end

section

set_option Elab.async false

/-! PROOF. The supply monitor (R168 to R173): a sample, a load of a shed entry, and what a new shed level does. -/

namespace Sys2Proof.Machine

/-! ### All ports make their choice (R162, R171) -/

/-- A port after its service choice; a DOWN port makes none. -/
def PortState.chosen (x : PortState) (banks : Banks) (shed : Nat) (p : Port) (via : Byte) : PortState :=
  if x.up then { x with egress := x.egress.choose banks shed p via } else x

theorem Net.setPort_port (n : Net) (p : Port) : n.setPort p (n.port p) = n := by
  cases p <;> rfl

theorem Net.choose_eq (n : Net) (shed : Nat) (p : Port) :
    n.choose shed p = n.setPort p ((n.port p).chosen n.banks shed p n.viaByte) := by
  unfold Net.choose PortState.chosen
  split
  · rfl
  · exact (n.setPort_port p).symm

theorem Net.chooseAll_eq (n : Net) (shed : Nat) : n.chooseAll shed = { n with
    outbye := (n.port .outbye).chosen n.banks shed .outbye n.viaByte
    inbye := (n.port .inbye).chosen n.banks shed .inbye n.viaByte
    radio := (n.port .radio).chosen n.banks shed .radio n.viaByte } := by
  simp only [Net.chooseAll, Net.choose_eq]
  rfl

/-! ### The shed level (R171) -/

theorem asks_le_shedLevelOf {l : List ShedEntry} {e : ShedEntry} (h : e ∈ l) : e.asks ≤ shedLevelOf l := by
  induction l with
  | nil => cases h
  | cons x l ih =>
    obtain rfl | h := List.mem_cons.mp h
    · exact Nat.le_max_left ..
    · exact (ih h).trans (Nat.le_max_right ..)

theorem shedLevelOf_eq_zero_or_asks (l : List ShedEntry) : shedLevelOf l = 0 ∨ ∃ e ∈ l, e.asks = shedLevelOf l := by
  induction l with
  | nil => exact .inl rfl
  | cons x l ih =>
    have hcons : shedLevelOf (x :: l) = max x.asks (shedLevelOf l) := rfl
    obtain hmax | hmax : max x.asks (shedLevelOf l) = x.asks ∨ max x.asks (shedLevelOf l) = shedLevelOf l := by omega
    · exact .inr ⟨x, List.mem_cons_self, (hcons.trans hmax).symm⟩
    · rw [hcons, hmax]
      exact ih.imp_right fun ⟨e, he, hasks⟩ => ⟨e, List.mem_cons_of_mem _ he, hasks⟩

/-- The supply monitor with its shed level worked out. -/
def Supply.reshed (x : Supply) : Supply :=
  { x with
    shedLevel := shedLevelOf x.entries.toList
    counters := { x.counters with
      shedChanges := x.counters.shedChanges + (if shedLevelOf x.entries.toList = x.shedLevel then 0 else 1) } }

theorem Supply.reshed_same {x : Supply} (h : shedLevelOf x.entries.toList = x.shedLevel) : x.reshed = x := by
  rw [Supply.reshed, if_pos h, h, add_zero]

/-- What a new shed level brings: the flag, the legs that its limits shut out cleared, and each port's choice. -/
def State.shedTold (s : State) (x : Supply) (ceiling : Nat) (minimum : Priority) : State :=
  (({ s with supply := x } : State).setFlag Flag.shedChange).limitsChanged ceiling minimum .shed

section

variable (s : State)

theorem State.reshed_same (h : shedLevelOf s.supply.entries.toList = s.supply.shedLevel) : s.reshed = s := if_pos h

theorem State.shedTold_supply (x : Supply) (ceiling : Nat) (minimum : Priority) :
    (s.shedTold x ceiling minimum).supply = x := by
  simp [State.shedTold]

theorem State.reshed_changed (h : shedLevelOf s.supply.entries.toList ≠ s.supply.shedLevel) : s.reshed
    = { s.shedTold s.supply.reshed s.ceiling s.minimum with
        net := (s.shedTold s.supply.reshed s.ceiling s.minimum).net.chooseAll s.supply.reshed.shedLevel } := by
  have htold : s.shedTold s.supply.reshed s.ceiling s.minimum
      = (((({ s with supply := { s.supply with shedLevel := shedLevelOf s.supply.entries.toList } } : State).setFlag
        Flag.shedChange).countSupply (fun k => { k with shedChanges := k.shedChanges + 1 })).limitsChanged
          s.ceiling s.minimum .shed) := by
    rw [State.shedTold, Supply.reshed, if_neg h]
    rfl
  have hsupply := s.shedTold_supply s.supply.reshed s.ceiling s.minimum
  rw [htold] at hsupply ⊢
  rw [State.reshed]
  refine (if_neg h).trans ?_
  simp only
  rw [hsupply]

theorem State.reshed_supply : s.reshed.supply = s.supply.reshed := by
  by_cases h : shedLevelOf s.supply.entries.toList = s.supply.shedLevel
  · rw [s.reshed_same h, Supply.reshed_same h]
  · rw [s.reshed_changed h, State.shedTold_supply]

theorem State.reshed_flagged (h : shedLevelOf s.supply.entries.toList ≠ s.supply.shedLevel) :
    s.reshed.Flagged Flag.shedChange := by
  rw [s.reshed_changed h]
  refine State.Flagged.unchanged (s := s.shedTold s.supply.reshed s.ceiling s.minimum) ?_ rfl
  refine State.Flagged.limitsChanged (s := State.setFlag _ _) ?_ _ _ _
  exact State.flagSet_setFlag_self _ (by decide)

end

/-! ### A sample (R168, R170) -/

theorem clampSample_eq (mains : Bool) (battery : Nat) (temperature : Int) : clampSample mains battery temperature
    = ⟨mains, min battery 16383, if temperature < -40 then -40 else if 125 < temperature then 125 else temperature⟩ := by
  have hclamp : max (-40) (min temperature 125) = if temperature < -40 then -40 else if 125 < temperature then 125
      else temperature := by
    split
    · omega
    · split <;> omega
  rw [clampSample, hclamp]

/-- An entry goes on matching until its stop condition holds, and starts by its start condition (R170). -/
theorem ShedEntry.judge_eq (x : Sample) (e : ShedEntry) : e.judge x = ⟨e.config, e.config.enabled && (match e.config.input with
    | .battery => if e.matching then !x.mains && decide ((x.battery : Int) < e.config.gate + 200)
        else !x.mains && decide ((x.battery : Int) < e.config.gate)
    | .temperature => if e.matching then decide (e.config.gate - 3 < x.temperature)
        else decide (e.config.gate < x.temperature))⟩ := by
  rw [ShedEntry.judge]
  cases hinput : e.config.input with
  | battery =>
    simp only [ShedConfig.stops, ShedConfig.starts, hinput, Bool.not_or, ← decide_not, not_le]
  | temperature =>
    simp only [ShedConfig.stops, ShedConfig.starts, hinput, ← decide_not, not_le]

/-- The state in which a sample's shed level is worked out. -/
def State.sampled (s : State) (x : Sample) : State :=
  { s.at s.supply.sampleTick with supply := { s.supply with
    sample := x, entries := mapTable (ShedEntry.judge x) s.supply.entries
    sampleTick := max s.now s.supply.sampleTick + 1000
    counters := { s.supply.counters with mainsLosses := s.supply.counters.mainsLosses
      + (if s.supply.sample.mains = true ∧ x.mains = false then 1 else 0) } } }

theorem State.sampleTicks_eq (s : State) (x : Sample) :
    ({ s with scratch := {} } : State).sampleTicks x = (s.sampled x).reshed := by
  have hlost : (if (s.supply.sample.mains && !x.mains) = true then (1 : Counter) else 0)
      = if s.supply.sample.mains = true ∧ x.mains = false then 1 else 0 := by
    simp only [Bool.and_eq_true, Bool.not_eq_true']
  rw [State.sampled, ← hlost]
  rfl

theorem ShedEntry.asks_of_matching {e : ShedEntry} (henabled : e.config.enabled = true) (h : e.matching = true) :
    e.asks = e.config.level := by
  rw [ShedEntry.asks, henabled, h]
  rfl

theorem ShedEntry.matching_of_asks {e : ShedEntry} (h : e.asks ≠ 0) : e.matching = true ∧ e.config.level = e.asks := by
  unfold ShedEntry.asks at h ⊢
  split at h
  next hboth =>
    rw [if_pos hboth]
    exact ⟨(Bool.and_eq_true_iff.mp hboth).2, rfl⟩
  · exact absurd rfl h

/-- Settles O57. -/
theorem supplySampleSetsShedLevel : Obligations.SupplySampleSetsShedLevel := by
  intro s mains battery temperature b t matching
  obtain ⟨v, hv⟩ : ∃ v, v = s.sampled ⟨mains, b, t⟩ := ⟨_, rfl⟩
  have hwork : workOf (.supplySample mains battery temperature) { s with scratch := {} } = v.reshed := by
    show State.sampleTicks _ (clampSample mains battery temperature) = _
    rw [clampSample_eq, State.sampleTicks_eq, hv]
  have hsupply : v.reshed.supply = v.supply.reshed := v.reshed_supply
  have hentry (i : Fin 4) : v.reshed.supply.entries[i] = ⟨s.supply.entries[i].config, matching s.supply.entries[i]⟩ := by
    rw [hsupply, hv]
    exact (getElem_mapTable _ _ i).trans (ShedEntry.judge_eq _ _)
  have hlevel : v.reshed.supply.shedLevel = shedLevelOf v.reshed.supply.entries.toList := by rw [hsupply]; rfl
  have hold : v.supply.shedLevel = s.supply.shedLevel := by rw [hv]; rfl
  have hchange : v.reshed.supply.shedLevel = shedLevelOf v.supply.entries.toList := by rw [hsupply]; rfl
  have hmatching (i : Fin 4) (h : v.reshed.supply.entries[i].matching = true) :
      v.reshed.supply.entries[i].config.enabled = true := by
    rw [hentry] at h ⊢
    exact (Bool.and_eq_true_iff.mp h).1
  refine ⟨v.reshed, exec_settled hwork (by simp [hv]; rfl), ?_, hentry, fun i h => ?_, ?_, ?_, ?_, ?_, fun h => ?_, fun h => ?_,
    fun h => ?_, ?_⟩
  · rw [hsupply, hv]
    rfl
  · rw [hlevel, ← ShedEntry.asks_of_matching (hmatching i h) h]
    exact asks_le_shedLevelOf (by simp)
  · rw [hlevel]
    obtain hzero | ⟨e, he, hasks⟩ := shedLevelOf_eq_zero_or_asks v.reshed.supply.entries.toList
    · exact .inl hzero
    · by_cases hzero : e.asks = 0
      · exact .inl (hasks.symm.trans hzero)
      · obtain ⟨hmatch, hlevel⟩ := ShedEntry.matching_of_asks hzero
        obtain ⟨i, hi, rfl⟩ := List.mem_iff_getElem.mp he
        refine .inr ⟨⟨i, by simpa using hi⟩, ?_, ?_⟩
        · simpa using hmatch
        · simpa using hlevel.trans hasks
  · rw [hsupply, hv]
    rfl
  · rw [hsupply, hv]
    rfl
  · rw [hsupply, hv]
    rfl
  · exact v.reshed_flagged (by rwa [← hchange, hold])
  · have hsame := v.reshed_same (by rw [← hchange, hold, h])
    rw [hsame, hv]
    exact ⟨rfl, rfl, rfl⟩
  · rw [hsupply]
    refine (v.reshed_changed (by rwa [← hchange, hold])).trans ?_
    rw [Net.chooseAll_eq, hv]
    rfl
  · simp [hv, State.sampled, State.at]

/-! ### LOAD RECORD SHED (R169) -/

section

variable {f : ShedFields}

theorem parseShed_of_bad (h : 2 ≤ f.input.toNat ∨ (f.input = 0 ∧ (f.gate.toNat < 1 ∨ 16183 < f.gate.toNat))
    ∨ (f.input = 1 ∧ (f.gate.toInt < -37 ∨ 124 < f.gate.toInt)) ∨ f.level.toNat < 1 ∨ 3 < f.level.toNat) :
    parseShed f = none := by
  refine Option.eq_none_iff_forall_not_mem.mpr fun c hc => ?_
  simp only [parseShed, bind, pure, Option.mem_def, Option.bind_eq_some_iff, between, Option.ite_none_right_eq_some] at hc
  obtain ⟨_, -, input, hinput, gate, hgate, _, ⟨hlevel, -⟩, -⟩ := hc
  obtain h | ⟨hbattery, h⟩ | ⟨htemperature, h⟩ | h := h
  · rw [ShedInput.ofCode, if_neg (by omega), if_neg (by omega)] at hinput
    cases hinput
  · rw [hbattery] at hinput
    cases hinput
    simp only [shedGate, Option.ite_none_right_eq_some] at hgate
    omega
  · rw [htemperature] at hinput
    cases hinput
    simp only [shedGate, Option.ite_none_right_eq_some] at hgate
    omega
  · omega

theorem parseShed_of_good {input : ShedInput} {gate : Int} (henabled : f.enabled.toNat < 2) (hlow : 1 ≤ f.level.toNat)
    (hhigh : f.level.toNat ≤ 3) (h : f.input = 0 ∧ input = .battery ∧ gate = f.gate.toNat ∧ 1 ≤ gate ∧ gate ≤ 16183
      ∨ f.input = 1 ∧ input = .temperature ∧ gate = f.gate.toInt ∧ -37 ≤ gate ∧ gate ≤ 124) :
    parseShed f = some ⟨f.enabled == 1, input, gate, f.level.toNat⟩ := by
  have hinput : ShedInput.ofCode f.input.toNat = some input := by
    obtain ⟨hcode, rfl, -⟩ | ⟨hcode, rfl, -⟩ := h
    · rw [hcode]
      rfl
    · rw [hcode]
      rfl
  have hgate : shedGate input f.gate = some gate := by
    obtain ⟨-, rfl, rfl, hleast, hmost⟩ | ⟨-, rfl, rfl, hleast, hmost⟩ := h
    · exact if_pos (by omega)
    · exact if_pos ⟨hleast, hmost⟩
  rw [parseShed, yesNo_of_word henabled, hinput]
  simp only [bind, Option.bind_some, hgate, between_of_le hlow hhigh]
  rfl

end

theorem ShedConfig.starts_eq (c : ShedConfig) (x : Sample) : c.starts x = (match c.input with
    | .battery => !x.mains && decide ((x.battery : Int) < c.gate)
    | .temperature => decide (c.gate < x.temperature)) := by
  unfold ShedConfig.starts
  cases c.input <;> rfl

theorem State.Flagged.protectedWrite {s : State} {f : Flag} (h : s.Flagged f) : s.protectedWrite.Flagged f := by
  rw [State.protectedWrite_eq]
  split
  · exact h
  · exact State.Flagged.regraded (s := { s with integ := _ }) h

section

variable {s : State} {x : Word} {f : ShedFields}

theorem State.loadShed_of_badIndex (h : 4 ≤ x.toNat) : s.loadShed x f = (s, .refused .badIndex) := by
  rw [State.loadShed, indexBelow_of_le h]

theorem State.loadShed_of_none {i : Fin 4} (hi : x.toNat = i.val) (h : parseShed f = none) :
    s.loadShed x f = (s, .refused .badValue) := by
  simp only [State.loadShed, indexBelow_of_eq hi, h]

theorem State.loadShed_of_config {i : Fin 4} {c : ShedConfig} (hi : x.toNat = i.val) (h : parseShed f = some c) :
    s.loadShed x f = ((s.loadShedEntry i c).protectedWrite, .done []) := by
  simp only [State.loadShed, indexBelow_of_eq hi, h]
  rfl

end

/-- Settles O30: the new level has its effects (`State.reshed_changed`), then the protected write has its own. -/
theorem loadShedJudgesAfresh : Obligations.LoadShedJudgesAfresh := by
  intro s rq x f haccepts
  refine ⟨fun hbad => ?_, fun i hi => ⟨fun hbad => ?_, fun input gate henabled hlow hhigh hgate => ?_⟩⟩
  · exact State.requestEvent_refused (f := fun u => u.loadShed x f) haccepts (by decide) (State.loadShed_of_badIndex hbad)
  · exact State.requestEvent_refused (f := fun u => u.loadShed x f) haccepts (by decide)
      (State.loadShed_of_none hi (parseShed_of_bad hbad))
  obtain ⟨c, hc⟩ : ∃ c : ShedConfig, c = ⟨f.enabled == 1, input, gate, f.level.toNat⟩ := ⟨_, rfl⟩
  have hparse : parseShed f = some c := hc ▸ parseShed_of_good henabled hlow hhigh hgate
  obtain ⟨w, hw⟩ : ∃ w : State, w = { s.asTaken with supply := { s.supply with
      entries := s.supply.entries.set i ⟨c, c.enabled && c.starts s.supply.sample⟩ } } := ⟨_, rfl⟩
  have hentry : s.asTaken.loadShedEntry i c = w.reshed := by
    rw [hw]
    rfl
  have hload : s.asTaken.loadShed x f = (w.reshed.protectedWrite, .done []) := hentry ▸ State.loadShed_of_config hi hparse
  have hsupply : w.reshed.protectedWrite.supply = w.supply.reshed := by
    simp only [State.protectedWrite_frame]
    exact w.reshed_supply
  have hold : w.supply.shedLevel = s.supply.shedLevel := by rw [hw]
  have hinteg : w.reshed.protectedWrite.integ = s.integ.afterProtectedWrite s.now := by simp [hw]
  refine ⟨w.reshed.protectedWrite, State.requestEvent_done (f := fun u => u.loadShed x f) haccepts hload, ?_, ?_, ?_, ?_,
    fun h => ?_, hinteg, ?_, ?_⟩
  · rw [hsupply, hw, hc, ShedConfig.starts_eq]
    rfl
  · rw [hsupply]
    rfl
  · rw [hsupply, hw]
    rfl
  · rw [hsupply, hw]
    rfl
  · rw [hsupply] at h
    exact (w.reshed_flagged (by rwa [hold])).protectedWrite
  · rw [hsupply, hinteg, State.protectedWrite_eq]
    have hshed : w.reshed = if w.supply.reshed.shedLevel = s.supply.shedLevel then { s.asTaken with supply := w.supply.reshed }
        else { w.shedTold w.supply.reshed w.ceiling w.minimum with
          net := (w.shedTold w.supply.reshed w.ceiling w.minimum).net.chooseAll w.supply.reshed.shedLevel } := by
      split
      next h =>
        have hsame : shedLevelOf w.supply.entries.toList = w.supply.shedLevel := h.trans hold.symm
        rw [w.reshed_same hsame, Supply.reshed_same hsame, hw]
      next h => exact w.reshed_changed (by rwa [hold])
    intro set told chosen shed
    have hstate : w.reshed.integ.state = s.integ.state := by simp [hw]
    have hafter : w.reshed.integ.afterProtectedWrite w.reshed.now = s.integ.afterProtectedWrite s.now := by simp [hw]
    have hwhole : w.reshed = shed := by
      have htold : w.shedTold w.supply.reshed w.ceiling w.minimum = told := by
        have hstart : ({ w with supply := w.supply.reshed } : State) = { s.asTaken with supply := w.supply.reshed } := by
          rw [hw]
        have hceiling : w.ceiling = s.ceiling := by rw [hw]; rfl
        have hminimum : w.minimum = s.minimum := by rw [hw]; rfl
        rw [State.shedTold, hstart, hceiling, hminimum]
      rw [hshed, Net.chooseAll_eq, htold]
      rfl
    rw [hstate, hafter, hwhole]
  · simp [hw, State.asTaken]

end Sys2Proof.Machine

end

section

set_option Elab.async false

/-! PROOF. Notices and breaches: a notice round (R144), the breach tests of one event (R150), the door tick and the
repeat timer. -/

namespace Sys2Proof.Machine

/-! ### A notice round (R144) -/

theorem State.own_of_nodeAddr? {s : State} {own : Addr} (h : s.nodeAddr? = some own) : s.own = own := by
  unfold State.nodeAddr? Net.nodeAddr? at h
  split at h
  · exact Option.some.inj h
  · cases h

theorem State.unmustered_eq (s : State) : s.unmustered = unmusteredIn s.table.entries := by
  rw [State.unmustered, State.minersHere, List.filter_filter, unmusteredIn]
  congr 2
  funext e
  rw [Bool.and_comm]

/-- A round's notices are counted as they are sent. -/
theorem State.foldl_sendEvacNotice {own : Addr} (l : List Addr) (s : State) (h : s.nodeAddr? = some own) :
    l.foldl State.sendEvacNotice s = l.foldl (fun t a => t.originate ⟨.evacNotice, a, wordBytes own⟩)
      (s.countEvac (fun k => { k with noticesSent := k.noticesSent + BitVec.ofNat 32 l.length })) := by
  induction l generalizing s with
  | nil =>
    simp only [List.foldl_nil, List.length_nil]
    rw [show BitVec.ofNat 32 0 = 0 from rfl]
    simp only [add_zero]
    rfl
  | cons a l ih =>
    have hnotice : s.sendEvacNotice a = (s.countEvac (fun k => { k with noticesSent := k.noticesSent + 1 })).originate
        ⟨.evacNotice, a, wordBytes own⟩ := by
      rw [State.sendEvacNotice, State.originateCounted, h, State.own_of_nodeAddr? h]
      rfl
    have hcount : BitVec.ofNat 32 (a :: l).length = 1 + BitVec.ofNat 32 l.length := by
      rw [List.length_cons, Nat.add_comm, BitVec.ofNat_add]
      rfl
    rw [List.foldl_cons, List.foldl_cons, hnotice]
    refine (ih _ ((State.originate_nodeAddr? (s.countEvac _) _).trans h)).trans ?_
    rw [hcount]
    simp only [← BitVec.add_assoc]
    rfl

theorem State.startRepeat_foldl_originate (l : List Addr) (m : Addr → Message) (s : State) :
    (l.foldl (fun t a => t.originate (m a)) s).startRepeat = l.foldl (fun t a => t.originate (m a)) s.startRepeat :=
  (List.foldl_hom State.startRepeat fun _ _ => rfl).symm

theorem State.noticeRound_eq {s : State} {own : Addr} (h : s.nodeAddr? = some own) :
    s.noticeRound.startRepeat = s.roundSent own := by
  rw [State.noticeRound, State.foldl_sendEvacNotice _ _ h, State.startRepeat_foldl_originate, State.unmustered_eq]
  rfl

/-! ### Breach tests (R150) -/

theorem State.breachDue_eq (s : State) (i : Fin 8) : s.breachDue i = (!(s.panel i).breach && (s.panel i).door == .opened
    && decide (s.params.door.ms ≤ (s.panel i).doorAge * 1000) && s.evac.state == .evacuate
    && (s.air.zone == .alarm || s.air.zone == .trip)) := by
  rw [State.breachDue, Grade.atLeast_alarm]
  rfl

theorem State.testBreach_eq_breachTested (s : State) (i : Fin 8) : s.testBreach i = s.breachTested i := by
  have hdue : s.breachDue i = true ↔ (s.panel i).breach = false ∧ (s.panel i).door = .opened
      ∧ s.params.door.ms ≤ (s.panel i).doorAge * 1000 ∧ s.evac.state = .evacuate
      ∧ (s.air.zone = .alarm ∨ s.air.zone = .trip) := by
    rw [State.breachDue_eq]
    simp [and_assoc]
  unfold State.testBreach State.breachTested
  by_cases h : s.breachDue i = true
  · rw [if_pos h, if_pos (hdue.mp h)]
    have hown := (s.setPanel i { s.panel i with breach := true }).originate_own (fun a => msgRefugeBreach a i)
    exact congrArg (fun t : State => (t.setFlag Flag.breach).countEvac (fun k => { k with breaches := k.breaches + 1 })) hown
  · rw [if_neg h, if_neg (mt hdue.mpr h)]

theorem State.testBreaches_eq (s : State) : s.testBreaches = pollIndices.foldl State.breachTested s := by
  rw [State.testBreaches, funext fun t => funext fun i => State.testBreach_eq_breachTested t i]

section

variable (s : State) (i : Fin 8)

theorem State.testBreach_of_not_due {s : State} {i : Fin 8} (h : s.breachDue i = false) : s.testBreach i = s :=
  if_neg (by simp [h])

theorem State.testBreach_panel (j : Fin 8) : (s.testBreach i).panel j
    = if i = j then { s.panel i with breach := (s.panel i).breach || s.breachDue i } else s.panel j := by
  unfold State.testBreach
  cases h : s.breachDue i with
  | false =>
    rw [if_neg (by decide), Bool.or_false]
    split
    next e => rw [e]
    · rfl
  | true =>
    rw [if_pos rfl, Bool.or_true]
    exact State.panel_setPanel ..

theorem State.testBreach_evac : (s.testBreach i).evac = { s.evac with
    panels := (s.testBreach i).evac.panels
    counters := { s.evac.counters with
      breaches := s.evac.counters.breaches + BitVec.ofNat 32 (if s.breachDue i then 1 else 0) } } := by
  unfold State.testBreach
  cases h : s.breachDue i with
  | false => simp
  | true => rfl

theorem State.testBreach_breachDue {i j : Fin 8} (h : i ≠ j) : (s.testBreach i).breachDue j = s.breachDue j := by
  have hstate : (s.testBreach i).evac.state = s.evac.state := by simp
  rw [State.breachDue_eq, State.breachDue_eq, State.testBreach_panel, if_neg h, hstate]
  simp [State.params]
  rfl

end

/-- What the breach tests of some records leave. -/
structure BreachesRaised (l : List (Fin 8)) (s u : State) : Prop where
  panel : ∀ i, u.panel i = if i ∈ l then { s.panel i with breach := (s.panel i).breach || s.breachDue i } else s.panel i
  evac : u.evac = { s.evac with
    panels := u.evac.panels
    counters := { s.evac.counters with
      breaches := s.evac.counters.breaches + BitVec.ofNat 32 (l.countP s.breachDue) } }
  flag : (∃ i ∈ l, s.breachDue i = true) → u.Flagged Flag.breach
  same : (∀ i ∈ l, s.breachDue i = false) → u = s

theorem State.Flagged.foldl_testBreach {f : Flag} (l : List (Fin 8)) {s : State} (h : s.Flagged f) :
    (l.foldl State.testBreach s).Flagged f := by
  induction l generalizing s with
  | nil => exact h
  | cons i l ih => exact ih (h.testBreach i)

theorem State.testBreach_flagged {s : State} {i : Fin 8} (h : s.breachDue i = true) : (s.testBreach i).Flagged Flag.breach := by
  unfold State.testBreach
  rw [if_pos h]
  exact State.Flagged.unchanged (s := State.setFlag _ Flag.breach) (State.flagSet_setFlag_self _ (by decide)) rfl

theorem breachesRaised {l : List (Fin 8)} (hnodup : l.Nodup) (s : State) : BreachesRaised l s (l.foldl State.testBreach s) := by
  induction l generalizing s with
  | nil => exact ⟨by simp, by simp, by simp, by simp⟩
  | cons i l ih =>
    obtain ⟨hi, hl⟩ := List.nodup_cons.mp hnodup
    obtain ⟨hpanel, hevac, hflag, hsame⟩ := ih hl (s.testBreach i)
    have hdue (j : Fin 8) (hj : j ∈ l) : (s.testBreach i).breachDue j = s.breachDue j :=
      s.testBreach_breachDue (ne_of_mem_of_not_mem hj hi).symm
    rw [List.foldl_cons]
    refine ⟨fun j => ?_, ?_, fun ⟨j, hj, hjdue⟩ => ?_, fun hnone => ?_⟩
    · rw [hpanel, State.testBreach_panel]
      by_cases e : i = j
      · subst e
        simp [hi]
      · simp only [if_neg e, List.mem_cons, Ne.symm e, false_or]
        split
        next hj => rw [hdue j hj]
        · rfl
    · have hcount : l.countP (s.testBreach i).breachDue = l.countP s.breachDue := List.countP_congr fun j hj => by rw [hdue j hj]
      rw [hevac, State.testBreach_evac, hcount, List.countP_cons]
      simp only [BitVec.add_assoc, ← BitVec.ofNat_add]
      rw [Nat.add_comm]
    · obtain rfl | hj := List.mem_cons.mp hj
      · exact (State.testBreach_flagged hjdue).foldl_testBreach l
      · exact hflag ⟨j, hj, (hdue j hj).trans hjdue⟩
    · rw [State.testBreach_of_not_due (hnone i List.mem_cons_self)] at hsame ⊢
      exact hsame fun j hj => hnone j (List.mem_cons_of_mem _ hj)

theorem pollIndices_nodup : pollIndices.Nodup := by decide

theorem State.testBreaches_raised (s : State) : BreachesRaised pollIndices s s.testBreaches := by
  rw [State.testBreaches]
  exact breachesRaised pollIndices_nodup s

/-! ### The repeat timer and the door tick -/

/-- The state whose doors are one second older. -/
def State.doorsAged (s : State) : State :=
  { s.at s.evac.doorTick with evac := { s.evac with
    panels := mapTable Panel.older s.evac.panels, doorTick := max s.now s.evac.doorTick + 1000 } }

theorem Panel.older_eq (x : Panel) : x.older
    = { x with doorAge := if x.door = .opened then min 65535 (x.doorAge + 1) else x.doorAge } := by
  unfold Panel.older
  split
  · have hage : (if x.doorAge < 65535 then x.doorAge + 1 else 65535) = min 65535 (x.doorAge + 1) := by
      split <;> omega
    rw [hage]
  · rfl

/-- Settles O56. -/
theorem evacuationTimersAct : Obligations.EvacuationTimersAct := by
  refine ⟨fun s d own htimer hstate hown => ?_, fun s => ?_⟩
  · intro missing
    have hwork : workOf .repeatTimerExpiry { s with scratch := {} } = (s.at d).roundSent own := by
      show State.expire { s with scratch := {} } s.evac.repeatTimer State.repeatExpires = _
      rw [htimer, State.expire_some, ← State.noticeRound_eq (s := s.at d) hown, State.repeatExpires]
      show (match s.evac.state with
        | .evacuate => (s.at d).noticeRound.startRepeat
        | .quiet => (s.at d).stopRepeat) = _
      rw [hstate]
    refine (exec_settled hwork ?_).trans rfl
    rw [← State.noticeRound_eq (s := s.at d) hown]
    simp [State.at, State.startRepeat]
  · intro age due
    obtain ⟨v, hv⟩ : ∃ v, v = s.doorsAged := ⟨_, rfl⟩
    have hwork : workOf .doorTick { s with scratch := {} } = v.testBreaches := by
      rw [hv]
      rfl
    have hpanel (i : Fin 8) : v.panel i = { s.panel i with doorAge := age (s.panel i) } := by
      rw [hv]
      exact (getElem_mapTable Panel.older s.evac.panels i).trans (Panel.older_eq _)
    have hdue (i : Fin 8) : v.breachDue i = due (s.panel i) := by
      rw [State.breachDue_eq, hpanel, hv]
      rfl
    have hcount : pollIndices.countP v.breachDue = pollIndices.countP (fun i => due (s.panel i)) :=
      congrArg (fun p => pollIndices.countP p) (funext hdue)
    obtain ⟨u, hu⟩ : ∃ u, u = v.testBreaches := ⟨_, rfl⟩
    have hframe : u.table.entries = s.table.entries ∧ u.now = max s.now s.evac.doorTick ∧ u.air = s.air ∧ u.table = s.table
        ∧ u.calls = s.calls ∧ u.seg = s.seg ∧ u.poller = s.poller ∧ u.supply = s.supply ∧ u.integ = s.integ := by
      simp [hu, hv, State.doorsAged, State.at]
    obtain ⟨hraised, hevac, hflag, hsame⟩ := hu ▸ v.testBreaches_raised
    refine ⟨u, exec_settled (hwork.trans hu.symm) hframe.1, fun i => ?_, ?_, fun ⟨i, hi⟩ => ?_,
      ⟨v, hpanel, by rw [hv]; rfl, hu.trans v.testBreaches_eq⟩, fun hnone => ?_, hframe.2⟩
    · rw [hraised, if_pos (mem_pollIndices i), hpanel, hdue]
    · refine hevac.trans ?_
      rw [hcount, hv]
      rfl
    · exact hflag ⟨i, mem_pollIndices i, (hdue i).trans hi⟩
    · rw [hsame fun i _ => (hdue i).trans (hnone i), hv]
      exact ⟨rfl, rfl⟩

end Sys2Proof.Machine

end

section

set_option Elab.async false

/-! PROOF. LOAD RECORD POLL (R37, R38): its checks, and the restart of the one record. -/

namespace Sys2Proof.Machine

/-! ### The next poll (R40) -/

/-- The line gets a poll only when it is FREE and an enabled record is due. -/
theorem State.nextPoll_cases (s : State) : s.nextPoll = s ∨ ∃ k, s.poller.inFlight = none
    ∧ (s.pollRecord k).config.enabled = true ∧ s.nextPoll = s.sendPoll k := by
  unfold State.nextPoll
  cases hline : s.poller.inFlight with
  | some f => exact .inl rfl
  | none =>
    cases hchosen : s.earliestDue with
    | none => exact .inl rfl
    | some x =>
      obtain ⟨k, t⟩ := x
      simp only
      split
      · obtain ⟨hdue, -⟩ := State.earliestDue_eq_some hchosen
        exact .inr ⟨k, trivial, (PollRecord.dueTime_eq_some.mp hdue).1, rfl⟩
      · exact .inl rfl

theorem State.nextPoll_of_busy {s : State} {f : InFlight} (h : s.poller.inFlight = some f) : s.nextPoll = s := by
  rw [State.nextPoll, h]

/-- A record but for its due time. -/
def PollRecord.undated (r : PollRecord) : PollRecord := { r with due := none }

theorem State.sendPoll_pollRecord (s : State) (k j : Fin 8) : (s.sendPoll k).pollRecord j
    = if k = j then { s.pollRecord k with due := some (s.now + (s.pollRecord k).config.interval.ms) } else s.pollRecord j :=
  State.pollRecord_setPollRecord ..

theorem State.nextPoll_undated (s : State) (j : Fin 8) : (s.nextPoll.pollRecord j).undated = (s.pollRecord j).undated := by
  obtain h | ⟨k, -, -, h⟩ := s.nextPoll_cases
  · rw [h]
  · rw [h, State.sendPoll_pollRecord]
    split
    next e => rw [← e]; rfl
    · rfl

theorem State.pollingFor_iff {s : State} {i : Fin 8} :
    s.pollingFor i = true ↔ ∃ f, s.poller.inFlight = some f ∧ f.index = i := by
  unfold State.pollingFor
  cases s.poller.inFlight with
  | none => simp
  | some f => simp

/-! ### The fields of LOAD RECORD POLL (R37) -/

section

variable {f : PollFields}

theorem stationKind_fieldDevice (a : Addr) : stationKind a = some .fieldDevice ↔ 0x1000 ≤ a.toNat ∧ a.toNat ≤ 0x1FFF := by
  unfold stationKind
  simp only
  repeat' split
  all_goals
    simp only [reduceCtorEq, Option.some.injEq, false_iff, true_iff]
    omega

theorem parsePoll_eq : parsePoll f = (yesNo f.enabled.toNat).bind fun e =>
    if stationKind f.address = some .fieldDevice then
      (DeviceKind.ofCode f.kind.toNat).bind fun k => (runningSetting f.interval).bind fun t => some ⟨e, f.address, k, t⟩
    else none := by
  rw [parsePoll]
  refine congrArg _ (funext fun e => ?_)
  split <;> rfl

theorem parsePoll_eq_some {c : PollConfig} : parsePoll f = some c ↔ yesNo f.enabled.toNat = some c.enabled
    ∧ (0x1000 ≤ f.address.toNat ∧ f.address.toNat ≤ 0x1FFF) ∧ c.address = f.address
    ∧ DeviceKind.ofCode f.kind.toNat = some c.kind ∧ runningSetting f.interval = some c.interval := by
  rw [← stationKind_fieldDevice, parsePoll_eq]
  simp only [Option.bind_eq_some_iff, Option.ite_none_right_eq_some, Option.some.injEq]
  constructor
  · rintro ⟨e, he, haddress, k, hk, t, ht, rfl⟩
    exact ⟨he, haddress, rfl, hk, ht⟩
  · rintro ⟨he, haddress, hc, hk, ht⟩
    refine ⟨_, he, haddress, _, hk, _, ht, ?_⟩
    rw [← hc]

theorem parsePoll_of_bad (h : f.address.toNat < 0x1000 ∨ 0x1FFF < f.address.toNat ∨ 2 ≤ f.kind.toNat
    ∨ f.interval.toNat % 32 = 0) : parsePoll f = none := by
  refine Option.eq_none_iff_forall_not_mem.mpr fun c hc => ?_
  obtain ⟨-, ⟨hlow, hhigh⟩, -, hkind, hinterval⟩ := parsePoll_eq_some.mp hc
  obtain h | h | h | h := h
  · omega
  · omega
  · rw [DeviceKind.ofCode, if_neg (by omega), if_neg (by omega)] at hkind
    cases hkind
  · rw [runningSetting, if_pos ((TimerSetting.count_ofByte_eq_zero _).mpr h)] at hinterval
    cases hinterval

theorem runningSetting_of_count {b : Byte} (h : b.toNat % 32 ≠ 0) : runningSetting b = some (TimerSetting.ofByte b) :=
  if_neg (mt (TimerSetting.count_ofByte_eq_zero b).mp h)

theorem DeviceKind.ofCode_of_lt {n : Nat} (h : n < 2) : ∃ x : DeviceKind, DeviceKind.ofCode n = some x ∧ x.code = n := by
  obtain rfl | rfl : n = 0 ∨ n = 1 := by omega
  · exact ⟨.gasHead, rfl, rfl⟩
  · exact ⟨.refugePanel, rfl, rfl⟩

theorem parsePoll_of_good (hlow : 0x1000 ≤ f.address.toNat) (hhigh : f.address.toNat ≤ 0x1FFF) (hkind : f.kind.toNat < 2)
    (hinterval : f.interval.toNat % 32 ≠ 0) (henabled : f.enabled.toNat < 2) : ∃ k : DeviceKind, k.code = f.kind.toNat
      ∧ parsePoll f = some ⟨f.enabled == 1, f.address, k, TimerSetting.ofByte f.interval⟩ := by
  obtain ⟨k, hk, hcode⟩ := DeviceKind.ofCode_of_lt hkind
  exact ⟨k, hcode, parsePoll_eq_some.mpr ⟨yesNo_of_word (n := 7) henabled, ⟨hlow, hhigh⟩, rfl, hk,
    runningSetting_of_count (b := f.interval) hinterval⟩⟩

end

section

variable {s : State} {i : Fin 8} {c : PollConfig}

theorem State.addressTaken_iff : s.addressTaken i c = true ↔ c.enabled = true ∧ ∃ j, j ≠ i
    ∧ (s.pollRecord j).config.enabled = true ∧ (s.pollRecord j).config.address = c.address := by
  simp [State.addressTaken, mem_pollIndices, and_assoc]

end

section

variable {s : State} {x : Word} {f : PollFields}

theorem State.loadPoll_of_badIndex (h : 8 ≤ x.toNat) : s.loadPoll x f = (s, .refused .badIndex) := by
  rw [State.loadPoll, indexBelow_of_le h]

theorem State.loadPoll_of_none {i : Fin 8} (hi : x.toNat = i.val) (h : parsePoll f = none) :
    s.loadPoll x f = (s, .refused .badValue) := by
  simp only [State.loadPoll, indexBelow_of_eq hi, h]

theorem State.loadPoll_of_config {i : Fin 8} {c : PollConfig} (hi : x.toNat = i.val) (h : parsePoll f = some c) :
    s.loadPoll x f = if s.addressTaken i c then (s, .refused .badValue) else loaded (s.loadPollRecord i c) := by
  simp only [State.loadPoll, indexBelow_of_eq hi, h]

end

/-! ### The restarted record (R38) -/

section

variable (s : State)

theorem State.testAborted_poller (p : Poller) (c : Fin 16) :
    ({ s with poller := p } : State).testAborted c = { s.testAborted c with poller := p } := by
  unfold State.testAborted
  show (match (s.channel c).test with | none => _ | some t => _) = _
  cases (s.channel c).test <;> rfl

theorem State.abortTests_eq (i : Fin 8) :
    s.abortTests i = (s.testAborted (firstChannel i)).testAborted (secondChannel i) := by
  rw [State.abortTests, State.endTest_aborted, State.endTest_aborted]

theorem State.emptyPanel_panel (i j : Fin 8) :
    (s.emptyPanel i).panel j = if i = j then Panel.empty else s.panel j := by
  have hset : (s.setPanel i .empty).panel j = if i = j then Panel.empty else s.panel j := State.panel_setPanel ..
  rw [← hset]
  unfold State.emptyPanel
  simp only
  split
  · rw [State.panel, (State.releaseTags_frame _ _).2.2.2.2.2.2.2.2.2.2.2.2.2.1]
    rfl
  · rfl

theorem State.emptyPanel_mgmt (i : Fin 8) : (s.emptyPanel i).mgmt = s.mgmt := by simp

theorem pollOf_eq_iff (c : Fin 16) (i : Fin 8) : pollOf c = i ↔ firstChannel i = c ∨ secondChannel i = c := by
  simp only [pollOf, firstChannel, secondChannel, Fin.ext_iff]
  omega

theorem State.abortTests_channel (i : Fin 8) (c : Fin 16) :
    (s.abortTests i).channel c = if pollOf c = i then { s.channel c with test := none } else s.channel c := by
  rw [State.abortTests_eq, State.testAborted_channel, State.testAborted_channel, State.testAborted_channel]
  simp only [pollOf_eq_iff]
  by_cases hfirst : firstChannel i = c
  · subst hfirst
    have hother : secondChannel i ≠ firstChannel i := by simp [firstChannel, secondChannel, Fin.ext_iff]
    simp [hother]
  · by_cases hsecond : secondChannel i = c
    · subst hsecond
      simp [hfirst]
    · simp [hfirst, hsecond]

/-- The poller when an accepted load has stored its record, before the next poll is chosen. -/
def State.loadedPoller (i : Fin 8) (c : PollConfig) : Poller :=
  let p := if s.pollingFor i then { s.poller with inFlight := none, replyTimer := none } else s.poller
  { p with records := p.records.set i ((s.pollRecord i).load s.now c) }

theorem State.loadPollRecord_eq (i : Fin 8) (c : PollConfig) : s.loadPollRecord i c
    = ((({ s with poller := s.loadedPoller i c } : State).abortTests i).emptyPanel i).nextPoll := by
  unfold State.loadPollRecord State.loadedPoller
  cases s.pollingFor i <;> rfl

end

/-- Settles O27: the record is stored, its tests aborted and its panel emptied; then the line chooses
(`State.nextPoll_cases`). -/
theorem loadPollChecksAndRestartsRecord : Obligations.LoadPollChecksAndRestartsRecord := by
  intro s rq x f haccepts
  have hrefused (h : s.asTaken.loadPoll x f = (s.asTaken, .refused .badValue)) :=
    State.requestEvent_refused (r := false) (f := fun u => u.loadPoll x f) haccepts (by decide) h
  refine ⟨fun hbad => State.requestEvent_refused (f := fun u => u.loadPoll x f) haccepts (by decide)
    (State.loadPoll_of_badIndex hbad), fun i hi => ⟨fun hbad => hrefused (State.loadPoll_of_none hi (parsePoll_of_bad hbad)),
    fun henabled htaken => ?_, fun hlow hhigh hkind hinterval hplain hfree => ?_⟩⟩
  · cases hparse : parsePoll f with
    | none => exact hrefused (State.loadPoll_of_none hi hparse)
    | some c =>
      refine hrefused ((State.loadPoll_of_config hi hparse).trans (if_pos ?_))
      obtain ⟨hyes, -, haddress, -⟩ := parsePoll_eq_some.mp hparse
      rw [henabled] at hyes
      refine State.addressTaken_iff.mpr ⟨(Option.some.inj hyes).symm, ?_⟩
      rw [haddress]
      exact htaken
  · obtain ⟨k, hk, hparse⟩ := parsePoll_of_good hlow hhigh hkind hinterval hplain
    obtain ⟨c, hc⟩ : ∃ c : PollConfig, c = ⟨f.enabled == 1, f.address, k, TimerSetting.ofByte f.interval⟩ := ⟨_, rfl⟩
    rw [← hc] at hparse
    obtain ⟨v, hv⟩ : ∃ v : State, v = (({ s.asTaken with poller := s.loadedPoller i c } : State).abortTests i).emptyPanel i :=
      ⟨_, rfl⟩
    have hload : s.asTaken.loadPoll x f = (v.nextPoll, .done []) := by
      rw [State.loadPoll_of_config hi hparse, if_neg, State.loadPollRecord_eq, hv]
      · rfl
      · rw [State.addressTaken_iff, hc]
        rintro ⟨hyes, j, hj, henabled, haddress⟩
        exact hfree (eq_of_beq hyes) j hj henabled haddress
    have hframe : v.poller = s.loadedPoller i c ∧ v.now = s.now ∧ v.air.zone = s.air.zone ∧ v.air.refuge = s.air.refuge
        ∧ v.integ = s.integ ∧ v.supply = s.supply ∧ v.calls = s.calls ∧ v.seg = s.seg
        ∧ v.mgmt.parameters = s.mgmt.parameters := by
      simp [hv, State.asTaken]
    obtain ⟨hpoller, hnow, hunchanged⟩ := hframe
    have hrecord (j : Fin 8) : v.pollRecord j = if i = j then (s.pollRecord i).load s.now c else s.pollRecord j := by
      rw [State.pollRecord, hpoller, State.loadedPoller]
      split <;> exact State.pollRecord_setPollRecord _ i j _
    refine ⟨v.nextPoll, State.requestEvent_done (f := fun u => u.loadPoll x f) haccepts hload, ?_⟩
    obtain ⟨hzone, hrefuge, hinteg, hsupply, hcalls, hseg, hparameters⟩ := hunchanged
    have hundated (j : Fin 8) : (v.nextPoll.pollRecord j).undated
        = (if i = j then (s.pollRecord i).load s.now c else s.pollRecord j).undated := by
      rw [State.nextPoll_undated, hrecord]
    have hown : (v.nextPoll.pollRecord i).undated = ((s.pollRecord i).load s.now c).undated := by
      rw [hundated, if_pos rfl]
    have hconfig : (v.nextPoll.pollRecord i).config = c := congrArg (fun r : PollRecord => r.config) hown
    have hdue : (v.nextPoll.pollRecord i).due = (if c.enabled then some s.now else none)
        ∨ (v.nextPoll.pollRecord i).due = some (s.now + c.interval.ms) ∧ v.nextPoll.pollingFor i = true ∧ c.enabled = true := by
      obtain h | ⟨j, -, henabled, h⟩ := v.nextPoll_cases
      · rw [h, hrecord, if_pos rfl]
        exact .inl rfl
      · rw [h, State.sendPoll_pollRecord]
        by_cases e : j = i
        · subst e
          rw [hrecord, if_pos rfl] at henabled ⊢
          rw [if_pos rfl, hnow]
          exact .inr ⟨rfl, State.pollingFor_iff.mpr ⟨_, rfl, rfl⟩, henabled⟩
        · rw [if_neg e, hrecord, if_pos rfl]
          exact .inl rfl
    have hold (j : Fin 8) (hj : j ≠ i) : (v.nextPoll.pollRecord j).undated = (s.pollRecord j).undated := by
      rw [hundated, if_neg hj.symm]
    refine ⟨?_, ?_, ?_, ?_, ?_, ?_, fun hoff => ?_, fun hon => ?_, fun hpolling g hg => ?_, fun hidle g hg => ?_, ?_,
      fun j hj => ⟨?_, ?_, ?_⟩, ?_, fun j hj => ?_, fun d => ?_, ?_, ?_, ?_, ?_, ?_, ?_, ?_, ?_⟩
    · rw [hconfig, hc]
    · rw [hconfig, hc]
    · rw [hconfig, hc]
      exact hk
    · rw [hconfig, hc]
    · exact congrArg (fun r : PollRecord => r.misses) hown
    · exact congrArg (fun r : PollRecord => r.state) hown
    · have hno : c.enabled = false := by rw [hc, hoff]; rfl
      obtain h | ⟨-, -, h⟩ := hdue
      · rw [h, hno]
        rfl
      · exact absurd (hno.symm.trans h) (by decide)
    · have hyes : c.enabled = true := by rw [hc, hon]; rfl
      rw [hconfig]
      obtain h | ⟨h, hpolling, -⟩ := hdue
      · exact .inl (h.trans (if_pos hyes))
      · exact .inr ⟨h, hpolling⟩
    · have hline : v.poller.inFlight = none ∧ v.poller.sequence = s.poller.sequence := by
        rw [hpoller, State.loadedPoller, hpolling]
        exact ⟨rfl, rfl⟩
      obtain h | ⟨j, -, -, h⟩ := v.nextPoll_cases
      · rw [h, hline.1] at hg
        cases hg
      · rw [h] at hg
        obtain rfl := Option.some.inj hg
        exact congrArg (· + 1) hline.2
    · have hline : v.poller.inFlight = s.poller.inFlight := by
        rw [hpoller, State.loadedPoller, hidle]
        rfl
      rw [State.nextPoll_of_busy (hline.trans hg), hline, hg]
    · obtain ⟨n, hcounters⟩ := v.nextPoll_counters
      rw [hcounters, hpoller, State.loadedPoller]
      split <;> rfl
    · exact (congrArg (fun r : PollRecord => r.config) (hold j hj) :)
    · exact (congrArg (fun r : PollRecord => r.state) (hold j hj) :)
    · exact (congrArg (fun r : PollRecord => r.misses) (hold j hj) :)
    · rw [State.panel, (State.nextPoll_frame v).2.2.2.2.2.2.2.2.2.1, hv]
      exact (State.emptyPanel_panel _ i i).trans (if_pos rfl)
    · rw [State.panel, (State.nextPoll_frame v).2.2.2.2.2.2.2.2.2.1, hv]
      refine (State.emptyPanel_panel _ i j).trans ((if_neg hj.symm).trans ?_)
      rw [State.panel, State.panel]
      simp
    · rw [State.channel, (State.nextPoll_frame v).2.2.2.2.2.1, hv, (State.emptyPanel_frame _ i).2.2.2.2.2.2.1]
      exact State.abortTests_channel _ i d
    · intro told
      have htold : ({ s.asTaken with poller := s.loadedPoller i c } : State).abortTests i
          = { told with poller := s.loadedPoller i c } :=
        (State.abortTests_eq _ i).trans ((congrArg (fun t : State => t.testAborted (secondChannel i))
          (State.testAborted_poller s.asTaken _ _)).trans (State.testAborted_poller _ _ _))
      have htold' : v.net = told.net ∧ v.mgmt = told.mgmt := by
        rw [hv, (State.emptyPanel_frame _ i).2.2.2.2.1, State.emptyPanel_mgmt, htold]
        exact ⟨rfl, rfl⟩
      simpa using htold'
    · simp [hzone]
    · simp [hrefuge]
    · simp [hinteg]
    · simp [hsupply]
    · simp [hcalls]
    · simp [hseg]
    · simp [hparameters]

end Sys2Proof.Machine

end

section

set_option Elab.async false

/-! PROOF. What the segment arbiter sends: grants, waits, refusals, withdraws and proximity notices (R122, R123, R128 to
R131, R134), in the words of the statements. -/

namespace Sys2Proof.Machine

/-! ### Counted notices -/

/-- A node with an address counts a message when it sends it. -/
theorem State.originateCounted_of_isSome {s : State} (h : s.nodeAddr?.isSome = true) (count : State → State) (m : Message) :
    s.originateCounted count m = (count s).originate m := by
  obtain ⟨own, hown⟩ := Option.isSome_iff_exists.mp h
  rw [State.originateCounted, hown]

/-- Messages counted one by one are messages counted at once. -/
theorem foldl_counted {α : Type} (C : Nat → State → State) (m : α → Message) (hzero : ∀ t, C 0 t = t)
    (hadd : ∀ n t, C n (C 1 t) = C (n + 1) t) (hcomm : ∀ n t x, C n (State.originate t x) = (C n t).originate x)
    (l : List α) (s : State) : l.foldl (fun t x => (C 1 t).originate (m x)) s
      = l.foldl (fun t x => t.originate (m x)) (C l.length s) := by
  induction l generalizing s with
  | nil => exact (hzero s).symm
  | cons x l ih => rw [List.foldl_cons, List.foldl_cons, ih, hcomm, hadd, List.length_cons]

/-- A step on every element that keeps a promise may use it. -/
theorem foldl_congr_of {α : Type} {P : State → Prop} {f g : State → α → State} {l : List α} {s : State} (hs : P s)
    (hstep : ∀ t, P t → ∀ x ∈ l, f t x = g t x ∧ P (g t x)) : l.foldl f s = l.foldl g s := by
  induction l generalizing s with
  | nil => rfl
  | cons x l ih =>
    obtain ⟨he, hp⟩ := hstep s hs x List.mem_cons_self
    rw [List.foldl_cons, List.foldl_cons, he]
    exact ih hp fun t ht y hy => hstep t ht y (List.mem_cons_of_mem _ hy)

theorem ofNat_length_cons {α : Type} (x : α) (l : List α) :
    BitVec.ofNat 32 (x :: l).length = 1 + BitVec.ofNat 32 l.length := by
  rw [List.length_cons, Nat.add_comm, BitVec.ofNat_add]
  rfl

theorem counter_add_one_add (c : Counter) (n : Nat) : c + 1 + BitVec.ofNat 32 n = c + BitVec.ofNat 32 (n + 1) := by
  rw [Nat.add_comm, BitVec.ofNat_add, ← BitVec.add_assoc]
  rfl

theorem counter_add_ofNat_zero (c : Counter) : c + BitVec.ofNat 32 0 = c := BitVec.add_zero c

/-! ### Counters of the arbiter, several at once -/

/-- So many more WAITs sent. -/
def State.waitsCounted (n : Nat) (s : State) : State :=
  s.countSeg (fun k => { k with waitsSent := k.waitsSent + BitVec.ofNat 32 n })

theorem State.countSeg_countSeg (s : State) (f g : SegmentCounters → SegmentCounters) :
    (s.countSeg f).countSeg g = s.countSeg (fun k => g (f k)) := rfl

/-- So many more entries refused. -/
def State.refusalsCounted (n : Nat) (s : State) : State :=
  s.countSeg (fun k => { k with entryRefusals := k.entryRefusals + BitVec.ofNat 32 n })

/-- So many more PROXIMITY notices sent. -/
def State.noticesCounted (n : Nat) (s : State) : State :=
  s.countSeg (fun k => { k with proximityNotices := k.proximityNotices + BitVec.ofNat 32 n })

theorem State.waitsCounted_zero (s : State) : s.waitsCounted 0 = s := by
  simp only [State.waitsCounted, counter_add_ofNat_zero]
  rfl

theorem State.waitsCounted_one (s : State) (n : Nat) : (s.waitsCounted 1).waitsCounted n = s.waitsCounted (n + 1) := by
  rw [State.waitsCounted, State.waitsCounted, State.countSeg_countSeg, State.waitsCounted]
  exact congrArg s.countSeg (funext fun k => by rw [← counter_add_one_add k.waitsSent n]; rfl)

theorem State.refusalsCounted_zero (s : State) : s.refusalsCounted 0 = s := by
  simp only [State.refusalsCounted, counter_add_ofNat_zero]
  rfl

theorem State.refusalsCounted_one (s : State) (n : Nat) : (s.refusalsCounted 1).refusalsCounted n = s.refusalsCounted (n + 1) := by
  rw [State.refusalsCounted, State.refusalsCounted, State.countSeg_countSeg, State.refusalsCounted]
  exact congrArg s.countSeg (funext fun k => by rw [← counter_add_one_add k.entryRefusals n]; rfl)

theorem State.noticesCounted_zero (s : State) : s.noticesCounted 0 = s := by
  simp only [State.noticesCounted, counter_add_ofNat_zero]
  rfl

theorem State.noticesCounted_one (s : State) (n : Nat) : (s.noticesCounted 1).noticesCounted n = s.noticesCounted (n + 1) := by
  rw [State.noticesCounted, State.noticesCounted, State.countSeg_countSeg, State.noticesCounted]
  exact congrArg s.countSeg (funext fun k => by rw [← counter_add_one_add k.proximityNotices n]; rfl)

section

variable {s : State} (h : s.nodeAddr?.isSome = true)
include h

theorem State.sendGrant_eq (v : Addr) : s.sendGrant v = ({ s with seg := { s.seg with counters := { s.seg.counters with
    grantsSent := s.seg.counters.grantsSent + 1 } } } : State).originate ⟨.grant, v, wordBytes v ++ [s.params.lease.byte]⟩ :=
  State.originateCounted_of_isSome h _ _

theorem State.sendWait_eq (v : Addr) (n : Nat) :
    s.sendWait v n = (s.waitsCounted 1).originate ⟨.wait, v, wordBytes v ++ [byteOf n]⟩ :=
  State.originateCounted_of_isSome h _ _

theorem State.sendRefusal_eq (v : Addr) (c : EntryRefusal) :
    s.sendRefusal v c = (s.refusalsCounted 1).originate ⟨.refuseEntry, v, wordBytes v ++ [byteOf c.code]⟩ :=
  State.originateCounted_of_isSome h _ _

theorem State.sendProximity_eq (v : Addr) :
    s.sendProximity v = (s.noticesCounted 1).originate ⟨.proximity, v, [byteOf s.seg.minerCount]⟩ :=
  State.originateCounted_of_isSome h _ _

theorem State.sendWithdraw_eq (v : Addr) : s.sendWithdraw v = s.withdrawSent v := by
  unfold State.sendWithdraw State.withdrawSent
  by_cases hsent : v ∈ s.scratch.withdrawn
  · rw [if_pos (List.contains_iff_mem.mpr hsent), if_pos hsent]
  · rw [if_neg (mt List.contains_iff_mem.mp hsent), if_neg hsent, State.originateCounted_of_isSome h]
    rfl

theorem State.withdrawSent_isSome (v : Addr) : (s.withdrawSent v).nodeAddr?.isSome = true := by
  unfold State.withdrawSent
  split
  · exact h
  · rw [State.originate_nodeAddr?]
    exact h

/-! ### A grant -/

/-- A segment has become a vehicle's, and its GRANT has been sent. -/
def State.granted (s : State) (t : Truck) : State :=
  ({ s with seg := { s.seg with
      state := .held, holder := some t, holderHere := s.isHere t.vehicle, lease := some (s.now + s.params.lease.ms)
      counters := { s.seg.counters with grantsSent := s.seg.counters.grantsSent + 1 } } } : State).originate
        ⟨.grant, t.vehicle, wordBytes t.vehicle ++ [s.params.lease.byte]⟩

omit h in
theorem State.grantedTo_eq (t : Truck) : s.grantedTo t = if s.isHere t.vehicle = true ∧ 1 ≤ s.seg.minerCount then
    (s.granted t).proximitySent (t.vehicle :: minersOnRadio s.table.entries) s.seg.minerCount else s.granted t := rfl

/-! ### Notices to several stations -/

theorem State.sendWaits_eq (done : Nat) (q : List Truck) : s.sendWaits done q = s.waitsSent (done + 1) q := by
  have hfold (k : Nat) (t : State) (ht : t.nodeAddr?.isSome = true) : t.sendWaits (done + k) q
      = (q.zipIdx k).foldl (fun t w => (t.waitsCounted 1).originate
        ⟨.wait, w.1.vehicle, wordBytes w.1.vehicle ++ [byteOf (done + 1 + w.2)]⟩) t := by
    induction q generalizing k t with
    | nil => rfl
    | cons x q ih =>
      have hnext : ((t.waitsCounted 1).originate
          ⟨.wait, x.vehicle, wordBytes x.vehicle ++ [byteOf (done + k + 1)]⟩).nodeAddr?.isSome = true := by
        rw [State.originate_nodeAddr?]
        exact ht
      rw [State.sendWaits, State.sendWait_eq ht, List.zipIdx_cons, List.foldl_cons]
      refine (ih (k + 1) _ hnext).trans ?_
      rw [show done + k + 1 = done + 1 + k from by omega]
  refine (hfold 0 s h).trans ?_
  rw [foldl_counted State.waitsCounted (fun w : Truck × Nat => ⟨.wait, w.1.vehicle,
    wordBytes w.1.vehicle ++ [byteOf (done + 1 + w.2)]⟩) State.waitsCounted_zero (fun n t => t.waitsCounted_one n)
    (fun _ _ _ => rfl), List.length_zipIdx]
  rfl

theorem State.refuseAll_eq (q : List Truck) : s.refuseAll q = q.foldl (fun t w => t.originate
    ⟨.refuseEntry, w.vehicle, wordBytes w.vehicle ++ [0]⟩) (s.refusalsCounted q.length) := by
  rw [← foldl_counted State.refusalsCounted (fun w : Truck => ⟨.refuseEntry, w.vehicle, wordBytes w.vehicle ++ [0]⟩)
    State.refusalsCounted_zero (fun n t => t.refusalsCounted_one n) (fun _ _ _ => rfl)]
  refine foldl_congr_of (P := fun t => t.nodeAddr?.isSome = true) h fun t ht w _ => ⟨State.sendRefusal_eq ht _ _, ?_⟩
  rw [State.originate_nodeAddr?]
  exact ht

omit h in
theorem State.setSegQueue_foldl_originate {α : Type} (m : α → Message) (l : List α) (s : State) (q : List Truck) :
    (l.foldl (fun t x => t.originate (m x)) s).setSegQueue q = l.foldl (fun t x => t.originate (m x)) (s.setSegQueue q) :=
  (List.foldl_hom (fun t : State => t.setSegQueue q) fun _ _ => rfl).symm

theorem State.queueRefused_eq : (s.refuseAll s.seg.queue).setSegQueue [] = s.queueRefused := by
  rw [State.refuseAll_eq h, State.setSegQueue_foldl_originate]
  rfl

/-- PROXIMITY notices to stations, in order. -/
theorem State.foldl_sendProximity (l : List Addr) : l.foldl State.sendProximity s = s.proximitySent l s.seg.minerCount := by
  have hfold : l.foldl State.sendProximity s = l.foldl (fun t a => (t.noticesCounted 1).originate
      ⟨.proximity, a, [byteOf s.seg.minerCount]⟩) s := by
    refine foldl_congr_of (P := fun t => t.nodeAddr?.isSome = true ∧ t.seg.minerCount = s.seg.minerCount) ⟨h, rfl⟩
      fun t ht a _ => ⟨?_, ?_, ht.2⟩
    · rw [State.sendProximity_eq ht.1, ht.2]
    · rw [State.originate_nodeAddr?]
      exact ht.1
  rw [hfold, foldl_counted State.noticesCounted (fun a : Addr => ⟨.proximity, a, [byteOf s.seg.minerCount]⟩)
    State.noticesCounted_zero (fun n t => t.noticesCounted_one n) (fun _ _ _ => rfl)]
  rfl

theorem State.proximityStarts_eq {t : Truck} (ht : s.seg.holder = some t) :
    s.proximityStarts = s.proximitySent (t.vehicle :: minersOnRadio s.table.entries) s.seg.minerCount := by
  rw [← State.foldl_sendProximity h, List.foldl_cons, State.proximityStarts, State.sendProximityHolder, ht, minersOnRadio,
    List.foldl_map]
  rfl

/-- A grant to a vehicle of a segment without a holder. -/
theorem State.grantTo_eq (hholder : s.seg.holder = none) (t : Truck) : s.grantTo t = s.grantedTo t := by
  have hwas : s.seg.proximity = false := by rw [Segment.proximity, hholder]; rfl
  have hstart : (((s.setSegState .held).setHolder t).startLease).nodeAddr?.isSome = true := h
  have hbefore : s.grantTo t = ((((s.setSegState .held).setHolder t).startLease.sendGrant t.vehicle).setHolderHere
      (s.isHere t.vehicle)).proximityFollows false := by
    rw [← hwas]
    rfl
  rw [hbefore, State.sendGrant_eq hstart]
  have hown : (s.granted t).nodeAddr?.isSome = true := by
    rw [State.granted, State.originate_nodeAddr?]
    exact h
  have hcondition : (s.granted t).seg.proximity = (s.isHere t.vehicle && decide (1 ≤ s.seg.minerCount)) := rfl
  have hproximity : (s.granted t).seg.proximity = true ↔ s.isHere t.vehicle = true ∧ 1 ≤ s.seg.minerCount := by
    rw [hcondition, Bool.and_eq_true, decide_eq_true_iff]
  refine Eq.trans (b := (s.granted t).proximityFollows false) rfl ?_
  rw [State.grantedTo_eq, State.proximityFollows]
  by_cases hstarts : s.isHere t.vehicle = true ∧ 1 ≤ s.seg.minerCount
  · rw [if_pos hstarts, hproximity.mpr hstarts, State.proximityStarts_eq hown (t := t) rfl]
    rfl
  · rw [if_neg hstarts, Bool.eq_false_iff.mpr (mt hproximity.mp hstarts)]
    rfl

theorem State.segCloses_eq (c : Causes) : (s.setCauses c).segCloses = s.segmentClosedBy c := by
  have hrefuse (t : State) (ht : t.nodeAddr?.isSome = true) : (t.refuseAll t.seg.queue).setSegQueue [] = t.queueRefused :=
    t.queueRefused_eq ht
  have hkept {x : SegmentState} (hx : s.seg.state = x) :
      s.setCauses c = { s with seg := { s.seg with causes := c, state := x } } := by
    rw [← hx]
    rfl
  unfold State.segCloses State.segmentClosedBy
  rw [show (s.setCauses c).seg.state = s.seg.state from rfl, show (s.setCauses c).seg.holder = s.seg.holder from rfl]
  cases hstate : s.seg.state with
  | free => exact hrefuse _ h
  | held =>
    cases hholder : s.seg.holder with
    | none => exact (hrefuse (s.setCauses c) h).trans (congrArg State.queueRefused (hkept hstate))
    | some t =>
      simp only
      rw [State.sendWithdraw_eq (s := (s.setCauses c).setSegState .draining) h]
      exact hrefuse _ (State.withdrawSent_isSome (s := (s.setCauses c).setSegState .draining) h t.vehicle)
  | draining => exact (hrefuse (s.setCauses c) h).trans (congrArg State.queueRefused (hkept hstate))
  | lost => exact (hrefuse (s.setCauses c) h).trans (congrArg State.queueRefused (hkept hstate))
  | closed => exact (hrefuse (s.setCauses c) h).trans (congrArg State.queueRefused (hkept hstate))

/-- The last cause of a segment goes; CLOSED, it holds no queue. -/
theorem State.segOpens_eq (c : Causes) (hqueue : s.seg.state = .closed → s.seg.queue = []) :
    (s.setCauses c).segOpens = s.segmentOpenedBy c := by
  have hkept {x : SegmentState} (hx : s.seg.state = x) :
      s.setCauses c = { s with seg := { s.seg with causes := c, state := x } } := by
    rw [← hx]
    rfl
  unfold State.segOpens State.segmentOpenedBy
  rw [show (s.setCauses c).seg.state = s.seg.state from rfl, show (s.setCauses c).seg.holder = s.seg.holder from rfl]
  cases hstate : s.seg.state with
  | free => exact hkept hstate
  | held => exact hkept hstate
  | draining =>
    cases hholder : s.seg.holder with
    | none => exact hkept hstate
    | some t => exact State.sendGrant_eq (s := ((s.setCauses c).setSegState .held).startLease) h t.vehicle
  | lost => exact hkept hstate
  | closed =>
    have hempty : (s.setCauses c).seg.queue = [] := hqueue hstate
    rw [State.becomeFree, hempty]
    rfl

end

end Sys2Proof.Machine

end

section

set_option Elab.async false

/-! PROOF. CLOSE, OPEN and RELEASE SEGMENT and a new zone grade (R120, R128 to R132). -/

namespace Sys2Proof.Machine

/-! ### Messages sent change the ports alone -/

theorem State.foldl_originate_eq {α : Type} (m : α → Message) (l : List α) (s : State) :
    l.foldl (fun t x => t.originate (m x)) s
      = { s with net := (l.foldl (fun t x => t.originate (m x)) s).net } := by
  induction l generalizing s with
  | nil => rfl
  | cons x l ih =>
    rw [List.foldl_cons, ih]
    rfl

theorem State.foldl_originate_nodeAddr? {α : Type} (m : α → Message) (l : List α) (s : State) :
    (l.foldl (fun t x => t.originate (m x)) s).nodeAddr? = s.nodeAddr? := by
  induction l generalizing s with
  | nil => rfl
  | cons x l ih => rw [List.foldl_cons, ih, State.originate_nodeAddr?]

section

variable (s : State)

theorem State.proximitySent_nodeAddr? (l : List Addr) (n : Nat) : (s.proximitySent l n).nodeAddr? = s.nodeAddr? :=
  State.foldl_originate_nodeAddr? _ _ _

theorem State.queueRefused_seg : s.queueRefused.seg = { s.seg with
    queue := []
    counters := { s.seg.counters with
      entryRefusals := s.seg.counters.entryRefusals + BitVec.ofNat 32 s.seg.queue.length } } := by
  rw [State.queueRefused, State.foldl_originate_eq]

theorem State.queueRefused_mgmt : s.queueRefused.mgmt = s.mgmt := by
  rw [State.queueRefused, State.foldl_originate_eq]

theorem State.withdrawSent_fresh {v : Addr} (h : s.scratch.withdrawn = []) : s.withdrawSent v = (({ s with
    scratch := { s.scratch with withdrawn := [v] }
    seg := { s.seg with counters := { s.seg.counters with
      withdrawsSent := s.seg.counters.withdrawsSent + 1 } } } : State).setFlag Flag.withdraw).originate
        ⟨.withdraw, v, wordBytes v⟩ := by
  unfold State.withdrawSent
  rw [if_neg (by simp [h]), h]

theorem State.withdrawSent_flagged {v : Addr} (h : s.scratch.withdrawn = []) : (s.withdrawSent v).Flagged Flag.withdraw := by
  rw [s.withdrawSent_fresh h]
  exact State.Flagged.unchanged (s := State.setFlag _ Flag.withdraw) (State.flagSet_setFlag_self _ (by decide)) rfl

theorem State.withdrawSent_seg {v : Addr} (h : s.scratch.withdrawn = []) : (s.withdrawSent v).seg = { s.seg with
    counters := { s.seg.counters with withdrawsSent := s.seg.counters.withdrawsSent + 1 } } := by
  rw [s.withdrawSent_fresh h]
  simp

/-- The holder is told to withdraw, the queue refused. -/
theorem State.withdrawSent_queueRefused {s : State} {v : Addr} (h : s.scratch.withdrawn = []) :
    (s.withdrawSent v).queueRefused.seg = { s.seg with
      queue := []
      counters := { s.seg.counters with
        entryRefusals := s.seg.counters.entryRefusals + BitVec.ofNat 32 s.seg.queue.length
        withdrawsSent := s.seg.counters.withdrawsSent + 1 } }
    ∧ (s.withdrawSent v).queueRefused.Flagged Flag.withdraw := by
  refine ⟨?_, (s.withdrawSent_flagged h).unchanged (by rw [State.queueRefused_mgmt])⟩
  rw [State.queueRefused_seg, s.withdrawSent_seg h]

end

section

variable {s : State} (h : s.SegKept)
include h

theorem State.SegKept.holder_of_held (hstate : s.seg.state = .held) : ∃ t, s.seg.holder = some t := by
  have hshape := h.shape
  rw [hstate] at hshape
  exact Option.isSome_iff_exists.mp hshape.1

theorem State.SegKept.holder_of_draining (hstate : s.seg.state = .draining) :
    (∃ t, s.seg.holder = some t) ∧ s.seg.causes.any = true := by
  have hshape := h.shape
  rw [hstate] at hshape
  exact ⟨Option.isSome_iff_exists.mp hshape.1, hshape.2.1⟩

/-- What the closing leaves of the segment, where this event has told nobody to withdraw yet. -/
theorem State.SegKept.segmentClosedBy_seg (hfresh : s.scratch.withdrawn = []) (c : Causes) :
    (s.segmentClosedBy c).seg = { s.seg with
      causes := c, queue := []
      state := (match s.seg.state with
        | .free => .closed
        | .held => .draining
        | x => x)
      counters := { s.seg.counters with
        entryRefusals := s.seg.counters.entryRefusals + BitVec.ofNat 32 s.seg.queue.length
        withdrawsSent := s.seg.counters.withdrawsSent + (if s.seg.state = .held then 1 else 0) } }
    ∧ (s.seg.state = .held → (s.segmentClosedBy c).Flagged Flag.withdraw) := by
  unfold State.segmentClosedBy
  cases hstate : s.seg.state with
  | free => exact ⟨by rw [State.queueRefused_seg]; simp, nofun⟩
  | held =>
    obtain ⟨t, ht⟩ := h.holder_of_held hstate
    simp only [ht]
    obtain ⟨hseg, hflagged⟩ := State.withdrawSent_queueRefused (s := { s with seg := { s.seg with
      causes := c, state := .draining } }) (v := t.vehicle) hfresh
    simp only [ht] at hseg hflagged
    exact ⟨hseg, fun _ => hflagged⟩
  | draining => exact ⟨by simp only [State.queueRefused_seg]; simp, nofun⟩
  | lost => exact ⟨by simp only [State.queueRefused_seg]; simp, nofun⟩
  | closed => exact ⟨by simp only [State.queueRefused_seg]; simp, nofun⟩

theorem State.SegKept.segmentOpenedBy_seg (c : Causes) : (s.segmentOpenedBy c).seg = { s.seg with
    causes := c
    state := (match s.seg.state with
      | .closed => .free
      | .draining => .held
      | x => x)
    lease := (if s.seg.state = .draining then some (s.now + s.params.lease.ms) else s.seg.lease)
    counters := { s.seg.counters with
      grantsSent := s.seg.counters.grantsSent + (if s.seg.state = .draining then 1 else 0) } } := by
  unfold State.segmentOpenedBy
  cases hstate : s.seg.state with
  | draining =>
    obtain ⟨⟨t, ht⟩, -⟩ := h.holder_of_draining hstate
    simp only [ht]
    rfl
  | free => simp
  | held => simp
  | lost => simp
  | closed => simp

theorem State.SegKept.queue_of_closed (hstate : s.seg.state = .closed) : s.seg.queue = [] := by
  have hshape := h.shape
  rw [hstate] at hshape
  exact hshape.2.2.1

end

/-! ### A change of the causes (R120) -/

section

variable {s : State} {c : Causes}

theorem State.changeCauses_same (h : c.any = s.seg.causes.any) : s.changeCauses c = s.setCauses c := by
  unfold State.changeCauses
  rw [h]
  cases s.seg.causes.any <;> rfl

theorem State.changeCauses_closes (hown : s.nodeAddr?.isSome = true) (hbefore : s.seg.causes.any = false)
    (hafter : c.any = true) : s.changeCauses c = s.segmentClosedBy c := by
  rw [← State.segCloses_eq hown]
  unfold State.changeCauses
  rw [hbefore, hafter]
  rfl

theorem State.changeCauses_opens (hown : s.nodeAddr?.isSome = true) (hbefore : s.seg.causes.any = true)
    (hafter : c.any = false) (hqueue : s.seg.state = .closed → s.seg.queue = []) :
    s.changeCauses c = s.segmentOpenedBy c := by
  rw [← State.segOpens_eq hown c hqueue]
  unfold State.changeCauses
  rw [hbefore, hafter]
  rfl

end

/-! ### A segment without a holder (R127, R128, R132) -/

section

variable {s : State}

theorem State.becomeFree_empty (h : s.seg.queue = []) : s.becomeFree = s.setSegState .free := by
  rw [State.becomeFree, h]

theorem State.grantedTo_isSome (h : s.nodeAddr?.isSome = true) (t : Truck) : (s.grantedTo t).nodeAddr?.isSome = true := by
  rw [State.grantedTo_eq, State.granted]
  split
  · rw [State.proximitySent_nodeAddr?, State.originate_nodeAddr?]
    exact h
  · rw [State.originate_nodeAddr?]
    exact h

theorem State.becomeFree_next (hown : s.nodeAddr?.isSome = true) (hholder : s.seg.holder = none) {t : Truck} {rest : List Truck}
    (h : s.seg.queue = t :: rest) :
    s.becomeFree = (({ s with seg := { s.seg with queue := rest } } : State).grantedTo t).waitsSent 1 rest := by
  have hgrant : ((s.setSegState .free).setSegQueue rest).grantTo t
      = ({ s with seg := { s.seg with queue := rest } } : State).grantedTo t :=
    State.grantTo_eq (s := (s.setSegState .free).setSegQueue rest) hown hholder t
  rw [State.becomeFree, h]
  simp only
  rw [hgrant, State.sendWaits_eq]
  exact State.grantedTo_isSome (s := s.setSegQueue rest) hown t

theorem State.vacate_closed (h : s.seg.causes.any = true) : s.vacate = s.removeHolder.setSegState .closed := by
  rw [State.vacate, h]
  rfl

theorem State.vacate_open (h : s.seg.causes.any = false) : s.vacate = s.removeHolder.becomeFree := by
  rw [State.vacate, h]
  rfl

end

/-! ### The parts of a state that the sent notices touch -/

theorem State.proximitySent_eq (s : State) (l : List Addr) (n : Nat) : ∃ m, s.proximitySent l n = { s with
    net := m
    seg := { s.seg with counters := { s.seg.counters with
      proximityNotices := s.seg.counters.proximityNotices + BitVec.ofNat 32 l.length } } } := by
  exact ⟨_, State.foldl_originate_eq _ _ _⟩

theorem State.waitsSent_eq (s : State) (first : Nat) (q : List Truck) : ∃ m, s.waitsSent first q = { s with
    net := m
    seg := { s.seg with counters := { s.seg.counters with
      waitsSent := s.seg.counters.waitsSent + BitVec.ofNat 32 q.length } } } := by
  exact ⟨_, State.foldl_originate_eq _ _ _⟩

theorem State.grantedTo_parts (s : State) (t : Truck) : ∃ m k, s.grantedTo t = { s with
    net := m
    seg := { s.seg with
      state := .held, holder := some t, holderHere := s.isHere t.vehicle, lease := some (s.now + s.params.lease.ms)
      counters := { s.seg.counters with grantsSent := s.seg.counters.grantsSent + 1, proximityNotices := k } } } := by
  rw [State.grantedTo_eq]
  split
  · obtain ⟨m, hm⟩ := (s.granted t).proximitySent_eq (t.vehicle :: minersOnRadio s.table.entries) s.seg.minerCount
    exact ⟨m, _, hm⟩
  · exact ⟨_, _, rfl⟩

/-- What the next holder's grant and the WAITs behind it leave. -/
theorem State.nextGranted_parts (s : State) (t : Truck) (rest : List Truck) : ∃ m k,
    ((({ s with seg := { s.seg with queue := rest } } : State).grantedTo t).waitsSent 1 rest) = { s with
      net := m
      seg := { s.seg with
        queue := rest, state := .held, holder := some t, holderHere := s.isHere t.vehicle
        lease := some (s.now + s.params.lease.ms)
        counters := { s.seg.counters with
          grantsSent := s.seg.counters.grantsSent + 1, proximityNotices := k
          waitsSent := s.seg.counters.waitsSent + BitVec.ofNat 32 rest.length } } } := by
  obtain ⟨m, k, hgrant⟩ := State.grantedTo_parts { s with seg := { s.seg with queue := rest } } t
  obtain ⟨m', hwaits⟩ := State.waitsSent_eq (State.grantedTo { s with seg := { s.seg with queue := rest } } t) 1 rest
  refine ⟨m', k, hwaits.trans ?_⟩
  rw [hgrant]
  rfl

theorem State.removeHolder_of_none {s : State} (hholder : s.seg.holder = none) (hhere : s.seg.holderHere = false)
    (hlease : s.seg.lease = none) : s.removeHolder = s := by
  have hseg : ({ s.seg with holder := none, holderHere := false, lease := none } : Segment) = s.seg := by
    rw [← hholder, ← hhere, ← hlease]
  rw [State.removeHolder, hseg]

/-! ### The obligation -/

theorem State.Accepts.isSome {s : State} {rq : Request} (h : s.Accepts rq) : s.asTaken.nodeAddr?.isSome = true := h.1

theorem Causes.eq_of_any_eq_false {c : Causes} (h : c.any = false) : c = ⟨false, false, false⟩ := by
  obtain ⟨air, surface, startup⟩ := c
  simp only [Causes.any, Bool.or_eq_false_iff] at h
  simp [h]

theorem State.changeCauses_table_entries (s : State) (c : Causes) : (s.changeCauses c).table.entries = s.table.entries := by
  simp

section

variable {s : State} {rq : Request} (haccepts : s.Accepts rq)
include haccepts

theorem exec_closeSegment_of {u : State} (hu : s.asTaken.changeCauses { s.seg.causes with surface := true } = u) :
    exec (.closeSegment rq) s = .next (u.answerDone rq []).settled := by
  refine State.requestEvent_done_settled (f := fun u => u.closeSegment) haccepts
    (congrArg (fun v => (v, Verdict.done [])) hu) ?_
  rw [← hu]
  exact s.asTaken.changeCauses_table_entries _

theorem exec_openSegment_of {u : State}
    (hu : s.asTaken.changeCauses { s.seg.causes with surface := false, startup := false } = u) :
    exec (.openSegment rq) s = .next (u.answerDone rq []).settled := by
  refine State.requestEvent_done_settled (f := fun u => u.openSegment) haccepts
    (congrArg (fun v => (v, Verdict.done [])) hu) ?_
  rw [← hu]
  exact s.asTaken.changeCauses_table_entries _

/-- Closing a segment that no cause closed. -/
theorem exec_closeSegment_closes (hany : s.seg.causes.any = false) :
    ∃ u : State, exec (.closeSegment rq) s = .next (u.answerDone rq []).settled
      ∧ u = s.asTaken.changeCauses ⟨false, true, false⟩
      ∧ u = s.asTaken.segmentClosedBy ⟨false, true, false⟩ := by
  have hcauses : ({ s.seg.causes with surface := true } : Causes) = ⟨false, true, false⟩ := by
    rw [Causes.eq_of_any_eq_false hany]
  exact ⟨_, exec_closeSegment_of haccepts (hcauses ▸ rfl), rfl, State.changeCauses_closes haccepts.isSome hany rfl⟩

/-- Opening a segment that the air does not close. -/
theorem exec_openSegment_opens (hair : s.seg.causes.air = false) (hany : s.seg.causes.any = true) (hkept : s.asTaken.SegKept) :
    ∃ u : State, exec (.openSegment rq) s = .next (u.answerDone rq []).settled
      ∧ u = s.asTaken.changeCauses ⟨false, false, false⟩
      ∧ u = s.asTaken.segmentOpenedBy ⟨false, false, false⟩ := by
  have hcauses : ({ s.seg.causes with surface := false, startup := false } : Causes) = ⟨false, false, false⟩ := by
    simp only [hair]
  exact ⟨_, exec_openSegment_of haccepts (hcauses ▸ rfl), rfl,
    State.changeCauses_opens haccepts.isSome hany rfl hkept.queue_of_closed⟩

end

/-- The lost holder is told to withdraw and is gone. -/
def State.holderGone (s : State) (v : Addr) : State :=
  (({ s with seg := { s.seg with holder := none, holderHere := false, lease := none } } : State).withdrawSent v).setFlag
    Flag.released

section

variable {s : State} {v : Addr}

theorem State.holderGone_seg (h : s.scratch.withdrawn = []) : (s.holderGone v).seg = { s.seg with
    holder := none, holderHere := false, lease := none
    counters := { s.seg.counters with withdrawsSent := s.seg.counters.withdrawsSent + 1 } } := by
  have hsent := State.withdrawSent_seg (v := v)
    ({ s with seg := { s.seg with holder := none, holderHere := false, lease := none } } : State) h
  rw [State.holderGone, ← hsent]
  simp

theorem State.holderGone_flagged (h : s.scratch.withdrawn = []) :
    (s.holderGone v).Flagged Flag.released ∧ (s.holderGone v).Flagged Flag.withdraw :=
  ⟨State.flagSet_setFlag_self _ (by decide), (State.withdrawSent_flagged (s :=
    { s with seg := { s.seg with holder := none, holderHere := false, lease := none } }) h).setFlag _⟩

theorem State.holderGone_isSome (h : s.nodeAddr?.isSome = true) : (s.holderGone v).nodeAddr?.isSome = true :=
  State.withdrawSent_isSome (s := { s with seg := { s.seg with holder := none, holderHere := false, lease := none } }) h v

theorem State.releaseHolder_eq (hown : s.nodeAddr?.isSome = true) {t : Truck} (ht : s.seg.holder = some t) :
    s.releaseHolder = (s.holderGone t.vehicle).vacate := by
  rw [State.releaseHolder, ht]
  exact congrArg (fun u => (u.setFlag Flag.released).vacate) (State.sendWithdraw_eq (s := s.removeHolder) hown t.vehicle)

theorem State.holderGone_frame (hfresh : s.scratch.withdrawn = []) :
    (s.holderGone v).seg.causes = s.seg.causes ∧ (s.holderGone v).removeHolder = s.holderGone v := by
  have hseg := State.holderGone_seg (v := v) hfresh
  exact ⟨by rw [hseg], State.removeHolder_of_none (by rw [hseg]) (by rw [hseg]) (by rw [hseg])⟩

end

theorem State.holderGone_clock {s : State} {v : Addr} (hfresh : s.scratch.withdrawn = []) :
    (s.holderGone v).now = s.now ∧ (s.holderGone v).params = s.params := by
  rw [State.holderGone, State.withdrawSent_fresh (s := ({ s with seg := { s.seg with
    holder := none, holderHere := false, lease := none } } : State)) hfresh]
  simp [State.params]

/-- A new zone grade changes the AIR cause alone, unless a draining segment reaches TRIP (R120, R130). -/
theorem State.segZone_eq_changeCauses {s : State} {old new : Grade}
    (h : ¬ (s.seg.state = .draining ∧ new = .trip ∧ old ≠ .trip)) :
    s.segZone old new = s.changeCauses { s.seg.causes with air := new == .alarm || new == .trip } := by
  rw [← Grade.atLeast_alarm]
  unfold State.segZone
  refine if_neg ?_
  rintro ⟨htrip, hbefore, hdraining, -⟩
  exact h ⟨by simpa using hdraining, htrip, hbefore⟩

/-- A draining segment whose zone rises to TRIP withdraws its holder again (R130). -/
theorem State.segZone_withdraws {s : State} {old : Grade} {t : Truck} (hown : s.nodeAddr?.isSome = true)
    (hholder : s.seg.holder = some t) (hstate : s.seg.state = .draining) (hany : s.seg.causes.any = true)
    (hbefore : old ≠ .trip) : s.segZone old .trip = (s.setCauses { s.seg.causes with air := true }).withdrawSent t.vehicle := by
  have hchanged : s.changeCauses { s.seg.causes with air := Grade.trip.atLeast .alarm }
      = s.setCauses { s.seg.causes with air := true } := by
    refine State.changeCauses_same ?_
    exact (by simp [Causes.any, Grade.atLeast_alarm] :
      Causes.any { s.seg.causes with air := Grade.trip.atLeast .alarm } = true).trans hany.symm
  unfold State.segZone
  rw [hchanged]
  have hdraining : (s.setCauses { s.seg.causes with air := true }).seg.state = .draining := hstate
  have hthere : (s.setCauses { s.seg.causes with air := true }).seg.holder = some t := hholder
  simp only
  rw [if_pos ⟨trivial, hbefore, by simp [hstate], hdraining⟩, hthere]
  exact State.sendWithdraw_eq (s := s.setCauses { s.seg.causes with air := true }) hown t.vehicle

/-- Settles O35. -/
theorem segmentClosedOpenedReleased : Obligations.SegmentClosedOpenedReleased := by
  refine ⟨fun s rq haccepts => ?_, fun s rq haccepts => ⟨fun hstate => ?_, fun t hstate hholder => ?_⟩,
    fun s old hown hsound => ?_⟩
  · have hkept (hsound : s.SegmentSound) : s.asTaken.SegKept :=
      (s.segmentSound_iff.mp hsound).1.unchanged rfl rfl rfl rfl rfl
    refine ⟨fun hany => ?_, fun hany hsound => ?_, fun hcauses => ?_, fun hair hany hsound => ?_⟩
    · refine exec_closeSegment_of haccepts (State.changeCauses_same ?_)
      exact (by simp [Causes.any] : Causes.any { s.seg.causes with surface := true } = true).trans hany.symm
    · obtain ⟨u, hexec, hu, hwords⟩ := exec_closeSegment_closes haccepts hany
      obtain ⟨hseg, hflag⟩ := (hkept hsound).segmentClosedBy_seg rfl ⟨false, true, false⟩
      refine ⟨u, hexec, hwords ▸ hseg, fun hheld => hwords ▸ hflag hheld, hwords, ?_⟩
      rw [hu]
      simp
    · refine exec_openSegment_of haccepts (State.changeCauses_same ?_)
      show Causes.any { s.seg.causes with surface := false, startup := false } = s.seg.causes.any
      rcases hcauses with hair | hany
      · simp [Causes.any, hair]
      · rw [Causes.eq_of_any_eq_false hany]
    · obtain ⟨u, hexec, hu, hwords⟩ := exec_openSegment_opens haccepts hair hany (hkept hsound)
      have hseg := (hkept hsound).segmentOpenedBy_seg ⟨false, false, false⟩
      refine ⟨u, hexec, hwords ▸ hseg, hwords, ?_⟩
      rw [hu]
      simp
  · exact State.requestEvent_refused (f := fun u => u.releaseSegment) haccepts (by decide) (if_neg hstate)
  · have hreleased : s.asTaken.releaseSegment = ((s.asTaken.holderGone t.vehicle).vacate, .done []) := by
      rw [← State.releaseHolder_eq haccepts.isSome hholder]
      exact if_pos hstate
    have hframe : (s.asTaken.holderGone t.vehicle).vacate.table.entries = s.table.entries
        ∧ (s.asTaken.holderGone t.vehicle).vacate.seg.causes = s.seg.causes
        ∧ (s.asTaken.holderGone t.vehicle).vacate.seg.minerCount = s.seg.minerCount
        ∧ (s.asTaken.holderGone t.vehicle).vacate.air = s.air ∧ (s.asTaken.holderGone t.vehicle).vacate.table = s.table
        ∧ (s.asTaken.holderGone t.vehicle).vacate.calls = s.calls ∧ (s.asTaken.holderGone t.vehicle).vacate.evac = s.evac
        ∧ (s.asTaken.holderGone t.vehicle).vacate.poller = s.poller
        ∧ (s.asTaken.holderGone t.vehicle).vacate.supply = s.supply
        ∧ (s.asTaken.holderGone t.vehicle).vacate.integ = s.integ := by
      rw [← State.releaseHolder_eq haccepts.isSome hholder]
      simp
    obtain ⟨hentries, hcauses, hminers, hothers⟩ := hframe
    have hseg := State.holderGone_seg (s := s.asTaken) (v := t.vehicle) rfl
    have hflags := State.holderGone_flagged (s := s.asTaken) (v := t.vehicle) rfl
    have hremoved := (State.holderGone_frame (s := s.asTaken) (v := t.vehicle) rfl).2
    have hown := State.holderGone_isSome (v := t.vehicle) haccepts.isSome
    obtain ⟨hnow, hparams⟩ := State.holderGone_clock (s := s.asTaken) (v := t.vehicle) rfl
    have hexec := State.requestEvent_done_settled (r := false) (f := fun u => u.releaseSegment) haccepts hreleased hentries
    generalize hgone : s.asTaken.holderGone t.vehicle = gone at hcauses hminers hothers hseg hflags hremoved hown hnow hparams hexec
    have hclosed (hany : s.seg.causes.any = true) : gone.vacate = gone.setSegState .closed := by
      rw [State.vacate_closed (by rw [hseg]; exact hany), hremoved]
    have hfree (hany : s.seg.causes.any = false) (hqueue : s.seg.queue = []) : gone.vacate = gone.setSegState .free := by
      rw [State.vacate_open (by rw [hseg]; exact hany), hremoved, State.becomeFree_empty (by rw [hseg]; exact hqueue)]
    have hnext (n : Truck) (rest : List Truck) (hany : s.seg.causes.any = false) (hqueue : s.seg.queue = n :: rest) :
        gone.vacate = (({ gone with seg := { gone.seg with queue := rest } } : State).grantedTo n).waitsSent 1 rest := by
      rw [State.vacate_open (by rw [hseg]; exact hany), hremoved,
        State.becomeFree_next hown (by rw [hseg]) (by rw [hseg]; exact hqueue)]
    have hmgmt : gone.vacate.mgmt.attention = gone.mgmt.attention := by simp
    have hparts (n : Truck) (rest : List Truck) (hany : s.seg.causes.any = false) (hqueue : s.seg.queue = n :: rest) :=
      (hnext n rest hany hqueue).symm ▸ gone.nextGranted_parts n rest
    have hwithdraws : gone.vacate.seg.counters.withdrawsSent = s.seg.counters.withdrawsSent + 1 := by
      have hsent : gone.seg.counters.withdrawsSent = s.seg.counters.withdrawsSent + 1 := by rw [hseg]; rfl
      rw [← hsent]
      cases hany : s.seg.causes.any with
      | true => rw [hclosed hany]; rfl
      | false =>
        cases hqueue : s.seg.queue with
        | nil => rw [hfree hany hqueue]; rfl
        | cons n rest =>
          obtain ⟨m, k, hu⟩ := hparts n rest hany hqueue
          rw [hu]
    refine ⟨gone.vacate, hexec, hflags.1.unchanged hmgmt, hflags.2.unchanged hmgmt, hcauses, hminers, hwithdraws,
      fun hany => ?_, fun hany hqueue => ?_, fun n rest hany hqueue => ?_, ⟨?_, ?_, ?_⟩, hothers⟩
    · rw [hclosed hany, State.setSegState, hseg]
      exact ⟨rfl, rfl, rfl, rfl⟩
    · rw [hfree hany hqueue, State.setSegState, hseg]
      exact ⟨rfl, rfl, rfl, hqueue⟩
    · obtain ⟨m, k, hu⟩ := hparts n rest hany hqueue
      rw [hu, hseg]
      exact ⟨rfl, rfl, rfl, by rw [hnow, hparams]; rfl, rfl, rfl⟩
    · exact fun hany => hgone ▸ hclosed hany
    · exact fun hany hqueue => hgone ▸ hfree hany hqueue
    · exact fun n rest hany hqueue => hgone ▸ hnext n rest hany hqueue
  · intro new causes u
    obtain ⟨hkept', hair⟩ := (State.segmentSound_iff _).mp hsound
    have hkept : s.SegKept := hkept'.unchanged rfl rfl rfl rfl rfl
    have hquiet (h : ¬ (s.seg.state = .draining ∧ new = .trip ∧ old ≠ .trip)) : u = s.changeCauses causes :=
      State.segZone_eq_changeCauses h
    refine ⟨fun hany hnot => (hquiet hnot).trans (State.changeCauses_same hany), fun t hholder hstate htrip hbefore => ?_,
      fun hbefore hafter => ?_, fun hbefore hafter => ?_⟩
    · have hcauses : causes = { s.seg.causes with air := true } := by
        show ({ s.seg.causes with air := new == .alarm || new == .trip } : Causes) = _
        rw [htrip]
        rfl
      have hu : u = s.segZone old .trip := congrArg (s.segZone old) htrip
      rw [hu, hcauses]
      exact State.segZone_withdraws hown hholder hstate (hkept.holder_of_draining hstate).2 hbefore
    · have hnot : ¬ (s.seg.state = .draining ∧ new = .trip ∧ old ≠ .trip) := by
        rintro ⟨hstate, -⟩
        rw [(hkept.holder_of_draining hstate).2] at hbefore
        exact absurd hbefore (by decide)
      exact (hquiet hnot).trans (State.changeCauses_closes hown hbefore hafter)
    · have hnot : ¬ (s.seg.state = .draining ∧ new = .trip ∧ old ≠ .trip) := by
        rintro ⟨-, htrip, -⟩
        have hset : causes.any = true := by
          show Causes.any { s.seg.causes with air := new == .alarm || new == .trip } = true
          rw [htrip]
          rfl
        rw [hset] at hafter
        exact absurd hafter (by decide)
      exact (hquiet hnot).trans (State.changeCauses_opens hown hbefore hafter hkept.queue_of_closed)

end Sys2Proof.Machine

end

section

set_option Elab.async false

/-! PROOF. Entry requests, exits, leases and PROXIMITY (R121 to R128, R133, R134). -/

namespace Sys2Proof.Machine

/-! ### Entry requests (R122, R123) -/

section

variable {s : State} (hown : s.nodeAddr?.isSome = true) (v : Addr) (d : Heading)
include hown

theorem State.joinQueue_again (h : s.seg.waits v = true) : (s.joinQueue v d).seg = { s.seg with
    queue := s.seg.queue.map (fun w => if w.vehicle = v then ⟨v, d⟩ else w)
    counters := { s.seg.counters with waitsSent := s.seg.counters.waitsSent + 1 } } := by
  rw [State.joinQueue, if_pos h, State.sendWait_eq]
  · rfl
  · exact hown

theorem State.joinQueue_behind (h : s.seg.waits v = false) (hroom : s.seg.queue.length < 4) :
    s.joinQueue v d = ({ s with seg := { s.seg with
      queue := s.seg.queue ++ [⟨v, d⟩]
      counters := { s.seg.counters with waitsSent := s.seg.counters.waitsSent + 1 } } } : State).originate
        ⟨.wait, v, wordBytes v ++ [byteOf (s.seg.queue.length + 1)]⟩ := by
  rw [State.joinQueue, h, if_pos hroom]
  exact State.sendWait_eq (s := s.setSegQueue (s.seg.queue ++ [⟨v, d⟩])) hown v _

theorem State.joinQueue_full (h : s.seg.waits v = false) (hfull : ¬ s.seg.queue.length < 4) :
    s.joinQueue v d = (({ s with seg := { s.seg with counters := { s.seg.counters with
      entryRefusals := s.seg.counters.entryRefusals + 1 } } } : State).originate
        ⟨.refuseEntry, v, wordBytes v ++ [1]⟩).setFlag Flag.queueFull := by
  rw [State.joinQueue, h, if_neg hfull, State.sendRefusal_eq hown]
  rfl

/-- A refusal because the segment is closed. -/
theorem State.sendRefusal_closed : s.sendRefusal v .closed = ({ s with seg := { s.seg with counters := { s.seg.counters with
    entryRefusals := s.seg.counters.entryRefusals + 1 } } } : State).originate ⟨.refuseEntry, v, wordBytes v ++ [0]⟩ :=
  State.sendRefusal_eq hown v .closed

end

/-! ### Exits (R127, R128) -/

theorem State.grantedTo_removeHolder (s : State) (t : Truck) : s.removeHolder.grantedTo t = s.grantedTo t := rfl

/-- A vehicle's own place in the queue. -/
theorem findIdx_queue {older younger : List Truck} {t : Truck} {v : Addr} (ht : t.vehicle = v)
    (holder : ∀ w ∈ older, w.vehicle ≠ v) :
    (older ++ t :: younger).findIdx (fun w => w.vehicle == v) = older.length := by
  have hbefore : older.findIdx (fun w => w.vehicle == v) = older.length :=
    List.findIdx_eq_length.mpr fun w hw => by simpa using holder w hw
  rw [List.findIdx_append, hbefore, if_neg (lt_irrefl _), List.findIdx_cons]
  simp [ht]

section

variable {s : State} (hown : s.nodeAddr?.isSome = true) {v : Addr}
include hown

theorem State.exitNotice_next (hholder : s.seg.heldBy v = true) (hany : s.seg.causes.any = false) {t : Truck} {rest : List Truck}
    (hqueue : s.seg.queue = t :: rest) :
    s.exitNotice v = (({ s with seg := { s.seg with queue := rest } } : State).grantedTo t).waitsSent 1 rest := by
  rw [State.exitNotice, if_pos hholder, State.vacate_open hany,
    State.becomeFree_next (s := s.removeHolder) hown rfl hqueue]
  rfl

theorem State.exitNotice_queued (hholder : s.seg.heldBy v = false) {older younger : List Truck} {t : Truck}
    (hqueue : s.seg.queue = older ++ t :: younger) (ht : t.vehicle = v) (hothers : ∀ w ∈ older, w.vehicle ≠ v) :
    s.exitNotice v = (s.setSegQueue (older ++ younger)).waitsSent (older.length + 1) younger := by
  have hwaits : s.seg.waits v = true := by
    rw [Segment.waits_iff, hqueue, ← ht]
    simp
  have hplace : s.seg.queue.findIdx (fun w => w.vehicle == v) = older.length := by
    rw [hqueue]
    exact findIdx_queue ht hothers
  have hleft : s.seg.queue.eraseIdx older.length = older ++ younger := by
    rw [hqueue, List.eraseIdx_append_of_length_le (le_refl _), Nat.sub_self]
    rfl
  rw [State.exitNotice, hholder, hwaits, hplace]
  show (s.setSegQueue (s.seg.queue.eraseIdx older.length)).sendWaits older.length
    (List.drop older.length (s.seg.queue.eraseIdx older.length)) = _
  rw [hleft, List.drop_left]
  exact State.sendWaits_eq (s := s.setSegQueue (older ++ younger)) hown older.length younger

end

theorem State.exitNotice_stray {s : State} {v : Addr} (hholder : s.seg.heldBy v = false) (hwaits : s.seg.waits v = false) :
    s.exitNotice v = { s with seg := { s.seg with counters := { s.seg.counters with
      strayExits := s.seg.counters.strayExits + 1 } } } := by
  rw [State.exitNotice, hholder, hwaits]
  rfl

/-! ### Their frames (R121) -/

section

variable {s : State} (hown : s.nodeAddr?.isSome = true) {p : Port} {f : Frame} {v : Addr}
include hown

theorem State.ifAddressed_of_isSome (h : State → State) : s.ifAddressed h = h s := by
  obtain ⟨own, hown⟩ := Option.isSome_iff_exists.mp hown
  rw [State.ifAddressed, hown]

theorem State.deliver_entryRequest {d : Heading} (hkind : f.kind? = some .entryRequest)
    (hpayload : f.payload = wordBytes v ++ [byteOf d.code]) :
    s.deliver p f = if isVehicle f.src = true ∧ v = f.src then s.entryRequest f.src d else s.badEntryFrame := by
  have hbytes : f.payload = [v.extractLsb' 8 8, v.extractLsb' 0 8, byteOf d.code] := hpayload
  have hfits : payloadFits .entryRequest f.payload = true := by
    rw [hbytes]
    cases d <;> rfl
  have hcode : Heading.ofCode (byteOf d.code).toNat = some d := by cases d <;> rfl
  rw [State.deliver_of_fits hkind hfits, State.hand, State.ifAddressed_of_isSome hown, State.entryFrame, hbytes]
  simp only [hcode, wordOf_highByte_lowByte]

theorem State.deliver_exitNotice (hkind : f.kind? = some .exitNotice) (hpayload : f.payload = wordBytes v) :
    s.deliver p f = if isVehicle f.src = true ∧ v = f.src then s.exitNotice f.src else s.badEntryFrame := by
  have hbytes : f.payload = [v.extractLsb' 8 8, v.extractLsb' 0 8] := hpayload
  have hfits : payloadFits .exitNotice f.payload = true := by
    rw [hbytes]
    rfl
  rw [State.deliver_of_fits hkind hfits, State.hand, State.ifAddressed_of_isSome hown, State.exitFrame, hbytes]
  simp only [wordOf_highByte_lowByte]

end

/-! ### PROXIMITY (R133, R134) -/

theorem State.originateCounted_of_none {s : State} (h : s.nodeAddr? = none) (count : State → State) (m : Message) :
    s.originateCounted count m = s := by
  rw [State.originateCounted, h]

section

variable {s : State} (h : s.nodeAddr? = none)
include h

theorem State.sendProximityHolder_of_none : s.sendProximityHolder = s := by
  unfold State.sendProximityHolder
  split
  · exact State.originateCounted_of_none h _ _
  · rfl

theorem State.proximityStarts_of_none : s.proximityStarts = s := by
  rw [State.proximityStarts, State.sendProximityHolder_of_none h]
  induction s.minersHere with
  | nil => rfl
  | cons e l ih => rw [List.foldl_cons, State.sendProximity, State.originateCounted_of_none h, ih]

end

theorem State.sendProximityHolder_eq {s : State} (hown : s.nodeAddr?.isSome = true) {t : Truck} (ht : s.seg.holder = some t) :
    s.sendProximityHolder = s.proximitySent [t.vehicle] s.seg.minerCount := by
  rw [State.sendProximityHolder, ht, ← State.foldl_sendProximity hown]
  rfl

theorem Segment.proximity_eq {g : Segment} {t : Truck} (ht : g.holder = some t) :
    g.proximity = (g.holderHere && decide (1 ≤ g.minerCount)) := by
  rw [Segment.proximity, ht]
  rfl

theorem Segment.proximity_iff (g : Segment) :
    g.proximity = true ↔ g.holder.isSome = true ∧ g.holderHere = true ∧ 1 ≤ g.minerCount := by
  rw [Segment.proximity, Bool.and_eq_true, Bool.and_eq_true, decide_eq_true_iff, and_assoc]

section

variable (s : State) (a : Addr)

/-- A miner comes or goes where nobody is to be told. -/
theorem State.segMiner_apart (h : ¬ (s.nodeAddr?.isSome = true ∧ s.seg.holder.isSome = true ∧ s.seg.holderHere = true)) :
    s.segMinerArrives a = s.setMinerCount (s.seg.minerCount + 1) ∧ s.segMinerLeaves = s.setMinerCount (s.seg.minerCount - 1) := by
  have hnone (hnear : s.seg.holder.isSome = true ∧ s.seg.holderHere = true) : s.nodeAddr? = none :=
    Option.not_isSome_iff_eq_none.mp fun hown => h ⟨hown, hnear⟩
  constructor
  · unfold State.segMinerArrives
    simp only
    split
    next hproximity =>
      obtain ⟨hholder, hhere, -⟩ := (Segment.proximity_iff _).mp hproximity
      have hno := hnone ⟨hholder, hhere⟩
      split
      · rw [State.sendProximityHolder_of_none (s := s.setMinerCount (s.seg.minerCount + 1)) hno]
        exact State.originateCounted_of_none (s := s.setMinerCount (s.seg.minerCount + 1)) hno _ _
      · exact State.proximityStarts_of_none (s := s.setMinerCount _) hno
    · rfl
  · unfold State.segMinerLeaves
    simp only
    split
    next hproximity =>
      obtain ⟨hholder, hhere, -⟩ := (Segment.proximity_iff _).mp hproximity
      exact State.sendProximityHolder_of_none (s := s.setMinerCount _) (hnone ⟨hholder, hhere⟩)
    · rfl

theorem State.segMinerLeaves_zero (h : s.seg.minerCount = 0) : s.segMinerLeaves = s := by
  have hwas : s.seg.proximity = false := Bool.eq_false_iff.mpr fun hproximity => by
    have hcount := ((Segment.proximity_iff _).mp hproximity).2.2
    omega
  unfold State.segMinerLeaves
  rw [hwas, h]
  show s.setMinerCount 0 = s
  rw [State.setMinerCount, ← h]

section

variable {s} {t : Truck} (hown : s.nodeAddr?.isSome = true) (hhere : s.seg.holderHere = true) (ht : s.seg.holder = some t)
include hown hhere ht

/-- The first miner starts the condition. -/
theorem State.segMinerArrives_first (h : s.seg.minerCount = 0) :
    s.segMinerArrives a = (s.setMinerCount 1).proximitySent (t.vehicle :: minersOnRadio s.table.entries) 1 := by
  have hwas : s.seg.proximity = false := by rw [Segment.proximity_eq ht, hhere, h]; rfl
  have his : (s.setMinerCount 1).seg.proximity = true := (Segment.proximity_eq (g := (s.setMinerCount 1).seg) ht).trans (by
    show (s.seg.holderHere && true) = true
    rw [hhere]
    rfl)
  unfold State.segMinerArrives
  simp only [hwas, h, Nat.zero_add, his, if_true]
  exact State.proximityStarts_eq (s := s.setMinerCount 1) hown ht

theorem State.segMinerArrives_more (h : 1 ≤ s.seg.minerCount) : s.segMinerArrives a
    = (s.setMinerCount (s.seg.minerCount + 1)).proximitySent [t.vehicle, a] (s.seg.minerCount + 1) := by
  have hwas : s.seg.proximity = true := (Segment.proximity_iff _).mpr ⟨by rw [ht]; rfl, hhere, h⟩
  have his : (s.setMinerCount (s.seg.minerCount + 1)).seg.proximity = true :=
    (Segment.proximity_iff _).mpr ⟨by show s.seg.holder.isSome = true; rw [ht]; rfl, hhere, Nat.le_add_left _ _⟩
  unfold State.segMinerArrives
  simp only [hwas, his, if_true]
  refine Eq.trans ?_ (State.foldl_sendProximity (s := s.setMinerCount (s.seg.minerCount + 1)) hown [t.vehicle, a])
  rw [State.sendProximityHolder, show (s.setMinerCount (s.seg.minerCount + 1)).seg.holder = some t from ht]
  rfl

theorem State.segMinerLeaves_near (h : 1 ≤ s.seg.minerCount) : s.segMinerLeaves
    = (s.setMinerCount (s.seg.minerCount - 1)).proximitySent [t.vehicle] (s.seg.minerCount - 1) := by
  have hwas : s.seg.proximity = true := (Segment.proximity_iff _).mpr ⟨by rw [ht]; rfl, hhere, h⟩
  unfold State.segMinerLeaves
  simp only [hwas, if_true]
  exact State.sendProximityHolder_eq (s := s.setMinerCount (s.seg.minerCount - 1)) hown ht

end

theorem State.segVehicle_other (b : Bool) (h : ∀ t, s.seg.holder = some t → t.vehicle ≠ a) : s.segVehicle a b = s := by
  refine if_neg ?_
  rw [Segment.heldBy_iff]
  rintro ⟨t, ht, hv⟩
  exact h t ht hv

section

variable {s} {a} {t : Truck} (ht : s.seg.holder = some t) (hv : t.vehicle = a)
include ht hv

theorem State.segVehicle_holder (b : Bool) :
    s.segVehicle a b = (s.setHolderHere b).proximityFollows s.seg.proximity :=
  if_pos ((Segment.heldBy_iff _ _).mpr ⟨t, ht, hv⟩)

theorem State.segVehicle_leaves : s.segVehicle a false = s.setHolderHere false := by
  have his : (s.setHolderHere false).seg.proximity = false := by
    rw [Segment.proximity, show (s.setHolderHere false).seg.holderHere = false from rfl, Bool.and_false, Bool.false_and]
  rw [State.segVehicle_holder ht hv, State.proximityFollows, his, Bool.and_false]
  rfl

theorem State.segVehicle_quiet (h : s.seg.holderHere = true ∨ s.seg.minerCount = 0 ∨ s.nodeAddr? = none) :
    s.segVehicle a true = s.setHolderHere true := by
  rw [State.segVehicle_holder ht hv, State.proximityFollows]
  split
  next hstarts =>
    rw [Bool.and_eq_true, Bool.not_eq_true', Bool.eq_false_iff] at hstarts
    obtain ⟨hwas, his⟩ := hstarts
    have hcount : 1 ≤ s.seg.minerCount := ((Segment.proximity_iff _).mp his).2.2
    rcases h with hhere | hzero | hnone
    · exact absurd ((Segment.proximity_iff _).mpr ⟨by rw [ht]; rfl, hhere, hcount⟩) hwas
    · omega
    · exact State.proximityStarts_of_none (s := s.setHolderHere true) hnone
  · rfl

theorem State.segVehicle_starts (hown : s.nodeAddr?.isSome = true) (hhere : s.seg.holderHere = false)
    (hcount : 1 ≤ s.seg.minerCount) : s.segVehicle a true
      = (s.setHolderHere true).proximitySent (a :: minersOnRadio s.table.entries) s.seg.minerCount := by
  have hwas : s.seg.proximity = false := by rw [Segment.proximity_eq ht, hhere]; rfl
  have his : (s.setHolderHere true).seg.proximity = true :=
    (Segment.proximity_iff _).mpr ⟨by show s.seg.holder.isSome = true; rw [ht]; rfl, rfl, hcount⟩
  rw [State.segVehicle_holder ht hv, State.proximityFollows, hwas, his, ← hv]
  exact State.proximityStarts_eq (s := s.setHolderHere true) hown ht

end

end

/-! ### A frame heard (R124, R126) -/

section

variable {s : State} {a : Addr}

theorem State.heardFrom_idle (h : s.seg.heldBy a = false ∨ s.seg.state = .free ∨ s.seg.state = .closed) : s.heardFrom a = s := by
  unfold State.heardFrom
  rcases h with h | h | h <;> simp [h]

theorem State.heardFrom_renews (hheld : s.seg.heldBy a = true) (h : s.seg.state = .held ∨ s.seg.state = .draining) :
    s.heardFrom a = s.startLease := by
  unfold State.heardFrom
  rcases h with h | h <;> simp [h, hheld]

variable (hown : s.nodeAddr?.isSome = true) (hheld : s.seg.heldBy a = true) (hstate : s.seg.state = .lost)
include hown hheld hstate

theorem State.heardFrom_granted (hany : s.seg.causes.any = false) : s.heardFrom a = ({ s with seg := { s.seg with
    state := .held, lease := some (s.now + s.params.lease.ms)
    counters := { s.seg.counters with grantsSent := s.seg.counters.grantsSent + 1 } } } : State).originate
      ⟨.grant, a, wordBytes a ++ [s.params.lease.byte]⟩ := by
  unfold State.heardFrom
  rw [if_pos hheld, hstate]
  simp only [hany]
  exact State.sendGrant_eq (s := (s.setSegState .held).startLease) hown a

theorem State.heardFrom_withdrawn (hany : s.seg.causes.any = true) : s.heardFrom a = ({ s with seg := { s.seg with
    state := .draining, lease := some (s.now + s.params.lease.ms) } } : State).withdrawSent a := by
  unfold State.heardFrom
  rw [if_pos hheld, hstate]
  simp only [hany, if_true]
  exact State.sendWithdraw_eq (s := (s.setSegState .draining).startLease) hown a

end

/-- The counters of the arbiter that a learn step does not touch. -/
structure State.OrdersCounted (g w : Counter) (s : State) : Prop where
  grants : s.seg.counters.grantsSent = g
  withdraws : s.seg.counters.withdrawsSent = w

section

variable {s : State} {g w : Counter} (h : s.OrdersCounted g w)
include h

theorem State.OrdersCounted.unchanged {t : State} (hseg : t.seg.counters = s.seg.counters) : t.OrdersCounted g w :=
  ⟨hseg ▸ h.grants, hseg ▸ h.withdraws⟩

theorem State.OrdersCounted.sendProximity (a : Addr) : (s.sendProximity a).OrdersCounted g w := by
  unfold State.sendProximity State.originateCounted
  split
  · exact h
  · exact ⟨h.grants, h.withdraws⟩

theorem State.OrdersCounted.sendProximityHolder : s.sendProximityHolder.OrdersCounted g w := by
  unfold State.sendProximityHolder
  split
  · exact h.sendProximity _
  · exact h

theorem State.OrdersCounted.proximityStarts : s.proximityStarts.OrdersCounted g w :=
  List.foldlRecOn (motive := State.OrdersCounted g w) _ _ h.sendProximityHolder (fun _ ht e _ => ht.sendProximity e.address)

theorem State.OrdersCounted.segMinerArrives (a : Addr) : (s.segMinerArrives a).OrdersCounted g w := by
  have hcounted : (s.setMinerCount (s.seg.minerCount + 1)).OrdersCounted g w := h.unchanged rfl
  unfold State.segMinerArrives
  simp only
  repeat' split
  · exact hcounted.sendProximityHolder.sendProximity a
  · exact hcounted.proximityStarts
  · exact hcounted

theorem State.OrdersCounted.segMinerLeaves : s.segMinerLeaves.OrdersCounted g w := by
  have hcounted : (s.setMinerCount (s.seg.minerCount - 1)).OrdersCounted g w := h.unchanged rfl
  unfold State.segMinerLeaves
  simp only
  split
  · exact hcounted.sendProximityHolder
  · exact hcounted

theorem State.OrdersCounted.segVehicle (a : Addr) (b : Bool) : (s.segVehicle a b).OrdersCounted g w := by
  have hseen : (s.setHolderHere b).OrdersCounted g w := h.unchanged rfl
  unfold State.segVehicle State.proximityFollows
  simp only
  repeat' split
  · exact hseen.proximityStarts
  · exact hseen
  · exact h

theorem State.OrdersCounted.departs (a : Addr) : (s.departs a).OrdersCounted g w := by
  unfold State.departs
  repeat' split
  · exact h.segMinerLeaves
  · exact h.segVehicle a false
  · exact h

theorem State.OrdersCounted.arrives (e : Entry) (previous : Option Location) : (s.arrives e previous).OrdersCounted g w := by
  have hlocate {t : State} (ht : t.OrdersCounted g w) : (t.locate e previous).OrdersCounted g w :=
    ht.unchanged (by simp)
  have hevac : (s.evacMinerArrives e).OrdersCounted g w := h.unchanged (by simp)
  unfold State.arrives
  simp only
  repeat' split
  · exact hlocate (hevac.segMinerArrives _)
  · exact hlocate (h.segVehicle _ _)
  · exact hlocate h

end

theorem State.OrdersCounted.dropEntry {s : State} {g w : Counter} (h : s.OrdersCounted g w) (e : Entry) :
    (s.dropEntry e).OrdersCounted g w := by
  have hset : (s.setEntries (removeEntry e.address s.table.entries)).OrdersCounted g w := h.unchanged rfl
  unfold State.dropEntry
  simp only
  split
  · exact hset.departs _
  · exact hset

theorem State.OrdersCounted.insertNew {s : State} {g w : Counter} (h : s.OrdersCounted g w) (a : Addr) (l : Location)
    (attach : Option Addr) : (s.insertNew a l attach).OrdersCounted g w := by
  have harrives {u : State} (hu : u.seg.counters = s.seg.counters) : (u.arrives (s.newEntry a l attach) none).OrdersCounted g w :=
    (h.unchanged hu).arrives _ _
  unfold State.insertNew
  simp only
  split
  · exact harrives rfl
  · exact h.unchanged rfl

theorem State.ordersCounted_keepsEntries (g w : Counter) : KeepsEntries (State.OrdersCounted g w) where
  rewrite := by
    intro s old new _ _ _ _ h
    have hset : (s.setEntries (replaceEntry new s.table.entries)).OrdersCounted g w := h.unchanged rfl
    unfold State.rewriteEntry
    simp only
    repeat' split
    · exact hset.arrives _ _
    · exact hset.departs _
    · exact hset
  drop := by
    intro s e _ h
    exact State.OrdersCounted.dropEntry h e
  insert := by
    intro s a l attach _ _ _ h
    exact State.OrdersCounted.insertNew h a l attach
  evict := by
    intro s a e l attach f _ _ _ h
    have hdropped : ((s.dropEntry e).countTable f).OrdersCounted g w := (h.dropEntry e).unchanged rfl
    exact hdropped.insertNew a l attach
  older := fun h => h.unchanged rfl
  countTable := fun _ h => h.unchanged rfl
  setFlag := fun _ h => h.unchanged (by simp)

theorem State.OrdersCounted.learnFrame {s : State} {g w : Counter} (h : s.OrdersCounted g w) (p : Port) (f : Frame) :
    (s.learnFrame p f).OrdersCounted g w :=
  (State.ordersCounted_keepsEntries g w).learnFrame (fun _ ht => ht.unchanged (by simp)) p f h

theorem State.learnFrame_nodeAddr? (s : State) (p : Port) (f : Frame) : (s.learnFrame p f).nodeAddr? = s.nodeAddr? := by
  simp [State.nodeAddr?, Net.nodeAddr?]

/-! ### The obligation -/

section

variable {s : State} (hown : s.nodeAddr?.isSome = true) (hkept : s.SegKept) {v : Addr} (d : Heading)
include hown hkept

theorem State.entryRequest_free (h : s.seg.state = .free) : s.entryRequest v d = s.grantedTo ⟨v, d⟩
    ∧ s.seg.queue = [] := by
  have hshape := hkept.shape
  rw [h] at hshape
  obtain ⟨hholder, -, hqueue, -⟩ := hshape
  refine ⟨?_, hqueue⟩
  have hno : s.seg.heldBy v = false := by rw [Segment.heldBy, hholder]
  rw [State.entryRequest, hno, h]
  exact State.grantTo_eq hown hholder ⟨v, d⟩

end

section

variable {s : State} (hown : s.nodeAddr?.isSome = true) {v : Addr} (d : Heading)

theorem State.entryRequest_joins (hholder : s.seg.heldBy v = false)
    (h : s.seg.state = .held ∨ s.seg.state = .lost ∧ s.seg.causes.any = false) : s.entryRequest v d = s.joinQueue v d := by
  rw [State.entryRequest, hholder]
  rcases h with h | ⟨h, hany⟩
  · rw [h]
    rfl
  · rw [h, hany]
    rfl

include hown

theorem State.entryRequest_holder (hholder : s.seg.heldBy v = true) (h : s.seg.state = .held) :
    s.entryRequest v d = ({ s with seg := { s.seg with
      holder := some ⟨v, d⟩, lease := some (s.now + s.params.lease.ms)
      counters := { s.seg.counters with grantsSent := s.seg.counters.grantsSent + 1 } } } : State).originate
        ⟨.grant, v, wordBytes v ++ [s.params.lease.byte]⟩ := by
  rw [State.entryRequest, if_pos hholder, h]
  exact State.sendGrant_eq (s := (s.setHolder ⟨v, d⟩).startLease) hown v

theorem State.entryRequest_draining (hholder : s.seg.heldBy v = true) (h : s.seg.state = .draining) :
    s.entryRequest v d
      = ({ s with seg := { s.seg with lease := some (s.now + s.params.lease.ms) } } : State).withdrawSent v := by
  rw [State.entryRequest, if_pos hholder, h]
  exact State.sendWithdraw_eq (s := s.startLease) hown v

theorem State.entryRequest_refused (hholder : s.seg.heldBy v = false)
    (h : s.seg.state = .draining ∨ s.seg.state = .closed ∨ s.seg.state = .lost ∧ s.seg.causes.any = true) :
    s.entryRequest v d = ({ s with seg := { s.seg with counters := { s.seg.counters with
      entryRefusals := s.seg.counters.entryRefusals + 1 } } } : State).originate ⟨.refuseEntry, v, wordBytes v ++ [0]⟩ := by
  rw [← State.sendRefusal_closed hown, State.entryRequest, hholder]
  rcases h with h | h | ⟨h, hany⟩
  · rw [h]
    rfl
  · rw [h]
    rfl
  · rw [h, hany]
    rfl

end

/-- Settles O55. -/
theorem entryGrantedAndLeased : Obligations.EntryGrantedAndLeased := by
  refine ⟨fun s v d hown hsound => ?_, fun s p f v hown => ?_, fun s p f hown hfresh => ?_, fun s a hown => ?_,
    fun s a => ?_, fun s d hlease hstate => ?_⟩
  · intro g t lease isHolder waits
    have hkept := (s.segmentSound_iff.mp hsound).1
    have hnot (h : ¬ isHolder) : s.seg.heldBy v = false := Bool.eq_false_iff.mpr (mt (Segment.heldBy_iff _ _).mp h)
    have hwaits : s.seg.waits v = true ↔ waits := (Segment.waits_iff _ _).trans List.mem_map
    refine ⟨fun hstate => ?_, fun hstate hholder => ?_, fun hstate hholder => ?_, fun hstate hholder => ?_,
      fun hstate hholder => ?_⟩
    · obtain ⟨ht, hqueue⟩ := State.entryRequest_free hown hkept (v := v) d hstate
      obtain ⟨m, k, hparts⟩ := s.grantedTo_parts ⟨v, d⟩
      have htseg : t.seg = _ := congrArg State.seg (ht.trans hparts)
      refine ⟨?_, ?_, ?_, ?_, ?_, ht⟩ <;> rw [htseg]
      exact hqueue
    · exact State.entryRequest_holder hown d ((Segment.heldBy_iff _ _).mpr hholder) hstate
    · have ht := State.entryRequest_draining hown d ((Segment.heldBy_iff _ _).mpr hholder) hstate
      exact ⟨ht, fun hfresh => (congrArg State.seg ht).trans (State.withdrawSent_seg _ hfresh)⟩
    · have ht : t = s.joinQueue v d := State.entryRequest_joins d (hnot hholder) hstate
      refine ⟨fun hw => ?_, fun hw hroom => ?_, fun hw hfull => ?_⟩
      · rw [ht]
        exact State.joinQueue_again hown v d (hwaits.mpr hw)
      · exact ht.trans (State.joinQueue_behind hown v d (Bool.eq_false_iff.mpr (mt hwaits.mp hw)) hroom)
      · exact ht.trans (State.joinQueue_full hown v d (Bool.eq_false_iff.mpr (mt hwaits.mp hw)) (by
          rw [show s.seg.queue.length = 4 from hfull]
          decide))
    · exact State.entryRequest_refused hown d (hnot hholder) hstate
  · intro g bad
    refine ⟨fun d hkind hpayload => ?_, fun hkind hpayload => ?_⟩
    · rw [State.deliver_entryRequest hown hkind hpayload]
      refine ⟨fun hgood => ?_, fun hbad => if_neg hbad⟩
      rw [if_pos hgood, hgood.2]
    · intro u isHolder
      have hu : u = if isVehicle f.src = true ∧ v = f.src then s.exitNotice f.src else s.badEntryFrame :=
        State.deliver_exitNotice hown hkind hpayload
      refine ⟨fun hbad => hu.trans (if_neg hbad), fun hvehicle hv => ?_⟩
      rw [if_pos ⟨hvehicle, hv⟩, ← hv] at hu
      have hholds (h : isHolder) : s.seg.heldBy v = true := (Segment.heldBy_iff _ _).mpr h
      have hnot (h : ¬ isHolder) : s.seg.heldBy v = false := Bool.eq_false_iff.mpr (mt (Segment.heldBy_iff _ _).mp h)
      have hvacates (h : isHolder) : u = s.vacate := hu.trans (if_pos (hholds h))
      refine ⟨fun hholder hany => ?_, fun hholder hany hqueue => ?_, fun t rest hholder hany hqueue => ?_,
        fun older t younger hholder hqueue ht hothers => ?_, fun hholder hothers => ?_⟩
      · rw [hvacates hholder, State.vacate_closed hany]
        rfl
      · rw [hvacates hholder, State.vacate_open hany, State.becomeFree_empty (s := s.removeHolder) hqueue]
        rfl
      · have hnext := hu.trans (State.exitNotice_next hown (hholds hholder) hany hqueue)
        obtain ⟨m, k, hparts⟩ := s.nextGranted_parts t rest
        have hparts' := hnext.trans hparts
        refine ⟨?_, ?_, ?_, ?_, ?_, ?_, ?_, ?_, hnext, ?_⟩ <;> rw [hparts']
      · rw [hu, State.exitNotice_queued hown (hnot hholder) hqueue ht hothers, State.waitsSent]
        simp only [Nat.add_right_comm older.length 1]
        rfl
      · refine hu.trans (State.exitNotice_stray (hnot hholder) (Bool.eq_false_iff.mpr fun hwaits => ?_))
        obtain ⟨w, hw, hsrc⟩ := List.mem_map.mp ((Segment.waits_iff _ _).mp hwaits)
        exact hothers w hw hsrc
  · intro g u isHolder lease same
    have horders : (s.learnFrame p f).OrdersCounted s.seg.counters.grantsSent s.seg.counters.withdrawsSent :=
      State.OrdersCounted.learnFrame ⟨rfl, rfl⟩ p f
    obtain ⟨v, hv⟩ : ∃ v, v = s.learnFrame p f := ⟨_, rfl⟩
    have hframe : v.seg.state = g.state ∧ v.seg.holder = g.holder ∧ v.seg.causes = g.causes ∧ v.seg.queue = g.queue
        ∧ v.seg.lease = g.lease ∧ v.scratch = s.scratch ∧ v.now = s.now ∧ v.params = s.params
        ∧ v.nodeAddr?.isSome = true := by
      rw [hv]
      refine ⟨?_, ?_, ?_, ?_, ?_, ?_, ?_, ?_, ?_⟩
      case refine_9 => rw [State.learnFrame_nodeAddr?, hown]
      all_goals simp [State.params, g]
    rw [← hv] at horders
    obtain ⟨hstate, hholder, hcauses, hqueue, hlease, hscratch, hnow, hparams, hvown⟩ := hframe
    have hu : u.seg = (v.heardFrom f.src).seg ∧ ((v.heardFrom f.src).Flagged Flag.withdraw → u.Flagged Flag.withdraw) := by
      show (s.heard p f).seg = _ ∧ (_ → (s.heard p f).Flagged _)
      rw [State.heard, ← hv]
      split
      · exact ⟨rfl, fun h => h.unchanged rfl⟩
      · exact ⟨rfl, id⟩
    obtain ⟨hseg, hflagged⟩ := hu
    have hheldBy : v.seg.heldBy f.src = true ↔ isHolder := by
      rw [Segment.heldBy_iff, hholder]
    have hlength : lease = some (v.now + v.params.lease.ms) := by rw [hnow, hparams]
    have hsame {x : SegmentState} {l : Timer} {a b : Counter} {h : Segment} (hh : u.seg = h) (h1 : h.state = x) (h2 : h.holder = v.seg.holder)
        (h3 : h.causes = v.seg.causes) (h4 : h.queue = v.seg.queue) (h5 : h.lease = l)
        (h6 : h.counters.grantsSent = v.seg.counters.grantsSent + a) (h7 : h.counters.withdrawsSent = v.seg.counters.withdrawsSent + b) :
        same x l a b := by
      subst hh
      exact ⟨h1, h2.trans hholder, h3.trans hcauses, h4.trans hqueue, h5, horders.grants ▸ h6, horders.withdraws ▸ h7⟩
    refine ⟨fun h => ?_, fun h hlost => ?_, fun h hlost hany => ?_, fun h hlost hany => ?_⟩
    · have hidle : v.heardFrom f.src = v := State.heardFrom_idle (by
        rw [hstate]
        exact h.imp_left fun hnot => Bool.eq_false_iff.mpr (mt hheldBy.mp hnot))
      rw [hidle] at hseg
      exact hsame hseg hstate rfl rfl rfl hlease (BitVec.add_zero _).symm (BitVec.add_zero _).symm
    · have hrenews := State.heardFrom_renews (hheldBy.mpr h) (hstate ▸ hlost)
      rw [hrenews] at hseg
      exact hsame hseg (by exact hstate) rfl rfl rfl hlength.symm (BitVec.add_zero _).symm (BitVec.add_zero _).symm
    · have hgranted := State.heardFrom_granted hvown (hheldBy.mpr h) (hstate.trans hlost) (hcauses ▸ hany)
      rw [hgranted] at hseg
      exact hsame hseg rfl rfl rfl rfl hlength.symm rfl (BitVec.add_zero _).symm
    · have hwithdrawn := State.heardFrom_withdrawn hvown (hheldBy.mpr h) (hstate.trans hlost) (hcauses ▸ hany)
      have hnone : v.scratch.withdrawn = [] := hscratch ▸ hfresh
      rw [hwithdrawn] at hseg hflagged
      exact ⟨hsame (hseg.trans (State.withdrawSent_seg _ hnone)) rfl rfl rfl rfl hlength.symm (BitVec.add_zero _).symm rfl,
        hflagged (State.withdrawSent_flagged _ hnone)⟩
  · intro g u lease isHolder
    have hholds (h : isHolder) : s.seg.heldBy a = true := (Segment.heldBy_iff _ _).mpr h
    refine ⟨fun h => State.heardFrom_idle (h.imp_left fun hnot => Bool.eq_false_iff.mpr (mt (Segment.heldBy_iff _ _).mp hnot)),
      fun hholder hstate => State.heardFrom_renews (hholds hholder) hstate,
      fun hholder hstate hany => State.heardFrom_granted hown (hholds hholder) hstate hany,
      fun hholder hstate hany => State.heardFrom_withdrawn hown (hholds hholder) hstate hany⟩
  · intro g n miners counted seen near
    refine ⟨fun hnot => s.segMiner_apart a hnot, s.segMinerLeaves_zero, fun h hnear hholder => ?_,
      fun hothers b => s.segVehicle_other a b hothers, fun h hholder hv => ?_⟩
    · obtain ⟨hown, -, hhere⟩ := hnear
      exact ⟨fun hzero => State.segMinerArrives_first a hown hhere hholder hzero, fun hcount =>
        ⟨State.segMinerArrives_more a hown hhere hholder hcount, State.segMinerLeaves_near hown hhere hholder hcount⟩⟩
    · exact ⟨State.segVehicle_leaves hholder hv, State.segVehicle_quiet hholder hv,
        fun hhere hcount hown => State.segVehicle_starts hholder hv hown hhere hcount⟩
  · have hwork : workOf .leaseTimerExpiry { s with scratch := {} } = (s.at d).leaseExpires := by
      show State.expire { s with scratch := {} } s.seg.lease (fun u => u.leaseExpires) = _
      rw [hlease, State.expire_some]
      rfl
    exact (exec_settled hwork rfl).trans rfl

end Sys2Proof.Machine

end

section

set_option Elab.async false

/-! PROOF. What clears a leg and what call frames do to it (R96, R106, R107, R109, R110). -/

namespace Sys2Proof.Machine

/-! ### Clearing a leg (R109) -/

section

variable (s : State)

/-- A leg cleared, before anybody has been told. -/
def State.legCleared (i : Fin 8) (c : ClearCause) : State := { s with calls := { s.calls with
  legs := s.calls.legs.set i ((s.leg i).clearedWith c)
  startList := s.calls.startList.filter (fun k => k != i) } }

/-- A leg and its partner cleared, before anybody has been told. -/
def State.pairCleared (i j : Fin 8) (c : ClearCause) : State := { s with calls := { s.calls with
  legs := (s.calls.legs.set i ((s.leg i).clearedWith c)).set j ((s.leg j).clearedWith c)
  startList := s.calls.startList.filter (fun k => k != i && k != j) } }

theorem State.becomeIdle_originate (i : Fin 8) (m : Message) :
    (s.originate m).becomeIdle i = (s.becomeIdle i).originate m := rfl

theorem State.becomeIdle_clearNotices (i : Fin 8) (l : Leg) (c : ClearCause) (w : ClearFrom) :
    (s.clearNotices l c w).becomeIdle i = (s.becomeIdle i).clearNotices l c w := by
  unfold State.clearNotices
  simp only
  split <;> split <;> rfl

theorem State.becomeIdle_pairNotices (i : Fin 8) (l p : Leg) (c : ClearCause) (w : ClearFrom) :
    (s.pairNotices l p c w).becomeIdle i = (s.becomeIdle i).pairNotices l p c w := by
  unfold State.pairNotices
  simp only
  split <;> split <;> rfl

theorem State.setLeg_setLeg (i : Fin 8) (l m : Leg) : (s.setLeg i l).setLeg i m = s.setLeg i m := by
  simp [State.setLeg]

theorem State.setLeg_comm {i j : Fin 8} (h : i ≠ j) (l m : Leg) :
    (s.setLeg i l).setLeg j m = (s.setLeg j m).setLeg i l := by
  simp only [State.setLeg]
  rw [Vector.set_comm _ _ (fun e => h (Fin.ext e))]

theorem State.enterClearing_becomeIdle (i : Fin 8) (c : ClearCause) : (s.enterClearing i c).becomeIdle i = s.legCleared i c := by
  have hleg : (s.enterClearing i c).leg i = { (s.leg i).enter .clearing with lastCause := some c } := by
    rw [State.enterClearing, State.leg_setStartList, State.leg_setLeg, if_pos rfl]
  rw [State.becomeIdle, hleg]
  show (((s.setLeg i _).setLeg i _).setStartList _) = _
  rw [State.setLeg_setLeg]
  rfl

theorem State.enterClearing_becomeIdle_comm {i j : Fin 8} (h : j ≠ i) (c : ClearCause) :
    (s.enterClearing j c).becomeIdle i = (s.becomeIdle i).enterClearing j c := by
  have hi : (s.enterClearing j c).leg i = s.leg i := by
    rw [State.enterClearing, State.leg_setStartList, State.leg_setLeg, if_neg h]
  have hj : (s.becomeIdle i).leg j = s.leg j := by
    rw [State.becomeIdle, State.leg_setLeg, if_neg h.symm]
  unfold State.becomeIdle at hj ⊢
  rw [hi]
  unfold State.enterClearing
  rw [hj, ← State.setLeg_comm s h]
  rfl

theorem State.enterClearing_becomeIdle_pair {i j : Fin 8} (h : j ≠ i) (c : ClearCause) :
    (((s.enterClearing i c).enterClearing j c).becomeIdle i).becomeIdle j = s.pairCleared i j c := by
  have hother : (s.legCleared i c).leg j = s.leg j := (s.leg_setLeg i j _).trans (if_neg h.symm)
  have hlist : (s.calls.startList.filter (fun k => k != i)).filter (fun k => k != j)
      = s.calls.startList.filter (fun k => k != i && k != j) := by
    rw [List.filter_filter]
    exact List.filter_congr fun k _ => Bool.and_comm _ _
  rw [State.enterClearing_becomeIdle_comm _ h, State.enterClearing_becomeIdle, State.enterClearing_becomeIdle,
    State.legCleared, hother, State.pairCleared, ← hlist]
  rfl

theorem State.partnerOf_eq_none {i : Fin 8} : s.partnerOf i = none ↔ ∀ j, (s.leg i).partner = some j → (s.leg j).state = .idle := by
  rw [Option.eq_none_iff_forall_ne_some]
  refine forall_congr' fun j => ?_
  rw [Ne, State.partnerOf_eq_some, not_and, not_not]

variable {s} {i j : Fin 8} (hbusy : (s.leg i).state ≠ .idle) (c : ClearCause) (w : ClearFrom)
include hbusy

theorem State.clearLeg_alone (h : s.partnerOf i = none) : s.clearLeg i c w = (s.legCleared i c).clearNotices (s.leg i) c w := by
  rw [State.clearLeg, if_neg hbusy, h]
  simp only
  rw [State.becomeIdle_clearNotices, State.enterClearing_becomeIdle]

theorem State.clearLeg_pair (h : s.partnerOf i = some j) (hne : j ≠ i) :
    s.clearLeg i c w = (s.pairCleared i j c).pairNotices (s.leg i) (s.leg j) c w := by
  rw [State.clearLeg, if_neg hbusy, h]
  simp only
  rw [State.becomeIdle_pairNotices, State.becomeIdle_pairNotices, State.enterClearing_becomeIdle_pair s hne]

end

/-! ### The legs a call frame matches (R96) -/

section

variable {s : State} {p : Port} {f : Frame} {id : CallId}

/-- A leg has the call of a frame between its party and its unit's side. -/
def State.Found (s : State) (p : Port) (f : Frame) (id : CallId) (i : Fin 8) : Prop :=
  (s.leg i).state ≠ .idle ∧ (s.leg i).callId = id
    ∧ (f.dest = (s.leg i).localParty ∨ p = .radio ∧ f.src = (s.leg i).localParty)

/-- The legs a call frame matches, in index order. -/
def State.matched (s : State) (p : Port) (f : Frame) (id : CallId) : List (Fin 8) :=
  legIndices.filter (fun i => legMatches p f id (s.leg i))

theorem State.mem_matched {i : Fin 8} : i ∈ s.matched p f id ↔ s.Found p f id i := by
  rw [State.matched, List.mem_filter, legMatches_iff]
  exact and_iff_right (mem_legIndices i)

theorem legIndices_pairwise : legIndices.Pairwise (fun i j => i.val < j.val) := by decide

/-- Legs in index order are the matched ones. -/
theorem State.matched_eq {l : List (Fin 8)} (hl : l.Pairwise (fun i j => i.val < j.val)) (h : ∀ k, s.Found p f id k ↔ k ∈ l) :
    s.matched p f id = l := by
  have hsorted : (s.matched p f id).Pairwise (fun i j => i.val < j.val) := legIndices_pairwise.filter _
  have hperm : (s.matched p f id).Perm l := by
    refine (List.perm_ext_iff_of_nodup ?_ ?_).mpr fun k => State.mem_matched.trans (h k)
    · exact hsorted.imp fun hlt e => absurd (e ▸ hlt) (lt_irrefl _)
    · exact hl.imp fun hlt e => absurd (e ▸ hlt) (lt_irrefl _)
  exact hperm.eq_of_pairwise (fun _ _ _ _ h h' => absurd h (by omega)) hsorted hl

theorem State.matched_one {i : Fin 8} (h : ∀ j, s.Found p f id j ↔ j = i) : s.matched p f id = [i] :=
  State.matched_eq (List.pairwise_singleton _ _) fun k => (h k).trans List.mem_singleton.symm

theorem State.matched_two {i j : Fin 8} (hlt : i.val < j.val) (h : ∀ k, s.Found p f id k ↔ k = i ∨ k = j) :
    s.matched p f id = [i, j] :=
  State.matched_eq (List.pairwise_pair.mpr hlt) fun k => (h k).trans (by simp)

theorem State.matched_none (h : ∀ k, ¬ s.Found p f id k) : s.matched p f id = [] :=
  State.matched_eq List.Pairwise.nil fun k => iff_of_false (h k) List.not_mem_nil

variable {g : State → Fin 8 → State × Bool} {stray : Option (State → State)}

theorem State.callFrame_one {i : Fin 8} (h : ∀ j, s.Found p f id j ↔ j = i) : s.callFrame p f id g stray = g s i := by
  have hlegs : s.callFrame p f id g stray = s.onLegs g [i] := by
    unfold State.callFrame
    rw [← State.matched, State.matched_one h]
    rfl
  rw [hlegs]
  unfold State.onLegs
  rw [if_neg ((h i).mpr rfl).1]
  simp [State.onLegs]

theorem State.callFrame_two {i j : Fin 8} (hlt : i.val < j.val) (h : ∀ k, s.Found p f id k ↔ k = i ∨ k = j) :
    s.callFrame p f id g stray = if ((g s i).1.leg j).state = .idle then g s i
      else ((g (g s i).1 j).1, (g s i).2 && (g (g s i).1 j).2) := by
  have hlegs : s.callFrame p f id g stray = s.onLegs g [i, j] := by
    unfold State.callFrame
    rw [← State.matched, State.matched_two hlt h]
    rfl
  rw [hlegs]
  unfold State.onLegs
  rw [if_neg ((h i).mpr (.inl rfl)).1]
  unfold State.onLegs
  simp only
  split <;> simp [State.onLegs]

theorem State.callFrame_none (h : ∀ k, ¬ s.Found p f id k) : s.callFrame p f id g stray =
    match stray with
    | some k => if p ≠ .radio ∧ s.attachedHere f.dest then (k s, false) else (s, true)
    | none => (s, true) := by
  have hempty : (legIndices.filter (fun i => legMatches p f id (s.leg i))).isEmpty = true := by
    rw [← State.matched, State.matched_none h]
    rfl
  unfold State.callFrame
  simp only [hempty, if_true] <;> rfl

end

/-! ### The inspection of call frames -/

section

variable {s : State} {p : Port} {f : Frame} {id : CallId}

theorem State.inspect_clear {c : ClearCause} (hkind : f.kind? = some .callClear) (hpayload : f.payload = id.bytes ++ [byteOf c.code]) :
    s.inspect p f = s.callFrame p f id (fun s i => s.clearOnLeg p f c i) none := by
  have hcode : ClearCause.ofCode (byteOf c.code).toNat = some c := by cases c <;> rfl
  have hbytes : f.payload = [id.node, id.serial, byteOf c.code] := hpayload
  rw [State.inspect, hkind, hbytes]
  simp only [hcode]

theorem State.inspect_answer (hkind : f.kind? = some .callAnswer) (hpayload : f.payload = id.bytes) :
    s.inspect p f = s.callFrame p f id (fun s i => s.answerOnLeg p f i) (some State.straySignal) := by
  have hbytes : f.payload = [id.node, id.serial] := hpayload
  rw [State.inspect, hkind, hbytes]

theorem State.inspect_alerting (hkind : f.kind? = some .callAlerting) (hpayload : f.payload = id.bytes) :
    s.inspect p f = s.callFrame p f id (fun s i => s.alertingOnLeg p f i) (some State.straySignal) := by
  have hbytes : f.payload = [id.node, id.serial] := hpayload
  rw [State.inspect, hkind, hbytes]

theorem State.inspect_voice {x : Byte} {coded : List Byte} (hkind : f.kind? = some .voice)
    (hpayload : f.payload = id.bytes ++ x :: coded) (hcoded : coded.length ≤ 64) :
    s.inspect p f = s.callFrame p f id (fun s i => s.voiceOnLeg p f x i)
      (some (fun s => s.countCalls (fun k => { k with voiceStrays := k.voiceStrays + 1 }))) := by
  have hbytes : f.payload = id.node :: id.serial :: x :: coded := hpayload
  rw [State.inspect, hkind, hbytes]
  exact if_pos hcoded

end

end Sys2Proof.Machine

end

section

set_option Elab.async false

/-! PROOF. A change of the limits of the leg table (R98), and what else clears a leg (R106, R109, R110). -/

namespace Sys2Proof.Machine

/-! ### The legs a limit change clears (R98) -/

/-- The start list holds the counting legs, each once, and no leg is its own partner. -/
structure State.LegsListed (s : State) : Prop where
  nodup : s.calls.startList.Nodup
  clearing : ∀ i, (s.leg i).state ≠ .clearing
  listed : ∀ i, i ∈ s.calls.startList ↔ (s.leg i).counting = true
  apart : ∀ i, (s.leg i).partner ≠ some i

/-- Legs have been cleared with a cause, counted and taken off the start list, and nothing else happened to the leg
table. -/
structure State.Trimmed (c : ClearCause) (s t : State) : Prop where
  leg : ∀ i, t.leg i = s.leg i ∨ (s.leg i).counting = true ∧ t.leg i = (s.leg i).clearedWith c
  list : t.calls.startList = s.calls.startList.filter (fun i => (t.leg i).counting)
  counters : t.calls.counters = { s.calls.counters with
    limitClears := s.calls.counters.limitClears + BitVec.ofNat 32 (s.calls.startList.countP (fun i => !(t.leg i).counting)) }

theorem Leg.counting_clearedWith (l : Leg) (c : ClearCause) : (l.clearedWith c).counting = false := rfl

theorem Leg.counting_of_idle {l : Leg} (h : l.state = .idle) : l.counting = false := by simp [Leg.counting, h]

theorem Leg.counting_of_busy {l : Leg} (hidle : l.state ≠ .idle) (hclearing : l.state ≠ .clearing) : l.counting = true := by
  rw [Leg.counting_iff]
  cases h : l.state <;> simp_all

section

variable {c : ClearCause} {s t u : State}

theorem State.Trimmed.refl (h : ∀ i ∈ s.calls.startList, (s.leg i).counting = true) : s.Trimmed c s := by
  refine ⟨fun i => .inl rfl, (List.filter_eq_self.mpr h).symm, ?_⟩
  have hnone : s.calls.startList.countP (fun i => !(s.leg i).counting) = 0 :=
    List.countP_eq_zero.mpr fun i hi => by simp [h i hi]
  rw [hnone, counter_add_ofNat_zero]

theorem State.Trimmed.priority (h : s.Trimmed c t) (i : Fin 8) : (t.leg i).priority = (s.leg i).priority := by
  rcases h.leg i with e | ⟨-, e⟩ <;> rw [e]
  rfl

theorem State.Trimmed.counting (h : s.Trimmed c t) {i : Fin 8} (hi : (t.leg i).counting = true) : t.leg i = s.leg i := by
  rcases h.leg i with e | ⟨-, e⟩
  · exact e
  · rw [e, Leg.counting_clearedWith] at hi
    cases hi

/-- Legs that stop counting in two turns. -/
theorem countP_not_of_imp {p q : Fin 8 → Bool} (h : ∀ i, q i = true → p i = true) (l : List (Fin 8)) :
    l.countP (fun i => !q i) = l.countP (fun i => !p i) + (l.filter p).countP (fun i => !q i) := by
  induction l with
  | nil => rfl
  | cons i l ih =>
    cases hp : p i with
    | true =>
      rw [List.filter_cons_of_pos hp, List.countP_cons, List.countP_cons, List.countP_cons, ih]
      simp [hp]
      omega
    | false =>
      have hq : q i = false := Bool.eq_false_iff.mpr fun hq => by rw [h i hq] at hp; cases hp
      rw [List.filter_cons_of_neg (by simp [hp]), List.countP_cons, List.countP_cons, ih]
      simp [hp, hq]
      omega

theorem State.Trimmed.trans (h : s.Trimmed c t) (k : t.Trimmed c u) : s.Trimmed c u := by
  have hcounts (i : Fin 8) (hi : (u.leg i).counting = true) : (t.leg i).counting = true := k.counting hi ▸ hi
  refine ⟨fun i => ?_, ?_, ?_⟩
  · rcases k.leg i with e | ⟨hcount, e⟩
    · rw [e]
      exact h.leg i
    · have hsame := h.counting hcount
      rw [hsame] at e hcount
      exact .inr ⟨hcount, e⟩
  · rw [k.list, h.list, List.filter_filter]
    refine List.filter_congr fun i _ => ?_
    cases hi : (u.leg i).counting with
    | true => rw [hcounts i hi]; rfl
    | false => rfl
  · rw [countP_not_of_imp hcounts s.calls.startList, k.counters, h.counters, h.list, BitVec.ofNat_add, ← BitVec.add_assoc]

theorem State.Trimmed.listed (h : s.Trimmed c t) (hs : s.LegsListed) : t.LegsListed := by
  refine ⟨?_, fun i => ?_, fun i => ?_, fun i => ?_⟩
  · rw [h.list]
    exact hs.nodup.filter _
  · rcases h.leg i with e | ⟨-, e⟩ <;> rw [e]
    · exact hs.clearing i
    · exact nofun
  · rw [h.list, List.mem_filter, hs.listed]
    refine ⟨fun hi => hi.2, fun hi => ⟨?_, hi⟩⟩
    rw [← h.counting hi]
    exact hi
  · rcases h.leg i with e | ⟨-, e⟩ <;> rw [e]
    · exact hs.apart i
    · exact nofun

end

section

variable {s : State} (h : s.LegsListed) {i : Fin 8}
include h

theorem State.LegsListed.busy (hi : i ∈ s.calls.startList) : (s.leg i).state ≠ .idle := fun hidle => by
  rw [h.listed, Leg.counting_of_idle hidle] at hi
  cases hi

/-- How many legs the clear of a leg clears. -/
theorem State.LegsListed.cleared_count (hi : i ∈ s.calls.startList) :
    s.calls.startList.countP (fun k => decide (k = i ∨ s.partnerOf i = some k))
      = match s.partnerOf i with
        | some _ => 2
        | none => 1 := by
  rw [List.countP_eq_length_filter]
  have hnodup := h.nodup.filter (fun k => decide (k = i ∨ s.partnerOf i = some k))
  cases hpartner : s.partnerOf i with
  | none =>
    have hperm : (s.calls.startList.filter (fun k => decide (k = i ∨ (none : Option (Fin 8)) = some k))).Perm [i] := by
      rw [hpartner] at hnodup
      refine (List.perm_ext_iff_of_nodup hnodup (List.nodup_singleton i)).mpr fun k => ?_
      simp only [List.mem_filter, List.mem_singleton, decide_eq_true_eq]
      grind
    exact hperm.length_eq
  | some j =>
    obtain ⟨hj, hbusy⟩ := s.partnerOf_eq_some.mp hpartner
    have hne : j ≠ i := fun e => h.apart i (e ▸ hj)
    have hmem : j ∈ s.calls.startList := (h.listed j).mpr (Leg.counting_of_busy hbusy (h.clearing j))
    have hperm : (s.calls.startList.filter (fun k => decide (k = i ∨ some j = some k))).Perm [i, j] := by
      rw [hpartner] at hnodup
      refine (List.perm_ext_iff_of_nodup hnodup (by simp [hne.symm])).mpr fun k => ?_
      simp only [List.mem_filter, List.mem_cons, decide_eq_true_eq, Option.some.injEq, List.not_mem_nil, or_false]
      grind
    exact hperm.length_eq

/-- One leg cleared for the limits, and its partner with it. -/
theorem State.LegsListed.clearForLimit (hi : i ∈ s.calls.startList) (c : ClearCause) : s.Trimmed c (s.clearForLimit c i) := by
  have hbusy := h.busy hi
  have hleg (k : Fin 8) : (s.clearForLimit c i).leg k
      = if k = i ∨ s.partnerOf i = some k then (s.leg k).clearedWith c else s.leg k := s.clearLeg_leg hbusy c .node k
  have hcounting (k : Fin 8) (hk : k ∈ s.calls.startList) : ((s.clearForLimit c i).leg k).counting
      = !decide (k = i ∨ s.partnerOf i = some k) := by
    rw [hleg]
    split
    next hyes => simp [hyes, Leg.counting_clearedWith]
    next hno => simp [hno, (h.listed k).mp hk]
  refine ⟨fun k => ?_, ?_, ?_⟩
  · rw [hleg]
    split
    next hk =>
      refine .inr ⟨?_, rfl⟩
      rcases hk with rfl | hk
      · exact (h.listed k).mp hi
      · exact Leg.counting_of_busy (s.partnerOf_eq_some.mp hk).2 (h.clearing k)
    · exact .inl rfl
  · refine (s.clearLeg_startList hbusy c .node).trans (List.filter_congr fun k hk => ?_)
    rw [hcounting k hk]
    simp
  · have hcount : s.calls.startList.countP (fun k => !((s.clearForLimit c i).leg k).counting)
        = s.calls.startList.countP (fun k => decide (k = i ∨ s.partnerOf i = some k)) :=
      List.countP_congr fun k hk => by rw [hcounting k hk, Bool.not_not]
    rw [hcount, h.cleared_count hi]
    unfold State.clearForLimit
    cases s.partnerOf i with
    | none => simp [State.countCalls]
    | some j => simp [State.countCalls]

end

/-- Whatever one clear for the limits keeps, the whole change keeps. -/
theorem State.enforceLimits_keeps {P : State → Prop} {c : ClearCause}
    (hstep : ∀ {t : State} {i : Fin 8}, P t → t.limitVictim = some i → P (t.clearForLimit c i)) (fuel : Nat) :
    ∀ {s : State}, P s → P (State.enforceLimits c fuel s) := by
  induction fuel with
  | zero => exact id
  | succ fuel ih =>
    intro s hs
    rw [State.enforceLimits]
    split
    next i hi => exact ih (hstep hs hi)
    · exact hs

theorem State.LegsListed.enforceLimits_done {c : ClearCause} (fuel : Nat) : ∀ {s : State}, s.LegsListed →
    s.calls.startList.length ≤ fuel → (State.enforceLimits c fuel s).limitVictim = none := by
  induction fuel with
  | zero =>
    intro s _ hlength
    rw [State.enforceLimits]
    refine Option.eq_none_iff_forall_ne_some.mpr fun i hi => ?_
    have hmem := State.limitVictim_mem hi
    rw [List.eq_nil_of_length_eq_zero (Nat.le_zero.mp hlength)] at hmem
    cases hmem
  | succ fuel ih =>
    intro s h hlength
    rw [State.enforceLimits]
    split
    next i hi =>
      have hmem := State.limitVictim_mem hi
      have hcleared := h.clearForLimit hmem c
      refine ih (hcleared.listed h) ?_
      have hshorter : (s.clearForLimit c i).calls.startList.length < s.calls.startList.length := by
        rw [show (s.clearForLimit c i).calls.startList = _ from s.clearLeg_startList (h.busy hmem) c .node]
        exact List.length_filter_lt_length_iff_exists.mpr ⟨i, hmem, by simp⟩
      omega
    next hnone => exact hnone

theorem State.LegsListed.length_le {s : State} (h : s.LegsListed) : s.calls.startList.length ≤ 8 := by
  simpa using h.nodup.length_le_card

/-- The end of a change of the limits: legs have been trimmed until none is to go. -/
theorem State.LegsListed.enforceLimits {s : State} (h : s.LegsListed) (c : ClearCause) :
    s.Trimmed c (State.enforceLimits c 8 s) ∧ (State.enforceLimits c 8 s).limitVictim = none := by
  refine ⟨State.enforceLimits_keeps (P := fun t => s.Trimmed c t) (fun {t i} ht hi => ?_) 8
    (State.Trimmed.refl fun i hi => (h.listed i).mp hi), h.enforceLimits_done 8 h.length_le⟩
  exact ht.trans ((ht.listed h).clearForLimit (State.limitVictim_mem hi) c)

/-! ### A change of the limits as a whole (R98) -/

/-- The limits have become tighter. -/
def State.Tightened (s : State) (ceiling : Nat) (minimum : Priority) : Prop :=
  s.ceiling < ceiling ∨ minimum.code < s.minimum.code

section

variable {s : State} {ceiling : Nat} {minimum : Priority} {c : ClearCause}

theorem State.limitsChanged_same (h : ¬ s.Tightened ceiling minimum) : s.limitsChanged ceiling minimum c = s :=
  if_neg fun htight => h htight.1

theorem State.limitsChanged_noVictim (h : s.limitVictim = none) : s.limitsChanged ceiling minimum c = s :=
  if_neg fun hvictim => by
    rw [h] at hvictim
    exact absurd hvictim.2 (by simp)

theorem State.limitsChanged_victim (htight : s.Tightened ceiling minimum) (h : s.limitVictim ≠ none) :
    s.limitsChanged ceiling minimum c = (State.enforceLimits c 8 s).setFlag Flag.limitClear :=
  if_pos ⟨htight, Option.isSome_iff_ne_none.mpr h⟩

theorem State.limitVictim_eq_none (hminimum : ∀ i ∈ s.calls.startList, s.minimum.code ≤ (s.leg i).priority.code)
    (hlength : s.calls.startList.length ≤ s.ceiling) : s.limitVictim = none := by
  have hnone : s.newestLeg (fun l => decide (l.priority.code < s.minimum.code)) = none :=
    List.find?_eq_none.mpr fun i hi => by simpa using hminimum i (List.mem_reverse.mp hi)
  rw [State.limitVictim, hnone]
  exact if_neg (not_lt.mpr hlength)

theorem State.limitVictim_calls {t : State} (hcalls : t.calls = s.calls) (hsupply : t.supply = s.supply) (hevac : t.evac = s.evac) :
    t.limitVictim = s.limitVictim := by
  simp only [State.limitVictim, State.newestLeg, State.weakestLeg, State.lowestPriority, State.ceiling, State.minimum,
    State.leg, hcalls, hsupply, hevac] <;> rfl

theorem State.Trimmed.unchanged {t u : State} (h : s.Trimmed c t) (hcalls : u.calls = t.calls) : s.Trimmed c u := by
  obtain ⟨hleg, hlist, hcounters⟩ := h
  refine ⟨fun i => ?_, ?_, ?_⟩
  · rw [show u.leg i = t.leg i by rw [State.leg, hcalls]; rfl]
    exact hleg i
  · rw [hcalls, hlist]
    simp only [State.leg, hcalls]
  · rw [hcalls, hcounters]
    simp only [State.leg, hcalls]

/-- Tighter limits trim the legs until none is to go, and the flag tells it. -/
theorem State.LegsListed.limitsChanged (h : s.LegsListed) (htight : s.Tightened ceiling minimum) :
    s.Trimmed c (s.limitsChanged ceiling minimum c) ∧ (s.limitsChanged ceiling minimum c).limitVictim = none
    ∧ (s.limitVictim ≠ none → (s.limitsChanged ceiling minimum c).Flagged Flag.limitClear) := by
  by_cases hvictim : s.limitVictim = none
  · rw [State.limitsChanged_noVictim hvictim]
    exact ⟨State.Trimmed.refl fun i hi => (h.listed i).mp hi, hvictim, fun hne => absurd hvictim hne⟩
  · obtain ⟨htrimmed, hdone⟩ := h.enforceLimits c
    rw [State.limitsChanged_victim htight hvictim]
    exact ⟨htrimmed.unchanged (by simp), (State.limitVictim_calls (by simp) (by simp) (by simp)).trans hdone,
      fun _ => State.flagSet_setFlag_self _ (by decide)⟩

theorem State.limitsChanged_limits (s : State) (n : Nat) (m : Priority) (c : ClearCause) :
    (s.limitsChanged n m c).ceiling = s.ceiling ∧ (s.limitsChanged n m c).minimum = s.minimum := by
  simp [State.ceiling, State.minimum]

end

/-! ### Which legs give way to the ceiling (R98, R102) -/

/-- Two elements of a list, in order. -/
theorem sublist_pair_iff {α : Type} {a b : α} {l : List α} : [a, b].Sublist l ↔ ∃ x y z, l = x ++ a :: y ++ b :: z := by
  constructor
  · intro h
    obtain ⟨l₁, l₂, rfl, ha, hb⟩ := List.cons_sublist_iff.mp h
    obtain ⟨x, y, rfl⟩ := List.append_of_mem ha
    obtain ⟨y', z, rfl⟩ := List.append_of_mem (List.singleton_sublist.mp hb)
    exact ⟨x, y ++ y', z, by simp⟩
  · rintro ⟨x, y, z, rfl⟩
    have hb : [b].Sublist (y ++ b :: z) := List.singleton_sublist.mpr (by simp)
    have hab : [a, b].Sublist (a :: (y ++ b :: z)) := hb.cons_cons a
    exact (hab.trans (List.sublist_append_right x _)).trans (by simp)

theorem foldr_min_le (f : Fin 8 → Nat) (l : List (Fin 8)) {i : Fin 8} (hi : i ∈ l) :
    l.foldr (fun i n => min (f i) n) 2 ≤ f i := by
  induction l with
  | nil => cases hi
  | cons j l ih =>
    rw [List.foldr_cons]
    rcases List.mem_cons.mp hi with rfl | hi
    · exact Nat.min_le_left _ _
    · exact (Nat.min_le_right _ _).trans (ih hi)

/-- The leg that the ceiling takes is weaker than any other, or as weak and newer (R98). -/
theorem State.weakestLeg_eq_some {s : State} {i k : Fin 8} (hi : s.weakestLeg = some i) (hk : k ∈ s.calls.startList) (hne : k ≠ i) :
    (s.leg i).priority.code < (s.leg k).priority.code
    ∨ (s.leg i).priority.code = (s.leg k).priority.code ∧ [k, i].Sublist s.calls.startList := by
  obtain ⟨hlowest, newer, older, hlist, hnewer⟩ := List.find?_eq_some_iff_append.mp hi
  have hlow : (s.leg i).priority.code = s.lowestPriority := by simpa using hlowest
  have hle : s.lowestPriority ≤ (s.leg k).priority.code := foldr_min_le (fun i => (s.leg i).priority.code) _ hk
  rcases Nat.lt_or_ge (s.leg i).priority.code (s.leg k).priority.code with hlt | hge
  · exact .inl hlt
  · have heq : (s.leg k).priority.code = s.lowestPriority := by omega
    have hk' : k ∈ newer ++ i :: older := hlist ▸ List.mem_reverse.mpr hk
    have holder : k ∈ older := by
      rcases List.mem_append.mp hk' with hn | hn
      · exact absurd heq (by simpa using hnewer k hn)
      · exact (List.mem_cons.mp hn).resolve_left hne
    refine .inr ⟨by omega, ?_⟩
    have hsub : [i, k].Sublist s.calls.startList.reverse := by
      rw [hlist]
      exact ((List.singleton_sublist.mpr holder).cons_cons i).trans (List.sublist_append_right newer _)
    simpa using hsub.reverse

/-- While no leg has a partner here: the legs that the ceiling took are weaker than those left, and it takes none while
the list is within it. -/
structure State.Ranked (s t : State) : Prop where
  alone : ∀ i, (t.leg i).partner = none
  taken : ∀ i k, i ∈ s.calls.startList → s.minimum.code ≤ (s.leg i).priority.code → (t.leg i).counting = false →
    (t.leg k).counting = true → (s.leg i).priority.code < (s.leg k).priority.code
      ∨ (s.leg i).priority.code = (s.leg k).priority.code ∧ [k, i].Sublist s.calls.startList
  room : (∀ i ∈ s.calls.startList, s.minimum.code ≤ (s.leg i).priority.code → (t.leg i).counting = true)
    ∨ s.ceiling ≤ t.calls.startList.length ∧ ∀ i ∈ t.calls.startList, s.minimum.code ≤ (s.leg i).priority.code

section

variable {s t : State} {c : ClearCause} {i : Fin 8}

theorem State.Ranked.refl (hs : s.LegsListed) (halone : ∀ i, (s.leg i).partner = none) : s.Ranked s :=
  ⟨halone, fun i _ hi _ hno _ => absurd ((hs.listed i).mp hi) (by simp [hno]), .inl fun i hi _ => (hs.listed i).mp hi⟩

theorem State.Ranked.clearForLimit (h : s.Ranked t) (hs : s.LegsListed) (htrimmed : s.Trimmed c t)
    (hlimits : t.ceiling = s.ceiling ∧ t.minimum = s.minimum) (hi : t.limitVictim = some i) : s.Ranked (t.clearForLimit c i) := by
  have ht := htrimmed.listed hs
  have hmem := State.limitVictim_mem hi
  have hbusy := ht.busy hmem
  have hpartner : t.partnerOf i = none := by rw [State.partnerOf, h.alone]
  have hleg (k : Fin 8) : (t.clearForLimit c i).leg k = if k = i then (t.leg k).clearedWith c else t.leg k :=
    (t.clearLeg_leg hbusy c .node k).trans (by rw [hpartner]; simp [Leg.cleared, Leg.clearedWith])
  have hlist : (t.clearForLimit c i).calls.startList = t.calls.startList.filter (fun k => k != i) :=
    (t.clearLeg_startList hbusy c .node).trans (by rw [hpartner]; exact List.filter_congr fun k _ => by by_cases hk : k = i <;> simp [hk])
  have hcounting {k : Fin 8} (hk : ((t.clearForLimit c i).leg k).counting = true) : k ≠ i ∧ (t.leg k).counting = true := by
    rw [hleg] at hk
    split at hk
    · cases hk
    next hne => exact ⟨hne, hk⟩
  have hold {k : Fin 8} (hk : ((t.clearForLimit c i).leg k).counting = false) (hne : k ≠ i) : (t.leg k).counting = false := by
    rw [hleg, if_neg hne] at hk
    exact hk
  obtain ⟨hceiling, hminimum⟩ := hlimits
  have halone (k : Fin 8) : ((t.clearForLimit c i).leg k).partner = none := by
    rw [hleg]
    split
    · rfl
    · exact h.alone k
  unfold State.limitVictim at hi
  split at hi
  next j hj =>
    obtain rfl : j = i := Option.some.inj hi
    have hbelow : (s.leg j).priority.code < s.minimum.code := by
      rw [← htrimmed.priority, ← hminimum]
      simpa using (State.newestLeg_eq_some hj).2
    refine ⟨halone, fun x k hx hallowed hno hk => ?_, .inl fun x hx hallowed => ?_⟩
    · have hne : x ≠ j := fun e => by rw [e] at hallowed; omega
      exact h.taken x k hx hallowed (hold hno hne) (hcounting hk).2
    · have hne : x ≠ j := fun e => by rw [e] at hallowed; omega
      rw [hleg, if_neg hne]
      rcases h.room with hroom | ⟨-, hall⟩
      · exact hroom x hx hallowed
      · have hj := hall j hmem
        omega
  next hnone =>
    split at hi
    next hover =>
      have hall (k : Fin 8) (hk : k ∈ t.calls.startList) : s.minimum.code ≤ (s.leg k).priority.code := by
        rw [← htrimmed.priority, ← hminimum]
        simpa using State.newestLeg_eq_none hnone k hk
      refine ⟨halone, fun x k hx hallowed hno hk => ?_, .inr ⟨?_, fun k hk => ?_⟩⟩
      · obtain ⟨hne, hk⟩ := hcounting hk
        by_cases hxi : x = i
        · rw [hxi, ← htrimmed.priority, ← htrimmed.priority k]
          refine (State.weakestLeg_eq_some hi ((ht.listed k).mpr hk) hne).imp_right fun ⟨heq, hsub⟩ => ⟨heq, hsub.trans ?_⟩
          rw [htrimmed.list]
          exact List.filter_sublist
        · exact h.taken x k hx hallowed (hold hno hxi) hk
      · rw [hlist, ← List.Nodup.erase_eq_filter ht.nodup, List.length_erase_of_mem hmem, ← hceiling]
        omega
      · rw [hlist] at hk
        exact hall k (List.mem_of_mem_filter hk)
    · cases hi

theorem State.LegsListed.enforceLimits_ranked (hs : s.LegsListed) (halone : ∀ i, (s.leg i).partner = none) (c : ClearCause) :
    s.Ranked (State.enforceLimits c 8 s) := by
  have hkept := State.enforceLimits_keeps (c := c)
    (P := fun t => s.Trimmed c t ∧ (t.ceiling = s.ceiling ∧ t.minimum = s.minimum) ∧ s.Ranked t)
    (fun {t i} ⟨htrimmed, hlimits, hranked⟩ hi => ⟨htrimmed.trans ((htrimmed.listed hs).clearForLimit
      (State.limitVictim_mem hi) c), ?_, hranked.clearForLimit hs htrimmed hlimits hi⟩) 8
    (s := s) ⟨State.Trimmed.refl fun i hi => (hs.listed i).mp hi, ⟨rfl, rfl⟩, State.Ranked.refl hs halone⟩
  · exact hkept.2.2
  · have hsame : (t.clearForLimit c i).ceiling = t.ceiling ∧ (t.clearForLimit c i).minimum = t.minimum :=
      t.clearLeg_limits i c .node
    exact ⟨hsame.1.trans hlimits.1, hsame.2.trans hlimits.2⟩

theorem State.LegsListed.limitsChanged_ranked (hs : s.LegsListed) (halone : ∀ i, (s.leg i).partner = none)
    {ceiling : Nat} {minimum : Priority} (htight : s.Tightened ceiling minimum) :
    s.Ranked (s.limitsChanged ceiling minimum c) := by
  by_cases hvictim : s.limitVictim = none
  · rw [State.limitsChanged_noVictim hvictim]
    exact State.Ranked.refl hs halone
  · have hranked := hs.enforceLimits_ranked halone c
    rw [State.limitsChanged_victim htight hvictim]
    obtain ⟨h1, h2, h3⟩ := hranked
    have hleg (k : Fin 8) : ((State.enforceLimits c 8 s).setFlag Flag.limitClear).leg k = (State.enforceLimits c 8 s).leg k := by
      simp [State.leg]
    have hlist : ((State.enforceLimits c 8 s).setFlag Flag.limitClear).calls.startList
        = (State.enforceLimits c 8 s).calls.startList := by simp
    refine ⟨fun i => (congrArg Leg.partner (hleg i)).trans (h1 i), fun i k => ?_, ?_⟩
    · rw [hleg, hleg]
      exact h2 i k
    · rw [hlist]
      exact h3.imp_left fun hall i => by rw [hleg]; exact hall i

/-- How many legs are left without partners: as many as are allowed, up to the ceiling. -/
theorem State.Ranked.length (h : s.Ranked t) (hs : s.LegsListed) (htrimmed : s.Trimmed c t)
    (hlength : t.calls.startList.length ≤ s.ceiling)
    (hallowed : ∀ i ∈ t.calls.startList, s.minimum.code ≤ (s.leg i).priority.code) : t.calls.startList.length
      = min s.ceiling (s.calls.startList.countP (fun i => decide (s.minimum.code ≤ (s.leg i).priority.code))) := by
  have hsub : t.calls.startList.length ≤ s.calls.startList.countP (fun i => decide (s.minimum.code ≤ (s.leg i).priority.code)) := by
    have hcount : t.calls.startList.length
        = t.calls.startList.countP (fun i => decide (s.minimum.code ≤ (s.leg i).priority.code)) :=
      (List.countP_eq_length.mpr fun i hi => decide_eq_true (hallowed i hi)).symm
    rw [hcount, htrimmed.list]
    exact List.Sublist.countP_le List.filter_sublist
  rcases h.room with hall | ⟨hfull, -⟩
  · have hcount : s.calls.startList.countP (fun i => decide (s.minimum.code ≤ (s.leg i).priority.code))
        ≤ t.calls.startList.length := by
      rw [htrimmed.list, ← List.countP_eq_length_filter]
      exact List.countP_mono_left fun i hi hallow => hall i hi (of_decide_eq_true hallow)
    omega
  · omega

end

/-! ### The obligation -/

theorem State.answerOnLeg_of {s : State} {p : Port} {f : Frame} {i : Fin 8}
    (h : (s.leg i).direction = .orig ∧ (s.leg i).state = .originating ∧ ¬ (p = .radio ∧ f.src = (s.leg i).localParty)
      ∨ (s.leg i).direction = .term ∧ (s.leg i).state = .ringing ∧ (p = .radio ∧ f.src = (s.leg i).localParty)) :
    s.answerOnLeg p f i = (s.setLeg i { s.leg i with state := .active, setupTimer := none, lastVoice := none }, true) := by
  refine if_pos (h.imp ?_ ?_)
  · rintro ⟨hdir, hstate, hside⟩
    exact ⟨hdir, hstate, Bool.eq_false_iff.mpr (mt unitSide_iff.mp hside)⟩
  · rintro ⟨hdir, hstate, hside⟩
    exact ⟨hdir, hstate, unitSide_iff.mpr hside⟩

theorem State.answerOnLeg_stray {s : State} {p : Port} {f : Frame} {i : Fin 8}
    (h : ¬ ((s.leg i).direction = .orig ∧ (s.leg i).state = .originating ∧ ¬ (p = .radio ∧ f.src = (s.leg i).localParty)
      ∨ (s.leg i).direction = .term ∧ (s.leg i).state = .ringing ∧ (p = .radio ∧ f.src = (s.leg i).localParty))) :
    s.answerOnLeg p f i = (s.straySignal, false) := by
  refine if_neg (mt (Or.imp ?_ ?_) h)
  · rintro ⟨hdir, hstate, hside⟩
    exact ⟨hdir, hstate, mt unitSide_iff.mpr (Bool.eq_false_iff.mp hside)⟩
  · rintro ⟨hdir, hstate, hside⟩
    exact ⟨hdir, hstate, unitSide_iff.mp hside⟩

/-- Settles O54. -/
theorem setupTimerClearsWithNoAnswer : Obligations.SetupTimerClearsWithNoAnswer := by
  refine ⟨fun s i d htimer hstate => ?_, fun s i c w => ?_, fun s p f id => ?_, fun s ceiling minimum c hnodup hlegs => ?_⟩
  · intro cleared notice
    have hbusy : (s.leg i).state ≠ .idle := by rcases hstate with h | h <;> rw [h] <;> exact nofun
    have hwork {u : State} (hu : (s.at d).clearLeg i .noAnswer .node = u) : workOf (.setupTimerExpiry i) { s with scratch := {} }
        = u.countCalls (fun k => { k with setupTimeouts := k.setupTimeouts + 1 }) := by
      show State.expire { s with scratch := {} } (s.leg i).setupTimer (fun u => u.setupExpires i) = _
      rw [htimer, State.expire_some, ← hu]
      rfl
    refine ⟨fun hnone => ?_, fun j hj hjbusy hne hid => ?_⟩
    · have halone : (s.at d).partnerOf i = none := by
        rw [State.partnerOf, show ((s.at d).leg i).partner = none from hnone]
      exact (exec_settled (hwork ((s.at d).clearLeg_alone hbusy .noAnswer .node halone)) rfl).trans rfl
    · have hpair : (s.at d).partnerOf i = some j := (s.at d).partnerOf_eq_some.mpr ⟨hj, hjbusy⟩
      exact (exec_settled (hwork ((s.at d).clearLeg_pair hbusy .noAnswer .node hpair hne)) rfl).trans rfl
  · intro l notice
    refine ⟨fun hidle => s.clearLeg_idle hidle c w, fun hbusy halone => ?_, fun j hbusy hpartner hne hjbusy => ?_⟩
    · exact State.clearLeg_alone hbusy c w (s.partnerOf_eq_none.mpr halone)
    · exact State.clearLeg_pair hbusy c w (s.partnerOf_eq_some.mpr ⟨hpartner, hjbusy⟩) hne
  · intro stray side found answered
    refine ⟨fun c hkind hpayload => ?_, fun hkind hpayload => ?_, fun hkind hpayload i hone => ?_,
      fun hkind hpayload hnone => ?_, fun x coded hkind hpayload hcoded hnone => ?_⟩
    · rw [State.inspect_clear hkind hpayload]
      refine ⟨fun hnone => State.callFrame_none hnone, fun i hone => ?_, fun i j hlt htwo hpartner => ?_⟩
      · rw [State.callFrame_one hone]
        intro bothHere
        have hboth : (s.partnerOf i).isSome = true ↔ bothHere := by
          rw [Option.isSome_iff_exists]
          exact exists_congr fun j => State.partnerOf_eq_some (s := s)
        refine ⟨fun h => ?_, fun hside hno => ?_⟩
        · rw [State.clearOnLeg, if_pos (h.imp unitSide_iff.mpr hboth.mpr)]
        · rw [State.clearOnLeg, if_neg (by rw [unitSide_iff, hboth]; exact fun h => h.elim hside hno)]
      · have hjbusy := ((htwo j).mpr (.inr rfl)).1
        have hpair : s.partnerOf i = some j := s.partnerOf_eq_some.mpr ⟨hpartner, hjbusy⟩
        have hfirst : s.clearOnLeg p f c i = (s.clearLeg i c (.unit f.src), false) := by
          rw [State.clearOnLeg, hpair]
          simp
        have hidle : ((s.clearLeg i c (.unit f.src)).leg j).state = .idle := by
          rw [s.clearLeg_leg ((htwo i).mpr (.inl rfl)).1, if_pos (.inr hpair)]
          rfl
        rw [State.callFrame_two hlt htwo, hfirst]
        exact if_pos hidle
    · rw [State.inspect_answer hkind hpayload]
      intro takes
      refine ⟨fun i hone => ?_, fun i j hlt htwo hi hj => ?_⟩
      · rw [State.callFrame_one hone]
        exact ⟨fun h => State.answerOnLeg_of h, fun h => State.answerOnLeg_stray h⟩
      · have hne : i ≠ j := fun e => absurd hlt (by rw [e]; exact lt_irrefl _)
        have hsame : (answered s i).leg j = s.leg j := (s.leg_setLeg i j _).trans (if_neg hne)
        have hfirst : s.answerOnLeg p f i = (answered s i, true) := State.answerOnLeg_of hi
        have hsecond : (answered s i).answerOnLeg p f j = (answered (answered s i) j, true) :=
          State.answerOnLeg_of (by rw [hsame]; exact hj)
        rw [State.callFrame_two hlt htwo, hfirst]
        simp only
        rw [hsame, if_neg ((htwo j).mpr (.inr rfl)).1, hsecond]
        rfl
    · rw [State.inspect_alerting hkind hpayload, State.callFrame_one hone]
      have hunit : unitSide p f (s.leg i) = false ↔ ¬ side i := by rw [← Bool.not_eq_true, unitSide_iff]
      refine ⟨fun h => if_pos ⟨h.1, h.2.1, hunit.mpr h.2.2⟩, fun h => if_neg fun ⟨hd, hs, hu⟩ => h ⟨hd, hs, hunit.mp hu⟩⟩
    · have hinspect : s.inspect p f = if p ≠ .radio ∧ s.attachedHere f.dest = true then (stray, false) else (s, true) := by
        rcases hkind with hkind | hkind
        · rw [State.inspect_answer hkind hpayload, State.callFrame_none hnone]
          rfl
        · rw [State.inspect_alerting hkind hpayload, State.callFrame_none hnone]
          rfl
      rw [hinspect]
      exact ⟨fun h => if_pos h, fun h => if_neg h⟩
    · rw [State.inspect_voice hkind hpayload hcoded, State.callFrame_none hnone]
      exact ⟨fun h => if_pos h, fun h => if_neg h⟩
  · intro u tightened allowed
    have hs : s.LegsListed := ⟨hnodup, fun i => (hlegs i).1, fun i => (hlegs i).2.1, fun i => (hlegs i).2.2⟩
    refine ⟨fun h => State.limitsChanged_same h, fun hall hlength => ?_, fun htight => ?_⟩
    · refine State.limitsChanged_noVictim (State.limitVictim_eq_none (fun i hi => ?_) hlength)
      exact of_decide_eq_true (List.all_eq_true.mp hall i hi)
    · obtain ⟨htrimmed, hdone, hflag⟩ := hs.limitsChanged htight (c := c)
      obtain ⟨hceiling, hminimum⟩ := s.limitsChanged_limits ceiling minimum c
      obtain ⟨hlength, hleast⟩ := State.within_of_noVictim hdone
      rw [hceiling] at hlength
      rw [hminimum] at hleast
      have hallowed (i : Fin 8) (hi : i ∈ u.calls.startList) : s.minimum.code ≤ (s.leg i).priority.code :=
        htrimmed.priority i ▸ hleast i hi
      refine ⟨htrimmed.leg, fun i hi => decide_eq_true (hallowed i (((htrimmed.listed hs).listed i).mpr hi)), htrimmed.list,
        hlength, htrimmed.counters, fun ⟨i, hi⟩ => hflag fun hvictim => ?_, fun halone => ⟨?_, fun i k hi hallow hno hk => ?_⟩⟩
      · exact hi (congrArg (fun t : State => t.leg i) (State.limitsChanged_noVictim hvictim))
      · exact (hs.limitsChanged_ranked halone htight).length hs htrimmed hlength hallowed
      · refine ((hs.limitsChanged_ranked (c := c) halone htight).taken i k hi (of_decide_eq_true hallow) hno hk).imp_right ?_
        rintro ⟨heq, hsub⟩
        exact ⟨heq, sublist_pair_iff.mp hsub⟩

end Sys2Proof.Machine

end

section

set_option Elab.async false

/-! PROOF. The units of the tag lists in the station table (R59, R149). -/

namespace Sys2Proof.Machine

/-! ### One entry looked for in a changed table -/

theorem findEntry_cons (x : Entry) (l : List Entry) (a : Addr) :
    findEntry (x :: l) a = if x.address = a then some x else findEntry l a := by
  rw [findEntry, List.find?_cons]
  by_cases h : x.address = a
  · simp [h]
  · rw [if_neg h, show (x.address == a) = false from by simpa using h] <;> rfl

theorem findEntry_insertEntry_ne {e : Entry} {a : Addr} (h : e.address ≠ a) (l : List Entry) :
    findEntry (insertEntry e l) a = findEntry l a := by
  induction l with
  | nil => rw [insertEntry, findEntry_cons, if_neg h]
  | cons x l ih =>
    unfold insertEntry
    split
    · rw [findEntry_cons, if_neg h]
    · rw [findEntry_cons, findEntry_cons, ih]

theorem findEntry_insertEntry_self {e : Entry} {l : List Entry} (h : findEntry l e.address = none) :
    findEntry (insertEntry e l) e.address = some e := by
  induction l with
  | nil => rw [insertEntry, findEntry_cons, if_pos rfl]
  | cons x l ih =>
    rw [findEntry_cons] at h
    split at h
    · cases h
    next hx =>
      unfold insertEntry
      split
      · rw [findEntry_cons, if_pos rfl]
      · rw [findEntry_cons, if_neg hx, ih h]

theorem replaceEntry_cons (e x : Entry) (l : List Entry) :
    replaceEntry e (x :: l) = (if x.address = e.address then e else x) :: replaceEntry e l := rfl

theorem findEntry_replaceEntry_ne {e : Entry} {a : Addr} (h : e.address ≠ a) (l : List Entry) :
    findEntry (replaceEntry e l) a = findEntry l a := by
  induction l with
  | nil => rfl
  | cons x l ih =>
    rw [replaceEntry_cons, findEntry_cons, findEntry_cons, ih, replaceEntry_address]
    split
    next hx => rw [if_neg fun hxe : x.address = e.address => h (hxe.symm.trans hx)]
    · rfl

theorem findEntry_replaceEntry_self {e x : Entry} {l : List Entry} (h : findEntry l e.address = some x) :
    findEntry (replaceEntry e l) e.address = some e := by
  induction l with
  | nil => cases h
  | cons y l ih =>
    rw [findEntry_cons] at h
    rw [replaceEntry_cons, findEntry_cons, replaceEntry_address]
    split at h
    next hy => rw [if_pos hy, if_pos hy]
    next hy => rw [if_neg hy, ih h]

/-! ### Creation for muster (R59) -/

section

variable (s : State) (a : Addr)

theorem State.mem_setMark {m : Muster} {e : Entry} (h : e ∈ (s.setMark a m).table.entries) :
    e.address = a ∧ e.mark = m ∨ e.address ≠ a ∧ e ∈ s.table.entries := by
  unfold State.setMark at h
  split at h
  next x hx =>
    obtain ⟨-, haddress⟩ := findEntry_eq_some hx
    obtain ⟨y, hy, rfl⟩ := List.mem_map.mp h
    split
    · exact .inl ⟨haddress, rfl⟩
    next hne => exact .inr ⟨fun hya => hne (hya.trans haddress.symm), hy⟩
  next hnone => exact .inr ⟨findEntry_eq_none.mp hnone e h, h⟩

theorem State.mem_createForMuster {e : Entry} (h : e ∈ (s.createForMuster a).table.entries) (hne : e.address ≠ a) :
    e ∈ s.table.entries := by
  have hinsert {t : State} (ht : e ∈ (t.insertNew a .fieldHere none).table.entries) : e ∈ t.table.entries := by
    rw [State.insertNew_entries] at ht
    exact (mem_insertEntry.mp ht).resolve_left fun he => hne (he ▸ rfl)
  unfold State.createForMuster State.createEntry State.makeRoom at h
  split at h
  · exact h
  · split at h
    · exact h
    · split at h
      next t ht =>
        split at ht
        · obtain rfl := Option.some.inj ht
          exact hinsert h
        · split at ht
          next v hv =>
            obtain rfl := Option.some.inj ht
            have hdropped := hinsert h
            rw [show ((s.dropEntry v).countTable _).table.entries = (s.dropEntry v).table.entries from rfl,
              State.dropEntry_entries] at hdropped
            exact List.mem_of_mem_filter hdropped
          · cases ht
      · simpa [State.learnFails] using h

/-- The evacuation controller's creations tell no station anything. -/
theorem State.createForMuster_evac : (s.createForMuster a).evac = s.evac := by
  have hinsert (t : State) : (t.insertNew a .fieldHere none).evac = t.evac := by
    unfold State.insertNew
    simp only
    rfl
  unfold State.createForMuster State.createEntry State.makeRoom
  split
  · rfl
  · split
    · rfl
    · split
      next t ht =>
        split at ht
        · obtain rfl := Option.some.inj ht
          exact hinsert s
        · split at ht
          · obtain rfl := Option.some.inj ht
            rw [hinsert]
            simp
          · cases ht
      · simp

theorem State.tagUnit_evac : (s.tagUnit a).evac = s.evac := by
  rw [State.tagUnit, ← State.createForMuster_evac s a]
  simp

/-- A unit of a tag list is marked, and no entry but its own is touched. -/
theorem State.mem_tagUnit {e : Entry} (h : e ∈ (s.tagUnit a).table.entries) :
    e.address = a ∧ e.mark = .inRefuge ∨ e.address ≠ a ∧ e ∈ s.table.entries := by
  refine (State.mem_setMark _ a h).imp_right fun ⟨hne, hmem⟩ => ⟨hne, s.mem_createForMuster a hmem hne⟩

theorem State.nodeAddr?_tagUnit : (s.tagUnit a).nodeAddr? = s.nodeAddr? := by
  simp [State.nodeAddr?, Net.nodeAddr?]

end

/-- The entries after units of tag lists have been marked. -/
theorem State.mem_foldl_tagUnit {e : Entry} (l : List Addr) : ∀ {s : State}, e ∈ (l.foldl State.tagUnit s).table.entries →
    e.address ∈ l ∧ e.mark = .inRefuge ∨ e.address ∉ l ∧ e ∈ s.table.entries := by
  induction l with
  | nil => exact fun h => .inr ⟨List.not_mem_nil, h⟩
  | cons a l ih =>
    intro s h
    rcases ih h with ⟨hmem, hmark⟩ | ⟨hno, hmem⟩
    · exact .inl ⟨List.mem_cons_of_mem _ hmem, hmark⟩
    · rcases s.mem_tagUnit a hmem with ⟨haddress, hmark⟩ | ⟨hne, hmem⟩
      · exact .inl ⟨haddress ▸ List.mem_cons_self, hmark⟩
      · exact .inr ⟨fun h => (List.mem_cons.mp h).elim hne hno, hmem⟩

theorem State.foldl_tagUnit_evac (l : List Addr) (s : State) : (l.foldl State.tagUnit s).evac = s.evac :=
  foldl_keeps (fun t : State => t.evac) _ (fun t a => t.tagUnit_evac a) l s

theorem State.foldl_tagUnit_nodeAddr? (l : List Addr) (s : State) : (l.foldl State.tagUnit s).nodeAddr? = s.nodeAddr? :=
  foldl_keeps (fun t : State => t.nodeAddr?) _ (fun t a => t.nodeAddr?_tagUnit a) l s

/-! ### With room for every unit (R57, R59) -/

/-- What marking units of tag lists leaves where no entry has to give way. -/
structure TagsRoomy (l : List Addr) (s t : State) : Prop where
  seg : t.seg = s.seg
  length : t.table.entries.length ≤ s.table.entries.length + l.length
  other : ∀ a, a ∉ l → t.entry? a = s.entry? a
  there : ∀ a ∈ l, ∀ e, s.entry? a = some e → t.entry? a = some { e with mark := .inRefuge }
  new : ∀ a ∈ l, s.nodeAddr? ≠ some a → s.entry? a = none → ∃ e, t.entry? a = some e ∧ e.location = .fieldHere ∧ e.age = 0
    ∧ e.mark = .inRefuge ∧ e.attach = none

theorem State.setMark_seg (s : State) (a : Addr) (m : Muster) : (s.setMark a m).seg = s.seg := by simp

theorem State.setMark_length (s : State) (a : Addr) (m : Muster) :
    (s.setMark a m).table.entries.length = s.table.entries.length := by
  unfold State.setMark
  split
  · simp [State.setEntries, replaceEntry]
  · rfl

theorem State.setMark_entry?_ne {s : State} {a b : Addr} (h : a ≠ b) (m : Muster) : (s.setMark a m).entry? b = s.entry? b := by
  unfold State.setMark
  split
  next e he =>
    obtain ⟨-, haddress⟩ := findEntry_eq_some he
    exact findEntry_replaceEntry_ne (e := { e with mark := m }) (by exact haddress ▸ h) _
  · rfl

theorem State.setMark_entry?_self {s : State} {a : Addr} {e : Entry} (h : s.entry? a = some e) (m : Muster) :
    (s.setMark a m).entry? a = some { e with mark := m } := by
  obtain ⟨-, haddress⟩ := findEntry_eq_some h
  have hreplaced := findEntry_replaceEntry_self (e := { e with mark := m }) (l := s.table.entries) (x := e) (by
    exact haddress ▸ h)
  rw [State.setMark, h]
  exact haddress ▸ hreplaced

theorem State.createForMuster_of_some {s : State} {a : Addr} {e : Entry} (h : s.entry? a = some e) : s.createForMuster a = s := by
  rw [State.createForMuster, h]

theorem State.createForMuster_of_own {s : State} {a : Addr} (h : s.entry? a = none) (hown : s.nodeAddr? = some a) :
    s.createForMuster a = s := by
  rw [State.createForMuster, h]
  exact if_pos hown

theorem State.createForMuster_of_room {s : State} {a : Addr} (h : s.entry? a = none) (hown : s.nodeAddr? ≠ some a)
    (hroom : s.table.entries.length < tableCapacity) : s.createForMuster a = s.insertNew a .fieldHere none := by
  rw [State.createForMuster, h]
  simp only
  rw [State.createEntry, if_neg hown, State.makeRoom, if_pos hroom]

theorem State.insertNew_away_seg (s : State) (a : Addr) : (s.insertNew a .fieldHere none).seg = s.seg := rfl

theorem tagsRoomy_tagUnit {s : State} {a : Addr} (hroom : s.table.entries.length < tableCapacity) :
    TagsRoomy [a] s (s.tagUnit a) := by
  cases he : s.entry? a with
  | some e =>
    rw [State.tagUnit, State.createForMuster_of_some he]
    refine ⟨s.setMark_seg a _, by rw [s.setMark_length]; exact Nat.le_add_right _ _, fun b hb => ?_, fun b hb x hx => ?_,
      fun b hb _ hnone => ?_⟩
    · exact State.setMark_entry?_ne (fun hab : a = b => hb (by simp [hab])) _
    · obtain rfl := List.mem_singleton.mp hb
      exact State.setMark_entry?_self hx _
    · obtain rfl := List.mem_singleton.mp hb
      rw [he] at hnone
      cases hnone
  | none =>
    by_cases hown : s.nodeAddr? = some a
    · have hsame : s.tagUnit a = s := by
        rw [State.tagUnit, State.createForMuster_of_own he hown, State.setMark, he]
      rw [hsame]
      refine ⟨rfl, Nat.le_add_right _ _, fun _ _ => rfl, fun b hb x hx => ?_, fun b hb hb' => ?_⟩
      · obtain rfl := List.mem_singleton.mp hb
        rw [he] at hx
        cases hx
      · obtain rfl := List.mem_singleton.mp hb
        exact absurd hown hb'
    · have hnew : (s.insertNew a .fieldHere none).entry? a = some (s.newEntry a .fieldHere none) := by
        rw [State.entry?, State.insertNew_entries]
        exact findEntry_insertEntry_self (e := s.newEntry a .fieldHere none) he
      rw [State.tagUnit, State.createForMuster_of_room he hown hroom]
      refine ⟨State.setMark_seg _ _ _, ?_, fun b hb => ?_, fun b hb x hx => ?_, fun b hb _ _ => ?_⟩
      · rw [State.setMark_length, State.insertNew_entries, (insertEntry_perm _ _).length_eq]
        simp
      · have hne : a ≠ b := fun e => hb (e ▸ List.mem_singleton_self a)
        rw [State.setMark_entry?_ne hne, State.entry?, State.insertNew_entries]
        exact findEntry_insertEntry_ne (e := s.newEntry a .fieldHere none) hne _
      · obtain rfl := List.mem_singleton.mp hb
        rw [he] at hx
        cases hx
      · obtain rfl := List.mem_singleton.mp hb
        exact ⟨_, State.setMark_entry?_self hnew _, rfl, rfl, rfl, rfl⟩

theorem tagsRoomy_foldl_tagUnit (l : List Addr) : ∀ {s : State}, s.table.entries.length + l.length ≤ tableCapacity →
    TagsRoomy l s (l.foldl State.tagUnit s) := by
  induction l with
  | nil => exact fun _ => ⟨rfl, Nat.le_add_right _ _, fun _ _ => rfl, nofun, nofun⟩
  | cons a l ih =>
    intro s hroom
    have hfirst : TagsRoomy [a] s (s.tagUnit a) := tagsRoomy_tagUnit (by
      rw [List.length_cons] at hroom
      omega)
    have hrest := ih (s := s.tagUnit a) (by
      have hlength := hfirst.length
      rw [List.length_cons] at hroom
      rw [List.length_singleton] at hlength
      omega)
    have hsame (b : Addr) (hb : b ∉ l) : (l.foldl State.tagUnit (s.tagUnit a)).entry? b = (s.tagUnit a).entry? b := hrest.other b hb
    rw [List.foldl_cons]
    refine ⟨hrest.seg.trans hfirst.seg, ?_, fun b hb => ?_, fun b hb e he => ?_, fun b hb hown hnone => ?_⟩
    · have h1 := hrest.length
      have h2 := hfirst.length
      rw [List.length_singleton] at h2
      rw [List.length_cons]
      omega
    · rw [List.mem_cons, not_or] at hb
      rw [hsame b hb.2]
      exact hfirst.other b (by simpa using hb.1)
    · by_cases hba : b = a
      · have hmarked := hfirst.there b (by simp [hba]) e he
        by_cases hbl : b ∈ l
        · have hagain := hrest.there b hbl _ hmarked
          exact hagain
        · rw [hsame b hbl]
          exact hmarked
      · have hbl : b ∈ l := (List.mem_cons.mp hb).resolve_left hba
        refine hrest.there b hbl e ?_
        rw [hfirst.other b (by simpa using hba)]
        exact he
    · by_cases hba : b = a
      · obtain ⟨e, he, hlocation, hage, hmark, hattach⟩ := hfirst.new b (by simp [hba]) hown hnone
        by_cases hbl : b ∈ l
        · exact ⟨_, hrest.there b hbl e he, hlocation, hage, rfl, hattach⟩
        · exact ⟨e, (hsame b hbl).trans he, hlocation, hage, hmark, hattach⟩
      · have hbl : b ∈ l := (List.mem_cons.mp hb).resolve_left hba
        refine hrest.new b hbl ?_ ?_
        · rw [State.nodeAddr?_tagUnit]
          exact hown
        · rw [hfirst.other b (by simpa using hba)]
          exact hnone

/-! ### The tag lists of every panel (R149) -/

/-- The units of every panel's tag list, in index order. -/
def State.panelTags (s : State) (l : List (Fin 8)) : List Addr := l.flatMap (fun i => (s.panel i).tags)

theorem State.foldl_applyTags_eq (l : List (Fin 8)) : ∀ (s : State),
    l.foldl (fun t i => t.applyTags (t.panel i).tags) s = (s.panelTags l).foldl State.tagUnit s := by
  induction l with
  | nil => exact fun _ => rfl
  | cons i l ih =>
    intro s
    have hpanels (j : Fin 8) : (s.applyTags (s.panel i).tags).panel j = s.panel j := by
      rw [State.panel, State.applyTags, State.foldl_tagUnit_evac]
      rfl
    have htags : (s.applyTags (s.panel i).tags).panelTags l = s.panelTags l := by
      rw [State.panelTags, State.panelTags]
      exact List.flatMap_congr fun j _ => by rw [hpanels]
    rw [List.foldl_cons, ih, htags]
    unfold State.panelTags
    rw [List.flatMap_cons, List.foldl_append]
    rfl

end Sys2Proof.Machine

end

section

set_option Elab.async false

/-! PROOF. Entering EVACUATE (R142): the legs that fall, the tagged units, the notices, the breaches and the report. -/

namespace Sys2Proof.Machine

/-! ### The legs that fall (R97, R98) -/

/-- The minimum priority of EVACUATE at a shed level, as a code. -/
def leastPriority (shed : Nat) : Nat := if 3 ≤ shed then 2 else 1

theorem minimumPriority_evacuate_code (shed : Nat) : (minimumPriority shed .evacuate).code = leastPriority shed := by
  unfold minimumPriority leastPriority
  split
  · rfl
  · split <;> rfl

/-- EVACUATE has just been entered. -/
def State.entered (s : State) : State :=
  ((s.setEvacState .evacuate).countEvac (fun k => { k with evacEntries := k.evacEntries + 1 })).setFlag Flag.evacChange

section

variable (s : State)

theorem State.entered_calls : s.entered.calls = s.calls := by simp [State.entered]

theorem State.entered_leg (i : Fin 8) : s.entered.leg i = s.leg i := by rw [State.leg, State.entered_calls]; rfl

theorem State.entered_ceiling : s.entered.ceiling = s.ceiling := by simp [State.entered, State.ceiling]

theorem State.entered_minimum : s.entered.minimum.code = leastPriority s.supply.shedLevel := by
  have hstate : s.entered.evac.state = .evacuate := by simp [State.entered, State.setEvacState]
  have hshed : s.entered.supply = s.supply := by simp [State.entered]
  rw [State.minimum, hstate, hshed, minimumPriority_evacuate_code]

/-- The leg table after the change of the limits. -/
def State.limited (s : State) : State := s.entered.limitsChanged s.ceiling s.minimum .evacuating

variable {s}

theorem State.LegsKept.legsListed (h : s.LegsKept) : s.LegsListed :=
  ⟨h.nodup, fun i => (h.leg i).1, h.listed, fun i hi => (h.partner i i hi).2.2 rfl⟩

theorem State.fallsBelow_iff {least : Nat} {i : Fin 8} : s.fallsBelow least i = true ↔ (s.leg i).counting = true
    ∧ ((s.leg i).priority.code < least ∨ ∃ j, (s.leg i).partner = some j ∧ (s.leg j).priority.code < least) := by
  unfold State.fallsBelow
  cases hpartner : (s.leg i).partner <;> simp

/-- A limit change below the ceiling clears legs below the minimum alone, with their partners. -/
structure State.FallsOnly (s t : State) : Prop where
  kept : t.LegsKept
  trimmed : s.Trimmed .evacuating t
  limits : t.ceiling = s.ceiling ∧ t.minimum = s.minimum
  falls : ∀ i, (s.leg i).counting = true → (t.leg i).counting = false → s.fallsBelow s.minimum.code i = true

theorem State.FallsOnly.clearForLimit {t : State} {i : Fin 8} (h : s.FallsOnly t)
    (hlength : s.calls.startList.length ≤ s.ceiling) (hi : t.limitVictim = some i) :
    s.FallsOnly (t.clearForLimit .evacuating i) := by
  have hmem := State.limitVictim_mem hi
  have hcleared := h.kept.legsListed.clearForLimit hmem .evacuating
  have hwithin : t.calls.startList.length ≤ t.ceiling := by
    rw [h.limits.1, h.trimmed.list]
    exact (List.length_filter_le _ _).trans hlength
  have hbelow : (s.leg i).priority.code < s.minimum.code := by
    unfold State.limitVictim at hi
    split at hi
    next j hj =>
      obtain rfl := Option.some.inj hi
      rw [← h.trimmed.priority, ← h.limits.2]
      simpa using (State.newestLeg_eq_some hj).2
    · rw [if_neg (not_lt.mpr hwithin)] at hi
      cases hi
  have hcounts {k : Fin 8} (hk : (t.leg k).counting = true) : t.leg k = s.leg k := h.trimmed.counting hk
  refine ⟨(h.kept.clearLeg i .evacuating .node).unchanged rfl rfl, h.trimmed.trans hcleared, ?_, fun k hk hno => ?_⟩
  · have hsame : (t.clearForLimit .evacuating i).ceiling = t.ceiling ∧ (t.clearForLimit .evacuating i).minimum = t.minimum :=
      t.clearLeg_limits i .evacuating .node
    exact ⟨hsame.1.trans h.limits.1, hsame.2.trans h.limits.2⟩
  · cases hold : (t.leg k).counting with
    | false => exact h.falls k hk hold
    | true =>
      have hgone : k = i ∨ t.partnerOf i = some k := by
        by_contra hstays
        have hsame : (t.clearForLimit .evacuating i).leg k = t.leg k :=
          (t.clearLeg_leg (h.kept.legsListed.busy hmem) .evacuating .node k).trans (if_neg hstays)
        rw [hsame, hold] at hno
        cases hno
      rw [State.fallsBelow_iff]
      refine ⟨hk, ?_⟩
      rcases hgone with rfl | hpartner
      · exact .inl hbelow
      · obtain ⟨hpartner, -⟩ := t.partnerOf_eq_some.mp hpartner
        obtain ⟨-, hback, -⟩ := h.kept.partner i k hpartner
        rw [hcounts hold] at hback
        exact .inr ⟨i, hback, hbelow⟩

theorem State.LegsKept.enforceLimits_falls (h : s.LegsKept) (hlength : s.calls.startList.length ≤ s.ceiling) :
    s.FallsOnly (State.enforceLimits .evacuating 8 s) :=
  State.enforceLimits_keeps (P := s.FallsOnly) (fun ht hi => ht.clearForLimit hlength hi) 8
    ⟨h, State.Trimmed.refl fun i hi => (h.listed i).mp hi, ⟨rfl, rfl⟩, fun i hi hno => by rw [hi] at hno; cases hno⟩

/-- What entering EVACUATE leaves of the leg table. -/
structure State.LegsFallen (s t : State) : Prop where
  leg : ∀ i, t.leg i = if s.fallsBelow (leastPriority s.supply.shedLevel) i then (s.leg i).clearedWith .evacuating else s.leg i
  list : t.calls.startList = s.calls.startList.filter (fun i => !s.fallsBelow (leastPriority s.supply.shedLevel) i)
  counters : t.calls.counters = { s.calls.counters with
    limitClears := s.calls.counters.limitClears
      + BitVec.ofNat 32 (legIndices.countP (fun i => s.fallsBelow (leastPriority s.supply.shedLevel) i)) }
  flag : (∃ i, s.fallsBelow (leastPriority s.supply.shedLevel) i = true) → t.Flagged Flag.limitClear
  same : (∀ i, s.fallsBelow (leastPriority s.supply.shedLevel) i = false) → t = s.entered

/-- Nobody is below the minimum: nothing is cleared. -/
theorem State.CallsKept.entered_noVictim (h : s.CallsKept)
    (hnone : ∀ i, s.fallsBelow (leastPriority s.supply.shedLevel) i = false) : s.entered.limitVictim = none := by
  refine State.limitVictim_eq_none (fun i hi => ?_) ?_
  · rw [State.entered_minimum, State.entered_leg]
    rw [State.entered_calls] at hi
    by_contra hlow
    have hfalls := State.fallsBelow_iff.mpr ⟨(h.legs.listed i).mp hi, .inl (not_le.mp hlow)⟩
    rw [hnone] at hfalls
    cases hfalls
  · rw [State.entered_calls, State.entered_ceiling]
    exact h.limits.1

theorem State.CallsKept.limited_fallsOnly (h : s.CallsKept) :
    s.entered.FallsOnly s.limited ∧ s.limited.limitVictim = none
    ∧ (s.entered.limitVictim ≠ none → s.limited.Flagged Flag.limitClear) := by
  have hkept : s.entered.LegsKept := h.legs.unchanged (by rw [State.entered_calls]) (by rw [State.entered_calls])
  have hlength : s.entered.calls.startList.length ≤ s.entered.ceiling := by
    rw [State.entered_calls, State.entered_ceiling]
    exact h.limits.1
  by_cases hvictim : s.entered.limitVictim = none
  · have hsame : s.limited = s.entered := State.limitsChanged_noVictim hvictim
    rw [hsame]
    refine ⟨⟨hkept, State.Trimmed.refl fun i hi => (hkept.listed i).mp hi, ⟨rfl, rfl⟩, fun i hi hno => ?_⟩, hvictim,
      fun hne => absurd hvictim hne⟩
    rw [hi] at hno
    cases hno
  · have htight : s.entered.Tightened s.ceiling s.minimum := by
      by_contra hloose
      refine hvictim (State.limitVictim_eq_none (fun i hi => ?_) hlength)
      have hminimum : s.entered.minimum.code ≤ s.minimum.code := not_lt.mp fun hlt => hloose (.inr hlt)
      rw [State.entered_leg]
      rw [State.entered_calls] at hi
      exact hminimum.trans (h.limits.2 i hi)
    have hfalls := hkept.enforceLimits_falls hlength
    obtain ⟨htrimmed, hdone, hflag⟩ := hkept.legsListed.limitsChanged htight (c := .evacuating)
    refine ⟨⟨?_, htrimmed, s.entered.limitsChanged_limits _ _ _, fun i hi hno => ?_⟩, hdone, hflag⟩
    · have heq : s.limited = (State.enforceLimits .evacuating 8 s.entered).setFlag Flag.limitClear :=
        State.limitsChanged_victim htight hvictim
      rw [heq]
      exact hfalls.kept.unchanged (by simp) (by simp)
    · have heq : s.limited = (State.enforceLimits .evacuating 8 s.entered).setFlag Flag.limitClear :=
        State.limitsChanged_victim htight hvictim
      rw [heq] at hno
      refine hfalls.falls i hi ?_
      rw [← hno]
      simp [State.leg]

theorem State.CallsKept.limited_fallen (h : s.CallsKept) : s.LegsFallen s.limited := by
  obtain ⟨hfalls, hdone, hflag⟩ := h.limited_fallsOnly
  have hbelow (i : Fin 8) : s.entered.fallsBelow s.entered.minimum.code i = s.fallsBelow (leastPriority s.supply.shedLevel) i := by
    rw [State.entered_minimum]
    simp only [State.fallsBelow, State.entered_leg]
  obtain ⟨-, hleast⟩ := State.within_of_noVictim hdone
  rw [hfalls.limits.2, State.entered_minimum] at hleast
  have hlisted := hfalls.kept.listed
  have hcounting (i : Fin 8) (hi : (s.leg i).counting = true) :
      (s.limited.leg i).counting = !s.fallsBelow (leastPriority s.supply.shedLevel) i := by
    cases hno : (s.limited.leg i).counting with
    | false =>
      rw [← hbelow, hfalls.falls i (by rw [State.entered_leg]; exact hi) hno]
      rfl
    | true =>
      have hleg : s.limited.leg i = s.leg i := (hfalls.trimmed.counting hno).trans (s.entered_leg i)
      have hhigh (k : Fin 8) (hk : (s.limited.leg k).counting = true) : leastPriority s.supply.shedLevel ≤ (s.leg k).priority.code := by
        rw [← State.entered_leg, ← hfalls.trimmed.priority]
        exact hleast k ((hlisted k).mpr hk)
      have hstays : ¬ s.fallsBelow (leastPriority s.supply.shedLevel) i = true := by
        rw [State.fallsBelow_iff]
        rintro ⟨-, hlow | ⟨j, hj, hlow⟩⟩
        · exact absurd (hhigh i hno) (not_le.mpr hlow)
        · obtain ⟨-, hback, -⟩ := hfalls.kept.partner i j (hleg ▸ hj)
          obtain ⟨hcount, -⟩ := hfalls.kept.partner j i hback
          exact absurd (hhigh j hcount) (not_le.mpr hlow)
      rw [Bool.eq_false_iff.mpr hstays]
      rfl
  have hnotCounting (i : Fin 8) (hi : (s.leg i).counting = false) : s.fallsBelow (leastPriority s.supply.shedLevel) i = false :=
    Bool.eq_false_iff.mpr fun hf => by rw [(State.fallsBelow_iff.mp hf).1] at hi; cases hi
  refine ⟨fun i => ?_, ?_, ?_, fun ⟨i, hi⟩ => hflag fun hvictim => ?_, fun hnone => ?_⟩
  · rcases hfalls.trimmed.leg i with e | ⟨hcount, e⟩
    · rw [e, State.entered_leg]
      cases hi : (s.leg i).counting with
      | false => rw [hnotCounting i hi]; rfl
      | true =>
        have hstill := hcounting i hi
        rw [e, State.entered_leg, hi] at hstill
        rw [show s.fallsBelow (leastPriority s.supply.shedLevel) i = false from by simpa using hstill.symm]
        rfl
    · rw [State.entered_leg] at hcount e
      have hgone := hcounting i hcount
      rw [e, Leg.counting_clearedWith] at hgone
      rw [e, show s.fallsBelow (leastPriority s.supply.shedLevel) i = true from by simpa using hgone.symm]
      rfl
  · rw [hfalls.trimmed.list, State.entered_calls]
    exact List.filter_congr fun i hi => hcounting i ((h.legs.listed i).mp hi)
  · have hcount : s.calls.startList.countP (fun i => !(s.limited.leg i).counting)
        = legIndices.countP (fun i => s.fallsBelow (leastPriority s.supply.shedLevel) i) := by
      have hperm : (legIndices.filter (fun i => (s.leg i).counting)).Perm s.calls.startList :=
        (List.perm_ext_iff_of_nodup ((by decide : legIndices.Nodup).filter _) h.legs.nodup).mpr fun i => by
          rw [List.mem_filter, h.legs.listed]
          exact and_iff_right (mem_legIndices i)
      rw [← hperm.countP_eq, List.countP_filter]
      refine List.countP_congr fun i _ => ?_
      cases hi : (s.leg i).counting with
      | false => simp [hnotCounting i hi]
      | true => simp [hcounting i hi]
    rw [hfalls.trimmed.counters, State.entered_calls, hcount]
  · have hsame : s.limited = s.entered := State.limitsChanged_noVictim hvictim
    have hcount := (State.fallsBelow_iff.mp hi).1
    have hstill := hcounting i hcount
    rw [hsame, State.entered_leg, hcount, hi] at hstill
    cases hstill
  · exact State.limitsChanged_noVictim (h.entered_noVictim hnone)

end

end Sys2Proof.Machine

end

section

set_option Elab.async false

/-! PROOF. What entering EVACUATE leaves (R142, R144, R147, R149, R150), and its orders and requests (R139 to R143). -/

namespace Sys2Proof.Machine

/-! ### The report (R147) -/

/-- A MUSTER REPORT has been sent and counted. -/
def State.reported (s : State) (own : Addr) : State :=
  ({ s with
    scratch := { s.scratch with mustered := true }
    evac := { s.evac with counters := { s.evac.counters with musterReports := s.evac.counters.musterReports + 1 } } } :
      State).originate (musterOver s.params.control own s.table.entries)

theorem State.musterReport_eq {s : State} {own : Addr} (h : s.nodeAddr? = some own) : s.musterReport = s.reported own := by
  have hown : ({ s with scratch := { s.scratch with mustered := true } } : State).nodeAddr?.isSome = true := by
    show s.nodeAddr?.isSome = true
    rw [h]
    rfl
  rw [State.musterReport, State.originateCounted_of_isSome hown, State.own_of_nodeAddr? h, State.unmustered_eq]
  rfl

/-- A notice round touches the ports, the repeat timer and one counter. -/
theorem State.roundSent_eq (s : State) (own : Addr) : ∃ m, s.roundSent own = { s with
    net := m
    evac := { s.evac with
      repeatTimer := some (s.now + s.params.repeatTime.ms)
      counters := { s.evac.counters with
        noticesSent := s.evac.counters.noticesSent + BitVec.ofNat 32 (unmusteredIn s.table.entries).length } } } := by
  exact ⟨_, State.foldl_originate_eq _ _ _⟩

theorem State.roundSent_nodeAddr? (s : State) (own : Addr) : (s.roundSent own).nodeAddr? = s.nodeAddr? :=
  State.foldl_originate_nodeAddr? _ _ _

/-! ### The notices, the breaches and the report of one entry -/

/-- The notices, the breaches and the report of one entry, over the table as it stands. -/
def State.told (w : State) (own : Addr) : State := (w.roundSent own).testBreaches.reported own

/-- A record whose breach is due. -/
def State.panelDue (s : State) (x : Panel) : Bool := !x.breach && x.door == .opened
  && decide (s.params.door.ms ≤ x.doorAge * 1000) && (s.air.zone == .alarm || s.air.zone == .trip)

structure State.Told (w : State) (own : Addr) (u : State) : Prop where
  evac : u.evac = { w.evac with
    repeatTimer := some (w.now + w.params.repeatTime.ms), panels := u.evac.panels
    counters := { w.evac.counters with
      noticesSent := w.evac.counters.noticesSent + BitVec.ofNat 32 (unmusteredIn w.table.entries).length
      musterReports := w.evac.counters.musterReports + 1
      breaches := w.evac.counters.breaches + BitVec.ofNat 32 (pollIndices.countP (fun i => w.panelDue (w.panel i))) } }
  panel : ∀ i, u.panel i = { w.panel i with breach := (w.panel i).breach || w.panelDue (w.panel i) }
  breach : (∃ i, w.panelDue (w.panel i) = true) → u.Flagged Flag.breach
  flags : ∀ f, w.Flagged f → u.Flagged f
  mustered : u.scratch.mustered = true
  net : ∃ n : Net, n.straps = w.net.straps ∧ n.banks = w.net.banks ∧ n.relayTick = w.net.relayTick
    ∧ (∀ p, (n.port p).up = (w.net.port p).up)
    ∧ u.net = n.originate w.table.entries w.supply.shedLevel (musterOver w.params.control own w.table.entries)
  rest : u.calls = w.calls ∧ u.seg = w.seg ∧ u.table = w.table ∧ u.air = w.air ∧ u.poller = w.poller ∧ u.supply = w.supply
    ∧ u.integ = w.integ ∧ u.now = w.now
  same : (∀ i, w.panelDue (w.panel i) = false) → u = (w.roundSent own).reported own

/-- What a notice round leaves of the ports. -/
theorem State.roundSent_net {w : State} {own : Addr} (hown : w.nodeAddr? = some own) :
    (w.roundSent own).net.straps = w.net.straps ∧ (w.roundSent own).net.banks = w.net.banks
    ∧ (w.roundSent own).net.relayTick = w.net.relayTick ∧ ∀ p, ((w.roundSent own).net.port p).up = (w.net.port p).up := by
  rw [← State.noticeRound_eq hown]
  simp [State.startRepeat]

theorem State.roundSent_breachDue {w : State} (own : Addr) (hstate : w.evac.state = .evacuate) (i : Fin 8) :
    (w.roundSent own).breachDue i = w.panelDue (w.panel i) := by
  obtain ⟨m, hx⟩ := w.roundSent_eq own
  rw [State.breachDue_eq, hx]
  show (!(w.panel i).breach && (w.panel i).door == .opened && decide (w.params.door.ms ≤ (w.panel i).doorAge * 1000)
    && w.evac.state == .evacuate && (w.air.zone == .alarm || w.air.zone == .trip)) = _
  rw [hstate]
  simp [State.panelDue]

theorem State.told_told {w : State} {own : Addr} (hown : w.nodeAddr? = some own) (hstate : w.evac.state = .evacuate) :
    w.Told own (w.told own) := by
  obtain ⟨m, hround⟩ := w.roundSent_eq own
  have hnet := State.roundSent_net hown
  have hdue := State.roundSent_breachDue own hstate
  obtain ⟨x, hx⟩ : ∃ x, x = w.roundSent own := ⟨_, rfl⟩
  have htold : w.told own = x.testBreaches.reported own := by rw [hx]; rfl
  have hcount : pollIndices.countP x.breachDue = pollIndices.countP (fun i => w.panelDue (w.panel i)) := by
    rw [hx]
    exact congrArg (fun p => pollIndices.countP p) (funext hdue)
  rw [← hx] at hround hnet hdue
  have hraised := x.testBreaches_raised
  have hframe := x.testBreaches_frame
  have hattention (f : Flag) (hf : w.Flagged f) : x.testBreaches.Flagged f := by
    have hxf : x.Flagged f := hf.unchanged (by rw [hround])
    exact hxf.foldl_testBreach pollIndices
  have hpanel (i : Fin 8) : x.panel i = w.panel i := by rw [hround]; rfl
  have hxevac : x.evac = { w.evac with
      repeatTimer := some (w.now + w.params.repeatTime.ms)
      counters := { w.evac.counters with
        noticesSent := w.evac.counters.noticesSent + BitVec.ofNat 32 (unmusteredIn w.table.entries).length } } := by rw [hround]
  have hsame : x.now = w.now ∧ x.air = w.air ∧ x.table = w.table ∧ x.calls = w.calls ∧ x.seg = w.seg ∧ x.poller = w.poller
      ∧ x.supply = w.supply ∧ x.integ = w.integ ∧ x.params = w.params := by
    rw [hround]
    exact ⟨rfl, rfl, rfl, rfl, rfl, rfl, rfl, rfl, rfl⟩
  obtain ⟨hnow, hair, htable, hcalls, hseg, hpoller, hsupply, hinteg, hparams⟩ := hsame
  obtain ⟨y, hy⟩ : ∃ y, y = x.testBreaches := ⟨_, rfl⟩
  have hyframe : y.now = w.now ∧ y.air = w.air ∧ y.table = w.table ∧ y.calls = w.calls ∧ y.seg = w.seg ∧ y.poller = w.poller
      ∧ y.supply = w.supply ∧ y.integ = w.integ ∧ y.params = w.params ∧ y.net.straps = w.net.straps
      ∧ y.net.banks = w.net.banks ∧ y.net.relayTick = w.net.relayTick ∧ ∀ p, (y.net.port p).up = (w.net.port p).up := by
    rw [hy]
    simp only [x.testBreaches_frame, State.params]
    exact ⟨hnow, hair, htable, hcalls, hseg, hpoller, hsupply, hinteg, hparams, hnet⟩
  rw [← hy] at hraised hattention htold
  clear hframe
  obtain ⟨hynow, hyair, hytable, hycalls, hyseg, hypoller, hysupply, hyinteg, hyparams, hynet⟩ := hyframe
  obtain ⟨hraisedPanel, hraisedEvac, hraisedFlag, hraisedSame⟩ := hraised
  rw [htold]
  refine ⟨?_, fun i => ?_, fun ⟨i, hi⟩ => ?_, fun f hf => (hattention f hf).unchanged rfl, rfl, ⟨y.net, ?_⟩,
    ⟨hycalls, hyseg, hytable, hyair, hypoller, hysupply, hyinteg, hynow⟩, fun hnone => ?_⟩
  · have hreported : (y.reported own).evac = { y.evac with
        counters := { y.evac.counters with musterReports := y.evac.counters.musterReports + 1 } } := rfl
    rw [hreported, hraisedEvac, hxevac, hcount]
  · show y.panel i = _
    rw [hraisedPanel, if_pos (mem_pollIndices i), hpanel, hdue]
  · exact (hraisedFlag ⟨i, mem_pollIndices i, (hdue i).trans hi⟩).unchanged rfl
  · obtain ⟨hstraps, hbanks, htick, hup⟩ := hynet
    refine ⟨hstraps, hbanks, htick, hup, ?_⟩
    show y.net.originate y.table.entries y.supply.shedLevel (musterOver y.params.control own y.table.entries) = _
    rw [hytable, hysupply, hyparams]
  · rw [hraisedSame fun i _ => (hdue i).trans (hnone i), hx]

/-! ### The tagged units (R149) -/

/-- The leg table, flags and all else of the entry before the notices, with every tagged unit marked. -/
def State.tagged (s : State) : State := (s.limited.panelTags pollIndices).foldl State.tagUnit s.limited

theorem State.enterEvacuate_eq {s : State} {own : Addr} (hown : s.nodeAddr? = some own) : s.enterEvacuate = s.tagged.told own := by
  have hlimited : s.limited.nodeAddr? = some own := by
    rw [← hown]
    simp [State.limited, State.entered, State.nodeAddr?, Net.nodeAddr?]
  have htagged : s.tagged.nodeAddr? = some own := (State.foldl_tagUnit_nodeAddr? _ _).trans hlimited
  have hentry : s.enterEvacuate = s.tagged.noticeRound.startRepeat.testBreaches.musterReport := by
    unfold State.tagged
    rw [← State.foldl_applyTags_eq]
    rfl
  have hbreaches : (s.tagged.roundSent own).testBreaches.nodeAddr? = some own := by
    have hround := (s.tagged.roundSent_nodeAddr? own).trans htagged
    rw [← hround]
    simp [State.nodeAddr?, Net.nodeAddr?]
  rw [hentry, State.noticeRound_eq htagged, State.musterReport_eq hbreaches]
  rfl

theorem State.limited_evac (s : State) : s.limited.evac = { s.evac with
    state := .evacuate, counters := { s.evac.counters with evacEntries := s.evac.counters.evacEntries + 1 } } := by
  have hentered : s.limited.evac = s.entered.evac := by simp [State.limited]
  rw [hentered]
  rfl

theorem State.tagged_evac (s : State) : s.tagged.evac = { s.evac with
    state := .evacuate, counters := { s.evac.counters with evacEntries := s.evac.counters.evacEntries + 1 } } :=
  (State.foldl_tagUnit_evac _ _).trans s.limited_evac

/-- The tagging step leaves most of the machine as it was. -/
theorem State.tagged_frame (s : State) : s.tagged.calls = s.limited.calls ∧ s.tagged.now = s.now ∧ s.tagged.air = s.air
    ∧ s.tagged.poller = s.poller ∧ s.tagged.supply = s.supply ∧ s.tagged.integ = s.integ ∧ s.tagged.params = s.params
    ∧ s.tagged.net.straps = s.net.straps ∧ s.tagged.net.banks = s.net.banks ∧ s.tagged.net.relayTick = s.net.relayTick
    ∧ ∀ p, (s.tagged.net.port p).up = (s.net.port p).up := by
  have hfold : s.tagged = s.limited.applyTags (s.limited.panelTags pollIndices) := rfl
  rw [hfold]
  simp [State.limited, State.entered, State.params, State.setEvacState]

theorem State.tagged_panel (s : State) (i : Fin 8) : s.tagged.panel i = s.panel i := by
  rw [State.panel, State.tagged_evac]
  rfl

theorem State.limited_flagged (s : State) : s.limited.Flagged Flag.evacChange :=
  State.Flagged.limitsChanged (s := s.entered) (State.flagSet_setFlag_self _ (by decide)) _ _ _

theorem State.tagged_flagged {s : State} {f : Flag} (h : s.limited.Flagged f) : s.tagged.Flagged f :=
  (State.flagged_keepsTags f).applyTags _ h

theorem State.mem_panelTags {s : State} {a : Addr} : a ∈ s.limited.panelTags pollIndices
    ↔ pollIndices.any (fun i => (s.panel i).tags.contains a) = true := by
  have hpanel (i : Fin 8) : s.limited.panel i = s.panel i := by
    rw [State.panel, State.limited_evac]
    rfl
  simp only [State.panelTags, List.mem_flatMap, hpanel, List.any_eq_true, List.contains_iff_mem]

theorem State.panelTags_length (s : State) :
    (s.limited.panelTags pollIndices).length = (pollIndices.map (fun i => (s.panel i).tags.length)).sum := by
  have hpanel (i : Fin 8) : s.limited.panel i = s.panel i := by
    rw [State.panel, State.limited_evac]
    rfl
  simp only [State.panelTags, List.length_flatMap, hpanel]

/-- The entries under the tagging (R149). -/
theorem State.tagged_marks {s : State} (hmarks : ∀ e ∈ s.table.entries, e.mark = .none) : ∀ e ∈ s.tagged.table.entries,
    e.mark = if pollIndices.any (fun i => (s.panel i).tags.contains e.address) then .inRefuge else .none := by
  intro e he
  rcases State.mem_foldl_tagUnit _ he with ⟨hmem, hmark⟩ | ⟨hno, hmem⟩
  · rw [State.mem_panelTags.mp hmem, hmark]
    rfl
  · rw [Bool.eq_false_iff.mpr (mt State.mem_panelTags.mpr hno)]
    have hlimited : s.limited.table = s.table := by simp [State.limited, State.entered]
    rw [hlimited] at hmem
    exact hmarks e hmem

theorem State.tagged_roomy {s : State}
    (hroom : s.table.entries.length + (pollIndices.map (fun i => (s.panel i).tags.length)).sum ≤ 128) :
    TagsRoomy (s.limited.panelTags pollIndices) s.limited s.tagged := by
  refine tagsRoomy_foldl_tagUnit _ ?_
  rw [State.panelTags_length]
  have hlimited : s.limited.table = s.table := by simp [State.limited, State.entered]
  rw [hlimited]
  exact hroom

theorem Segment.eq_of_shape {g h : Segment} (hstate : g.state = h.state) (hholder : g.holder = h.holder)
    (hcauses : g.causes = h.causes) (hqueue : g.queue = h.queue) (hlease : g.lease = h.lease) :
    g = { h with minerCount := g.minerCount, counters := g.counters, holderHere := g.holderHere } := by
  rw [← hstate, ← hholder, ← hcauses, ← hqueue, ← hlease]

/-- A MUSTER REPORT has been counted. -/
def State.reportCounted (s : State) : State := { s with
  scratch := { s.scratch with mustered := true }
  evac := { s.evac with counters := { s.evac.counters with musterReports := s.evac.counters.musterReports + 1 } } }

theorem State.reportCounted_roundSent (s : State) (own : Addr) : (s.roundSent own).reportCounted = s.reportCounted.roundSent own :=
  (List.foldl_hom State.reportCounted fun _ _ => rfl).symm

theorem State.reported_roundSent (s : State) (own : Addr) : (s.roundSent own).reported own
    = (s.reportCounted.roundSent own).originate (musterOver s.params.control own s.table.entries) := by
  obtain ⟨m, hround⟩ := s.roundSent_eq own
  have hmessage : musterOver (s.roundSent own).params.control own (s.roundSent own).table.entries
      = musterOver s.params.control own s.table.entries := by
    rw [hround]
    rfl
  rw [← State.reportCounted_roundSent, ← hmessage]
  rfl

section

variable {s u : State} {own : Addr}

theorem State.tagged_due (s : State) (i : Fin 8) : s.tagged.panelDue (s.tagged.panel i) = s.panelDue (s.panel i) := by
  obtain ⟨-, -, hair, -, -, -, hparams, -⟩ := s.tagged_frame
  rw [State.panelDue, State.tagged_panel, hair, hparams, State.panelDue]

/-- What a told entry leaves of the evacuation record (R142, R144, R147, R150). -/
theorem State.Told.entered_evac (h : s.tagged.Told own u) : u.evac = { s.evac with
      state := .evacuate, repeatTimer := some (s.now + s.params.repeatTime.ms), panels := u.evac.panels
      counters := { s.evac.counters with
        evacEntries := s.evac.counters.evacEntries + 1
        noticesSent := s.evac.counters.noticesSent + BitVec.ofNat 32 (unmusteredIn u.table.entries).length
        musterReports := s.evac.counters.musterReports + 1
        breaches := s.evac.counters.breaches
          + BitVec.ofNat 32 (pollIndices.countP (fun i => s.panelDue (s.panel i))) } } := by
  obtain ⟨-, hnow, -, -, -, -, hparams, -⟩ := s.tagged_frame
  obtain ⟨-, -, htable, -⟩ := h.rest
  have hcount : pollIndices.countP (fun i => s.tagged.panelDue (s.tagged.panel i))
      = pollIndices.countP (fun i => s.panelDue (s.panel i)) :=
    congrArg (fun p => pollIndices.countP p) (funext s.tagged_due)
  rw [h.evac, hcount, htable, hnow, hparams, State.tagged_evac]

end

theorem Mgmt.eq_of_rest {g h : Mgmt} (hparameters : g.parameters = h.parameters) (hstatus : g.statusTimer = h.statusTimer)
    (hisolated : g.isolated = h.isolated) (htimer : g.isolationTimer = h.isolationTimer)
    (hrestart : g.restartPending = h.restartPending) (hcounters : g.counters = h.counters) :
    g = { h with attention := g.attention } := by
  rw [← hparameters, ← hstatus, ← hisolated, ← htimer, ← hrestart, ← hcounters]

theorem Table.eq_of_rest {g h : Table} (hpins : g.pins = h.pins) (hwatches : g.watches = h.watches) (htick : g.ageTick = h.ageTick) :
    g = { h with entries := g.entries, counters := g.counters } := by
  rw [← hpins, ← hwatches, ← htick]

theorem Calls.eq_of_rest {g h : Calls} {l : List (Fin 8)} {k : CallCounters} (hpermits : g.permits = h.permits)
    (hlist : g.startList = l) (hcounters : g.counters = k) : g = { h with legs := g.legs, startList := l, counters := k } := by
  rw [← hpermits, ← hlist, ← hcounters]

/-- Nobody to clear, nobody tagged and no breach due: the entry is its notice round and its report. -/
theorem State.told_of_nothing {s : State} {own : Addr} (hcalls : s.CallsKept)
    (hfalls : ∀ i, s.fallsBelow (leastPriority s.supply.shedLevel) i = false) (htags : ∀ i, (s.panel i).tags = [])
    (hdue : ∀ i, s.panelDue (s.panel i) = false) (h : s.tagged.Told own (s.tagged.told own)) :
    s.tagged.told own = (s.entered.reportCounted.roundSent own).originate (musterOver s.params.control own s.table.entries) := by
  have htold := h.same fun i => (s.tagged_due i).trans (hdue i)
  have htagged : s.tagged = s.entered := by
    have hnone : s.limited.panelTags pollIndices = [] := by
      rw [← List.length_eq_zero_iff, State.panelTags_length]
      simp [htags]
    rw [State.tagged, hnone]
    exact (hcalls.limited_fallen).same hfalls
  rw [htold, htagged, State.reported_roundSent]
  have hparams : s.entered.params = s.params := by simp [State.entered, State.params]
  have htable : s.entered.table = s.table := by simp [State.entered]
  rw [hparams, htable]

theorem State.evacuatedFrom_enterEvacuate {s : State} {own : Addr} (hown : s.nodeAddr? = some own) :
    s.EvacuatedFrom own s.enterEvacuate := by
  obtain ⟨-, hnow, -, hstraps, hbanks, htick, hpoller, hair, hpins, hwatches, hageTick, hpermits, hstate, hholder, hcauses,
    hqueue, hlease, -, -, -, -, hsupply, hinteg, hparameters, hstatus, hisolated, htimer, hrestart, hcounters, hup⟩ :=
    s.enterEvacuate_frame
  have heq := State.enterEvacuate_eq hown
  have htaggedOwn : s.tagged.nodeAddr? = some own := by
    rw [← hown]
    simp [State.nodeAddr?, Net.nodeAddr?, s.tagged_frame]
  have htold : s.tagged.Told own s.enterEvacuate :=
    heq ▸ State.told_told htaggedOwn (by rw [State.tagged_evac])
  obtain ⟨hcalls, hnow', hair', hpoller', hsupply', hinteg', hparams', htstraps, htbanks, httick, htup⟩ := s.tagged_frame
  obtain ⟨hcalls', hseg', htable', -⟩ := htold.rest
  have hlimitedTable : s.limited.table = s.table := by simp [State.limited, State.entered]
  have hlimitedSeg : s.limited.seg = s.seg := by simp [State.limited, State.entered]
  have hlimitedOwn : s.limited.nodeAddr? = s.nodeAddr? := by
    simp [State.limited, State.entered, State.nodeAddr?, Net.nodeAddr?]
  have hentry (a : Addr) : s.enterEvacuate.entry? a = s.tagged.entry? a := by rw [State.entry?, htable']; rfl
  have hlimitedEntry (a : Addr) : s.limited.entry? a = s.entry? a := by rw [State.entry?, hlimitedTable]; rfl
  unfold State.EvacuatedFrom
  intro tagged due least entered
  refine ⟨htold.entered_evac, fun i => ?_, htold.flags _ (State.tagged_flagged s.limited_flagged), htold.mustered,
    fun ⟨i, hi⟩ => htold.breach ⟨i, (s.tagged_due i).trans hi⟩, ?_, fun hsound => ?_, fun _ => ⟨fun hmarks e he => ?_, fun hroom => ?_⟩,
    fun hsound hfalls htags hdue => ?_, Segment.eq_of_shape hstate hholder hcauses hqueue hlease,
    Table.eq_of_rest hpins hwatches hageTick, Mgmt.eq_of_rest hparameters hstatus hisolated htimer hrestart hcounters,
    hnow, hair, hpoller, hsupply, hinteg⟩
  · rw [htold.panel, s.tagged_due, State.tagged_panel]
    rfl
  · obtain ⟨n, h1, h2, h3, h4, hnet⟩ := htold.net
    refine ⟨n, h1.trans htstraps, h2.trans htbanks, h3.trans httick, fun p => (h4 p).trans (htup p), ?_⟩
    rw [hnet, htable', hsupply', hparams']
  · have hfallen := ((s.callsSound_iff).mp hsound).limited_fallen
    have hlegs (i : Fin 8) : s.enterEvacuate.leg i = s.limited.leg i := by rw [State.leg, hcalls', hcalls]; rfl
    refine ⟨Calls.eq_of_rest hpermits ?_ ?_, fun i => (hlegs i).trans (hfallen.leg i), fun hsome =>
      htold.flags _ (State.tagged_flagged (hfallen.flag hsome))⟩
    · rw [hcalls', hcalls]
      exact hfallen.list
    · rw [hcalls', hcalls]
      exact hfallen.counters
  · rw [htable'] at he
    exact State.tagged_marks hmarks e he
  · have hroomy := State.tagged_roomy hroom
    have hmem (a : Addr) : a ∈ s.limited.panelTags pollIndices ↔ tagged a = true := State.mem_panelTags
    refine ⟨hseg'.trans (hroomy.seg.trans hlimitedSeg), fun a ha => ?_, fun a ha hnot => ⟨fun e he => ?_, fun hnone => ?_⟩⟩
    · rw [hentry, hroomy.other a (by rw [hmem, ha]; decide), hlimitedEntry]
    · rw [hentry]
      exact hroomy.there a ((hmem a).mpr ha) e ((hlimitedEntry a).trans he)
    · obtain ⟨e, he, hlocation, hage, hmark, hattach⟩ := hroomy.new a ((hmem a).mpr ha) (by rw [hlimitedOwn]; exact hnot)
        ((hlimitedEntry a).trans hnone)
      exact ⟨e, (hentry a).trans he, hlocation, hage, hmark, hattach⟩
  · have hnothing := State.told_of_nothing ((s.callsSound_iff).mp hsound) hfalls htags hdue (heq ▸ htold)
    exact heq.trans hnothing

end Sys2Proof.Machine

end

section

set_option Elab.async false

/-! PROOF. Requests, orders and followed notices that enter, repeat or leave the evacuation (R139 to R143, R150). -/

namespace Sys2Proof.Machine

/-! ### Orders (R140) -/

theorem addressesOf_flatMap_wordBytes (l : List Addr) : addressesOf (l.flatMap wordBytes) = l := by
  induction l with
  | nil => rfl
  | cons a l ih =>
    rw [List.flatMap_cons]
    show wordOf (a.extractLsb' 8 8) (a.extractLsb' 0 8) :: addressesOf (l.flatMap wordBytes) = _
    rw [wordOf_highByte_lowByte, ih]

theorem length_flatMap_wordBytes (l : List Addr) : (l.flatMap wordBytes).length = 2 * l.length := by
  induction l with
  | nil => rfl
  | cons a l ih =>
    rw [List.flatMap_cons, List.length_append, ih, List.length_cons]
    show 2 + 2 * l.length = _
    omega

theorem toNat_byteOf_of_lt {n : Nat} (h : n < 256) : (byteOf n).toNat = n := by
  rw [byteOf, BitVec.toNat_ofNat]
  exact Nat.mod_eq_of_lt h

section

variable {f : Frame} {issuer : Addr} {scope : List Addr} (hlength : scope.length < 256)
  (hpayload : f.payload = wordBytes issuer ++ [byteOf scope.length] ++ scope.flatMap wordBytes)
include hlength hpayload

theorem orderFits : fitsList 2 2 f.payload = true := by
  have hbytes : f.payload = issuer.extractLsb' 8 8 :: issuer.extractLsb' 0 8 :: byteOf scope.length :: scope.flatMap wordBytes :=
    hpayload
  rw [fitsList, hbytes, Bool.and_eq_true]
  simp only [List.length_cons, length_flatMap_wordBytes, List.getD_cons_succ, List.getD_cons_zero, toNat_byteOf_of_lt hlength,
    decide_eq_true_eq]
  omega

theorem orderScope_eq : orderScope f = if issuer = f.src ∧ isSurface f.src = true ∧ scope.length ≤ 8 then some scope else none := by
  have hbytes : f.payload = issuer.extractLsb' 8 8 :: issuer.extractLsb' 0 8 :: byteOf scope.length :: scope.flatMap wordBytes :=
    hpayload
  rw [orderScope, hbytes]
  simp only [wordOf_highByte_lowByte, toNat_byteOf_of_lt hlength, addressesOf_flatMap_wordBytes]

end

theorem State.named_iff {s : State} {own : Addr} (hown : s.nodeAddr? = some own) (scope : List Addr) :
    s.named scope = true ↔ scope = [] ∨ own ∈ scope := by
  rw [State.named, hown]
  simp

section

variable {s : State} {own : Addr} (hown : s.nodeAddr? = some own)
include hown

theorem State.orderedOut_quiet (h : s.evac.state = .quiet) : s.EvacuatedFrom own s.orderedOut := by
  rw [State.orderedOut, h]
  exact State.evacuatedFrom_enterEvacuate hown

theorem State.orderedOut_evacuate (h : s.evac.state = .evacuate) : s.orderedOut = s.roundSent own := by
  rw [State.orderedOut, h]
  exact State.noticeRound_eq hown

theorem State.leaveEvacuate_eq : s.leaveEvacuate = s.evacuationLeft own := by
  unfold State.leaveEvacuate
  refine (State.musterReport_eq (own := own) ?_).trans rfl
  rw [← hown]
  rfl

theorem State.stoodDown_left (h : s.evac.state = .evacuate) (hlow : s.triggered = false) :
    s.stoodDown = (s.evacuationLeft own, false) := by
  rw [State.stoodDown, h, hlow, ← State.leaveEvacuate_eq hown]
  rfl

end

theorem State.stoodDown_quiet {s : State} (h : s.evac.state = .quiet) : s.stoodDown = (s, false) := by
  rw [State.stoodDown, h]

theorem State.stoodDown_high {s : State} (h : s.evac.state = .evacuate) (hhigh : s.triggered = true) :
    s.stoodDown = ({ s with evac := { s.evac with counters := { s.evac.counters with
      standDownsRefused := s.evac.counters.standDownsRefused + 1 } } }, true) := by
  rw [State.stoodDown, h, hhigh]
  rfl

/-! ### Breaches are told once (R150) -/

/-- After every record has had its breach test, none is due. -/
theorem State.testBreaches_testBreaches (s : State) : s.testBreaches.testBreaches = s.testBreaches := by
  obtain ⟨hpanel, -⟩ := s.testBreaches_raised
  refine (s.testBreaches.testBreaches_raised).same fun i _ => ?_
  have hdue : s.testBreaches.breachDue i = (!(s.testBreaches.panel i).breach && (s.testBreaches.panel i).door == .opened
      && decide (s.params.door.ms ≤ (s.testBreaches.panel i).doorAge * 1000) && s.evac.state == .evacuate
      && (s.air.zone == .alarm || s.air.zone == .trip)) := by
    rw [State.breachDue_eq]
    simp [State.params] <;> rfl
  rw [hdue, hpanel, if_pos (mem_pollIndices i)]
  simp only
  cases hold : s.breachDue i with
  | true => simp
  | false =>
    rw [Bool.or_false, ← State.breachDue_eq]
    exact hold

/-- Entering EVACUATE leaves no breach due. -/
theorem State.enterEvacuate_testBreaches (s : State) : s.enterEvacuate.testBreaches = s.enterEvacuate := by
  obtain ⟨x, hx⟩ : ∃ x : State, s.enterEvacuate = x.testBreaches.musterReport := ⟨_, rfl⟩
  have hdone (i : Fin 8) : x.testBreaches.breachDue i = false := by
    by_contra hno
    have hdue : x.testBreaches.breachDue i = true := by simpa using hno
    have htwice := (x.testBreaches.testBreaches_raised).panel i
    rw [State.testBreaches_testBreaches, if_pos (mem_pollIndices i)] at htwice
    have hbreach := congrArg Panel.breach htwice
    have hopen : (x.testBreaches.panel i).breach = false := by
      have hall := hdue
      rw [State.breachDue_eq] at hall
      simp only [Bool.and_eq_true, Bool.not_eq_true'] at hall
      exact hall.1.1.1.1
    rw [hopen, hdue] at hbreach
    cases hbreach
  rw [hx]
  refine (State.testBreaches_raised _).same fun i _ => ?_
  rw [← hdone i, State.breachDue_eq, State.breachDue_eq]
  have hpanel : x.testBreaches.musterReport.panel i = x.testBreaches.panel i := by simp [State.panel]
  rw [hpanel]
  simp [State.params] <;> rfl

/-! ### The grade that the node has or hears of (R138, R139, R141) -/

theorem State.follows_iff {s : State} {own : Addr} (hown : s.nodeAddr? = some own) (node : Addr) (g : Grade) :
    s.follows node g = true ↔ s.params.follow ≠ 0 ∧ node.toNat ≤ own.toNat + s.params.follow
      ∧ own.toNat ≤ node.toNat + s.params.follow ∧ g.atLeast s.params.trigger = true := by
  have hdistance : node.toNat - own.toNat + (own.toNat - node.toNat) ≤ s.params.follow
      ↔ node.toNat ≤ own.toNat + s.params.follow ∧ own.toNat ≤ node.toNat + s.params.follow := by omega
  rw [State.follows, hown]
  simp only [Bool.and_eq_true, bne_iff_ne, ne_eq, decide_eq_true_eq, hdistance]
  tauto

theorem State.deliver_zoneGrade {s : State} {p : Port} {f : Frame} {own node : Addr} {g : Grade} {cause : Byte}
    (hown : s.nodeAddr? = some own) (hkind : f.kind? = some .zoneGrade)
    (hpayload : f.payload = wordBytes node ++ [byteOf g.code, cause]) :
    s.deliver p f = if node = f.src then
        if s.evac.state = .quiet ∧ s.follows f.src g = true then s.enterEvacuate else s
      else s.discardOrder := by
  have hbytes : f.payload = [node.extractLsb' 8 8, node.extractLsb' 0 8, byteOf g.code, cause] := hpayload
  have hfits : payloadFits .zoneGrade f.payload = true := by
    rw [hbytes]
    cases g <;> rfl
  have hcode : Grade.ofCode (byteOf g.code).toNat = some g := by cases g <;> rfl
  rw [State.deliver_of_fits hkind hfits, State.hand, State.ifAddressed_of_isSome (by rw [hown]; rfl), State.zoneGradeNotice, hbytes]
  simp only [hcode, wordOf_highByte_lowByte]

theorem State.testOwnGrade_stays {s : State} (h : s.evac.state = .evacuate ∨ s.air.zone.atLeast s.params.trigger = false) :
    s.testOwnGrade = s := by
  refine if_neg ?_
  rintro ⟨hquiet, hhigh⟩
  rcases h with h | h
  · rw [h] at hquiet
    cases hquiet
  · rw [State.triggered, h] at hhigh
    cases hhigh

theorem State.testOwnGrade_enters {s : State} (h : s.evac.state = .quiet) (hhigh : s.air.zone.atLeast s.params.trigger = true) :
    s.testOwnGrade = s.enterEvacuate := if_pos ⟨h, hhigh⟩

/-! ### The obligation -/

theorem EvacState.eq_evacuate_of_ne {x : EvacState} (h : x ≠ .quiet) : x = .evacuate := by
  cases x
  · exact absurd rfl h
  · rfl

/-- Settles O34. -/
theorem evacuateAndStandDownRequests : Obligations.EvacuateAndStandDownRequests := by
  refine ⟨fun s rq own haccepts hown => ⟨fun hquiet => ?_, fun hstate => ?_⟩,
    fun s rq own haccepts hown => ⟨fun hquiet => ?_, fun hstate hhigh => ?_, fun hstate hlow => ?_⟩,
    fun s p f own issuer scope hown hlength hpayload => ?_, fun s p f own node g cause hown hkind hpayload => ?_,
    fun s => ⟨s.testBreaches_eq, fun hstays => ?_, fun hquiet hhigh => ?_⟩⟩
  · exact ⟨_, State.requestEvent_done (f := fun u => u.evacuateRequest) haccepts rfl, State.orderedOut_quiet (s := s.asTaken) hown hquiet⟩
  · have hround := State.orderedOut_evacuate (s := s.asTaken) hown hstate
    refine State.requestEvent_done_settled (f := fun u => u.evacuateRequest) haccepts (congrArg (fun u => (u, Verdict.done [])) hround) ?_
    obtain ⟨m, hm⟩ := s.asTaken.roundSent_eq own
    rw [hm]
    rfl
  · refine State.requestEvent_done_settled (f := fun u => u.standDownRequest) haccepts ?_ rfl
    rw [State.standDownRequest, State.stoodDown_quiet (s := s.asTaken) hquiet]
    rfl
  · have hrefused : s.asTaken.standDownRequest = (({ s.asTaken with evac := { s.evac with counters := { s.evac.counters with
        standDownsRefused := s.evac.counters.standDownsRefused + 1 } } } : State), .refused .gradeHigh) := by
      rw [State.standDownRequest, State.stoodDown_high (s := s.asTaken) hstate hhigh]
      rfl
    refine (State.requestEvent_accepted haccepts false (fun u => u.standDownRequest)).trans ?_
    rw [hrefused]
    exact congrArg Host.Outcome.next (State.concluded_eq_settled (.inl (State.tally_of_entries rfl)))
  · have hleft : s.asTaken.standDownRequest = (s.asTaken.evacuationLeft own, .done []) := by
      rw [State.standDownRequest, State.stoodDown_left (s := s.asTaken) hown hstate hlow]
      rfl
    refine (State.requestEvent_done (f := fun u => u.standDownRequest) haccepts hleft).trans ?_
    rw [State.concluded_eq_settled (.inr ?_)]
    show (s.asTaken.evacuationLeft own).evac.state = .quiet
    rw [← State.leaveEvacuate_eq (s := s.asTaken) hown]
    exact State.leaveEvacuate_state _
  · intro taken names discarded
    have hfits := orderFits hlength hpayload
    have hscope := orderScope_eq hlength hpayload
    have hnamed : s.named scope = true ↔ names := State.named_iff hown scope
    have hisSome : s.nodeAddr?.isSome = true := by rw [hown]; rfl
    have hnone (h : ¬ taken) : orderScope f = none := hscope.trans (if_neg h)
    have hsome (h : taken) : orderScope f = some scope := hscope.trans (if_pos h)
    refine ⟨fun hkind => ?_, fun hkind => ?_⟩
    · have hdeliver : s.deliver p f = s.evacuateOrder f := by
        rw [State.deliver_of_fits hkind hfits, State.hand, State.ifAddressed_of_isSome hisSome]
      have hacts (ht : taken) (hn : names) : s.deliver p f = s.orderedOut := by
        rw [hdeliver, State.evacuateOrder, hsome ht]
        exact if_pos (hnamed.mpr hn)
      refine ⟨fun h => ?_, fun ht hn => ?_, fun ht hn hquiet => ?_, fun ht hn hstate => ?_⟩
      · rw [hdeliver, State.evacuateOrder, hnone h]
        rfl
      · rw [hdeliver, State.evacuateOrder, hsome ht]
        exact if_neg (mt hnamed.mp hn)
      · rw [hacts ht hn]
        exact State.orderedOut_quiet hown hquiet
      · rw [hacts ht hn]
        exact State.orderedOut_evacuate hown hstate
    · have hdeliver : s.deliver p f = s.standDownOrder f := by
        rw [State.deliver_of_fits hkind hfits, State.hand, State.ifAddressed_of_isSome hisSome]
      have hacts (ht : taken) (hn : names) : s.deliver p f = s.stoodDown.1 := by
        rw [hdeliver, State.standDownOrder, hsome ht]
        exact if_pos (hnamed.mpr hn)
      refine ⟨fun h => ?_, fun ht hno => ?_, fun ht hn hstate hhigh => ?_, fun ht hn hstate hlow => ?_⟩
      · rw [hdeliver, State.standDownOrder, hnone h]
        rfl
      · by_cases hn : names
        · rw [hacts ht hn, State.stoodDown_quiet (hno.resolve_left (not_not.mpr hn))]
        · rw [hdeliver, State.standDownOrder, hsome ht]
          exact if_neg (mt hnamed.mp hn)
      · rw [hacts ht hn, State.stoodDown_high hstate hhigh]
      · rw [hacts ht hn, State.stoodDown_left hown hstate hlow]
  · intro followed
    have hfollows : s.follows node g = true ↔ followed := State.follows_iff hown node g
    rw [State.deliver_zoneGrade hown hkind hpayload]
    refine ⟨fun hne => ?_, fun he hquiet hf => ?_, fun he hno => ?_⟩
    · rw [if_neg hne]
      rfl
    · rw [if_pos he, ← he, if_pos ⟨hquiet, hfollows.mpr hf⟩]
      exact State.evacuatedFrom_enterEvacuate hown
    · rw [if_pos he, ← he, if_neg]
      rintro ⟨hquiet, hf⟩
      rcases hno with hstate | hnot
      · rw [hstate] at hquiet
        cases hquiet
      · exact hnot (hfollows.mp hf)
  · have hsame := State.testOwnGrade_stays hstays
    exact ⟨hsame, by rw [State.evacZone, hsame, State.testBreaches_eq]⟩
  · rw [State.evacZone, State.testOwnGrade_enters hquiet hhigh]
    exact ⟨s.enterEvacuate_state, s.enterEvacuate_testBreaches, fun own hown => State.evacuatedFrom_enterEvacuate hown⟩

end Sys2Proof.Machine

end

section

set_option Elab.async false

/-! PROOF. LOAD RECORD PARAMETERS (R139, R185, R193 to R195). -/

namespace Sys2Proof.Machine

/-! ### The fields and their values (R193) -/

section

variable {f : ParameterFields}

/-- Every field of a PARAMETERS load is within its values. -/
structure ParametersInRange (f : ParameterFields) : Prop where
  control : isSurface f.control = true
  presence : f.presence.toNat % 32 ≠ 0
  route : f.route.toNat % 32 ≠ 0
  setup : f.setup.toNat % 32 ≠ 0
  lease : f.lease.toNat % 32 ≠ 0
  repeatTime : f.repeatTime.toNat % 32 ≠ 0
  door : f.door.toNat % 32 ≠ 0
  trigger : f.trigger = 2 ∨ f.trigger = 3
  follow : f.follow.toNat ≤ 7

theorem count_of_runningSetting {b : Byte} {t : TimerSetting} (h : runningSetting b = some t) : b.toNat % 32 ≠ 0 := by
  intro hzero
  rw [runningSetting, if_pos ((TimerSetting.count_ofByte_eq_zero _).mpr hzero)] at h
  cases h

theorem parseParameters_eq : parseParameters f =
    (if isSurface f.control then some f.control else none).bind fun control =>
    (runningSetting f.presence).bind fun presence => (runningSetting f.route).bind fun route =>
    (runningSetting f.setup).bind fun setup => (runningSetting f.lease).bind fun lease =>
    (runningSetting f.repeatTime).bind fun repeatTime => (runningSetting f.door).bind fun door =>
    (triggerOf f.trigger).bind fun trigger => (upTo 7 f.follow.toNat).bind fun follow =>
    some { control := control, presence := presence, route := route, setup := setup, lease := lease
           airReport := .ofByte f.airReport, status := .ofByte f.status, isolation := .ofByte f.isolation
           repeatTime := repeatTime, door := door, trigger := trigger, follow := follow
           masks := ⟨f.airMask &&& 0x1FFFFFFFFFFFF, (f.callMask.setWidth 56) &&& 0x7,
             (f.truckMask.setWidth 56) &&& 0xF, (f.refugeMask.setWidth 56) &&& 0x1F,
             (f.nodeMask.setWidth 56) &&& 0x7F⟩ } := by
  unfold parseParameters
  split <;> rfl

theorem inRange_of_parseParameters {p : Parameters} (h : parseParameters f = some p) : ParametersInRange f := by
  rw [parseParameters_eq] at h
  simp only [Option.bind_eq_some_iff] at h
  obtain ⟨control, hcontrol, presence, hpresence, route, hroute, setup, hsetup, lease, hlease, repeatTime, hrepeat, door, hdoor, trigger, htrigger, follow, hfollow, -⟩ := h
  refine ⟨?_, count_of_runningSetting hpresence, count_of_runningSetting hroute, count_of_runningSetting hsetup,
    count_of_runningSetting hlease, count_of_runningSetting hrepeat, count_of_runningSetting hdoor, ?_, ?_⟩
  · by_contra hno
    rw [if_neg hno] at hcontrol
    cases hcontrol
  · by_contra hno
    rw [not_or] at hno
    rw [triggerOf, if_neg hno.1, if_neg hno.2] at htrigger
    cases htrigger
  · by_contra hno
    rw [upTo, if_neg hno] at hfollow
    cases hfollow

theorem triggerOf_eq_some {g : Grade} (h : f.trigger = 2 ∧ g = .alarm ∨ f.trigger = 3 ∧ g = .trip) :
    triggerOf f.trigger = some g := by
  rcases h with ⟨h, rfl⟩ | ⟨h, rfl⟩ <;> rw [h] <;> rfl

theorem parseParameters_of_inRange (h : ParametersInRange f) {g : Grade} (hg : f.trigger = 2 ∧ g = .alarm ∨ f.trigger = 3 ∧ g = .trip) :
    parseParameters f = some { control := f.control, presence := .ofByte f.presence, route := .ofByte f.route
                               setup := .ofByte f.setup, lease := .ofByte f.lease, airReport := .ofByte f.airReport
                               status := .ofByte f.status, isolation := .ofByte f.isolation
                               repeatTime := .ofByte f.repeatTime, door := .ofByte f.door, trigger := g
                               follow := f.follow.toNat
                               masks := ⟨f.airMask &&& 0x1FFFFFFFFFFFF, (f.callMask.setWidth 56) &&& 0x7,
                                 (f.truckMask.setWidth 56) &&& 0xF, (f.refugeMask.setWidth 56) &&& 0x1F,
                                 (f.nodeMask.setWidth 56) &&& 0x7F⟩ } := by
  rw [parseParameters_eq, if_pos h.control, runningSetting_of_count h.presence, runningSetting_of_count h.route, runningSetting_of_count h.setup,
    runningSetting_of_count h.lease, runningSetting_of_count h.repeatTime, runningSetting_of_count h.door,
    triggerOf_eq_some hg, upTo_of_le h.follow]
  rfl

end

/-! ### The group summaries (R194, R195) -/

theorem State.flags_setFlagGroup (s : State) (g h : Group) (x : FlagGroup) :
    (s.setFlagGroup g x).flags h = if g = h then x else s.flags h := by
  split
  next e => rw [← e, State.flags_setFlagGroup_same]
  next hne => exact s.flags_setFlagGroup_of_ne (Ne.symm hne) x

/-- A group's summary is set when an unmasked flag of it is. -/
theorem State.refreshSummary_flags (s : State) (g h : Group) : (s.refreshSummary g).flags h = if g = h then
    { s.flags g with summary := (s.flags g).summary || (s.flags g).flags &&& ~~~ (s.params.masks.get g) != 0 }
    else s.flags h := by
  unfold State.refreshSummary
  split
  next hzero =>
    split
    next e =>
      have hnone : ((s.flags g).flags &&& ~~~ (s.params.masks.get g) != 0) = false := by
        simpa [State.unmasked] using hzero
      rw [hnone, Bool.or_false, e]
    · rfl
  next hsome =>
    have hset : ((s.flags g).flags &&& ~~~ (s.params.masks.get g) != 0) = true := by
      simpa [State.unmasked] using hsome
    rw [State.flags_setFlagGroup, hset, Bool.or_true]

theorem State.refreshSummary_eq (s : State) (g : Group) :
    ∃ a, s.refreshSummary g = { s with mgmt := { s.mgmt with attention := a } } := by
  unfold State.refreshSummary
  split
  · exact ⟨s.mgmt.attention, rfl⟩
  · exact ⟨_, rfl⟩

/-- A group's flags after a refresh. -/
def State.refreshed (s : State) (g : Group) : FlagGroup :=
  { s.flags g with summary := (s.flags g).summary || (s.flags g).flags &&& ~~~ (s.params.masks.get g) != 0 }

/-- Some groups' summaries refreshed. -/
theorem State.foldl_refreshSummary (l : List Group) : ∀ {s : State}, l.Nodup →
    (∃ a, l.foldl State.refreshSummary s = { s with mgmt := { s.mgmt with attention := a } })
    ∧ ∀ g, (l.foldl State.refreshSummary s).flags g = if g ∈ l then s.refreshed g else s.flags g := by
  induction l with
  | nil => exact fun _ => ⟨⟨_, rfl⟩, fun _ => rfl⟩
  | cons g l ih =>
    intro s hnodup
    obtain ⟨hg, hl⟩ := List.nodup_cons.mp hnodup
    obtain ⟨a, ha⟩ := s.refreshSummary_eq g
    obtain ⟨⟨b, hb⟩, hflags⟩ := ih (s := s.refreshSummary g) hl
    have hparams : (s.refreshSummary g).params = s.params := by rw [ha]; rfl
    refine ⟨⟨b, by rw [List.foldl_cons, hb, ha]⟩, fun h => ?_⟩
    rw [List.foldl_cons, hflags, State.refreshed, hparams, State.refreshSummary_flags]
    by_cases hgh : g = h
    · subst hgh
      rw [if_neg hg, if_pos rfl, if_pos List.mem_cons_self]
      rfl
    · simp only [List.mem_cons, Ne.symm hgh, false_or, if_neg hgh]
      rfl

/-! ### An accepted PARAMETERS record (R139, R185, R193, R194) -/

/-- The record stored, the timers restarted and the summaries refreshed, before the own-grade test. -/
def State.parametersStored (s : State) (p : Parameters) : State :=
  Group.all.foldl State.refreshSummary
    (({ s with mgmt := { s.mgmt with parameters := p } } : State).startReportTimer.startStatus.startIsolation)

theorem State.takeParameters_eq (s : State) (p : Parameters) : s.takeParameters p = (s.parametersStored p).testOwnGrade := rfl

theorem Group.mem_all (g : Group) : g ∈ Group.all := by cases g <;> decide

theorem State.parametersStored_spec (s : State) (p : Parameters) : (∃ a, s.parametersStored p = { s with
      air := { s.air with reportTimer := s.reportStarted p.airReport }
      mgmt := { s.mgmt with
        parameters := p, statusTimer := s.reportStarted p.status
        isolationTimer := if p.isolation.count = 0 then none else some (s.now + p.isolation.ms), attention := a } })
    ∧ ∀ g, (s.parametersStored p).flags g = { s.flags g with
        summary := (s.flags g).summary || (s.flags g).flags &&& ~~~ (p.masks.get g) != 0 } := by
  obtain ⟨⟨a, ha⟩, hflags⟩ := State.foldl_refreshSummary Group.all
    (s := ({ s with mgmt := { s.mgmt with parameters := p } } : State).startReportTimer.startStatus.startIsolation) (by decide)
  refine ⟨⟨a, ha.trans ?_⟩, fun g => ?_⟩
  · rw [← State.reportStarted_eq, ← State.reportStarted_eq]
    rfl
  · exact (hflags g).trans (if_pos (Group.mem_all g))

/-- Settles O31. -/
theorem loadParametersTakesEffect : Obligations.LoadParametersTakesEffect := by
  intro s rq x f haccepts
  refine ⟨fun hbad => ?_, fun p hcontrol hpresence hroute hsetup hlease hrepeat hdoor hfollow htrigger hp => ?_⟩
  · refine State.requestEvent_refused (f := fun u => u.loadParameters f) haccepts (by decide) ?_
    have hnone : parseParameters f = none := Option.eq_none_iff_forall_ne_some.mpr fun p hp => by
      obtain ⟨h1, h2, h3, h4, h5, h6, h7, h8, h9⟩ := inRange_of_parseParameters hp
      rcases hbad with h | h | h | h | h | h | h | h | h
      · rw [h1] at h
        cases h
      · exact h2 h
      · exact h3 h
      · exact h4 h
      · exact h5 h
      · exact h6 h
      · exact h7 h
      · exact h8.elim h.1 h.2
      · omega
    rw [State.loadParameters, hnone]
  · have hparse : parseParameters f = some p := by
      rw [hp]
      exact parseParameters_of_inRange ⟨hcontrol, hpresence, hroute, hsetup, hlease, hrepeat, hdoor, htrigger.imp And.left And.left,
        hfollow⟩ htrigger
    obtain ⟨⟨a, ha⟩, hflags⟩ := s.asTaken.parametersStored_spec p
    obtain ⟨t, ht⟩ : ∃ t, t = s.asTaken.parametersStored p := ⟨_, rfl⟩
    have hdone : s.asTaken.loadParameters f = (t.testOwnGrade, .done []) := by
      rw [State.loadParameters, hparse, ht]
      rfl
    rw [← ht] at ha hflags
    have hkept : t.testOwnGrade.mgmt.parameters = t.mgmt.parameters ∧ t.testOwnGrade.air = t.air
        ∧ t.testOwnGrade.mgmt.statusTimer = t.mgmt.statusTimer ∧ t.testOwnGrade.mgmt.isolationTimer = t.mgmt.isolationTimer
        ∧ t.testOwnGrade.mgmt.isolated = t.mgmt.isolated ∧ t.testOwnGrade.integ = t.integ
        ∧ t.testOwnGrade.poller = t.poller ∧ t.testOwnGrade.supply = t.supply := by simp
    obtain ⟨u, hu⟩ : ∃ u, u = t.testOwnGrade := ⟨_, rfl⟩
    rw [← hu] at hkept hdone
    obtain ⟨hparameters, hair, hstatus, htimer, hisolated, hinteg, hpoller, hsupply⟩ := hkept
    refine ⟨u, State.requestEvent_done (f := fun u => u.loadParameters f) haccepts hdone, ?_, ?_, ?_, ?_, ?_, ?_, ?_, ?_, ?_, ?_, ?_⟩
    case refine_11 =>
      intro stored
      have hstored : stored t := by
        refine ⟨?_, hflags⟩
        rw [hair, hstatus, htimer, ha]
        rfl
      have henters (hquiet : s.evac.state = .quiet) (hhigh : s.air.zone.atLeast p.trigger = true) : u = t.enterEvacuate := by
        refine hu.trans (State.testOwnGrade_enters ?_ ?_)
        · rw [ha]
          exact hquiet
        · rw [ha]
          exact hhigh
      refine ⟨fun hquiet hhigh => ⟨?_, fun own hown => ⟨t, hstored, ?_⟩⟩, fun hstays => ?_⟩
      · rw [henters hquiet hhigh, State.enterEvacuate_state]
      · rw [henters hquiet hhigh]
        refine State.evacuatedFrom_enterEvacuate ?_
        rw [ha]
        exact hown
      · have hsame : u = t := hu.trans (State.testOwnGrade_stays (by rw [ha]; exact hstays))
        exact Eq.substr hsame hstored
    all_goals simp only [hparameters, hair, hstatus, htimer, hisolated, hinteg, hpoller, hsupply, ha]
    all_goals rfl

end Sys2Proof.Machine

end

section
set_option Elab.async false
/-! PROOF. No block that a reply or a miss is handed on to reads the poller: each of their operations commutes with
putting another poller in its place. -/

namespace Sys2Proof.Machine

/-- The state with another poller. -/
def State.withPoller (s : State) (p : Poller) : State := { s with poller := p }

theorem State.withPoller_eq (s : State) (p : Poller) : s.withPoller p = { s with poller := p } := rfl

theorem State.ite_withPoller (c : Prop) [Decidable c] (s t : State) (p : Poller) :
    (if c then s.withPoller p else t.withPoller p) = (if c then s else t).withPoller p := by
  split <;> rfl

theorem State.foldl_withPoller {α : Type} {f : State → α → State} {p : Poller}
    (h : ∀ s a, f (s.withPoller p) a = (f s a).withPoller p) (l : List α) (s : State) :
    l.foldl f (s.withPoller p) = (l.foldl f s).withPoller p :=
  List.foldl_hom (State.withPoller · p) (fun s a => h s a)

section
variable (s : State) (p : Poller)

/-! ### What the other blocks read -/

@[simp] theorem State.withPoller_withPoller (q : Poller) : (s.withPoller p).withPoller q = s.withPoller q := rfl
@[simp] theorem State.withPoller_self : s.withPoller s.poller = s := rfl
@[simp] theorem State.withPoller_poller : (s.withPoller p).poller = p := rfl
@[simp] theorem State.withPoller_now : (s.withPoller p).now = s.now := rfl
@[simp] theorem State.withPoller_net : (s.withPoller p).net = s.net := rfl
@[simp] theorem State.withPoller_table : (s.withPoller p).table = s.table := rfl
@[simp] theorem State.withPoller_calls : (s.withPoller p).calls = s.calls := rfl
@[simp] theorem State.withPoller_seg : (s.withPoller p).seg = s.seg := rfl
@[simp] theorem State.withPoller_evac : (s.withPoller p).evac = s.evac := rfl
@[simp] theorem State.withPoller_air : (s.withPoller p).air = s.air := rfl
@[simp] theorem State.withPoller_supply : (s.withPoller p).supply = s.supply := rfl
@[simp] theorem State.withPoller_integ : (s.withPoller p).integ = s.integ := rfl
@[simp] theorem State.withPoller_mgmt : (s.withPoller p).mgmt = s.mgmt := rfl
@[simp] theorem State.withPoller_scratch : (s.withPoller p).scratch = s.scratch := rfl
@[simp] theorem State.withPoller_params : (s.withPoller p).params = s.params := rfl
@[simp] theorem State.withPoller_own : (s.withPoller p).own = s.own := rfl
@[simp] theorem State.withPoller_nodeAddr? : (s.withPoller p).nodeAddr? = s.nodeAddr? := rfl
@[simp] theorem State.withPoller_tally : (s.withPoller p).tally = s.tally := rfl
@[simp] theorem State.withPoller_minersHere : (s.withPoller p).minersHere = s.minersHere := rfl
@[simp] theorem State.withPoller_unmustered : (s.withPoller p).unmustered = s.unmustered := rfl
@[simp] theorem State.withPoller_triggered : (s.withPoller p).triggered = s.triggered := rfl
@[simp] theorem State.withPoller_victim : (s.withPoller p).victim = s.victim := rfl
@[simp] theorem State.withPoller_ceiling : (s.withPoller p).ceiling = s.ceiling := rfl
@[simp] theorem State.withPoller_minimum : (s.withPoller p).minimum = s.minimum := rfl
@[simp] theorem State.withPoller_limitVictim : (s.withPoller p).limitVictim = s.limitVictim := rfl
@[simp] theorem State.withPoller_zoneNow : (s.withPoller p).zoneNow = s.zoneNow := rfl
@[simp] theorem State.withPoller_refugeNow : (s.withPoller p).refugeNow = s.refugeNow := rfl
@[simp] theorem State.withPoller_causeChannel : (s.withPoller p).causeChannel = s.causeChannel := rfl
@[simp] theorem State.withPoller_entry? (a : Addr) : (s.withPoller p).entry? a = s.entry? a := rfl
@[simp] theorem State.withPoller_isHere (a : Addr) : (s.withPoller p).isHere a = s.isHere a := rfl
@[simp] theorem State.withPoller_inSomePanel (a : Addr) :
    (s.withPoller p).inSomePanel a = s.inSomePanel a := rfl
@[simp] theorem State.withPoller_leg (i : Fin 8) : (s.withPoller p).leg i = s.leg i := rfl
@[simp] theorem State.withPoller_partnerOf (i : Fin 8) : (s.withPoller p).partnerOf i = s.partnerOf i := rfl
@[simp] theorem State.withPoller_panel (i : Fin 8) : (s.withPoller p).panel i = s.panel i := rfl
@[simp] theorem State.withPoller_breachDue (i : Fin 8) : (s.withPoller p).breachDue i = s.breachDue i := rfl
@[simp] theorem State.withPoller_channel (c : Fin 16) : (s.withPoller p).channel c = s.channel c := rfl

/-! ### Sending and counting -/

@[simp] theorem State.originate_withPoller (m : Message) :
    (s.withPoller p).originate m = (s.originate m).withPoller p := rfl
@[simp] theorem State.originateTo_withPoller (q : Port) (m : Message) :
    (s.withPoller p).originateTo q m = (s.originateTo q m).withPoller p := rfl
@[simp] theorem State.setFlag_withPoller (f : Flag) : (s.withPoller p).setFlag f = (s.setFlag f).withPoller p := rfl

theorem State.originateCounted_withPoller {count : State → State}
    (h : count (s.withPoller p) = (count s).withPoller p) (m : Message) :
    (s.withPoller p).originateCounted count m = (s.originateCounted count m).withPoller p := by
  unfold State.originateCounted
  rw [State.withPoller_nodeAddr?, h]
  split <;> rfl

@[simp] theorem State.sendGrant_withPoller (v : Addr) :
    (s.withPoller p).sendGrant v = (s.sendGrant v).withPoller p := s.originateCounted_withPoller p rfl _
@[simp] theorem State.sendWait_withPoller (v : Addr) (n : Nat) :
    (s.withPoller p).sendWait v n = (s.sendWait v n).withPoller p := s.originateCounted_withPoller p rfl _
@[simp] theorem State.sendRefusal_withPoller (v : Addr) (c : EntryRefusal) :
    (s.withPoller p).sendRefusal v c = (s.sendRefusal v c).withPoller p := s.originateCounted_withPoller p rfl _
@[simp] theorem State.sendProximity_withPoller (v : Addr) :
    (s.withPoller p).sendProximity v = (s.sendProximity v).withPoller p := s.originateCounted_withPoller p rfl _
@[simp] theorem State.sendEvacNotice_withPoller (v : Addr) :
    (s.withPoller p).sendEvacNotice v = (s.sendEvacNotice v).withPoller p := s.originateCounted_withPoller p rfl _
@[simp] theorem State.musterReport_withPoller :
    (s.withPoller p).musterReport = s.musterReport.withPoller p :=
  State.originateCounted_withPoller { s with scratch := { s.scratch with mustered := true } } p rfl _

@[simp] theorem State.sendWithdraw_withPoller (v : Addr) :
    (s.withPoller p).sendWithdraw v = (s.sendWithdraw v).withPoller p := by
  unfold State.sendWithdraw
  rw [s.originateCounted_withPoller p rfl]
  exact State.ite_withPoller ..

@[simp] theorem State.locate_withPoller (e : Entry) (l : Option Location) :
    (s.withPoller p).locate e l = (s.locate e l).withPoller p := by
  unfold State.locate
  rw [s.originateCounted_withPoller p rfl]
  exact State.ite_withPoller ..

@[simp] theorem State.noticeRound_withPoller :
    (s.withPoller p).noticeRound = s.noticeRound.withPoller p :=
  State.foldl_withPoller (fun s a => s.sendEvacNotice_withPoller p a) _ s

/-! ### The segment arbiter -/

@[simp] theorem State.setSegState_withPoller (x : SegmentState) :
    (s.withPoller p).setSegState x = (s.setSegState x).withPoller p := rfl
@[simp] theorem State.setCauses_withPoller (x : Causes) :
    (s.withPoller p).setCauses x = (s.setCauses x).withPoller p := rfl
@[simp] theorem State.setSegQueue_withPoller (x : List Truck) :
    (s.withPoller p).setSegQueue x = (s.setSegQueue x).withPoller p := rfl
@[simp] theorem State.startLease_withPoller : (s.withPoller p).startLease = s.startLease.withPoller p := rfl
@[simp] theorem State.setHolder_withPoller (x : Truck) :
    (s.withPoller p).setHolder x = (s.setHolder x).withPoller p := rfl
@[simp] theorem State.setHolderHere_withPoller (x : Bool) :
    (s.withPoller p).setHolderHere x = (s.setHolderHere x).withPoller p := rfl
@[simp] theorem State.setMinerCount_withPoller (x : Nat) :
    (s.withPoller p).setMinerCount x = (s.setMinerCount x).withPoller p := rfl

@[simp] theorem State.sendWaits_withPoller (n : Nat) (q : List Truck) :
    (s.withPoller p).sendWaits n q = (s.sendWaits n q).withPoller p := by
  induction q generalizing s n with
  | nil => rfl
  | cons t q ih => simp only [State.sendWaits, State.sendWait_withPoller, ih]

@[simp] theorem State.sendProximityHolder_withPoller :
    (s.withPoller p).sendProximityHolder = s.sendProximityHolder.withPoller p := by
  unfold State.sendProximityHolder
  rw [State.withPoller_seg]
  split <;> simp only [State.sendProximity_withPoller]

@[simp] theorem State.proximityStarts_withPoller :
    (s.withPoller p).proximityStarts = s.proximityStarts.withPoller p := by
  unfold State.proximityStarts
  rw [State.withPoller_minersHere, State.sendProximityHolder_withPoller]
  exact State.foldl_withPoller (fun s e => s.sendProximity_withPoller p e.address) _ _

@[simp] theorem State.proximityFollows_withPoller (b : Bool) :
    (s.withPoller p).proximityFollows b = (s.proximityFollows b).withPoller p := by
  unfold State.proximityFollows
  rw [State.withPoller_seg, State.proximityStarts_withPoller, State.ite_withPoller]

@[simp] theorem State.segMinerArrives_withPoller (a : Addr) :
    (s.withPoller p).segMinerArrives a = (s.segMinerArrives a).withPoller p := by
  simp only [State.segMinerArrives, State.withPoller_seg, State.setMinerCount_withPoller,
    State.sendProximityHolder_withPoller, State.sendProximity_withPoller, State.proximityStarts_withPoller,
    State.ite_withPoller]

@[simp] theorem State.segMinerLeaves_withPoller :
    (s.withPoller p).segMinerLeaves = s.segMinerLeaves.withPoller p := by
  simp only [State.segMinerLeaves, State.withPoller_seg, State.setMinerCount_withPoller,
    State.sendProximityHolder_withPoller, State.ite_withPoller]

@[simp] theorem State.segVehicle_withPoller (a : Addr) (b : Bool) :
    (s.withPoller p).segVehicle a b = (s.segVehicle a b).withPoller p := by
  simp only [State.segVehicle, State.withPoller_seg, State.setHolderHere_withPoller,
    State.proximityFollows_withPoller, State.ite_withPoller]

@[simp] theorem State.grantTo_withPoller (t : Truck) :
    (s.withPoller p).grantTo t = (s.grantTo t).withPoller p := by
  simp only [State.grantTo, State.withPoller_seg, State.setSegState_withPoller, State.setHolder_withPoller,
    State.startLease_withPoller, State.sendGrant_withPoller, State.withPoller_isHere,
    State.setHolderHere_withPoller, State.proximityFollows_withPoller]

@[simp] theorem State.becomeFree_withPoller : (s.withPoller p).becomeFree = s.becomeFree.withPoller p := by
  unfold State.becomeFree
  rw [State.withPoller_seg]
  split <;> simp only [State.setSegState_withPoller, State.setSegQueue_withPoller, State.grantTo_withPoller,
    State.sendWaits_withPoller]

@[simp] theorem State.refuseAll_withPoller (q : List Truck) :
    (s.withPoller p).refuseAll q = (s.refuseAll q).withPoller p :=
  State.foldl_withPoller (fun s t => s.sendRefusal_withPoller p t.vehicle .closed) q s

@[simp] theorem State.segCloses_withPoller : (s.withPoller p).segCloses = s.segCloses.withPoller p := by
  unfold State.segCloses
  rw [State.withPoller_seg]
  split <;> simp only [State.setSegState_withPoller, State.sendWithdraw_withPoller, State.withPoller_seg,
    State.refuseAll_withPoller, State.setSegQueue_withPoller]

@[simp] theorem State.segOpens_withPoller : (s.withPoller p).segOpens = s.segOpens.withPoller p := by
  unfold State.segOpens
  rw [State.withPoller_seg]
  split <;> simp only [State.becomeFree_withPoller, State.setSegState_withPoller, State.startLease_withPoller,
    State.sendGrant_withPoller]

@[simp] theorem State.changeCauses_withPoller (c : Causes) :
    (s.withPoller p).changeCauses c = (s.changeCauses c).withPoller p := by
  simp only [State.changeCauses, State.withPoller_seg, State.setCauses_withPoller, State.segCloses_withPoller,
    State.segOpens_withPoller, State.ite_withPoller]

@[simp] theorem State.segZone_withPoller (old new : Grade) :
    (s.withPoller p).segZone old new = (s.segZone old new).withPoller p := by
  unfold State.segZone
  simp only [State.withPoller_seg, State.changeCauses_withPoller]
  split
  · split <;> simp only [State.sendWithdraw_withPoller]
  · rfl

/-! ### The station table -/

@[simp] theorem State.setEntries_withPoller (l : List Entry) :
    (s.withPoller p).setEntries l = (s.setEntries l).withPoller p := rfl
@[simp] theorem State.countTable_withPoller (f : TableCounters → TableCounters) :
    (s.withPoller p).countTable f = (s.countTable f).withPoller p := rfl
@[simp] theorem State.learnFails_withPoller : (s.withPoller p).learnFails = s.learnFails.withPoller p := rfl

@[simp] theorem State.evacMinerArrives_withPoller (e : Entry) :
    (s.withPoller p).evacMinerArrives e = (s.evacMinerArrives e).withPoller p := by
  simp only [State.evacMinerArrives, State.withPoller_evac, State.sendEvacNotice_withPoller,
    State.ite_withPoller]

@[simp] theorem State.arrives_withPoller (e : Entry) (l : Option Location) :
    (s.withPoller p).arrives e l = (s.arrives e l).withPoller p := by
  simp only [State.arrives, State.evacMinerArrives_withPoller, State.segMinerArrives_withPoller,
    State.segVehicle_withPoller, State.ite_withPoller, State.locate_withPoller]

@[simp] theorem State.departs_withPoller (a : Addr) :
    (s.withPoller p).departs a = (s.departs a).withPoller p := by
  simp only [State.departs, State.segMinerLeaves_withPoller, State.segVehicle_withPoller, State.ite_withPoller]

@[simp] theorem State.rewriteEntry_withPoller (old new : Entry) :
    (s.withPoller p).rewriteEntry old new = (s.rewriteEntry old new).withPoller p := by
  simp only [State.rewriteEntry, State.withPoller_table, State.setEntries_withPoller, State.arrives_withPoller,
    State.departs_withPoller, State.ite_withPoller]

@[simp] theorem State.dropEntry_withPoller (e : Entry) :
    (s.withPoller p).dropEntry e = (s.dropEntry e).withPoller p := by
  simp only [State.dropEntry, State.withPoller_table, State.setEntries_withPoller, State.departs_withPoller,
    State.ite_withPoller]

theorem State.makeRoom_withPoller : (s.withPoller p).makeRoom = s.makeRoom.map (State.withPoller · p) := by
  unfold State.makeRoom
  rw [State.withPoller_table, State.withPoller_victim]
  split
  · rfl
  · split <;> simp only [State.dropEntry_withPoller, State.countTable_withPoller, Option.map]

@[simp] theorem State.insertNew_withPoller (a : Addr) (l : Location) (n : Option Addr) :
    (s.withPoller p).insertNew a l n = (s.insertNew a l n).withPoller p := by
  simp only [State.insertNew, State.withPoller_table, State.setEntries_withPoller,
    State.countTable_withPoller, State.arrives_withPoller, State.ite_withPoller] <;> rfl

@[simp] theorem State.createEntry_withPoller (a : Addr) (l : Location) (n : Option Addr) :
    (s.withPoller p).createEntry a l n = (s.createEntry a l n).withPoller p := by
  unfold State.createEntry
  rw [State.withPoller_nodeAddr?, State.makeRoom_withPoller]
  split
  · rfl
  · cases s.makeRoom with
    | none => rfl
    | some t => exact t.insertNew_withPoller p a l n

@[simp] theorem State.createForMuster_withPoller (a : Addr) :
    (s.withPoller p).createForMuster a = (s.createForMuster a).withPoller p := by
  unfold State.createForMuster
  rw [State.withPoller_entry?]
  split <;> simp only [State.createEntry_withPoller]

@[simp] theorem State.learn_withPoller (a : Addr) (l : Location) :
    (s.withPoller p).learn a l = (s.learn a l).withPoller p := by
  unfold State.learn
  rw [State.withPoller_entry?, State.withPoller_params]
  split <;> simp only [State.rewriteEntry_withPoller, State.createEntry_withPoller, State.ite_withPoller]

/-! ### The leg table's limits -/

@[simp] theorem State.setLeg_withPoller (i : Fin 8) (l : Leg) :
    (s.withPoller p).setLeg i l = (s.setLeg i l).withPoller p := rfl
@[simp] theorem State.enterClearing_withPoller (i : Fin 8) (c : ClearCause) :
    (s.withPoller p).enterClearing i c = (s.enterClearing i c).withPoller p := rfl
@[simp] theorem State.becomeIdle_withPoller (i : Fin 8) :
    (s.withPoller p).becomeIdle i = (s.becomeIdle i).withPoller p := rfl
@[simp] theorem State.sendClear_withPoller (a : Addr) (c : CallId) (x : ClearCause) :
    (s.withPoller p).sendClear a c x = (s.sendClear a c x).withPoller p := rfl
@[simp] theorem State.countCalls_withPoller (f : CallCounters → CallCounters) :
    (s.withPoller p).countCalls f = (s.countCalls f).withPoller p := rfl

@[simp] theorem State.clearNotices_withPoller (l : Leg) (c : ClearCause) (w : ClearFrom) :
    (s.withPoller p).clearNotices l c w = (s.clearNotices l c w).withPoller p := by
  simp only [State.clearNotices, State.sendClear_withPoller, State.ite_withPoller]

@[simp] theorem State.pairNotices_withPoller (l m : Leg) (c : ClearCause) (w : ClearFrom) :
    (s.withPoller p).pairNotices l m c w = (s.pairNotices l m c w).withPoller p := by
  simp only [State.pairNotices, State.sendClear_withPoller, State.ite_withPoller]

@[simp] theorem State.clearLeg_withPoller (i : Fin 8) (c : ClearCause) (w : ClearFrom) :
    (s.withPoller p).clearLeg i c w = (s.clearLeg i c w).withPoller p := by
  unfold State.clearLeg
  rw [State.withPoller_leg, State.withPoller_partnerOf]
  split
  · rfl
  · split <;> simp only [State.enterClearing_withPoller, State.withPoller_leg, State.pairNotices_withPoller,
      State.clearNotices_withPoller, State.becomeIdle_withPoller]

@[simp] theorem State.clearForLimit_withPoller (c : ClearCause) (i : Fin 8) :
    (s.withPoller p).clearForLimit c i = (s.clearForLimit c i).withPoller p := by
  simp only [State.clearForLimit, State.withPoller_partnerOf, State.clearLeg_withPoller,
    State.countCalls_withPoller]

@[simp] theorem State.enforceLimits_withPoller (c : ClearCause) (n : Nat) :
    State.enforceLimits c n (s.withPoller p) = (State.enforceLimits c n s).withPoller p := by
  induction n generalizing s with
  | zero => rfl
  | succ n ih =>
    unfold State.enforceLimits
    rw [State.withPoller_limitVictim]
    split
    · rw [State.clearForLimit_withPoller, ih]
    · rfl

@[simp] theorem State.limitsChanged_withPoller (n : Nat) (m : Priority) (c : ClearCause) :
    (s.withPoller p).limitsChanged n m c = (s.limitsChanged n m c).withPoller p := by
  simp only [State.limitsChanged, State.withPoller_ceiling, State.withPoller_minimum,
    State.withPoller_limitVictim, State.enforceLimits_withPoller, State.setFlag_withPoller,
    State.ite_withPoller]

/-! ### The evacuation controller -/

@[simp] theorem State.setPanel_withPoller (i : Fin 8) (x : Panel) :
    (s.withPoller p).setPanel i x = (s.setPanel i x).withPoller p := rfl
@[simp] theorem State.setEvacState_withPoller (x : EvacState) :
    (s.withPoller p).setEvacState x = (s.setEvacState x).withPoller p := rfl
@[simp] theorem State.countEvac_withPoller (f : EvacCounters → EvacCounters) :
    (s.withPoller p).countEvac f = (s.countEvac f).withPoller p := rfl
@[simp] theorem State.startRepeat_withPoller : (s.withPoller p).startRepeat = s.startRepeat.withPoller p := rfl

@[simp] theorem State.setMark_withPoller (a : Addr) (m : Muster) :
    (s.withPoller p).setMark a m = (s.setMark a m).withPoller p := by
  unfold State.setMark
  rw [State.withPoller_entry?]
  split <;> rfl

@[simp] theorem State.tagUnit_withPoller (a : Addr) :
    (s.withPoller p).tagUnit a = (s.tagUnit a).withPoller p := by
  simp only [State.tagUnit, State.createForMuster_withPoller, State.setMark_withPoller]

@[simp] theorem State.untagUnit_withPoller (a : Addr) :
    (s.withPoller p).untagUnit a = (s.untagUnit a).withPoller p := by
  unfold State.untagUnit
  rw [State.withPoller_entry?, State.withPoller_inSomePanel]
  split <;> simp only [State.setMark_withPoller, State.ite_withPoller]

@[simp] theorem State.applyTags_withPoller (l : List Addr) :
    (s.withPoller p).applyTags l = (s.applyTags l).withPoller p :=
  State.foldl_withPoller (fun s a => s.tagUnit_withPoller p a) l s

@[simp] theorem State.releaseTags_withPoller (l : List Addr) :
    (s.withPoller p).releaseTags l = (s.releaseTags l).withPoller p :=
  State.foldl_withPoller (fun s a => s.untagUnit_withPoller p a) l s

@[simp] theorem State.testBreach_withPoller (i : Fin 8) :
    (s.withPoller p).testBreach i = (s.testBreach i).withPoller p := by
  unfold State.testBreach
  rw [State.withPoller_breachDue]
  split <;> rfl

@[simp] theorem State.testBreaches_withPoller : (s.withPoller p).testBreaches = s.testBreaches.withPoller p :=
  State.foldl_withPoller (fun s i => s.testBreach_withPoller p i) _ s

@[simp] theorem State.enterEvacuate_withPoller :
    (s.withPoller p).enterEvacuate = s.enterEvacuate.withPoller p := by
  have htags (s : State) : pollIndices.foldl (fun s i => s.applyTags (s.panel i).tags) (s.withPoller p)
      = (pollIndices.foldl (fun s i => s.applyTags (s.panel i).tags) s).withPoller p :=
    State.foldl_withPoller (fun s i => s.applyTags_withPoller p (s.panel i).tags) _ s
  simp only [State.enterEvacuate, State.withPoller_ceiling, State.withPoller_minimum,
    State.setEvacState_withPoller, State.countEvac_withPoller, State.setFlag_withPoller,
    State.limitsChanged_withPoller, htags, State.noticeRound_withPoller,
    State.startRepeat_withPoller, State.testBreaches_withPoller, State.musterReport_withPoller]

@[simp] theorem State.evacZone_withPoller : (s.withPoller p).evacZone = s.evacZone.withPoller p := by
  simp only [State.evacZone, State.testOwnGrade, State.withPoller_evac, State.withPoller_triggered,
    State.enterEvacuate_withPoller, State.ite_withPoller, State.testBreaches_withPoller]

@[simp] theorem State.storePanel_withPoller (i : Fin 8) (c : PanelContents) :
    (s.withPoller p).storePanel i c = (s.storePanel i c).withPoller p := by
  unfold State.storePanel
  rw [State.withPoller_panel]
  simp only [State.setPanel_withPoller, State.setFlag_withPoller, State.ite_withPoller, State.withPoller_evac,
    State.applyTags_withPoller, State.releaseTags_withPoller, State.testBreach_withPoller]

@[simp] theorem State.handPanel_withPoller (i : Fin 8) (c : Option PanelContents) :
    (s.withPoller p).handPanel i c = (s.handPanel i c).withPoller p := by
  cases c with
  | none => rfl
  | some c => exact s.storePanel_withPoller p i c.clean

/-! ### The air evaluator -/

@[simp] theorem State.setChannel_withPoller (c : Fin 16) (x : Channel) :
    (s.withPoller p).setChannel c x = (s.setChannel c x).withPoller p := rfl
@[simp] theorem State.setGrades_withPoller (z r : Grade) :
    (s.withPoller p).setGrades z r = (s.setGrades z r).withPoller p := rfl
@[simp] theorem State.airReport_withPoller : (s.withPoller p).airReport = s.airReport.withPoller p := rfl

@[simp] theorem State.channelSet_withPoller (c : Fin 16) (x : Channel) :
    (s.withPoller p).channelSet c x = (s.channelSet c x).withPoller p := by
  unfold State.channelSet
  rw [State.withPoller_channel]
  simp only [decide_eq_true_eq]
  repeat' split
  all_goals rfl

@[simp] theorem State.gradeNotices_withPoller (z r : Bool) :
    (s.withPoller p).gradeNotices z r = (s.gradeNotices z r).withPoller p := by
  simp only [State.gradeNotices, State.withPoller_own, State.withPoller_air, State.withPoller_causeChannel,
    State.originate_withPoller, State.airReport_withPoller, State.ite_withPoller]

@[simp] theorem State.regrade_withPoller : (s.withPoller p).regrade = s.regrade.withPoller p := by
  simp only [State.regrade, State.withPoller_air, State.withPoller_zoneNow, State.withPoller_refugeNow,
    State.setGrades_withPoller, State.gradeNotices_withPoller, State.segZone_withPoller,
    State.evacZone_withPoller, State.ite_withPoller]

@[simp] theorem State.respond_withPoller (r : Request) (c : Cause) (d : List Byte) :
    (s.withPoller p).respond r c d = (s.respond r c d).withPoller p := by
  unfold State.respond
  split <;> rfl

@[simp] theorem State.endTest_withPoller (c : Fin 16) (o : TestOutcome) :
    (s.withPoller p).endTest c o = (s.endTest c o).withPoller p := by
  unfold State.endTest
  rw [State.withPoller_channel]
  split <;> simp only [State.setChannel_withPoller, State.setFlag_withPoller, State.respond_withPoller]

@[simp] theorem State.feedTest_withPoller (c : Fin 16) :
    (s.withPoller p).feedTest c = (s.feedTest c).withPoller p := by
  unfold State.feedTest
  rw [State.withPoller_channel]
  split <;> simp only [State.setChannel_withPoller, State.endTest_withPoller, State.ite_withPoller]

@[simp] theorem State.feedTests_withPoller (i : Fin 8) :
    (s.withPoller p).feedTests i = (s.feedTests i).withPoller p := by
  simp only [State.feedTests, State.feedTest_withPoller]

end

end Sys2Proof.Machine
end

section
set_option Elab.async false
/-! PROOF. A missed reply: its blocks work beside a poller that has noted the miss. -/

namespace Sys2Proof.Machine

/-! ### The poller's own changes -/

theorem State.nextPoll_eq_withPoller (s : State) : s.nextPoll = s.withPoller s.nextPoll.poller := by
  obtain h | ⟨k, -, -, h⟩ := s.nextPoll_cases
  · rw [h, State.withPoller_self]
  · rw [h]; rfl

theorem PollRecord.eq_of_undated {r x : PollRecord} (h : r.undated = x.undated) : r = { x with due := r.due } := by
  cases r
  cases x
  simp only [PollRecord.undated, PollRecord.mk.injEq] at h ⊢
  exact ⟨h.1, h.2.1, h.2.2.1, trivial⟩

theorem PollRecord.rest_of_undated {r x : PollRecord} (h : r.undated = x.undated) :
    r.config = x.config ∧ r.state = x.state ∧ r.misses = x.misses := by
  rw [PollRecord.eq_of_undated h]
  exact ⟨rfl, rfl, rfl⟩

/-- The poller after the poll in flight has ended and its record has been rewritten. -/
def Poller.ended (p : Poller) (i : Fin 8) (r : PollRecord) (k : PollerCounters) : Poller :=
  { p with inFlight := none, replyTimer := none, records := p.records.set i r, counters := k }

theorem State.ended_pollRecord (s : State) (p : Poller) (i j : Fin 8) (r : PollRecord) (k : PollerCounters) :
    (s.withPoller (p.ended i r k)).pollRecord j = if i = j then r else p.records[j] := by
  show (p.records.set i r)[j] = _
  simp only [Fin.getElem_fin, Vector.getElem_set]
  simp only [Fin.ext_iff]

/-! ### A device that has gone SILENT (R22) -/

/-- A channel of a SILENT device: FAULT, or OFF while it is disabled. -/
def Channel.gone (x : Channel) : Channel :=
  if x.record.enabled then { x with
    state := .fault
    effective := Grade.higher x.record.faultAction.grade (highestSet x.alert x.alarm x.trip) }
  else { x with state := .off, effective := .normal }

theorem Channel.refresh_silent (x : Channel) : x.refresh true = x.gone := by
  unfold Channel.refresh Channel.gone Channel.stateNow
  cases x.record.enabled <;> simp [Channel.effectiveNow]

theorem Channel.gone_values (x : Channel) : x.gone.value = x.value ∧ x.gone.average = x.average ∧ x.gone.trip = x.trip
    ∧ x.gone.staleTimer = x.staleTimer := by
  unfold Channel.gone
  split <;> exact ⟨rfl, rfl, rfl, rfl⟩

theorem Channel.gone_of_enabled {x : Channel} (h : x.record.enabled = true) : x.gone.state = .fault := by
  rw [Channel.gone, if_pos h]

theorem Channel.fed_values (x : Channel) : x.fed.value = x.value ∧ x.fed.average = x.average ∧ x.fed.trip = x.trip
    ∧ x.fed.staleTimer = x.staleTimer ∧ x.fed.state = x.state :=
  ⟨rfl, rfl, rfl, rfl, rfl⟩

theorem pollOf_firstChannel (i : Fin 8) : pollOf (firstChannel i) = i :=
  (pollOf_eq_iff _ _).mpr (.inl rfl)

theorem pollOf_secondChannel (i : Fin 8) : pollOf (secondChannel i) = i :=
  (pollOf_eq_iff _ _).mpr (.inr rfl)

theorem firstChannel_ne_secondChannel (i : Fin 8) : firstChannel i ≠ secondChannel i :=
  Fin.ne_of_val_ne (by simp only [firstChannel, secondChannel]; omega)

theorem ite_channels {α : Type} (i : Fin 8) (c : Fin 16) (f : Fin 16 → α) (x : α) :
    (if secondChannel i = c then f (secondChannel i) else if firstChannel i = c then f (firstChannel i) else x)
      = if pollOf c = i then f c else x := by
  split
  next h => rw [← h, if_pos (pollOf_secondChannel i)]
  next hsecond =>
    split
    next h => rw [← h, if_pos (pollOf_firstChannel i)]
    next hfirst =>
      rw [if_neg]
      intro h
      obtain h | h := (pollOf_eq_iff _ _).mp h
      · exact hfirst h
      · exact hsecond h

/-- Both channels of a SILENT device are in FAULT or OFF, and the grades follow. -/
def State.channelsGone (s : State) (i : Fin 8) : State :=
  ((s.channelSet (firstChannel i) (s.channel (firstChannel i)).gone).channelSet (secondChannel i)
    (s.channel (secondChannel i)).gone).regraded

theorem State.deviceGone_eq {s : State} {i : Fin 8} (h : (s.pollRecord i).state = .silent) :
    s.deviceGone i = s.channelsGone i := by
  have hsilent {t : State} (hpoller : t.poller = s.poller) (c : Fin 16) (hc : pollOf c = i) :
      t.deviceSilent c = true := by
    simp [State.deviceSilent, State.pollRecord, hpoller, hc, ← h]
  rw [State.deviceGone, State.refreshChannel, State.refreshChannel, State.regrade_eq_regraded,
    State.updateChannel_eq_channelSet, State.updateChannel_eq_channelSet, State.channelSet_channel,
    if_neg (firstChannel_ne_secondChannel i), hsilent rfl _ (pollOf_firstChannel i),
    hsilent (State.channelSet_frame ..).2.1 _ (pollOf_secondChannel i), Channel.refresh_silent, Channel.refresh_silent]
  rfl

theorem State.channelsGone_channel (s : State) (i : Fin 8) (c : Fin 16) :
    (s.channelsGone i).channel c = if pollOf c = i then (s.channel c).gone else s.channel c := by
  rw [State.channelsGone, State.regraded_channel, State.channelSet_channel, State.channelSet_channel]
  exact ite_channels i c (fun c => (s.channel c).gone) _

theorem State.channelsGone_withPoller (s : State) (p : Poller) (i : Fin 8) :
    (s.withPoller p).channelsGone i = (s.channelsGone i).withPoller p := by
  simp only [State.channelsGone, State.withPoller_channel, State.channelSet_withPoller,
    ← State.regrade_eq_regraded, State.regrade_withPoller]

/-! ### The miss (R44) -/

theorem PollRecord.missed_eq (r : PollRecord) : r.missed = { r with
    misses := min 255 (r.misses + 1), state := if 3 ≤ min 255 (r.misses + 1) then .silent else r.state } := by
  have hcount : (if r.misses < 255 then r.misses + 1 else 255) = min 255 (r.misses + 1) := by
    split <;> omega
  rw [PollRecord.missed, hcount]

/-- The blocks that a miss is told to, beside the poller: the channels of a record that becomes SILENT (R22). -/
def State.missTold (s : State) (i : Fin 8) : State :=
  if 3 ≤ min 255 ((s.pollRecord i).misses + 1) ∧ (s.pollRecord i).state ≠ .silent then s.channelsGone i else s

theorem State.missTold_withPoller (s : State) (p : Poller) (i : Fin 8)
    (h : (s.withPoller p).pollRecord i = (s.pollRecord i).missed) :
    (if ((s.withPoller p).pollRecord i).state = .silent ∧ (s.pollRecord i).state ≠ .silent
      then (s.withPoller p).deviceGone i else s.withPoller p) = (s.missTold i).withPoller p := by
  have hfalls : ((s.withPoller p).pollRecord i).state = .silent ∧ (s.pollRecord i).state ≠ .silent
      ↔ 3 ≤ min 255 ((s.pollRecord i).misses + 1) ∧ (s.pollRecord i).state ≠ .silent := by
    rw [h, PollRecord.missed_eq]
    refine and_congr_left fun hold => ?_
    show (if _ then _ else _) = _ ↔ _
    split
    next hthree => exact iff_of_true rfl hthree
    next hthree => exact iff_of_false hold hthree
  unfold State.missTold
  by_cases hsilent : ((s.withPoller p).pollRecord i).state = .silent ∧ (s.pollRecord i).state ≠ .silent
  · rw [if_pos hsilent, if_pos (hfalls.mp hsilent), State.deviceGone_eq hsilent.1, State.channelsGone_withPoller]
  · rw [if_neg hsilent, if_neg (mt hfalls.mpr hsilent)]

/-- The poller's counters with one more miss. -/
def PollerCounters.missCounted (k : PollerCounters) : PollerCounters := { k with pollMisses := k.pollMisses + 1 }

/-- A missed reply before the next poll: the blocks' work beside a poller that has noted the miss. -/
theorem State.missReply_eq (s : State) (i : Fin 8) : s.missReply i
    = (((s.missTold i).feedTests i).withPoller
        (s.poller.ended i (s.pollRecord i).missed s.poller.counters.missCounted)).nextPoll := by
  have hrecord := s.ended_pollRecord s.poller i i (s.pollRecord i).missed s.poller.counters
  rw [if_pos rfl] at hrecord
  have htold := s.missTold_withPoller _ i hrecord
  have hnoted : (s.freeLine.setPollRecord i (s.freeLine.pollRecord i).missed)
      = s.withPoller (s.poller.ended i (s.pollRecord i).missed s.poller.counters) := rfl
  unfold State.missReply
  dsimp only
  rw [hnoted, htold, ← State.feedTests_withPoller]
  rfl

theorem State.feedTests_channel (s : State) (i : Fin 8) (c : Fin 16) :
    (s.feedTests i).channel c = if pollOf c = i then (s.channel c).fed else s.channel c := by
  have hne := firstChannel_ne_secondChannel i
  rw [State.feedTests, State.feedTest_channel, ← ite_channels i c (fun c => (s.channel c).fed)]
  split
  next hsecond => rw [← hsecond, State.feedTest_channel, if_neg hne]
  next hsecond =>
    rw [State.feedTest_channel]
    split
    next hfirst => rw [hfirst]
    next hfirst => rfl

theorem State.missTold_channel (s : State) (i : Fin 8) (c : Fin 16) : (s.missTold i).channel c = s.channel c
    ∨ (s.missTold i).channel c = (s.channel c).gone := by
  unfold State.missTold
  split
  · rw [State.channelsGone_channel]
    split
    · exact .inr rfl
    · exact .inl rfl
  · exact .inl rfl

theorem State.missReply_kept (s : State) (i : Fin 8) : (s.missReply i).now = s.now ∧ (s.missReply i).supply = s.supply
    ∧ (s.missReply i).integ = s.integ ∧ (s.missReply i).mgmt.parameters = s.mgmt.parameters := by
  simp

theorem State.missTold_stays {s : State} {i : Fin 8}
    (h : ¬ (3 ≤ min 255 ((s.pollRecord i).misses + 1) ∧ (s.pollRecord i).state ≠ .silent)) : s.missTold i = s :=
  if_neg h

theorem State.missTold_falls {s : State} {i : Fin 8}
    (h : 3 ≤ min 255 ((s.pollRecord i).misses + 1) ∧ (s.pollRecord i).state ≠ .silent) :
    s.missTold i = s.channelsGone i :=
  if_pos h

theorem State.feedTests_blocks (s : State) (i : Fin 8) : (s.feedTests i).table = s.table
    ∧ (s.feedTests i).calls = s.calls ∧ (s.feedTests i).seg = s.seg ∧ (s.feedTests i).evac = s.evac
    ∧ (s.feedTests i).air.zone = s.air.zone ∧ (s.feedTests i).air.refuge = s.air.refuge := by
  simp [State.feedTests]

/-- Settles O43: a miss is the blocks' work beside the poller (`State.missReply_eq`), then the next poll. -/
theorem missedRepliesMakeSilent : Obligations.MissedRepliesMakeSilent := by
  intro s f d hflight htimer old n
  have hwork : workOf .replyTimerExpiry { s with scratch := {} } = (s.at d).missReply f.index := by
    show State.replyTimerExpires { s with scratch := {} } = _
    unfold State.replyTimerExpires
    rw [show ({ s with scratch := {} } : State).poller.inFlight = some f from hflight]
    show State.expire { s with scratch := {} } s.poller.replyTimer (fun u => u.missReply f.index) = _
    rw [htimer, State.expire_some]
    rfl
  obtain ⟨v, hv⟩ : ∃ v, v = ((s.at d).missTold f.index).feedTests f.index := ⟨_, rfl⟩
  obtain ⟨w, hw⟩ : ∃ w, w = v.withPoller (s.poller.ended f.index old.missed s.poller.counters.missCounted) := ⟨_, rfl⟩
  have heq : (s.at d).missReply f.index = w.nextPoll := by
    rw [hw, hv]
    exact (s.at d).missReply_eq f.index
  have hrecord (j : Fin 8) : (w.nextPoll.pollRecord j).undated
      = (if f.index = j then old.missed else s.pollRecord j).undated := by
    rw [State.nextPoll_undated, hw, State.ended_pollRecord]
    rfl
  have hother (j : Fin 8) (hj : j ≠ f.index) : (w.nextPoll.pollRecord j).undated = (s.pollRecord j).undated := by
    rw [hrecord, if_neg (Ne.symm hj)]
  have hchannel (c : Fin 16) : w.nextPoll.channel c
      = if pollOf c = f.index then (((s.at d).missTold f.index).channel c).fed
        else ((s.at d).missTold f.index).channel c := by
    rw [State.nextPoll_eq_withPoller, State.withPoller_channel, hw, State.withPoller_channel, hv,
      State.feedTests_channel]
  obtain ⟨hnow, hsupply, hinteg, hparams⟩ := (s.at d).missReply_kept f.index
  rw [heq] at hnow hsupply hinteg hparams
  refine ⟨w.nextPoll, (exec_concluded hwork).trans (by rw [heq]), ?_, ?_, ?_, ?_, fun j hj =>
    PollRecord.rest_of_undated (hother j hj), fun c => ?_, fun c hc henabled hthree hold => ?_, ?_, ?_, ?_⟩
  · exact hnow
  · rw [PollRecord.eq_of_undated ((hrecord f.index).trans (by rw [if_pos rfl])), PollRecord.missed_eq]
  · obtain ⟨k, hk⟩ := w.nextPoll_counters
    rw [hk, hw]
    rfl
  · obtain h | ⟨hsequence, htimer⟩ := w.nextPoll_timer
    · rw [h, hw]
      exact .inl ⟨rfl, rfl⟩
    · rw [State.nextPoll_eq_withPoller] at hnow
      rw [hsequence, htimer, show w.now = max s.now d from hnow, hw]
      exact .inr ⟨rfl, rfl⟩
  · have hvalues : ∀ x : Channel, x = s.channel c ∨ x = (s.channel c).gone → x.value = (s.channel c).value
        ∧ x.average = (s.channel c).average ∧ x.trip = (s.channel c).trip
        ∧ x.staleTimer = (s.channel c).staleTimer := by
      rintro x (rfl | rfl)
      · exact ⟨rfl, rfl, rfl, rfl⟩
      · exact Channel.gone_values _
    rw [hchannel]
    have htold := hvalues _ ((s.at d).missTold_channel f.index c)
    split
    · exact htold
    · exact htold
  · have hgone : (s.at d).missTold f.index = (s.at d).channelsGone f.index :=
      State.missTold_falls ⟨hthree, hold⟩
    rw [hchannel, if_pos hc, hgone, State.channelsGone_channel, if_pos hc]
    exact Channel.gone_of_enabled henabled
  · intro first second gone told
    have htold : told = (s.at d).missTold f.index := rfl
    clear_value told
    rw [← State.feedTest_eq_testFed, ← State.feedTest_eq_testFed, htold]
    calc w.nextPoll = w.withPoller w.nextPoll.poller := w.nextPoll_eq_withPoller
      _ = v.withPoller w.nextPoll.poller := congrArg (·.withPoller w.nextPoll.poller) hw
      _ = _ := congrArg (·.withPoller w.nextPoll.poller) hv
  · by_cases hfalls : 3 ≤ n ∧ old.state ≠ .silent
    · exact .inl hfalls
    · have htold : (s.at d).missTold f.index = s.at d := State.missTold_stays hfalls
      rw [htold] at hv
      rw [State.nextPoll_eq_withPoller, hw, hv]
      exact .inr ((s.at d).feedTests_blocks f.index)
  · exact ⟨hsupply, hinteg, hparams⟩

end Sys2Proof.Machine
end

section
set_option Elab.async false
/-! PROOF. A taken reply: its blocks work beside a poller that has noted it. -/

namespace Sys2Proof.Machine

/-! ### Readings (R19, R20) -/

theorem State.channelSet_self (s : State) (c : Fin 16) : s.channelSet c (s.channel c) = s := by
  have hset : s.air.channels.set c (s.channel c) = s.air.channels := by
    ext j hj
    simp only [Vector.getElem_set]
    split
    next h => subst h; rfl
    · rfl
  unfold State.channelSet
  simp [hset]

/-- A channel after a reading from a device that is not SILENT. -/
def Channel.read (x : Channel) (now : Nat) (r : Reading) : Channel :=
  if x.record.enabled then (x.take now r).refresh false else x

theorem State.takeReading_eq {s : State} {c : Fin 16} (h : s.deviceSilent c = false) (r : Reading) :
    s.takeReading c r = s.channelSet c ((s.channel c).read s.now r) := by
  unfold State.takeReading Channel.read
  split
  · rw [State.updateChannel_eq_channelSet, h]
  · rw [State.channelSet_self]

/-- Both channels have taken their readings, and the grades follow. -/
def State.channelsRead (s : State) (i : Fin 8) (first second : Reading) : State :=
  ((s.channelSet (firstChannel i) ((s.channel (firstChannel i)).read s.now first)).channelSet (secondChannel i)
    ((s.channel (secondChannel i)).read s.now second)).regraded

theorem State.takeReadings_eq {s : State} {i : Fin 8} (h : (s.pollRecord i).state = .responding)
    (first second : Reading) : s.takeReadings i first second = s.channelsRead i first second := by
  have hloud {t : State} (hpoller : t.poller = s.poller) (c : Fin 16) (hc : pollOf c = i) :
      t.deviceSilent c = false := by
    have hrecord : t.pollRecord i = s.pollRecord i := congrArg (·.records[i]) hpoller
    rw [State.deviceSilent, hc, hrecord, h]
    rfl
  rw [State.takeReadings, State.takeReading_eq (hloud rfl _ (pollOf_firstChannel i)),
    State.takeReading_eq (hloud (State.channelSet_frame ..).2.1 _ (pollOf_secondChannel i)), State.channelSet_channel,
    if_neg (firstChannel_ne_secondChannel i), State.regrade_eq_regraded, (State.channelSet_frame ..).1]
  rfl

theorem State.channelsRead_withPoller (s : State) (p : Poller) (i : Fin 8) (first second : Reading) :
    (s.withPoller p).channelsRead i first second = (s.channelsRead i first second).withPoller p := by
  simp only [State.channelsRead, State.withPoller_channel, State.withPoller_now, State.channelSet_withPoller,
    ← State.regrade_eq_regraded, State.regrade_withPoller]

theorem State.channelsRead_channel (s : State) (i : Fin 8) (first second : Reading) (c : Fin 16) :
    (s.channelsRead i first second).channel c = if secondChannel i = c then (s.channel c).read s.now second
      else if firstChannel i = c then (s.channel c).read s.now first else s.channel c := by
  rw [State.channelsRead, State.regraded_channel, State.channelSet_channel, State.channelSet_channel]
  split
  next h => rw [h]
  next =>
    split
    next h => rw [h]
    · rfl

theorem Channel.read_test (x : Channel) (now : Nat) (r : Reading) : (x.read now r).test = x.test := by
  unfold Channel.read Channel.take
  repeat' split
  all_goals rfl

theorem Channel.read_disabled {x : Channel} (h : x.record.enabled = false) (now : Nat) (r : Reading) :
    x.read now r = x := by
  simp [Channel.read, h]

theorem convert_eq (offset gain full raw : Nat) : convert offset gain full raw
    = if raw ≤ offset then 0 else min full (((raw - offset) * gain + 512) / 1024) := rfl

theorem Channel.read_ok {x : Channel} {now : Nat} {r : Reading} (h : x.record.enabled = true) (hok : r.status = .ok)
    (hraw : r.raw.toNat ≤ 4095) :
    let v := convert x.record.offset x.record.gain x.record.gas.fullScale r.raw.toNat
    let a := smooth x.record.shift x.average v
    x.read now r = { x with
      lastStatus := some .ok, staleMark := false, staleTimer := startTimer now x.record.stale.ms
      value := v, average := some a
      alert := x.record.alert.judge x.record.gas.direction false a x.alert
      alarm := x.record.alarm.judge x.record.gas.direction false a x.alarm
      trip := x.record.trip.judge x.record.gas.direction true a x.trip
      state := .live
      effective := highestSet (x.record.alert.judge x.record.gas.direction false a x.alert)
        (x.record.alarm.judge x.record.gas.direction false a x.alarm)
        (x.record.trip.judge x.record.gas.direction true a x.trip) } := by
  have hstatus : r.effectiveStatus = .ok := by rw [Reading.effectiveStatus, if_neg (by omega), hok]
  rw [Channel.read, if_pos h, Channel.take, hstatus, if_pos rfl]
  simp [Channel.refresh, Channel.stateNow, Channel.effectiveNow, Channel.evaluate, Channel.heard, h]

theorem Channel.read_warmup {x : Channel} {now : Nat} {r : Reading} (h : x.record.enabled = true)
    (hwarm : r.status = .warmup) (hraw : r.raw.toNat ≤ 4095) : x.read now r = { x with
      lastStatus := some .warmup, staleMark := false, staleTimer := startTimer now x.record.stale.ms
      state := .warming, effective := Grade.higher .alert (highestSet x.alert x.alarm x.trip) } := by
  have hstatus : r.effectiveStatus = .warmup := by rw [Reading.effectiveStatus, if_neg (by omega), hwarm]
  rw [Channel.read, if_pos h, Channel.take, hstatus, if_neg (by decide)]
  simp [Channel.refresh, Channel.stateNow, Channel.effectiveNow, Channel.heard, h]

theorem Channel.read_fault {x : Channel} {now : Nat} {r : Reading} (h : x.record.enabled = true)
    (hfault : r.status = .fault ∨ 4095 < r.raw.toNat) : x.read now r = { x with
      lastStatus := some .fault, staleMark := false, staleTimer := startTimer now x.record.stale.ms
      state := .fault
      effective := Grade.higher x.record.faultAction.grade (highestSet x.alert x.alarm x.trip) } := by
  have hstatus : r.effectiveStatus = .fault := by
    rw [Reading.effectiveStatus]
    split
    · rfl
    next hraw => exact hfault.resolve_right hraw
  rw [Channel.read, if_pos h, Channel.take, hstatus, if_neg (by decide)]
  simp [Channel.refresh, Channel.stateNow, Channel.effectiveNow, Channel.heard, h]

/-! ### The reply (R43) -/

/-- The poller's counters with one more reply. -/
def PollerCounters.replyCounted (k : PollerCounters) : PollerCounters := { k with repliesTaken := k.repliesTaken + 1 }

/-- The blocks that a reply is handed on to, beside the poller. -/
def State.replyTold (s : State) (i : Fin 8) (r : Reply) : State :=
  ((s.learn r.address .fieldHere).channelsRead i r.first r.second).handPanel i r.panel

/-- A taken reply before the next poll: the blocks' work beside a poller that has noted the reply. -/
theorem State.takeReply_eq (s : State) (i : Fin 8) (r : Reply) : s.takeReply i r
    = (((s.replyTold i r).feedTests i).withPoller
        (s.poller.ended i (s.pollRecord i).replied s.poller.counters.replyCounted)).nextPoll := by
  obtain ⟨p, hp⟩ : ∃ p, p = s.poller.ended i (s.pollRecord i).replied s.poller.counters.replyCounted := ⟨_, rfl⟩
  have hnoted : ((s.freeLine.countPoller fun k => { k with repliesTaken := k.repliesTaken + 1 }).setPollRecord i
      ((s.freeLine.countPoller fun k => { k with repliesTaken := k.repliesTaken + 1 }).pollRecord i).replied)
      = s.withPoller p := by rw [hp]; rfl
  have hrecord (t : State) : ((t.withPoller p).pollRecord i).state = .responding := by
    rw [hp]
    exact congrArg PollRecord.state ((t.ended_pollRecord _ i i _ _).trans (if_pos rfl))
  unfold State.takeReply
  dsimp only
  rw [hnoted, State.learn_withPoller, State.takeReadings_eq (hrecord _), State.channelsRead_withPoller,
    State.handPanel_withPoller, State.feedTests_withPoller, hp]
  rfl

/-! ### Panel records but for their breach (R148 to R150) -/

/-- A panel record but for its breach. -/
def Panel.unbreached (x : Panel) : Panel := { x with breach := false }

section
variable (s : State) (i j : Fin 8)

theorem State.testBreach_unbreached : ((s.testBreach i).panel j).unbreached = (s.panel j).unbreached := by
  rw [State.testBreach_panel]
  split
  next h => rw [h]; rfl
  · rfl

theorem State.testBreaches_unbreached : (s.testBreaches.panel j).unbreached = (s.panel j).unbreached :=
  List.foldlRecOn pollIndices State.testBreach
    (motive := fun t : State => (t.panel j).unbreached = (s.panel j).unbreached) rfl
    (fun t h i _ => (t.testBreach_unbreached i j).trans h)

theorem State.enterEvacuate_unbreached : (s.enterEvacuate.panel j).unbreached = (s.panel j).unbreached := by
  unfold State.enterEvacuate
  dsimp only
  generalize hu : State.limitsChanged _ s.ceiling s.minimum .evacuating = u
  have hpanels : u.evac.panels = s.evac.panels := by rw [← hu]; simp
  have htags : (pollIndices.foldl (fun s i => s.applyTags (s.panel i).tags) u).evac.panels = s.evac.panels :=
    List.foldlRecOn (motive := fun t : State => t.evac.panels = s.evac.panels) _ _ hpanels
      (fun t h i _ => (by simp : (t.applyTags (t.panel i).tags).evac.panels = t.evac.panels).trans h)
  generalize List.foldl _ u pollIndices = t at htags ⊢
  have hround : (t.noticeRound.startRepeat).evac.panels = s.evac.panels := by rw [← htags]; simp
  have hreport : t.noticeRound.startRepeat.testBreaches.musterReport.evac.panels
      = t.noticeRound.startRepeat.testBreaches.evac.panels := by simp
  calc (t.noticeRound.startRepeat.testBreaches.musterReport.panel j).unbreached
      = (t.noticeRound.startRepeat.testBreaches.panel j).unbreached :=
        congrArg (fun v : Vector Panel 8 => v[j].unbreached) hreport
    _ = (t.noticeRound.startRepeat.panel j).unbreached := State.testBreaches_unbreached _ j
    _ = (s.panel j).unbreached := congrArg (fun v : Vector Panel 8 => v[j].unbreached) hround

theorem State.evacZone_unbreached : (s.evacZone.panel j).unbreached = (s.panel j).unbreached := by
  unfold State.evacZone State.testOwnGrade
  rw [State.testBreaches_unbreached]
  split
  · exact s.enterEvacuate_unbreached j
  · rfl

theorem State.regraded_unbreached : (s.regraded.panel j).unbreached = (s.panel j).unbreached := by
  rw [← State.regrade_eq_regraded]
  unfold State.regrade
  dsimp only
  generalize hu : State.gradeNotices _ _ _ = u
  have hpanels : u.evac.panels = s.evac.panels := by rw [← hu]; simp
  split
  · exact congrArg (fun v : Vector Panel 8 => v[j].unbreached) hpanels
  · rw [State.evacZone_unbreached]
    have hzone : (u.segZone s.air.zone s.zoneNow).evac.panels = s.evac.panels := by rw [← hpanels]; simp
    exact congrArg (fun v : Vector Panel 8 => v[j].unbreached) hzone

theorem State.channelsRead_unbreached (first second : Reading) :
    ((s.channelsRead i first second).panel j).unbreached = (s.panel j).unbreached := by
  rw [State.channelsRead, State.regraded_unbreached]
  simp [State.panel]

theorem State.storePanel_unbreached (c : PanelContents) : ((s.storePanel i c).panel j).unbreached
    = if i = j then ((s.panel i).store c).unbreached else (s.panel j).unbreached := by
  unfold State.storePanel
  dsimp only
  rw [State.testBreach_unbreached]
  have hstored : ((s.setPanel i ((s.panel i).store c)).panel j).unbreached
      = if i = j then ((s.panel i).store c).unbreached else (s.panel j).unbreached := by
    rw [State.panel_setPanel]
    split <;> rfl
  rw [← hstored]
  refine congrArg (fun v : Vector Panel 8 => v[j].unbreached) ?_
  generalize s.setPanel i ((s.panel i).store c) = t
  repeat' split
  all_goals simp

theorem State.handPanel_unbreached (c : Option PanelContents) : ((s.handPanel i c).panel j).unbreached = match c with
    | some c => if i = j then ((s.panel i).store c.clean).unbreached else (s.panel j).unbreached
    | none => (s.panel j).unbreached := by
  cases c with
  | none => rfl
  | some c => exact s.storePanel_unbreached i j c.clean

theorem State.learn_panel (a : Addr) (l : Location) : (s.learn a l).panel j = s.panel j := by
  simp [State.panel]

theorem Panel.rest_of_unbreached {x y : Panel} (h : x.unbreached = y.unbreached) : x.filled = y.filled
    ∧ x.door = y.door ∧ x.occupancy = y.occupancy ∧ x.tags = y.tags ∧ x.supply = y.supply ∧ x.doorAge = y.doorAge := by
  cases x
  cases y
  simp only [Panel.unbreached, Panel.mk.injEq] at h
  simpa using h

/-- Another record's panel has kept its tags, its door and the door's age. -/
theorem State.replyTold_other {r : Reply} (hj : j ≠ i) :
    ((s.replyTold i r).panel j).unbreached = (s.panel j).unbreached := by
  rw [State.replyTold, State.handPanel_unbreached]
  split
  · rw [if_neg (Ne.symm hj), State.channelsRead_unbreached, State.learn_panel]
  · rw [State.channelsRead_unbreached, State.learn_panel]

/-- The record's own panel is what the reply holds, its tags cleaned (R46). -/
theorem State.replyTold_own {r : Reply} {c : PanelContents} (hc : r.panel = some c) :
    ((s.replyTold i r).panel i).filled = true ∧ ((s.replyTold i r).panel i).door = c.door
      ∧ ((s.replyTold i r).panel i).occupancy = c.occupancy ∧ ((s.replyTold i r).panel i).tags = cleanTags c.tags
      ∧ ((s.replyTold i r).panel i).supply = c.supply := by
  obtain ⟨u, hu⟩ : ∃ u, u = (s.learn r.address .fieldHere).channelsRead i r.first r.second := ⟨_, rfl⟩
  have hpanel : ((s.replyTold i r).panel i).unbreached = ((u.panel i).store c.clean).unbreached := by
    rw [State.replyTold, ← hu, hc]
    exact (u.handPanel_unbreached i i (some c)).trans (if_pos rfl)
  obtain ⟨hfilled, hdoor, hoccupancy, htags, hsupply, -⟩ := Panel.rest_of_unbreached hpanel
  exact ⟨hfilled, hdoor, hoccupancy, htags, hsupply⟩

/-! ### The grades (R24, R25) -/

theorem State.feedTests_grades {s : State} (i : Fin 8) (h : s.air.zone = s.zoneNow ∧ s.air.refuge = s.refugeNow) :
    (s.feedTests i).air.zone = (s.feedTests i).zoneNow ∧ (s.feedTests i).air.refuge = (s.feedTests i).refugeNow := by
  have hchannel (c : Fin 16) : ((s.feedTests i).channel c).untested = (s.channel c).untested := by
    rw [State.feedTests_channel]
    split <;> rfl
  obtain ⟨-, -, -, -, hzone, hrefuge⟩ := s.feedTests_blocks i
  rw [hzone, hrefuge, State.zoneNow_of_eq hchannel (by simp [State.feedTests]), State.refugeNow,
    State.scopeGrade_of_eq hchannel]
  exact h

theorem State.replyTold_grades (r : Reply) : (s.replyTold i r).air.zone = (s.replyTold i r).zoneNow
    ∧ (s.replyTold i r).air.refuge = (s.replyTold i r).refugeNow := by
  obtain ⟨u, hu⟩ : ∃ u, u = (s.learn r.address .fieldHere).channelsRead i r.first r.second := ⟨_, rfl⟩
  have hgrades : u.air.zone = u.zoneNow ∧ u.air.refuge = u.refugeNow := by
    rw [hu, State.channelsRead]
    constructor
    · exact State.regraded_zone _
    · exact State.regraded_refuge _
  have hchannel (c : Fin 16) : ((u.handPanel i r.panel).channel c).untested = (u.channel c).untested := by
    rw [State.handPanel_channel]
  have hkept : (u.handPanel i r.panel).air = u.air ∧ (u.handPanel i r.panel).integ = u.integ := by simp
  rw [State.replyTold, ← hu, State.zoneNow_of_eq hchannel (congrArg Integrity.state hkept.2), State.refugeNow,
    State.scopeGrade_of_eq hchannel, hkept.1]
  exact hgrades

theorem State.takeReply_kept (r : Reply) : (s.takeReply i r).supply = s.supply
    ∧ (s.takeReply i r).integ = s.integ ∧ (s.takeReply i r).mgmt.parameters = s.mgmt.parameters := by
  simp

end

/-- A reply that matches the poll in flight is taken (R42). -/
theorem State.lineMessage_taken {s : State} {m : List Byte} {r : Reply} {f : InFlight} (hcheck : checkGood m = true)
    (hr : replyOf m = some r) (hflight : s.poller.inFlight = some f) (haddress : r.address = f.address)
    (hseq : r.seq = f.seq) (hkind : r.panel.isSome = true ↔ (s.pollRecord f.index).config.kind = .refugePanel) :
    s.lineMessage m = s.takeReply f.index r := by
  rw [State.lineMessage_reply hcheck hr, State.matchReply, hflight]
  simp only
  rw [if_neg (not_not.mpr haddress), if_neg (not_not.mpr hseq)]
  exact if_pos (Reply.fits_iff.mpr hkind)

theorem State.feedTests_panel (s : State) (i j : Fin 8) : (s.feedTests i).panel j = s.panel j :=
  congrArg (fun e : Evacuation => e.panels[j]) (s.feedTests_blocks i).2.2.2.1

/-! ### Tag lists applied and released (R46, R149) -/

theorem cleanTags_eq (tags : List Addr) : cleanTags tags = (tags.filter isMiner).eraseDups := by
  induction tags using List.reverseRecOn with
  | nil => rfl
  | append_singleton tags a ih =>
    have hstep : cleanTags (tags ++ [a])
        = if isMiner a && !(cleanTags tags).contains a then cleanTags tags ++ [a] else cleanTags tags := by
      rw [cleanTags, List.foldl_append]
      rfl
    rw [hstep, ih, List.filter_append, List.eraseDups_append]
    cases hminer : isMiner a with
    | false => simp [hminer, List.removeAll]
    | true =>
      by_cases hmem : a ∈ tags
      · simp [hminer, hmem, List.removeAll]
      · simp [hminer, hmem, List.removeAll, List.eraseDups_cons]

/-- The station table is in ascending address order. -/
def State.Ordered (s : State) : Prop := Ascending s.table.entries

theorem Ascending.replace {l : List Entry} (h : Ascending l) (e : Entry) : Ascending (replaceEntry e l) :=
  h.map (replaceEntry_address e)

theorem State.Ordered.unchanged {s t : State} (h : s.Ordered) (hentries : t.table.entries = s.table.entries) :
    t.Ordered := by
  rw [State.Ordered, hentries]
  exact h

theorem State.Ordered.dropEntry {s : State} (h : s.Ordered) (e : Entry) : (s.dropEntry e).Ordered := by
  rw [State.Ordered, State.dropEntry_entries]
  exact Ascending.remove h e.address

theorem State.Ordered.insertNew {s : State} (h : s.Ordered) {a : Addr} (hnew : s.entry? a = none) (l : Location)
    (attach : Option Addr) : (s.insertNew a l attach).Ordered := by
  rw [State.Ordered, State.insertNew_entries]
  exact Ascending.insert h (findEntry_eq_none.mp hnew)

theorem State.ordered_keepsEntries : KeepsEntries State.Ordered where
  rewrite := fun {s old new} _ _ _ _ h => by
    rw [State.Ordered, State.rewriteEntry_entries]
    exact Ascending.replace h new
  drop := fun _ h => h.dropEntry _
  insert := fun l attach hnew _ _ h => h.insertNew hnew l attach
  evict := fun {s a e} l attach f _ hnew _ h => by
    have hdropped : ((s.dropEntry e).countTable f).Ordered := (h.dropEntry e).unchanged rfl
    refine hdropped.insertNew (findEntry_eq_none.mpr fun x hx => ?_) l attach
    rw [show ((s.dropEntry e).countTable f).table.entries = removeEntry e.address s.table.entries from
      s.dropEntry_entries e] at hx
    exact findEntry_eq_none.mp hnew x (List.mem_of_mem_filter hx)
  older := fun h => Ascending.map h (fun _ => rfl)
  countTable := fun _ h => h.unchanged rfl
  setFlag := fun _ h => h.unchanged rfl

theorem State.Ordered.setMark {s : State} (h : s.Ordered) (a : Addr) (m : Muster) : (s.setMark a m).Ordered := by
  unfold State.setMark
  split
  · exact Ascending.replace h _
  · exact h

theorem State.createForMuster_eq (s : State) (a : Addr) :
    s.createForMuster a = if s.entry? a = none then s.createEntry a .fieldHere none else s := by
  unfold State.createForMuster
  split
  next e he => rw [if_neg (by simp [he])]
  next he => rw [if_pos he]

theorem State.Ordered.tagUnit_eq {s : State} (h : s.Ordered) (a : Addr) : s.tagUnit a = s.taggedIn a := by
  rw [State.tagUnit, State.setMark_eq_marked (State.ordered_keepsEntries.createForMuster a h),
    State.createForMuster_eq]
  rfl

theorem State.Ordered.tagUnit {s : State} (h : s.Ordered) (a : Addr) : (s.tagUnit a).Ordered :=
  (State.ordered_keepsEntries.createForMuster a h : (s.createForMuster a).Ordered).setMark a .inRefuge

theorem State.Ordered.applyTags_eq {s : State} (h : s.Ordered) (tags : List Addr) :
    s.applyTags tags = tags.foldl State.taggedIn s ∧ (s.applyTags tags).Ordered := by
  induction tags generalizing s with
  | nil => exact ⟨rfl, h⟩
  | cons a tags ih =>
    have hrest := ih (h.tagUnit a)
    rw [h.tagUnit_eq] at hrest
    rw [State.applyTags, List.foldl_cons, List.foldl_cons, h.tagUnit_eq]
    exact hrest

theorem State.inSomePanel_eq_false {s : State} {a : Addr} :
    s.inSomePanel a = false ↔ ∀ i, a ∉ (s.panel i).tags := by
  simp [State.inSomePanel, mem_pollIndices]

theorem State.Ordered.untagUnit_eq {s : State} (h : s.Ordered) (a : Addr) : s.untagUnit a = s.taggedOut a := by
  have hstays (hno : ∀ e ∈ s.table.entries, ¬ (e.address = a ∧ e.mark = .inRefuge ∧ ∀ i, a ∉ (s.panel i).tags)) :
      s.taggedOut a = s := by
    have hmap : s.table.entries.map (fun e => if e.address = a ∧ e.mark = .inRefuge ∧ ∀ i, a ∉ (s.panel i).tags
        then { e with mark := .notified } else e) = s.table.entries :=
      (List.map_congr_left fun e he => if_neg (hno e he)).trans (List.map_id s.table.entries)
    exact congrArg s.setEntries hmap
  have hin := State.inSomePanel_eq_false (s := s) (a := a)
  unfold State.untagUnit
  split
  next e he =>
    obtain ⟨hmem, haddress⟩ := findEntry_eq_some he
    have hsame : ∀ x ∈ s.table.entries, x.address = a → x = e := fun x hx hxa =>
      h.unique hx hmem (hxa.trans haddress.symm)
    split
    next hleft =>
      rw [State.setMark_eq_marked h]
      refine congrArg s.setEntries (List.map_congr_left fun x hx => if_congr ?_ rfl rfl)
      refine ⟨fun hxa => ⟨hxa, ?_, hin.mp hleft.2⟩, fun hx => hx.1⟩
      rw [hsame x hx hxa]
      exact hleft.1
    next hstay =>
      refine (hstays fun x hx ⟨hxa, hmark, htags⟩ => hstay ⟨?_, hin.mpr htags⟩).symm
      rw [← hsame x hx hxa]
      exact hmark
  next hnone => exact (hstays fun x hx ⟨hxa, _⟩ => findEntry_eq_none.mp hnone x hx hxa).symm

theorem State.Ordered.untagUnit {s : State} (h : s.Ordered) (a : Addr) : (s.untagUnit a).Ordered := by
  unfold State.untagUnit
  repeat' split
  · exact h.setMark _ _
  · exact h
  · exact h

theorem State.Ordered.releaseTags_eq {s : State} (h : s.Ordered) (tags : List Addr) :
    s.releaseTags tags = tags.foldl State.taggedOut s := by
  induction tags generalizing s with
  | nil => rfl
  | cons a tags ih =>
    have hrest := ih (h.untagUnit a)
    rw [h.untagUnit_eq] at hrest
    rw [State.releaseTags, List.foldl_cons, List.foldl_cons, h.untagUnit_eq]
    exact hrest

/-! ### Panel contents handed on (R148, R149) -/

/-- Panel contents have been stored in their record, and a fall to BATTERY flagged (R148). -/
def State.panelStored (s : State) (i : Fin 8) (c : PanelContents) : State :=
  let stored := s.setPanel i ((s.panel i).store c)
  if c.supply = .battery ∧ ((s.panel i).supply = .mains ∨ (s.panel i).filled = false) then
    stored.setFlag Flag.panelBattery
  else stored

section
variable (s : State) (i : Fin 8) (c : PanelContents)

theorem State.panelStored_evac : (s.panelStored i c).evac = (s.setPanel i ((s.panel i).store c)).evac := by
  unfold State.panelStored
  split <;> rfl

theorem State.panelStored_table : (s.panelStored i c).table = s.table := by
  unfold State.panelStored
  split <;> rfl

theorem State.storePanel_eq : s.storePanel i c
    = (if s.evac.state = .evacuate then ((s.panelStored i c).applyTags c.tags).releaseTags (s.panel i).tags
      else s.panelStored i c).testBreach i := by
  rw [← show (s.panelStored i c).evac.state = s.evac.state from congrArg (·.state) (s.panelStored_evac i c)]
  rfl

end

theorem State.handPanel_quiet {s : State} (hquiet : s.evac.state = .quiet) (i : Fin 8) (c : PanelContents) :
    s.handPanel i (some c) = s.panelStored i c.clean := by
  have hstored : (s.panelStored i c.clean).evac.state = .quiet := by
    rw [State.panelStored_evac]
    exact hquiet
  refine (s.storePanel_eq i c.clean).trans ?_
  rw [if_neg (by simp [hquiet]), State.testBreach_of_not_due]
  simp [State.breachDue, hstored]

theorem State.handPanel_evacuate {s : State} (h : s.Ordered) (hevacuate : s.evac.state = .evacuate) (i : Fin 8)
    (c : PanelContents) : s.handPanel i (some c)
      = ((s.panel i).tags.foldl State.taggedOut
        ((cleanTags c.tags).foldl State.taggedIn (s.panelStored i c.clean))).breachTested i := by
  have hordered : (s.panelStored i c.clean).Ordered := h.unchanged (by rw [State.panelStored_table])
  obtain ⟨hin, htagged⟩ := hordered.applyTags_eq (cleanTags c.tags)
  refine (s.storePanel_eq i c.clean).trans ?_
  rw [if_pos hevacuate, State.testBreach_eq_breachTested, ← hin, ← htagged.releaseTags_eq]
  rfl

/-- Settles O42: a taken reply is the blocks' work beside the poller (`State.takeReply_eq`), then the next poll; panel
contents in EVACUATE mark their units one by one. -/
theorem takenReplyFeedsChannels : Obligations.TakenReplyFeedsChannels := by
  refine ⟨fun s m r f hcheck hr hflight haddress hseq hkind => ?_, ?_⟩
  rotate_left
  · intro s i c old record stored lit
    have hrecord : record = (s.panel i).store c.clean := by
      have htags : record = (s.panel i).store { c with tags := (c.tags.filter isMiner).eraseDups } := rfl
      rw [htags, ← cleanTags_eq]
      rfl
    have hstored : stored = s.setPanel i ((s.panel i).store c.clean) := congrArg (s.setPanel i) hrecord
    have hlit : lit = s.panelStored i c.clean := by
      show (if c.supply = .battery ∧ (old.supply = .mains ∨ old.filled = false) then stored.setFlag Flag.panelBattery
        else stored) = _
      rw [hstored]
      rfl
    refine ⟨rfl, cleanTags_eq _, fun hquiet => ?_, fun hevacuate hordered => ?_⟩
    · rw [State.handPanel_quiet hquiet, hlit]
    · rw [State.handPanel_evacuate hordered hevacuate, hlit, show record.tags = cleanTags c.tags from
        (cleanTags_eq _).symm]
  have hwork : workOf (.lineMessageReceived m) { s with scratch := {} }
      = State.takeReply { s with scratch := {} } f.index r :=
    State.lineMessage_taken (s := { s with scratch := {} }) hcheck hr hflight haddress hseq hkind
  obtain ⟨t, ht⟩ : ∃ t : State, t = { s with scratch := {} } := ⟨_, rfl⟩
  rw [← ht] at hwork
  obtain ⟨v, hv⟩ : ∃ v, v = (t.replyTold f.index r).feedTests f.index := ⟨_, rfl⟩
  obtain ⟨w, hw⟩ : ∃ w, w = v.withPoller
    (t.poller.ended f.index (t.pollRecord f.index).replied t.poller.counters.replyCounted) := ⟨_, rfl⟩
  have heq : t.takeReply f.index r = w.nextPoll := by rw [hw, hv, State.takeReply_eq]
  have hrecord (j : Fin 8) : (w.nextPoll.pollRecord j).undated
      = (if f.index = j then (t.pollRecord f.index).replied else t.pollRecord j).undated := by
    rw [State.nextPoll_undated, hw, State.ended_pollRecord]
    rfl
  have hread (c : Fin 16) : (t.replyTold f.index r).channel c = if secondChannel f.index = c
      then (t.channel c).read t.now r.second
      else if firstChannel f.index = c then (t.channel c).read t.now r.first else t.channel c := by
    rw [State.replyTold, State.handPanel_channel, State.channelsRead_channel, State.learn_channel,
      show (t.learn r.address .fieldHere).now = t.now by simp]
  have hchannel (c : Fin 16) : w.nextPoll.channel c = if pollOf c = f.index
      then ((t.replyTold f.index r).channel c).fed else (t.replyTold f.index r).channel c := by
    rw [State.nextPoll_eq_withPoller, State.withPoller_channel, hw, State.withPoller_channel, hv,
      State.feedTests_channel]
  have hheard (c : Fin 16) : (t.learn r.address .fieldHere).channel c = s.channel c := by
    rw [State.learn_channel, ht]
    rfl
  have hown (c : Fin 16) (x : Reading) (hc : c = firstChannel f.index ∧ x = r.first ∨ c = secondChannel f.index ∧ x = r.second) :
      w.nextPoll.channel c = ((s.channel c).read s.now x).fed := by
    rw [hchannel, hread, ht]
    obtain ⟨rfl, rfl⟩ | ⟨rfl, rfl⟩ := hc
    · rw [if_pos (pollOf_firstChannel _), if_neg (firstChannel_ne_secondChannel _).symm, if_pos rfl]
      rfl
    · rw [if_pos (pollOf_secondChannel _), if_pos rfl]
      rfl
  obtain ⟨hsupply, hinteg, hparams⟩ := t.takeReply_kept f.index r
  rw [heq] at hsupply hinteg hparams
  have hgrades := State.feedTests_grades f.index (t.replyTold_grades f.index r)
  have hpanel (j : Fin 8) : w.nextPoll.panel j = (t.replyTold f.index r).panel j := by
    rw [State.nextPoll_eq_withPoller, hw, hv, State.withPoller_withPoller, State.withPoller_panel, State.feedTests_panel]
  refine ⟨w.nextPoll, exec_concluded (by rw [← ht, hwork, heq]), ?_, fun j hj => ?_,
    fun c x hc => ?_, ?_, fun c hc => ?_, ?_, ?_, fun p hp => ?_, fun j hj => ?_, ?_⟩
  · rw [PollRecord.eq_of_undated ((hrecord f.index).trans (by rw [if_pos rfl])), ht]
    rfl
  · rw [← show t.pollRecord j = s.pollRecord j by rw [ht]; rfl]
    exact PollRecord.rest_of_undated ((hrecord j).trans (by rw [if_neg (Ne.symm hj)]))
  · rw [hown c x hc]
    refine ⟨fun h => ?_, fun h hok hraw => ?_, fun h hwarm hraw => ?_, fun h hfault => ?_⟩
    · rw [Channel.read_disabled h]; rfl
    · rw [Channel.read_ok h hok hraw]; rfl
    · rw [Channel.read_warmup h hwarm hraw]; rfl
    · rw [Channel.read_fault h hfault]; rfl
  · intro first second untested heard graded told
    have huntested (c : Fin 16) (x : Reading)
        (hc : c = firstChannel f.index ∧ x = r.first ∨ c = secondChannel f.index ∧ x = r.second) :
        untested c = (s.channel c).read s.now x := by
      have hfed : untested c = { ((s.channel c).read s.now x).fed with test := (s.channel c).test } :=
        congrArg (fun y : Channel => { y with test := (s.channel c).test }) (hown c x hc)
      rw [hfed, ← Channel.read_test (s.channel c) s.now x]
      rfl
    have htold : told = t.replyTold f.index r := by
      show (((heard.channelSet first (untested first)).channelSet second (untested second)).regraded).handPanel f.index
        r.panel = _
      have hnow : heard.now = s.now := by simp [heard]
      have hchannels (c : Fin 16) : heard.channel c = s.channel c := by
        rw [← hheard c, ht]
      rw [huntested first r.first (.inl ⟨rfl, rfl⟩), huntested second r.second (.inr ⟨rfl, rfl⟩), State.replyTold,
        State.channelsRead, ← show heard = t.learn r.address .fieldHere by rw [ht], hnow, hchannels, hchannels]
    clear_value told
    rw [← State.feedTest_eq_testFed, ← State.feedTest_eq_testFed, htold]
    calc w.nextPoll = w.withPoller w.nextPoll.poller := w.nextPoll_eq_withPoller
      _ = v.withPoller w.nextPoll.poller := congrArg (·.withPoller w.nextPoll.poller) hw
      _ = _ := congrArg (·.withPoller w.nextPoll.poller) hv
  · have hfar : ¬ secondChannel f.index = c ∧ ¬ firstChannel f.index = c :=
      ⟨fun h => hc (h ▸ pollOf_secondChannel _), fun h => hc (h ▸ pollOf_firstChannel _)⟩
    rw [hchannel, if_neg hc, hread, if_neg hfar.1, if_neg hfar.2, ht]
    rfl
  · rw [State.nextPoll_eq_withPoller, hw, hv]
    exact hgrades.1
  · rw [State.nextPoll_eq_withPoller, hw, hv]
    exact hgrades.2
  · rw [hpanel]
    exact t.replyTold_own f.index hp
  · obtain ⟨-, hdoor, -, htags, -, hage⟩ := Panel.rest_of_unbreached
      ((congrArg Panel.unbreached (hpanel j)).trans (t.replyTold_other f.index j hj))
    rw [show s.panel j = t.panel j by rw [ht]; rfl]
    exact ⟨htags, hdoor, hage⟩
  · rw [hsupply, hinteg, hparams, ht]
    exact ⟨rfl, rfl, rfl⟩

end Sys2Proof.Machine
end

section
set_option Elab.async false
/-! PROOF. The age tick, one entry after another in address order, and what the arbiter follows of it. -/

namespace Sys2Proof.Machine

/-! ### An entry in an ordered list -/

theorem Ascending.ne_of_split {A B : List Entry} {e : Entry} (h : Ascending (A ++ e :: B)) :
    ∀ x ∈ A ++ B, x.address ≠ e.address := by
  obtain ⟨-, hcons, hA⟩ := List.pairwise_append.mp h
  obtain ⟨hB, -⟩ := List.pairwise_cons.mp hcons
  intro x hx heq
  rcases List.mem_append.mp hx with hx | hx
  · have := hA x hx e List.mem_cons_self
    rw [heq] at this
    omega
  · have := hB x hx
    rw [heq] at this
    omega

theorem removeEntry_split {A B : List Entry} {e : Entry} (h : Ascending (A ++ e :: B)) :
    removeEntry e.address (A ++ e :: B) = A ++ B := by
  have hne := h.ne_of_split
  have hkeep : (A ++ B).filter (fun x => x.address != e.address) = A ++ B :=
    List.filter_eq_self.mpr fun x hx => by simpa using hne x hx
  rw [removeEntry, List.filter_append, List.filter_cons_of_neg (by simp), ← List.filter_append, hkeep]

theorem replaceEntry_split {A B : List Entry} {e x : Entry} (h : Ascending (A ++ e :: B)) (hx : x.address = e.address) :
    replaceEntry x (A ++ e :: B) = A ++ x :: B := by
  have hne := h.ne_of_split
  have hkeep (l : List Entry) (hl : ∀ y ∈ l, y ∈ A ++ B) :
      l.map (fun y => if y.address = x.address then x else y) = l :=
    (List.map_congr_left fun y hy => if_neg (by rw [hx]; exact hne y (hl y hy))).trans (List.map_id l)
  rw [replaceEntry, List.map_append, List.map_cons, if_pos hx.symm, hkeep A fun y hy => List.mem_append_left _ hy,
    hkeep B fun y hy => List.mem_append_right _ hy]

/-! ### One entry at the age tick (R64) -/

/-- An entry's age has reached its location's timeout. -/
def Entry.overdue (p : Parameters) (e : Entry) : Bool := ageReaches e.age (timeoutOf p e.location)

/-- What the table holds of an entry after its turn. -/
def State.turned (s : State) (e : Entry) : List Entry :=
  if e.overdue s.params then if s.removable e then [] else [{ e with location := .unknown }] else [e]

/-- The entry leaves RADIO_HERE at its turn. -/
def Entry.leaves (p : Parameters) (e : Entry) : Bool := e.overdue p && e.location == .radioHere

/-- The removals counted. -/
def State.agedOut (s : State) (n : Nat) : State :=
  s.countTable (fun k => { k with agedOut := k.agedOut + BitVec.ofNat 32 n })

theorem State.agedOut_zero (s : State) : s.agedOut 0 = s := by
  simp [State.agedOut, State.countTable]

section
variable {s : State} {A B : List Entry} {e : Entry} (hentries : s.table.entries = A ++ e :: B)
  (hordered : Ascending (A ++ e :: B))
include hentries hordered

theorem State.ageEntry_split : s.ageEntry e.address = if e.overdue s.params then s.timeOut e else s := by
  have hfind : s.entry? e.address = some e := by
    rw [State.entry?, hentries]
    exact hordered.findEntry (by simp)
  rw [State.ageEntry, hfind]
  rfl

omit hordered in
theorem State.setEntries_turn_kept (hkept : s.turned e = [e]) : s.setEntries (A ++ s.turned e ++ B) = s := by
  rw [hkept, List.append_assoc, List.singleton_append, ← hentries]
  rfl

/-- The entry's turn: the arbiter hears of one that leaves RADIO_HERE, the table holds what is left of it. -/
theorem State.ageEntry_turn : s.ageEntry e.address
    = (if e.leaves s.params then (s.setEntries (A ++ s.turned e ++ B)).departs e.address
        else s.setEntries (A ++ s.turned e ++ B)).agedOut (if e.overdue s.params && s.removable e then 1 else 0) := by
  rw [State.ageEntry_split hentries hordered]
  cases hdue : e.overdue s.params with
  | false =>
    have hkept : s.turned e = [e] := by rw [State.turned, hdue]; rfl
    rw [Entry.leaves, hdue, State.setEntries_turn_kept hentries hkept]
    exact s.agedOut_zero.symm
  | true =>
    have hleaves : (e.leaves s.params = true) ↔ e.location = .radioHere := by simp [Entry.leaves, hdue]
    rw [if_pos rfl, State.timeOut]
    cases hremovable : s.removable e with
    | false =>
      have hmoved : s.setEntries (A ++ s.turned e ++ B)
          = s.setEntries (replaceEntry { e with location := .unknown } s.table.entries) := by
        rw [State.turned, hdue, hremovable, hentries, replaceEntry_split (x := { e with location := .unknown }) hordered rfl]
        simp
      rw [hmoved, State.rewriteEntry, if_neg (by decide)]
      by_cases hhere : e.location = .radioHere
      · simp [hhere, hleaves.mpr hhere, State.agedOut_zero]
      · simp [hhere, mt hleaves.mp hhere, State.agedOut_zero]
    | true =>
      have hgone : s.setEntries (A ++ s.turned e ++ B) = s.setEntries (removeEntry e.address s.table.entries) := by
        rw [State.turned, hdue, hremovable, hentries, removeEntry_split hordered]
        simp
      rw [hgone, if_pos rfl, State.dropEntry, if_congr hleaves rfl rfl]
      rfl

end

/-! ### All entries at the age tick -/

section
variable (s : State)

theorem State.ageEntry_removable (a : Addr) (e : Entry) : (s.ageEntry a).removable e = s.removable e := by
  simp [State.removable, State.referenced, State.leg]

theorem State.ageEntry_turned (a : Addr) (e : Entry) : (s.ageEntry a).turned e = s.turned e := by
  rw [State.turned, State.ageEntry_removable, show (s.ageEntry a).params = s.params by simp [State.params]]
  rfl

/-- What an entry's turn leaves to the other blocks. -/
theorem State.ageEntry_apart (a : Addr) : (s.ageEntry a).evac = s.evac := by
  unfold State.ageEntry State.timeOut State.rewriteEntry State.dropEntry
  repeat' split
  case h_1.isTrue.isFalse.isTrue h => exact nomatch h.2
  all_goals simp [State.setEntries, State.countTable]

end

/-- An entry is removed at its turn. -/
def State.ages (s : State) (e : Entry) : Bool := e.overdue s.params && s.removable e

theorem State.ageEntry_ages (s : State) (a : Addr) : (s.ageEntry a).ages = s.ages := by
  funext e
  rw [State.ages, State.ageEntry_removable, show (s.ageEntry a).params = s.params by simp [State.params]]
  rfl

theorem State.ageEntry_entries {s : State} {A rest : List Entry} {e : Entry} (hentries : s.table.entries = A ++ e :: rest)
    (hordered : s.Ordered) : (s.ageEntry e.address).table.entries = A ++ s.turned e ++ rest := by
  rw [State.ageEntry_turn hentries (hentries ▸ hordered)]
  split <;> simp [State.agedOut, State.countTable, State.setEntries]

/-- Every entry of an ordered table takes its turn. -/
theorem State.ageEntries_table (rest : List Entry) : ∀ {s : State} {A : List Entry}, s.table.entries = A ++ rest →
    s.Ordered → ((rest.map (fun e => e.address)).foldl State.ageEntry s).table = { s.table with
        entries := A ++ rest.flatMap s.turned
        counters := { s.table.counters with
          agedOut := s.table.counters.agedOut + BitVec.ofNat 32 (rest.countP s.ages) } }
      ∧ ((rest.map (fun e => e.address)).foldl State.ageEntry s).evac = s.evac := by
  induction rest with
  | nil =>
    intro s A hentries _
    refine ⟨?_, rfl⟩
    simp [← hentries]
  | cons e rest ih =>
    intro s A hentries hordered
    have hturn := State.ageEntry_turn hentries (hentries ▸ hordered)
    have htable : (s.ageEntry e.address).table = { s.table with
        entries := A ++ s.turned e ++ rest
        counters := { s.table.counters with
          agedOut := s.table.counters.agedOut + BitVec.ofNat 32 (if s.ages e then 1 else 0) } } := by
      rw [hturn]
      split <;> simp [State.agedOut, State.countTable, State.setEntries, State.ages]
    have hrest := ih (s := s.ageEntry e.address) (A := A ++ s.turned e) (by rw [htable])
      (State.ordered_keepsEntries.ageEntry e.address hordered)
    rw [List.map_cons, List.foldl_cons, hrest.1, hrest.2, htable, funext (s.ageEntry_turned e.address),
      s.ageEntry_ages e.address, s.ageEntry_apart]
    have hcount : BitVec.ofNat 32 (if s.ages e then 1 else 0) + BitVec.ofNat 32 (rest.countP s.ages)
        = BitVec.ofNat 32 ((e :: rest).countP s.ages) := by
      rw [← BitVec.ofNat_add, List.countP_cons, Nat.add_comm]
    refine ⟨?_, rfl⟩
    simp only [List.flatMap_cons, List.append_assoc, BitVec.add_assoc, hcount]

/-! ### What the arbiter follows (R133, R134) -/

theorem isMiner_iff (a : Addr) : isMiner a = true ↔ 0x2000 ≤ a.toNat ∧ a.toNat ≤ 0x7FFF := by
  simp only [isMiner, beq_iff_eq, stationKind]
  repeat' split
  all_goals simp
  all_goals omega

theorem isVehicle_iff (a : Addr) : isVehicle a = true ↔ 0x8000 ≤ a.toNat ∧ a.toNat ≤ 0x8FFF := by
  simp only [isVehicle, beq_iff_eq, stationKind]
  repeat' split
  all_goals simp
  all_goals omega

theorem Net.decide_of_location (n : Net) {l l' : List Entry} (shed : Nat) (arrival : Option Port) {f : Frame}
    (h : (findEntry l f.dest).map (·.location) = (findEntry l' f.dest).map (·.location)) :
    n.decide l shed arrival f = n.decide l' shed arrival f := by
  unfold Net.decide
  cases hl : findEntry l f.dest with
  | none =>
    cases hl' : findEntry l' f.dest with
    | none => rfl
    | some e' => simp [hl, hl'] at h
  | some e =>
    cases hl' : findEntry l' f.dest with
    | none => simp [hl, hl'] at h
    | some e' =>
      have hlocation : e.location = e'.location := by simpa [hl, hl'] using h
      simp only [hlocation]

/-- A message of the node's own looks up its destination's location, and nothing else of the table. -/
theorem Net.originate_of_location (n : Net) {l l' : List Entry} (shed : Nat) {m : Message}
    (h : (findEntry l m.dest).map (·.location) = (findEntry l' m.dest).map (·.location)) :
    n.originate l shed m = n.originate l' shed m := by
  unfold Net.originate
  split
  · rfl
  next own _ =>
    refine Net.decide_of_location _ shed none ?_
    rw [show (n.header own m).1.dest = m.dest by unfold Net.header; dsimp only; split <;> rfl]
    exact h

/-- The miner units that leave RADIO_HERE, in address order. -/
def leaving (p : Parameters) (l : List Entry) : List Entry := l.filter (fun e => isMiner e.address && e.leaves p)

/-- The segment after `n` miners have left and, where it is so, its holder too, with `m` notices counted. -/
def Segment.followed (g : Segment) (n : Nat) (gone : Bool) (m : Nat) : Segment := { g with
  minerCount := g.minerCount - n
  holderHere := g.holderHere && !gone
  counters := { g.counters with proximityNotices := g.counters.proximityNotices + BitVec.ofNat 32 m } }

theorem Segment.followed_zero (g : Segment) {gone : Bool} (h : g.holderHere = true → gone = false) :
    g.followed 0 gone 0 = g := by
  have hhere : (g.holderHere && !gone) = g.holderHere := by
    cases hh : g.holderHere with
    | false => rfl
    | true => rw [h hh]; rfl
  simp [Segment.followed, hhere]

theorem Segment.followed_followed (g : Segment) (n n' m m' : Nat) (gone gone' : Bool) :
    (g.followed n gone m).followed n' gone' m' = g.followed (n + n') (gone || gone') (m + m') := by
  simp [Segment.followed, Nat.sub_sub, BitVec.add_assoc, BitVec.ofNat_add, Bool.and_assoc]

/-- The arbiter hears of the holder's presence and of the miners: what it needs to know of the table. -/
structure State.Watches (s : State) (p : Parameters) (rest : List Entry) : Prop where
  params : s.params = p
  count : (leaving p rest).length ≤ s.seg.minerCount
  vehicle : ∀ t, s.seg.holder = some t → isVehicle t.vehicle = true
  holder : s.seg.holderHere = true → s.seg.holder.isSome = true
  here : s.seg.holderHere = true → ∀ e ∈ rest, s.seg.heldBy e.address = true → e.location = .radioHere

section
variable {s : State} {p : Parameters} {A rest : List Entry} {e : Entry} (h : s.Watches p (e :: rest))
include h

theorem State.Watches.not_held (hminer : isMiner e.address = true) : s.seg.heldBy e.address = false := by
  rw [Bool.eq_false_iff, ne_eq, Segment.heldBy_iff]
  rintro ⟨t, ht, hv⟩
  rw [← hv, not_isMiner_of_isVehicle (h.vehicle t ht)] at hminer
  exact absurd hminer (by decide)

end

section
variable {s : State} {p : Parameters} {A rest : List Entry} {e : Entry}

theorem State.ageEntry_seg (hentries : s.table.entries = A ++ e :: rest) (hordered : s.Ordered) :
    (s.ageEntry e.address).seg = (if e.leaves s.params then (s.setEntries (A ++ s.turned e ++ rest)).departs e.address
      else s).seg
    ∧ (s.ageEntry e.address).net = (if e.leaves s.params then (s.setEntries (A ++ s.turned e ++ rest)).departs e.address
      else s).net := by
  rw [State.ageEntry_turn hentries (hentries ▸ hordered)]
  split <;> exact ⟨rfl, rfl⟩

/-- A miner leaves: the count goes down, and a holder that is here is told (R134). -/
theorem State.departs_miner {a : Addr} (hminer : isMiner a = true) (hcount : 1 ≤ s.seg.minerCount) :
    (¬ (s.nodeAddr?.isSome = true ∧ s.seg.holderHere = true) →
      (s.departs a).seg = s.seg.followed 1 false 0 ∧ (s.departs a).net = s.net)
    ∧ ∀ t, s.nodeAddr?.isSome = true → s.seg.holderHere = true → s.seg.holder = some t →
      (s.departs a).seg = s.seg.followed 1 false 1
      ∧ (s.departs a).net = (s.originate ⟨.proximity, t.vehicle, [byteOf (s.seg.minerCount - 1)]⟩).net := by
  have hdeparts : s.departs a = s.segMinerLeaves := if_pos hminer
  rw [hdeparts]
  refine ⟨fun hfar => ?_, fun t hown hhere ht => ?_⟩
  · rw [(s.segMiner_apart a (fun hnear => hfar ⟨hnear.1, hnear.2.2⟩)).2]
    refine ⟨?_, rfl⟩
    simp [Segment.followed, State.setMinerCount]
  · rw [State.segMinerLeaves_near hown hhere ht hcount]
    refine ⟨?_, rfl⟩
    simp [Segment.followed, State.setMinerCount, State.proximitySent]

/-- A station that is no miner leaves: the holder's presence ends. -/
theorem State.departs_other {a : Addr} (hminer : isMiner a = false)
    (hvehicle : ∀ t, s.seg.holder = some t → isVehicle t.vehicle = true) :
    (s.departs a).seg = s.seg.followed 0 (s.seg.heldBy a) 0 ∧ (s.departs a).net = s.net := by
  have hdeparts : s.departs a = if isVehicle a then s.segVehicle a false else s := if_neg (by simp [hminer])
  rw [hdeparts]
  by_cases hheld : s.seg.heldBy a = true
  · obtain ⟨t, ht, hv⟩ := (Segment.heldBy_iff _ _).mp hheld
    rw [if_pos (hv ▸ hvehicle t ht), State.segVehicle_leaves ht hv, hheld]
    refine ⟨?_, rfl⟩
    simp [Segment.followed, State.setHolderHere]
  · have hother : s.segVehicle a false = s := if_neg hheld
    rw [hother, ite_self, Bool.eq_false_iff.mpr hheld, Segment.followed_zero _ (fun _ => rfl)]
    exact ⟨rfl, rfl⟩

/-! ### One turn, as the arbiter follows it -/

theorem findEntry_turn {v : Addr} (hne : e.address ≠ v) :
    findEntry (A ++ s.turned e ++ rest) v = findEntry (A ++ e :: rest) v := by
  have hturned : (s.turned e).find? (fun x => x.address == v) = none := by
    rw [List.find?_eq_none]
    intro x hx
    unfold State.turned at hx
    have hxe : x.address = e.address := by
      repeat' split at hx
      all_goals simp at hx
      all_goals simp [hx]
    simp [hxe, hne]
  rw [findEntry, findEntry, List.find?_append, List.find?_append, List.find?_append, List.find?_cons_of_neg (by simpa using hne), hturned,
    Option.or_none]

/-- A holder that is here is told of miners as the node's frames go. -/
def State.near (s : State) : Bool := s.nodeAddr?.isSome && s.seg.holderHere

theorem State.near_iff : s.near = true ↔ s.nodeAddr?.isSome = true ∧ s.seg.holderHere = true := Bool.and_eq_true_iff

theorem leaving_cons : leaving p (e :: rest) = if isMiner e.address && e.leaves p then e :: leaving p rest else leaving p rest :=
  List.filter_cons

/-- The holder has left at its turn. -/
def State.loses (s : State) (e : Entry) : Bool := s.seg.heldBy e.address && e.overdue s.params

/-- One turn, as the segment sees it. -/
theorem State.Watches.turn (h : s.Watches p (e :: rest)) (hentries : s.table.entries = A ++ e :: rest)
    (hordered : s.Ordered) :
    ((isMiner e.address && e.leaves p) = false → (s.ageEntry e.address).seg = s.seg.followed 0 (s.loses e) 0
      ∧ (s.ageEntry e.address).net = s.net)
    ∧ ((isMiner e.address && e.leaves p) = true → s.loses e = false
      ∧ (s.near = false → (s.ageEntry e.address).seg = s.seg.followed 1 (s.loses e) 0 ∧ (s.ageEntry e.address).net = s.net)
      ∧ ∀ t, s.near = true → s.seg.holder = some t → (s.ageEntry e.address).seg = s.seg.followed 1 (s.loses e) 1
        ∧ (s.ageEntry e.address).net = ((s.setEntries (A ++ s.turned e ++ rest)).originate
            ⟨.proximity, t.vehicle, [byteOf (s.seg.minerCount - 1)]⟩).net) := by
  obtain ⟨hseg, hnet⟩ := State.ageEntry_seg hentries hordered
  rw [h.params] at hseg hnet
  rw [hseg, hnet]
  refine ⟨fun hstays => ?_, fun hleaves => ?_⟩
  · by_cases hleaves : e.leaves p = true
    · have hminer : isMiner e.address = false := by simpa [hleaves] using hstays
      have hloses : s.loses e = s.seg.heldBy e.address := by
        rw [State.loses, h.params, (Bool.and_eq_true_iff.mp hleaves).1, Bool.and_true]
      rw [if_pos hleaves, hloses]
      exact State.departs_other (s := s.setEntries (A ++ s.turned e ++ rest)) hminer h.vehicle
    · rw [if_neg hleaves, Segment.followed_zero]
      · exact ⟨rfl, rfl⟩
      · intro hhere
        rw [Bool.eq_false_iff, State.loses, h.params]
        intro hloses
        obtain ⟨hheld, hdue⟩ := Bool.and_eq_true_iff.mp hloses
        exact hleaves (by simp [Entry.leaves, hdue, h.here hhere e List.mem_cons_self hheld])
  · obtain ⟨hminer, hleaves'⟩ := Bool.and_eq_true_iff.mp hleaves
    have hcount : 1 ≤ s.seg.minerCount := by
      have := h.count
      rw [leaving_cons, if_pos hleaves, List.length_cons] at this
      omega
    have hloses : s.loses e = false := by rw [State.loses, h.not_held hminer, Bool.false_and]
    obtain ⟨hfar, hnear⟩ := State.departs_miner (s := s.setEntries (A ++ s.turned e ++ rest)) hminer hcount
    rw [if_pos hleaves', hloses]
    refine ⟨rfl, fun hnot => hfar ?_, fun t hon ht => ?_⟩
    · exact fun hh => absurd (State.near_iff.mpr hh : s.near = true) (by rw [hnot]; decide)
    · obtain ⟨hown, hhere⟩ := State.near_iff.mp hon
      exact hnear t hown hhere ht

/-- A turn's share of the miners that leave. -/
def Entry.share (p : Parameters) (e : Entry) : Nat := (leaving p [e]).length

theorem leaving_length : (leaving p (e :: rest)).length = e.share p + (leaving p rest).length := by
  rw [Entry.share, ← List.length_append]
  exact congrArg List.length (List.filter_append (l₁ := [e]) ..)

theorem State.Watches.turn_seg (h : s.Watches p (e :: rest)) (hentries : s.table.entries = A ++ e :: rest)
    (hordered : s.Ordered) : (s.ageEntry e.address).seg
      = s.seg.followed (e.share p) (s.loses e) (if s.near then e.share p else 0) := by
  obtain ⟨hstay, hleave⟩ := h.turn hentries hordered
  unfold Entry.share
  rw [leaving_cons]
  cases hl : isMiner e.address && e.leaves p with
  | false =>
    rw [(hstay hl).1]
    simp [leaving]
  | true =>
    obtain ⟨-, hfar, hnear⟩ := hleave hl
    cases hon : s.near with
    | false =>
      rw [(hfar hon).1]
      simp [leaving]
    | true =>
      obtain ⟨t, ht⟩ := Option.isSome_iff_exists.mp (h.holder (State.near_iff.mp hon).2)
      rw [(hnear t hon ht).1]
      simp [leaving]

theorem State.Watches.turn_near (h : s.Watches p (e :: rest)) (hentries : s.table.entries = A ++ e :: rest)
    (hordered : s.Ordered) : (s.ageEntry e.address).near = (s.near && !s.loses e) := by
  have hown : (s.ageEntry e.address).nodeAddr? = s.nodeAddr? := Net.nodeAddr?_of_straps (by simp)
  rw [State.near, State.near, hown, h.turn_seg hentries hordered, Bool.and_assoc]
  rfl

theorem State.Watches.next (h : s.Watches p (e :: rest)) (hentries : s.table.entries = A ++ e :: rest)
    (hordered : s.Ordered) : (s.ageEntry e.address).Watches p rest := by
  have hseg := h.turn_seg hentries hordered
  have hcount := h.count
  rw [leaving_length] at hcount
  have hhere (hh : (s.ageEntry e.address).seg.holderHere = true) : s.seg.holderHere = true := by
    rw [hseg] at hh
    exact (Bool.and_eq_true_iff.mp hh).1
  have hholder : (s.ageEntry e.address).seg.holder = s.seg.holder := by rw [hseg]; rfl
  have hheld (a : Addr) : (s.ageEntry e.address).seg.heldBy a = s.seg.heldBy a := by
    rw [Segment.heldBy, Segment.heldBy, hholder]
  refine ⟨?_, ?_, ?_, ?_, ?_⟩
  · rw [← h.params]
    simp [State.params]
  · rw [hseg]
    show _ ≤ s.seg.minerCount - e.share p
    omega
  · rw [hholder]
    exact h.vehicle
  · rw [hholder]
    exact fun hh => h.holder (hhere hh)
  · intro hh x hx hxheld
    exact h.here (hhere hh) x (List.mem_cons_of_mem _ hx) (by rw [← hheld]; exact hxheld)

/-! ### All turns -/

/-- Miners that leave, numbered from `k`, have been told to the vehicle `v`; `n` were here before the first. -/
def State.leaversTold (v : Addr) (n : Nat) (l : List Entry) (k : Nat) (s : State) : State :=
  (l.zipIdx k).foldl (fun t x => t.originate ⟨.proximity, v, [byteOf (n - 1 - x.2)]⟩) s

theorem State.leaversTold_cons (v : Addr) (n : Nat) (e : Entry) (l : List Entry) (k : Nat) (s : State) :
    s.leaversTold v n (e :: l) k = (s.originate ⟨.proximity, v, [byteOf (n - 1 - k)]⟩).leaversTold v n l (k + 1) := rfl

theorem Segment.followed_heldBy (g : Segment) (n m : Nat) (b : Bool) (a : Addr) :
    (g.followed n b m).heldBy a = g.heldBy a := rfl

/-- After an entry that is no miner's, and of the holder, no miner leaves. -/
theorem leaving_of_loses (h : s.Watches p (e :: rest)) (hordered : Ascending (A ++ e :: rest)) (hloses : s.loses e = true) :
    leaving p rest = [] := by
  obtain ⟨t, ht, hv⟩ := (Segment.heldBy_iff _ _).mp (Bool.and_eq_true_iff.mp hloses).1
  have hvehicle : isVehicle e.address = true := hv ▸ h.vehicle t ht
  refine List.filter_eq_nil_iff.mpr fun x hx hleaves => ?_
  have hminer := (Bool.and_eq_true_iff.mp hleaves).1
  have hlt : e.address.toNat < x.address.toNat :=
    (List.pairwise_cons.mp (List.pairwise_append.mp hordered).2.1).1 x hx
  rw [isVehicle_iff] at hvehicle
  rw [isMiner_iff] at hminer
  omega

theorem State.ageEntries_seg (rest : List Entry) : ∀ {s : State} {A : List Entry}, s.table.entries = A ++ rest →
    s.Ordered → s.Watches p rest →
    ((rest.map (fun e => e.address)).foldl State.ageEntry s).seg = s.seg.followed (leaving p rest).length
      (rest.any s.loses) (if s.near then (leaving p rest).length else 0) := by
  induction rest with
  | nil =>
    intro s A _ _ _
    simp [leaving, Segment.followed_zero]
  | cons e rest ih =>
    intro s A hentries hordered h
    have hrest := ih (s := s.ageEntry e.address) (A := A ++ s.turned e) (State.ageEntry_entries hentries hordered)
      (State.ordered_keepsEntries.ageEntry e.address hordered) (h.next hentries hordered)
    have hseg := h.turn_seg hentries hordered
    have hloses : (s.ageEntry e.address).loses = s.loses := by
      funext x
      rw [State.loses, State.loses, hseg, show (s.ageEntry e.address).params = s.params by simp [State.params]]
      rfl
    have hasc : Ascending (A ++ e :: rest) := by
      rw [← hentries]
      exact hordered
    have hnear : (if (s.ageEntry e.address).near then (leaving p rest).length else 0)
        = if s.near then (leaving p rest).length else 0 := by
      rw [h.turn_near hentries hordered]
      cases hl : s.loses e with
      | false => rw [Bool.not_false, Bool.and_true]
      | true => rw [leaving_of_loses h hasc hl, List.length_nil, ite_self, ite_self]
    rw [List.map_cons, List.foldl_cons, hrest, hseg, hloses, hnear, Segment.followed_followed, leaving_length, List.any_cons]
    congr 1
    split <;> rfl

/-- The frames of all turns: a holder that is here hears of each miner that leaves; `t` is a state whose ports are the
same, and whose table has the holder where it is. -/
theorem State.ageEntries_net (rest : List Entry) : ∀ {s : State} {A : List Entry}, s.table.entries = A ++ rest →
    s.Ordered → s.Watches p rest →
    (s.near = false → ((rest.map (fun e => e.address)).foldl State.ageEntry s).net = s.net)
    ∧ ∀ (x : Truck) (t : State) (n k : Nat), s.near = true → s.seg.holder = some x → t.net = s.net → t.supply = s.supply →
      (findEntry t.table.entries x.vehicle).map (·.location) = (findEntry s.table.entries x.vehicle).map (·.location) →
      s.seg.minerCount = n - k → ((rest.map (fun e => e.address)).foldl State.ageEntry s).net
        = (t.leaversTold x.vehicle n (leaving p rest) k).net := by
  induction rest with
  | nil =>
    intro s A _ _ _
    exact ⟨fun _ => rfl, fun x t n k _ _ hnet _ _ _ => hnet.symm⟩
  | cons e rest ih =>
    intro s A hentries hordered h
    have hafter := State.ageEntry_entries hentries hordered
    have hasc : Ascending (A ++ e :: rest) := by
      rw [← hentries]
      exact hordered
    obtain ⟨hfar, hnear⟩ := ih hafter (State.ordered_keepsEntries.ageEntry e.address hordered) (h.next hentries hordered)
    obtain ⟨hstay, hleave⟩ := h.turn hentries hordered
    have hturn := h.turn_near hentries hordered
    have hseg := h.turn_seg hentries hordered
    rw [List.map_cons, List.foldl_cons]
    refine ⟨fun hoff => ?_, fun x t n k hon hx hnet hsupply hlocation hcount => ?_⟩
    · rw [hfar (by rw [hturn, hoff, Bool.false_and])]
      cases hl : isMiner e.address && e.leaves p with
      | false => exact (hstay hl).2
      | true => exact ((hleave hl).2.1 hoff).2
    have hholder : (s.ageEntry e.address).seg.holder = some x := by rw [hseg]; exact hx
    have hsupply' : (s.ageEntry e.address).supply = s.supply := by simp
    cases hl : isMiner e.address && e.leaves p with
    | false =>
      have hsame : leaving p (e :: rest) = leaving p rest := by rw [leaving_cons, hl]; rfl
      have hnet' : t.net = (s.ageEntry e.address).net := hnet.trans (hstay hl).2.symm
      rw [hsame]
      cases hloses : s.loses e with
      | true =>
        rw [hfar (by rw [hturn, hloses, Bool.not_true, Bool.and_false]), leaving_of_loses h hasc hloses, ← hnet']
        rfl
      | false =>
        refine hnear x t n k (by rw [hturn, hon, hloses]; rfl) hholder hnet' (by rw [hsupply', hsupply]) ?_ ?_
        · rw [hlocation, hentries, hafter]
          by_cases hv : e.address = x.vehicle
          · have hheld : s.seg.heldBy e.address = true := (Segment.heldBy_iff _ _).mpr ⟨x, hx, hv.symm⟩
            have hdue : e.overdue s.params = false := by simpa [State.loses, hheld] using hloses
            rw [State.turned, hdue]
            simp
          · rw [findEntry_turn hv]
        · rw [(hstay hl).1]
          exact hcount
    | true =>
      obtain ⟨hloses, -, hleft⟩ := hleave hl
      obtain ⟨hseg', hnet'⟩ := hleft x hon hx
      have hv : e.address ≠ x.vehicle := fun heq => by
        have hminer := (Bool.and_eq_true_iff.mp hl).1
        rw [heq, not_isMiner_of_isVehicle (h.vehicle x hx)] at hminer
        exact absurd hminer (by decide)
      have hafter' : (findEntry t.table.entries x.vehicle).map (·.location)
          = (findEntry (A ++ s.turned e ++ rest) x.vehicle).map (·.location) := by
        rw [hlocation, hentries, findEntry_turn hv]
      rw [leaving_cons, if_pos hl, State.leaversTold_cons]
      refine hnear x _ n (k + 1) (by rw [hturn, hon, hloses]; rfl) hholder ?_ (by rw [hsupply']; exact hsupply) ?_ ?_
      · rw [hnet', hcount, Nat.sub_right_comm n k 1]
        show t.net.originate t.table.entries t.supply.shedLevel _ = s.net.originate _ s.supply.shedLevel _
        rw [hnet, hsupply]
        exact Net.originate_of_location s.net s.supply.shedLevel hafter'
      · rw [hafter]
        exact hafter'
      · rw [hseg']
        show s.seg.minerCount - 1 = _
        omega

end

/-! ### The age tick (R63, R64) -/

theorem Entry.older_eq (e : Entry) : e.older = { e with age := min 65535 (e.age + 1) } := by
  have hage : (if e.age < 65535 then e.age + 1 else 65535) = min 65535 (e.age + 1) := by split <;> omega
  rw [Entry.older, hage]

/-- An entry reaches its location's timeout at the age tick. -/
def Entry.reaches (p : Parameters) (e : Entry) : Bool :=
  decide ((match e.location with
    | .radioHere => p.presence.ms
    | .fieldHere => p.presence.ms
    | .viaOutbye => p.route.ms
    | .viaInbye => p.route.ms
    | .unknown => p.route.ms) ≤ min 65535 (e.age + 1) * 1000)

theorem Entry.overdue_older (p : Parameters) (e : Entry) : e.older.overdue p = e.reaches p := by
  rw [Entry.older_eq, Entry.overdue, Entry.reaches, ageReaches]
  cases e.location <;> rfl

theorem flatMap_ite {α β : Type} (l : List α) {g : α → List β} {r : α → Bool} {f : α → β}
    (h : ∀ a, g a = if r a then [] else [f a]) : l.flatMap g = (l.filter (fun a => !r a)).map f := by
  induction l with
  | nil => rfl
  | cons a l ih =>
    rw [List.flatMap_cons, h, ih, List.filter_cons]
    cases r a <;> rfl

section
variable (s : State)

/-- The state when the entries take their turns: every age one more. -/
def State.olderTable : State := s.setEntries (s.table.entries.map Entry.older)

theorem State.ageTable_eq : s.ageTable
    = ((s.olderTable.table.entries).map (fun e => e.address)).foldl State.ageEntry s.olderTable := rfl

theorem State.olderTable_ages (e : Entry) : s.olderTable.ages e.older
    = (e.reaches s.params && !e.pinned && !s.referenced e.address && !(s.evac.state == .evacuate && e.mark != .none)) := by
  rw [State.ages, show s.olderTable.params = s.params from rfl, Entry.overdue_older, Bool.and_assoc, Bool.and_assoc]
  exact congrArg (e.reaches s.params && ·) (Bool.and_assoc ..)

theorem State.olderTable_turned (e : Entry) : s.olderTable.turned e.older = if s.olderTable.ages e.older then []
    else [{ e with
      age := min 65535 (e.age + 1), location := if e.reaches s.params then .unknown else e.location }] := by
  rw [State.turned, State.ages, show s.olderTable.params = s.params from rfl, Entry.overdue_older]
  cases e.reaches s.params with
  | false => simp [Entry.older_eq]
  | true => simp [Entry.older_eq]

theorem State.leaving_older (p : Parameters) (l : List Entry) : leaving p (l.map Entry.older)
    = (l.filter (fun e => isMiner e.address && e.location == .radioHere && e.reaches p)).map Entry.older := by
  rw [leaving, List.filter_map]
  refine congrArg (List.map Entry.older) (List.filter_congr fun e _ => ?_)
  simp only [Function.comp, Entry.leaves, Entry.overdue_older]
  rw [Bool.and_assoc, Bool.and_comm (e.reaches p)]
  rfl

theorem State.olderTable_watches (h : s.PopulationFollowed) : s.olderTable.Watches s.params s.olderTable.table.entries := by
  obtain ⟨hasc, hcount, hhere, hholder, -⟩ := h
  have hradio (hh : s.seg.holderHere = true) : ∃ t e, s.seg.holder = some t ∧ s.entry? t.vehicle = some e
      ∧ e.location = .radioHere := by
    rw [hhere] at hh
    split at hh
    next t ht =>
      unfold State.isHere at hh
      split at hh
      next e he => exact ⟨t, e, ht, he, by simpa using hh⟩
      · exact absurd hh (by decide)
    · exact absurd hh (by decide)
  refine ⟨rfl, ?_, hholder, fun hh => ?_, fun hh e he hheld => ?_⟩
  · show (leaving s.params (s.table.entries.map Entry.older)).length ≤ s.seg.minerCount
    rw [State.leaving_older, List.length_map, hcount]
    exact (List.monotone_filter_right _ fun e h => (Bool.and_eq_true_iff.mp h).1).length_le
  · obtain ⟨t, e, ht, -⟩ := hradio hh
    show s.seg.holder.isSome = true
    rw [ht]
    rfl
  · obtain ⟨t, x, ht, hx, hlocation⟩ := hradio hh
    obtain ⟨y, hy, rfl⟩ := List.mem_map.mp he
    obtain ⟨t', ht', hv⟩ := (Segment.heldBy_iff _ _).mp hheld
    have htt : t' = t := Option.some.inj (ht'.symm.trans ht)
    obtain ⟨hxmem, hxaddress⟩ := findEntry_eq_some hx
    have hxy : y = x := Ascending.unique hasc hy hxmem (by rw [hxaddress, ← htt, hv]; rfl)
    rw [hxy]
    exact hlocation

end

/-- Settles O44: the entries take their turns in address order (`State.ageEntries_table`, `State.ageEntries_seg`,
`State.ageEntries_net`). -/
theorem ageTickRemovesOrForgets : Obligations.AgeTickRemovesOrForgets := by
  intro s hordered reached removed
  obtain ⟨r, hr⟩ : ∃ r : State, r = { s with now := max s.now s.table.ageTick, scratch := {}
                                             table := { s.table with ageTick := max s.now s.table.ageTick + 1000 } } :=
    ⟨_, rfl⟩
  have hwork : workOf .ageTick { s with scratch := {} } = r.ageTable := by
    rw [hr]
    rfl
  have hasc : r.olderTable.Ordered := by
    rw [hr]
    exact Ascending.map hordered (fun _ => rfl)
  obtain ⟨htable, hevac⟩ := State.ageEntries_table r.olderTable.table.entries (s := r.olderTable) (A := []) rfl hasc
  rw [← State.ageTable_eq] at htable hevac
  obtain ⟨-, hnow, -⟩ := r.ageTable_frame
  have hkept : r.ageTable.air = r.air ∧ r.ageTable.calls = r.calls ∧ r.ageTable.poller = r.poller
      ∧ r.ageTable.supply = r.supply ∧ r.ageTable.integ = r.integ ∧ r.ageTable.mgmt = r.mgmt
      ∧ r.ageTable.seg.state = r.seg.state ∧ r.ageTable.seg.holder = r.seg.holder ∧ r.ageTable.seg.queue = r.seg.queue
      ∧ r.ageTable.seg.lease = r.seg.lease ∧ r.ageTable.seg.causes = r.seg.causes := by
    simp
  obtain ⟨hair, hcalls, hpoller, hsupply, hinteg, hmgmt, hstate, hholder, hqueue, hlease, hcauses⟩ := hkept
  have hremoved (e : Entry) : r.olderTable.ages e.older = removed e := by
    rw [State.olderTable_ages, hr]
    rfl
  have hturned (e : Entry) : r.olderTable.turned e.older = if removed e then [] else [{ e with
      age := min 65535 (e.age + 1), location := if reached e then .unknown else e.location }] := by
    rw [State.olderTable_turned, hremoved, hr]
    rfl
  have hentries : r.olderTable.table.entries = s.table.entries.map Entry.older := by
    rw [hr]
    rfl
  refine ⟨r.ageTable, exec_concluded hwork, ?_, ?_, ?_, ?_, ?_, ?_, ?_, ?_, ?_, ?_, ?_, ?_, ?_, ?_, fun hfollowed => ?_⟩
  · have hcount : (s.table.entries.map Entry.older).countP r.olderTable.ages = s.table.entries.countP removed := by
      rw [List.countP_map]
      exact List.countP_congr fun e _ => by rw [Function.comp, hremoved]
    rw [htable, hentries, hcount, List.flatMap_map, flatMap_ite _ hturned, hr]
    rfl
  · rw [hnow, hr]
  · rw [hair, hr]
  · rw [hcalls, hr]
  · rw [hevac, hr]
    rfl
  · rw [hpoller, hr]
  · rw [hsupply, hr]
  · rw [hinteg, hr]
  · rw [hmgmt, hr]
  · rw [hstate, hr]
  · rw [hholder, hr]
  · rw [hqueue, hr]
  · rw [hlease, hr]
  · rw [hcauses, hr]
  · intro leavers near
    have hwatches : r.olderTable.Watches s.params r.olderTable.table.entries := by
      have := s.olderTable_watches hfollowed
      rw [hr]
      exact ⟨rfl, this.count, this.vehicle, this.holder, this.here⟩
    have hleaving : leaving s.params r.olderTable.table.entries = leavers.map Entry.older := by
      rw [hentries, State.leaving_older]
      rfl
    have hnear : r.olderTable.near = true ↔ near := by
      rw [State.near_iff, hr]
      rfl
    have hseg := State.ageEntries_seg r.olderTable.table.entries (A := []) rfl hasc hwatches
    obtain ⟨hfar, hnet⟩ := State.ageEntries_net r.olderTable.table.entries (A := []) rfl hasc hwatches
    rw [← State.ageTable_eq] at hseg hfar hnet
    refine ⟨?_, fun hnot => ?_, fun t hon ht => ?_⟩
    · have hloses : r.olderTable.table.entries.any r.olderTable.loses
          = s.table.entries.any (fun e => s.seg.heldBy e.address && reached e) := by
        rw [hentries, List.any_map]
        refine congrArg (s.table.entries.any ·) (funext fun e => ?_)
        rw [Function.comp, State.loses, Entry.overdue_older, hr]
        rfl
      have htold : BitVec.ofNat 32 (if r.olderTable.near then leavers.length else 0)
          = if near then BitVec.ofNat 32 leavers.length else 0 := by
        rw [if_congr hnear rfl rfl]
        split <;> rfl
      rw [hseg, hleaving, List.length_map, Segment.followed, hloses, htold, hr]
      rfl
    · rw [hfar (Bool.eq_false_iff.mpr (mt hnear.mp hnot)), hr]
      rfl
    · rw [hnet t s s.seg.minerCount 0 (hnear.mpr hon) (by rw [hr]; exact ht) (by rw [hr]; rfl) (by rw [hr]; rfl) ?_
        (by rw [hr]; rfl), hleaving]
      · rw [State.leaversTold, List.zipIdx_map, List.foldl_map]
        rfl
      · rw [hentries, findEntry, findEntry, List.find?_map, Option.map_map]
        rfl

end Sys2Proof.Machine
end

section
set_option Elab.async false
/-! PROOF. Creations, evictions and moves of station entries, and what a frame's learn step makes of them. -/

namespace Sys2Proof.Machine

/-! ### What coming to the radio leaves in the table and the evacuation (R68, R144) -/

section
variable (s : State) (e : Entry) (l : Option Location)

/-- The watch entries name a station. -/
theorem Table.watched_iff (t : Table) (a : Addr) :
    t.watched a = true ↔ ∃ i : Fin 4, t.watches[i].enabled = true ∧ t.watches[i].address = a := by
  simp only [Table.watched, List.any_eq_true, Bool.and_eq_true, beq_iff_eq]
  constructor
  · rintro ⟨w, hw, h⟩
    obtain ⟨i, hi, rfl⟩ := List.mem_iff_getElem.mp hw
    exact ⟨⟨i, by simpa using hi⟩, by simpa using h⟩
  · rintro ⟨i, h⟩
    exact ⟨t.watches[i], by simp, h⟩

/-- The arbiter has followed a station that has come to the radio, after its notice (R133, R144). -/
def State.met : State :=
  if isMiner e.address then (s.evacMinerArrives e).segMinerArrives e.address
  else if isVehicle e.address then s.segVehicle e.address true
  else s

theorem State.arrives_eq : s.arrives e l = (s.met e).locate e l := rfl

theorem State.met_table : (s.met e).table = s.table := by
  unfold State.met
  repeat' split
  all_goals simp

theorem State.met_nodeAddr? : (s.met e).nodeAddr? = s.nodeAddr? := by
  refine Net.nodeAddr?_of_straps ?_
  unfold State.met
  repeat' split
  all_goals simp

/-- An EVAC NOTICE to a miner that has come to the radio is due (R144). -/
def State.noticeDue : Bool :=
  isMiner e.address && (s.evac.state == .evacuate && e.mark == .none && s.nodeAddr?.isSome)

theorem State.noticeDue_iff : s.noticeDue e = true
    ↔ isMiner e.address = true ∧ s.evac.state = .evacuate ∧ e.mark = .none ∧ s.nodeAddr?.isSome = true := by
  simp [State.noticeDue, and_assoc]

theorem State.met_evac : (s.met e).evac = { s.evac with counters := { s.evac.counters with
    noticesSent := s.evac.counters.noticesSent + (if s.noticeDue e then 1 else 0) } } := by
  have hsame : s.evac = { s.evac with counters := { s.evac.counters with
      noticesSent := s.evac.counters.noticesSent + 0 } } := by simp
  unfold State.met
  cases hminer : isMiner e.address with
  | false =>
    have hnone : s.noticeDue e = false := by rw [State.noticeDue, hminer, Bool.false_and]
    simp only [hnone, Bool.false_eq_true, if_false]
    rw [← hsame]
    split <;> simp
  | true =>
    have hkept : ((s.evacMinerArrives e).segMinerArrives e.address).evac = (s.evacMinerArrives e).evac := by simp
    rw [if_pos rfl, hkept, State.evacMinerArrives]
    by_cases hdue : s.evac.state = .evacuate ∧ e.mark = .none
    · rw [if_pos hdue, State.sendEvacNotice, State.originateCounted]
      cases hown : s.nodeAddr? with
      | none => simpa [State.noticeDue, hown] using hsame
      | some own =>
        have hnotice : s.noticeDue e = true :=
          (s.noticeDue_iff e).mpr ⟨hminer, hdue.1, hdue.2, by rw [hown]; rfl⟩
        rw [if_pos hnotice]
        rfl
    · have hnone : ¬ s.noticeDue e = true := fun h => by
        obtain ⟨-, hstate, hmark, -⟩ := (s.noticeDue_iff e).mp h
        exact hdue ⟨hstate, hmark⟩
      rw [if_neg hdue, if_neg hnone, ← hsame]

/-- A LOCATE REPORT is due (R68). -/
def State.reportDue (a : Addr) : Bool := s.table.watched a && s.nodeAddr?.isSome

theorem State.locate_table : (s.locate e l).table = { s.table with counters := { s.table.counters with
    locateReports := s.table.counters.locateReports + (if s.reportDue e.address then 1 else 0) } } := by
  have hsame : s.table = { s.table with counters := { s.table.counters with
      locateReports := s.table.counters.locateReports + 0 } } := by simp
  unfold State.locate State.reportDue
  cases hwatched : s.table.watched e.address with
  | false => exact hsame
  | true =>
    rw [if_pos rfl, State.originateCounted]
    cases hown : s.nodeAddr? with
    | none => exact hsame
    | some own => rfl

theorem State.arrives_table : (s.arrives e l).table = { s.table with counters := { s.table.counters with
    locateReports := s.table.counters.locateReports + (if s.reportDue e.address then 1 else 0) } } := by
  rw [State.arrives_eq, State.locate_table, State.reportDue, State.met_nodeAddr?, State.met_table]
  rfl

theorem State.arrives_evac : (s.arrives e l).evac = { s.evac with counters := { s.evac.counters with
    noticesSent := s.evac.counters.noticesSent + (if s.noticeDue e then 1 else 0) } } := by
  rw [State.arrives_eq, ← State.met_evac]
  simp

end

/-! ### An entry that gives way (R57) -/

theorem victimFrom_keeps {p : Entry → Bool} {v : Entry} {l : List Entry} (h : ∀ e ∈ l, p e = true → e.age ≤ v.age) :
    victimFrom p (some v) l = some v := by
  induction l with
  | nil => rfl
  | cons e l ih =>
    have hworse : (p e && decide (v.age < e.age)) = false := by
      rw [Bool.and_eq_false_iff, decide_eq_false_iff_not]
      by_cases hp : p e = true
      · have := h e List.mem_cons_self hp
        exact .inr (by omega)
      · exact .inl (Bool.eq_false_iff.mpr hp)
    rw [victimFrom]
    simp only [hworse, Bool.false_eq_true, if_false]
    exact ih fun x hx => h x (List.mem_cons_of_mem _ hx)

theorem victimFrom_cons (p : Entry → Bool) (best : Option Entry) (e : Entry) (l : List Entry) :
    victimFrom p best (e :: l)
      = victimFrom p (if p e = true ∧ ∀ b ∈ best, b.age < e.age then some e else best) l := by
  cases best with
  | none =>
    show victimFrom p (if p e && true then some e else none) l = _
    simp
  | some b =>
    show victimFrom p (if p e && decide (b.age < e.age) then some e else some b) l = _
    simp

/-- The removable entry of greatest age gives way, the lowest address among equals. -/
theorem victimFrom_of_greatest {p : Entry → Bool} {v : Entry} {l : List Entry} : ∀ {best : Option Entry}, Ascending l →
    v ∈ l → p v = true → (∀ e ∈ l, p e = true → e.age < v.age ∨ e.age = v.age ∧ v.address.toNat ≤ e.address.toNat) →
    (∀ b ∈ best, b.age < v.age) → victimFrom p best l = some v := by
  induction l with
  | nil => intro _ _ hv; cases hv
  | cons e l ih =>
    intro best hasc hv hp hgreatest hbest
    obtain ⟨hless, hrest⟩ := List.pairwise_cons.mp hasc
    rw [victimFrom_cons]
    rcases List.mem_cons.mp hv with rfl | hv
    · rw [if_pos ⟨hp, hbest⟩]
      refine victimFrom_keeps fun e he hpe => ?_
      have := hgreatest e (List.mem_cons_of_mem _ he) hpe
      omega
    · refine ih hrest hv hp (fun x hx => hgreatest x (List.mem_cons_of_mem _ hx)) fun b hb => ?_
      split at hb
      next hbetter =>
        obtain rfl := Option.some.inj hb
        have := hgreatest e List.mem_cons_self hbetter.1
        have := hless v hv
        omega
      · exact hbest b hb

theorem victimFrom_none {p : Entry → Bool} {l : List Entry} (h : ∀ e ∈ l, p e = false) : victimFrom p none l = none := by
  induction l with
  | nil => rfl
  | cons e l ih =>
    rw [victimFrom]
    simp only [h e List.mem_cons_self, Bool.false_and, Bool.false_eq_true, if_false]
    exact ih fun x hx => h x (List.mem_cons_of_mem _ hx)

/-! ### Creations (R52, R57, R58, R61) -/

section
variable {s : State} {a : Addr} (l : Location) (t : Option Addr)

theorem State.createEntry_own (h : s.nodeAddr? = some a) : s.createEntry a l t = s := if_pos h

theorem State.createEntry_room (hown : s.nodeAddr? ≠ some a) (hroom : s.table.entries.length < 128) :
    s.createEntry a l t = s.insertNew a l t := by
  rw [State.createEntry, if_neg hown, State.makeRoom, if_pos (show s.table.entries.length < tableCapacity from hroom)]

/-- The table without the entry that has given way, counted. -/
def State.evicted (s : State) (v : Entry) : State := (s.dropEntry v).countTable (fun k => { k with evictions := k.evictions + 1 })

theorem State.createEntry_evicts {v : Entry} (hown : s.nodeAddr? ≠ some a) (hordered : s.Ordered)
    (hfull : s.table.entries.length = 128) (hv : v ∈ s.table.entries) (hremovable : s.removable v = true)
    (hgreatest : ∀ e ∈ s.table.entries, s.removable e = true →
      e.age < v.age ∨ e.age = v.age ∧ v.address.toNat ≤ e.address.toNat) :
    s.createEntry a l t = (s.evicted v).insertNew a l t := by
  have hvictim : s.victim = some v := victimFrom_of_greatest hordered hv hremovable hgreatest (fun _ h => nomatch h)
  rw [State.createEntry, if_neg hown, State.makeRoom, if_neg (show ¬ s.table.entries.length < tableCapacity by rw [hfull]; decide), hvictim]
  rfl

theorem State.createEntry_fails (hown : s.nodeAddr? ≠ some a) (hfull : s.table.entries.length = 128)
    (hnone : ∀ e ∈ s.table.entries, s.removable e = false) : s.createEntry a l t = s.learnFails := by
  have hvictim : s.victim = none := victimFrom_none hnone
  rw [State.createEntry, if_neg hown, State.makeRoom, if_neg (show ¬ s.table.entries.length < tableCapacity by rw [hfull]; decide), hvictim]

theorem State.insertNew_counters (a : Addr) : (s.insertNew a l t).table.counters = { s.table.counters with
    stationsLearned := s.table.counters.stationsLearned + 1
    locateReports := (s.insertNew a l t).table.counters.locateReports } := by
  unfold State.insertNew
  dsimp only
  split
  · rw [State.arrives_table]
    rfl
  · rfl

theorem State.insertNew_entry?_self (h : s.entry? a = none) : (s.insertNew a l t).entry? a = some (s.newEntry a l t) := by
  rw [State.entry?, State.insertNew_entries]
  exact findEntry_insertEntry_self (e := s.newEntry a l t) h

theorem State.insertNew_entry?_ne {b : Addr} (h : b ≠ a) : (s.insertNew a l t).entry? b = s.entry? b := by
  rw [State.entry?, State.insertNew_entries]
  exact findEntry_insertEntry_ne (e := s.newEntry a l t) (Ne.symm h) _

theorem State.evicted_entry?_self (v : Entry) : (s.evicted v).entry? v.address = none := by
  refine findEntry_eq_none.mpr fun e he => ?_
  have hentries : (s.evicted v).table.entries = removeEntry v.address s.table.entries := s.dropEntry_entries v
  rw [hentries] at he
  exact removeEntry_address he

theorem State.evicted_entry?_ne {v : Entry} {b : Addr} (h : b ≠ v.address) : (s.evicted v).entry? b = s.entry? b := by
  have hentries : (s.evicted v).table.entries = removeEntry v.address s.table.entries := s.dropEntry_entries v
  rw [State.entry?, State.entry?, hentries, findEntry, findEntry, removeEntry, List.find?_filter]
  refine congrArg (fun p => s.table.entries.find? p) (funext fun e => ?_)
  by_cases he : e.address = b
  · simp [he, h]
  · simp [he]

theorem State.evicted_counters (v : Entry) : (s.evicted v).table.counters = { s.table.counters with
    evictions := s.table.counters.evictions + 1 } := by
  have hdropped : (s.dropEntry v).table.counters = s.table.counters := by
    unfold State.dropEntry
    dsimp only
    split <;> simp [State.setEntries]
  rw [← hdropped]
  rfl

end

/-! ### Outside evacuation some entry is removable (R51, R56, R57) -/

/-- The addresses that can be referenced. -/
def State.references (s : State) : List Addr :=
  legIndices.map (fun i => (s.leg i).localParty) ++ (s.seg.holder.toList.map (fun t => t.vehicle)
    ++ s.seg.queue.map (fun t => t.vehicle))

theorem State.mem_references {s : State} {a : Addr} (h : s.referenced a = true) : a ∈ s.references := by
  unfold State.referenced at h
  simp only [Bool.or_eq_true, List.any_eq_true, Bool.and_eq_true, beq_iff_eq] at h
  simp only [State.references, List.mem_append, List.mem_map, Option.mem_toList]
  obtain (⟨i, hi, -, ha⟩ | hholder) | ⟨t, ht, ha⟩ := h
  · exact .inl ⟨i, hi, ha⟩
  · split at hholder
    next t ht => exact .inr (.inl ⟨t, ht, by simpa using hholder⟩)
    · exact absurd hholder (by decide)
  · exact .inr (.inr ⟨t, ht, ha⟩)

theorem State.references_length (s : State) : s.references.length ≤ 9 + s.seg.queue.length := by
  have hlegs : legIndices.length = 8 := by decide
  have hholder : s.seg.holder.toList.length ≤ 1 := by cases s.seg.holder <;> simp
  simp only [State.references, List.length_append, List.length_map, hlegs]
  omega

theorem State.exists_removable {s : State} (hordered : s.Ordered) (hfull : s.table.entries.length = 128)
    (hquiet : s.evac.state = .quiet) (hpins : pinnedCount s.table.entries ≤ 104) (hqueue : s.seg.queue.length ≤ 4) :
    ∃ e ∈ s.table.entries, s.removable e = true := by
  by_contra hnone
  have hheld (e : Entry) (he : e ∈ s.table.entries) (hpin : e.pinned = false) : s.referenced e.address = true := by
    by_contra hreferenced
    exact hnone ⟨e, he, by simp [State.removable, hpin, hreferenced, hquiet]⟩
  have hnodup : ((s.table.entries.filter (fun e => !e.pinned)).map (fun e => e.address)).Nodup := by
    rw [List.Nodup, List.pairwise_map]
    exact (List.Pairwise.filter _ hordered).imp (fun hlt heq => by simp [heq] at hlt)
  have hsubset : (s.table.entries.filter (fun e => !e.pinned)).map (fun e => e.address) ⊆ s.references := by
    intro a ha
    obtain ⟨e, he, rfl⟩ := List.mem_map.mp ha
    obtain ⟨hmem, hpin⟩ := List.mem_filter.mp he
    exact State.mem_references (hheld e hmem (by simpa using hpin))
  have hfew := (List.subperm_of_subset hnodup hsubset).length_le
  rw [List.length_map] at hfew
  have hsplit := List.length_eq_length_filter_add (l := s.table.entries) (fun e => e.pinned)
  have hpinned : (s.table.entries.filter (fun e => e.pinned)).length = pinnedCount s.table.entries :=
    List.countP_eq_length_filter.symm
  have := s.references_length
  omega

/-! ### A full table (R57, R58) -/

/-- The first part of O45. -/
theorem State.fullTable (s : State) (hordered : s.Ordered) (hfull : s.table.entries.length = 128) :
    (∀ (a : Addr) (l : Location) (t : Option Addr) (v : Entry), s.nodeAddr? ≠ some a → s.entry? a = none →
      v ∈ s.table.entries → s.removable v = true →
      (∀ e ∈ s.table.entries, s.removable e = true →
        e.age < v.age ∨ e.age = v.age ∧ v.address.toNat ≤ e.address.toNat) →
      (s.createEntry a l t).entry? v.address = none
      ∧ (∀ b, b ≠ a → b ≠ v.address → (s.createEntry a l t).entry? b = s.entry? b)
      ∧ (∃ e, (s.createEntry a l t).entry? a = some e ∧ e.location = l ∧ e.age = 0 ∧ e.mark = .none ∧ e.attach = t)
      ∧ (s.createEntry a l t).table.counters.evictions = s.table.counters.evictions + 1
      ∧ (s.createEntry a l t).table.counters.stationsLearned = s.table.counters.stationsLearned + 1) := by
  intro a l t v hown hnew hv hremovable hgreatest
  have hne : v.address ≠ a := fun heq => findEntry_eq_none.mp hnew v hv heq
  have hgone : (s.evicted v).entry? a = none := by rw [State.evicted_entry?_ne hne.symm, hnew]
  rw [State.createEntry_evicts l t hown hordered hfull hv hremovable hgreatest, State.insertNew_counters,
    State.evicted_counters, State.insertNew_entry?_ne l t hne, State.insertNew_entry?_self l t hgone]
  refine ⟨State.evicted_entry?_self v, fun b hba hbv => ?_, ⟨_, rfl, rfl, rfl, rfl, rfl⟩, rfl, rfl⟩
  rw [State.insertNew_entry?_ne l t hba, State.evicted_entry?_ne hbv]

theorem Table.matches_eq (t : Table) (a : Addr) :
    t.matches a = t.pins.toList.any (fun w => w.valid && (a &&& w.mask == w.base &&& w.mask)) := rfl

/-! ### The hand-offs (R55, R68, R133, R144) -/

section
variable {s : State} {own : Addr} (hown : s.nodeAddr? = some own)
include hown

theorem State.sendEvacNotice_eq (a : Addr) : s.sendEvacNotice a
    = ({ s with evac := { s.evac with counters := { s.evac.counters with
        noticesSent := s.evac.counters.noticesSent + 1 } } } : State).originate ⟨.evacNotice, a, wordBytes own⟩ := by
  rw [State.sendEvacNotice, State.originateCounted_of_isSome (by rw [hown]; rfl), State.own_of_nodeAddr? hown]
  rfl

theorem State.locate_eq (e : Entry) (l : Option Location) : s.locate e l
    = if ∃ i : Fin 4, s.table.watches[i].enabled = true ∧ s.table.watches[i].address = e.address then
        ({ s with table := { s.table with counters := { s.table.counters with
          locateReports := s.table.counters.locateReports + 1 } } } : State).originate
            ⟨.locateReport, s.params.control, wordBytes e.address ++ wordBytes own
              ++ [byteOf (previousLocationCode l)] ++ wordBytes (e.attach.getD 0)⟩
      else s := by
  unfold State.locate
  rw [if_congr (s.table.watched_iff e.address) rfl rfl, State.originateCounted_of_isSome (by rw [hown]; rfl),
    State.own_of_nodeAddr? hown]
  rfl

theorem State.met_eq (e : Entry) : s.met e
    = (let noticed : State :=
        if isMiner e.address = true ∧ s.evac.state = .evacuate ∧ e.mark = .none then
          ({ s with evac := { s.evac with counters := { s.evac.counters with
            noticesSent := s.evac.counters.noticesSent + 1 } } } : State).originate
              ⟨.evacNotice, e.address, wordBytes own⟩
        else s
      if isMiner e.address then noticed.segMinerArrives e.address
      else if isVehicle e.address then noticed.segVehicle e.address true
      else noticed) := by
  unfold State.met
  cases hminer : isMiner e.address with
  | false =>
    simp only [Bool.false_eq_true, false_and, if_false]
  | true =>
    dsimp only
    rw [if_pos rfl, if_pos rfl, State.evacMinerArrives, State.sendEvacNotice_eq hown]
    exact congrArg (State.segMinerArrives · e.address) (if_congr (by simp) rfl rfl)

/-- What a station's coming to the radio brings (R55, R68, R133, R144). -/
theorem State.arrives_eq_cameToRadio (e : Entry) (l : Option Location) :
    s.arrives e l = s.cameToRadio own e (byteOf (previousLocationCode l)) := by
  have hmet : (s.met e).nodeAddr? = some own := by rw [State.met_nodeAddr?, hown]
  have hparams : (s.met e).params = s.params := by
    unfold State.met State.params
    repeat' split
    all_goals simp
  have hcame : s.cameToRadio own e (byteOf (previousLocationCode l))
      = if ∃ i : Fin 4, s.table.watches[i].enabled = true ∧ s.table.watches[i].address = e.address then
          ({ s.met e with table := { (s.met e).table with counters := { (s.met e).table.counters with
            locateReports := (s.met e).table.counters.locateReports + 1 } } } : State).originate
              ⟨.locateReport, s.params.control, wordBytes e.address ++ wordBytes own
                ++ [byteOf (previousLocationCode l)] ++ wordBytes (e.attach.getD 0)⟩
        else s.met e := by
    rw [State.met_eq hown]
    rfl
  rw [hcame, State.arrives_eq, State.locate_eq hmet, hparams]
  exact if_congr (by rw [State.met_table]) rfl rfl

end

/-- What a station's leaving the radio brings (R55, R133). -/
theorem State.departs_eq_leftRadio (s : State) (a : Addr) : s.departs a = s.leftRadio a := rfl

/-- The arbiter looks at nothing that the table's counters hold. -/
theorem State.departs_countTable (s : State) (f : TableCounters → TableCounters) (a : Addr) :
    (s.departs a).countTable f = (s.countTable f).departs a := by
  have hsend (t : State) (v : Addr) : (t.sendProximity v).countTable f = (t.countTable f).sendProximity v := by
    unfold State.sendProximity State.originateCounted
    rw [show (t.countTable f).nodeAddr? = t.nodeAddr? from rfl]
    split <;> rfl
  have hholder (t : State) : t.sendProximityHolder.countTable f = (t.countTable f).sendProximityHolder := by
    unfold State.sendProximityHolder
    rw [show (t.countTable f).seg = t.seg from rfl]
    split
    · exact hsend t _
    · rfl
  have hvehicle : (s.segVehicle a false).countTable f = (s.countTable f).segVehicle a false := by
    by_cases hheld : s.seg.heldBy a = true
    · obtain ⟨t, ht, hv⟩ := (Segment.heldBy_iff _ _).mp hheld
      rw [State.segVehicle_leaves ht hv, State.segVehicle_leaves (s := s.countTable f) ht hv]
      rfl
    · have hstays : s.segVehicle a false = s := if_neg hheld
      have hstays' : (s.countTable f).segVehicle a false = s.countTable f := if_neg hheld
      rw [hstays, hstays']
  unfold State.departs
  split
  · unfold State.segMinerLeaves
    rw [show (s.countTable f).seg = s.seg from rfl]
    dsimp only
    split
    · exact hholder _
    · rfl
  · split
    · exact hvehicle
    · rfl

/-! ### Entries in their place (R51) -/

theorem insertEntry_eq {e : Entry} {l : List Entry} (h : Ascending l) (hnew : ∀ x ∈ l, x.address ≠ e.address) :
    insertEntry e l = l.filter (fun x => decide (x.address.toNat < e.address.toNat)) ++ [e]
      ++ l.filter (fun x => decide (e.address.toNat < x.address.toNat)) := by
  induction l with
  | nil => rfl
  | cons x l ih =>
    obtain ⟨hless, hrest⟩ := List.pairwise_cons.mp h
    have hne : x.address.toNat ≠ e.address.toNat := fun heq => hnew x List.mem_cons_self (BitVec.eq_of_toNat_eq heq)
    unfold insertEntry
    split
    next hlt =>
      have hall : ∀ y ∈ l, e.address.toNat < y.address.toNat := fun y hy => hlt.trans (hless y hy)
      have hnone : l.filter (fun y => decide (y.address.toNat < e.address.toNat)) = [] :=
        List.filter_eq_nil_iff.mpr fun y hy => by have := hall y hy; simp; omega
      have hkeep : l.filter (fun y => decide (e.address.toNat < y.address.toNat)) = l :=
        List.filter_eq_self.mpr fun y hy => by simpa using hall y hy
      rw [List.filter_cons_of_neg (by simp; omega), List.filter_cons_of_pos (by simpa using hlt), hnone, hkeep]
      rfl
    next hge =>
      rw [List.filter_cons_of_pos (by simp; omega), List.filter_cons_of_neg (by simp; omega),
        ih hrest fun y hy => hnew y (List.mem_cons_of_mem _ hy)]
      rfl

/-! ### The learn step (R52 to R55) -/

/-- An entry rewritten, with the hand-offs of the change. -/
theorem State.rewriteEntry_cases (s : State) (e x : Entry) :
    (x.location = .radioHere → e.location ≠ .radioHere →
      s.rewriteEntry e x = (s.setEntries (replaceEntry x s.table.entries)).arrives x (some e.location))
    ∧ (x.location ≠ .radioHere → e.location = .radioHere →
      s.rewriteEntry e x = (s.setEntries (replaceEntry x s.table.entries)).departs e.address)
    ∧ ((x.location = .radioHere ↔ e.location = .radioHere) →
      s.rewriteEntry e x = s.setEntries (replaceEntry x s.table.entries)) := by
  unfold State.rewriteEntry
  refine ⟨fun hnew hold => if_pos ⟨hold, hnew⟩, fun hnew hold => ?_, fun hsame => ?_⟩
  · exact (if_neg (fun h => hnew h.2)).trans (if_pos ⟨hold, hnew⟩)
  · exact (if_neg (fun h => h.1 (hsame.mp h.2))).trans (if_neg (fun h => h.2 (hsame.mpr h.1)))

/-! ### The learn step's two requests (R52 to R54) -/

theorem freshLocal_iff (p : Parameters) (l : Location) (e : Entry) : freshLocal p l e = true
    ↔ (l = .viaOutbye ∨ l = .viaInbye) ∧ e.location = .radioHere ∧ e.age * 1000 < p.presence.ms := by
  simp [freshLocal, ageReaches, and_assoc]

section
variable {s : State} {a : Addr} {e : Entry}

theorem State.learn_fresh (he : s.entry? a = some e) {l : Location} (h : freshLocal s.params l e = true) :
    s.learn a l = s := by
  rw [State.learn, he]
  exact if_pos h

theorem State.learn_moves (he : s.entry? a = some e) {l : Location} (h : ¬ freshLocal s.params l e = true) :
    s.learn a l = s.rewriteEntry e { e with location := l, age := 0 } := by
  rw [State.learn, he]
  exact if_neg h

theorem State.learn_creates (he : s.entry? a = none) (l : Location) : s.learn a l = s.createEntry a l none := by
  rw [State.learn, he]

theorem State.learnAnnounce_same (he : s.entry? a = some e) {n : Addr} (h : e.attach = some n) (l : Location) :
    s.learnAnnounce a l n = s.learn a l := by
  rw [State.learnAnnounce, he]
  exact if_pos h

theorem State.learnAnnounce_moves (he : s.entry? a = some e) {n : Addr} (h : e.attach ≠ some n) (l : Location) :
    s.learnAnnounce a l n = s.rewriteEntry e { e with location := l, age := 0, attach := some n } := by
  rw [State.learnAnnounce, he]
  exact if_neg h

theorem State.learnAnnounce_creates (he : s.entry? a = none) (l : Location) (n : Addr) :
    s.learnAnnounce a l n = s.createEntry a l (some n) := by
  rw [State.learnAnnounce, he]

end

/-! ### A frame that is heard (R54, R80, R113, R185) -/

theorem announced_eq_none {f : Frame} (h : f.kind? ≠ some .announce ∨ f.payload.length ≠ 4) : announced f = none := by
  unfold announced
  split
  next hkind =>
    have hlength := h.resolve_left (not_not.mpr (by simpa [Frame.isKind] using hkind))
    split
    next hpayload => exact absurd (by rw [hpayload]; rfl) hlength
    · rfl
  · rfl

/-- An ANNOUNCE is taken when it names its source, a miner or vehicle, and a node (R54). -/
theorem announced_eq {f : Frame} {unit attach : Addr} (hkind : f.kind? = some .announce)
    (hpayload : f.payload = wordBytes unit ++ wordBytes attach) : announced f
      = if unit = f.src ∧ (isMiner f.src = true ∨ isVehicle f.src = true) ∧ isNode attach = true then some attach
        else none := by
  have hunit : wordOf (unit.extractLsb' 8 8) (unit.extractLsb' 0 8) = unit := wordOf_highByte_lowByte unit
  have hattach : wordOf (attach.extractLsb' 8 8) (attach.extractLsb' 0 8) = attach := wordOf_highByte_lowByte attach
  unfold announced
  rw [if_pos (by simp [Frame.isKind, hkind]), hpayload]
  show (if wordOf (unit.extractLsb' 8 8) (unit.extractLsb' 0 8) = f.src ∧ isUnit f.src = true
    ∧ isNode (wordOf (attach.extractLsb' 8 8) (attach.extractLsb' 0 8)) = true then _ else none) = _
  rw [hunit, hattach]
  simp only [isUnit, Bool.or_eq_true]

theorem State.learnFrame_ordinary (s : State) (p : Port) {f : Frame} (h : announced f = none) :
    s.learnFrame p f = s.learn f.src (learntLocation p) := by
  rw [State.learnFrame, h]

theorem State.learnFrame_announced (s : State) (p : Port) {f : Frame} {attach : Addr} (h : announced f = some attach) :
    s.learnFrame p f = if s.nodeAddr? = some attach then s.learnAnnounce f.src (learntLocation p) attach
      else (s.learnAnnounce f.src (learntLocation p) attach).unitMoved f.src := by
  have hown : (s.learnAnnounce f.src (learntLocation p) attach).nodeAddr? = s.nodeAddr? :=
    Net.nodeAddr?_of_straps (by simp)
  rw [State.learnFrame, h]
  dsimp only
  rw [hown]

/-- A surface station's MGMT or ALARM frame ends isolation (R185). -/
def State.surfaced (s : State) (f : Frame) : State :=
  if isSurface f.src = true ∧ (f.cls = .mgmt ∨ f.cls = .alarm) then { s with mgmt := { s.mgmt with
    isolated := false, isolationTimer := s.isolationRestarted } }
  else s

theorem State.surfaceHeard_eq (s : State) : s.surfaceHeard = { s with mgmt := { s.mgmt with
    isolated := false, isolationTimer := s.isolationRestarted } } := by
  have htimer : startOrStop s.now s.params.isolation s.params.isolation.ms = s.isolationRestarted := by
    unfold startOrStop State.isolationRestarted
    split <;> rfl
  rw [← htimer]
  rfl

theorem State.heard_eq (s : State) (p : Port) (f : Frame) :
    s.heard p f = ((s.learnFrame p f).heardFrom f.src).surfaced f := by
  have hsurface : isSurfaceFrame f = true ↔ isSurface f.src = true ∧ (f.cls = .mgmt ∨ f.cls = .alarm) := by
    simp [isSurfaceFrame]
  rw [State.surfaced, ← State.surfaceHeard_eq]
  exact if_congr hsurface rfl rfl

/-- The last part of O45. -/
theorem State.heard_spelled (s : State) (p : Port) (f : Frame) (l : Location) (hl : learntLocation p = l) :
    (f.kind? ≠ some .announce ∨ f.payload.length ≠ 4 → s.heard p f = ((s.learn f.src l).heardFrom f.src).surfaced f)
    ∧ ∀ unit attach : Addr, f.kind? = some .announce → f.payload = wordBytes unit ++ wordBytes attach →
      let taken : Prop := unit = f.src ∧ (isMiner f.src = true ∨ isVehicle f.src = true) ∧ isNode attach = true
      (¬ taken → s.heard p f = ((s.learn f.src l).heardFrom f.src).surfaced f)
      ∧ (taken → s.nodeAddr? = some attach →
        s.heard p f = ((s.learnAnnounce f.src l attach).heardFrom f.src).surfaced f)
      ∧ (taken → s.nodeAddr? ≠ some attach →
        s.heard p f = (((s.learnAnnounce f.src l attach).unitMoved f.src).heardFrom f.src).surfaced f) := by
  refine ⟨fun h => ?_, fun unit attach hkind hpayload => ?_⟩
  · rw [State.heard_eq, State.learnFrame_ordinary s p (announced_eq_none h), hl]
  · intro taken
    have hannounced := announced_eq hkind hpayload
    refine ⟨fun h => ?_, fun h hown => ?_, fun h hown => ?_⟩
    · rw [State.heard_eq, State.learnFrame_ordinary s p (hannounced.trans (if_neg h)), hl]
    · rw [State.heard_eq, State.learnFrame_announced s p (hannounced.trans (if_pos h)), if_pos hown, hl]
    · rw [State.heard_eq, State.learnFrame_announced s p (hannounced.trans (if_pos h)), if_neg hown, hl]

/-! ### What a heard frame makes of the table, the evacuation and the legs -/

theorem State.heard_parts (s : State) (p : Port) (f : Frame) : (s.heard p f).table = (s.learnFrame p f).table
    ∧ (s.heard p f).evac = (s.learnFrame p f).evac ∧ (s.heard p f).calls = (s.learnFrame p f).calls := by
  rw [State.heard_eq]
  unfold State.surfaced
  split <;> simp

theorem State.unitMoved_parts (s : State) (a : Addr) : (s.unitMoved a).table = s.table ∧ (s.unitMoved a).evac = s.evac
    ∧ (s.unitMoved a).calls.permits = s.calls.permits ∧ (s.unitMoved a).calls.counters = s.calls.counters := by
  have hstep (t : State) (i : Fin 8) (u : State)
      (hu : u = if (t.leg i).localParty = a then t.clearLeg i .moved .node else t) : u.table = t.table ∧ u.evac = t.evac
        ∧ u.calls.permits = t.calls.permits ∧ u.calls.counters = t.calls.counters := by
    rw [hu]
    split <;> simp
  unfold State.unitMoved
  generalize legIndices = l
  induction l generalizing s with
  | nil => exact ⟨rfl, rfl, rfl, rfl⟩
  | cons i l ih =>
    obtain ⟨htable, hevac, hpermits, hcounters⟩ := hstep s i _ rfl
    rw [List.foldl_cons, ← htable, ← hevac, ← hpermits, ← hcounters]
    exact ih _

section
variable (s : State) {e x : Entry}

theorem State.rewriteEntry_table : (s.rewriteEntry e x).table = { s.table with
    entries := replaceEntry x s.table.entries
    counters := { s.table.counters with locateReports := s.table.counters.locateReports
      + (if s.reportDue x.address = true ∧ x.location = .radioHere ∧ e.location ≠ .radioHere then 1 else 0) } } := by
  unfold State.rewriteEntry
  dsimp only
  split
  next h =>
    rw [State.arrives_table]
    have hdue : (s.setEntries (replaceEntry x s.table.entries)).reportDue x.address = s.reportDue x.address := rfl
    rw [hdue, if_congr (and_iff_left ⟨h.2, h.1⟩) rfl rfl]
    rfl
  next h =>
    have hno : ¬ (s.reportDue x.address = true ∧ x.location = .radioHere ∧ e.location ≠ .radioHere) :=
      fun ⟨_, hnew, hold⟩ => h ⟨hold, hnew⟩
    rw [if_neg hno]
    split <;> simp [State.setEntries]

theorem State.rewriteEntry_evac : (s.rewriteEntry e x).evac = { s.evac with counters := { s.evac.counters with
    noticesSent := s.evac.counters.noticesSent
      + (if s.noticeDue x = true ∧ x.location = .radioHere ∧ e.location ≠ .radioHere then 1 else 0) } } := by
  unfold State.rewriteEntry
  dsimp only
  split
  next h =>
    rw [State.arrives_evac]
    have hdue : (s.setEntries (replaceEntry x s.table.entries)).noticeDue x = s.noticeDue x := rfl
    rw [hdue, if_congr (and_iff_left ⟨h.2, h.1⟩) rfl rfl]
    rfl
  next h =>
    have hno : ¬ (s.noticeDue x = true ∧ x.location = .radioHere ∧ e.location ≠ .radioHere) :=
      fun ⟨_, hnew, hold⟩ => h ⟨hold, hnew⟩
    rw [if_neg hno]
    split <;> simp [State.setEntries]

end

theorem replaceEntry_eq_map {l : List Entry} (h : Ascending l) {e : Entry} (he : e ∈ l) {f : Entry → Entry}
    (hf : (f e).address = e.address) :
    replaceEntry (f e) l = l.map (fun y => if y.address = e.address then f y else y) := by
  refine List.map_congr_left fun y hy => ?_
  rw [hf]
  split
  next hye => rw [h.unique hy he hye]
  · rfl

theorem learntLocation_radio (p : Port) : learntLocation p = .radioHere ↔ p = .radio := by
  cases p <;> simp [learntLocation]

/-- The table and the evacuation after an entry has moved to where a frame came from (R52, R55, R68, R144). -/
theorem State.moved_parts {s : State} (hordered : s.Ordered) (p : Port) {a : Addr} {e : Entry} (he : s.entry? a = some e)
    (attach : Option Addr) (u : State)
    (hu : u.table = (s.rewriteEntry e { e with location := learntLocation p, age := 0, attach := attach }).table
      ∧ u.evac = (s.rewriteEntry e { e with location := learntLocation p, age := 0, attach := attach }).evac) :
    u.table = { s.table with
      entries := s.table.entries.map (fun x => if x.address = a then
        { x with location := learntLocation p, age := 0, attach := attach } else x)
      counters := { s.table.counters with locateReports := s.table.counters.locateReports
        + (if (p = .radio ∧ s.nodeAddr?.isSome = true
            ∧ ∃ i : Fin 4, s.table.watches[i].enabled = true ∧ s.table.watches[i].address = a)
          ∧ e.location ≠ .radioHere then 1 else 0) } }
    ∧ u.evac = { s.evac with counters := { s.evac.counters with noticesSent := s.evac.counters.noticesSent
        + (if p = .radio ∧ e.location ≠ .radioHere ∧ isMiner a = true ∧ s.evac.state = .evacuate ∧ e.mark = .none
            ∧ s.nodeAddr?.isSome = true then 1 else 0) } } := by
  obtain ⟨hmem, rfl⟩ := findEntry_eq_some he
  obtain ⟨htable, hevac⟩ := hu
  rw [htable, hevac, State.rewriteEntry_table, State.rewriteEntry_evac,
    replaceEntry_eq_map (f := fun x => { x with location := learntLocation p, age := 0, attach := attach }) hordered hmem rfl]
  have hreport : s.reportDue e.address = true ∧ learntLocation p = .radioHere ∧ e.location ≠ .radioHere
      ↔ (p = .radio ∧ s.nodeAddr?.isSome = true
        ∧ ∃ i : Fin 4, s.table.watches[i].enabled = true ∧ s.table.watches[i].address = e.address)
        ∧ e.location ≠ .radioHere := by
    rw [State.reportDue, Bool.and_eq_true, Table.watched_iff, learntLocation_radio]
    tauto
  have hnotice : s.noticeDue { e with location := learntLocation p, age := 0, attach := attach } = true
        ∧ learntLocation p = .radioHere ∧ e.location ≠ .radioHere
      ↔ p = .radio ∧ e.location ≠ .radioHere ∧ isMiner e.address = true ∧ s.evac.state = .evacuate ∧ e.mark = .none
        ∧ s.nodeAddr?.isSome = true := by
    rw [State.noticeDue_iff, learntLocation_radio]
    tauto
  rw [if_congr hreport rfl rfl, if_congr hnotice rfl rfl]
  exact ⟨rfl, rfl⟩

/-! ### A unit that has moved (R113) -/

/-- A leg is as it was, or cleared with MOVED, as a leg of the unit or as the partner of one. -/
def State.LegMoved (s : State) (a : Addr) (u : State) (k : Fin 8) : Prop :=
  u.leg k = s.leg k ∨ (u.leg k).state = .idle ∧ (u.leg k).lastCause = some .moved ∧ k ∉ u.calls.startList
    ∧ (u.leg k).localParty = (s.leg k).localParty
    ∧ ∃ j, (s.leg j).localParty = a ∧ (s.leg j).state ≠ .idle ∧ (k = j ∨ (s.leg j).partner = some k)

theorem State.LegMoved.party {s u : State} {a : Addr} {k : Fin 8} (h : s.LegMoved a u k) :
    (u.leg k).localParty = (s.leg k).localParty := by
  obtain h | ⟨-, -, -, h, -⟩ := h
  · rw [h]
  · exact h

theorem State.LegMoved.of_busy {s u : State} {a : Addr} {k : Fin 8} (h : s.LegMoved a u k) (hbusy : (u.leg k).state ≠ .idle) :
    u.leg k = s.leg k :=
  h.resolve_right fun h => hbusy h.1

/-- A clear of one of the unit's legs. -/
theorem State.LegMoved.clearLeg {s u : State} {a : Addr} (h : ∀ k, s.LegMoved a u k) {i : Fin 8}
    (hbusy : (u.leg i).state ≠ .idle) (hparty : (u.leg i).localParty = a) (k : Fin 8) :
    s.LegMoved a (u.clearLeg i .moved .node) k := by
  have hsame := (h i).of_busy hbusy
  by_cases hk : k = i ∨ u.partnerOf i = some k
  · have hleg : (u.clearLeg i .moved .node).leg k = (u.leg k).cleared .moved := by
      rw [State.clearLeg_leg _ hbusy, if_pos hk]
    refine .inr ⟨by rw [hleg]; rfl, by rw [hleg]; rfl, ?_, ?_, i, by rw [← hsame, hparty], by rw [← hsame]; exact hbusy, ?_⟩
    · rw [State.clearLeg_startList _ hbusy]
      exact fun hmem => absurd hk (by simpa using (List.mem_filter.mp hmem).2)
    · rw [hleg]
      exact (h k).party
    · rw [← hsame]
      exact hk.imp id fun hp => (u.partnerOf_eq_some.mp hp).1
  · have hleg : (u.clearLeg i .moved .node).leg k = u.leg k := by
      rw [State.clearLeg_leg _ hbusy, if_neg hk]
    obtain hkept | ⟨hidle, hcause, hlist, hrest⟩ := h k
    · exact .inl (hleg.trans hkept)
    · refine .inr ⟨by rw [hleg]; exact hidle, by rw [hleg]; exact hcause, ?_, by rw [hleg]; exact hrest.1, hrest.2⟩
      rw [State.clearLeg_startList _ hbusy]
      exact fun hmem => hlist (List.mem_of_mem_filter hmem)

theorem State.clearLeg_stays_idle {u : State} {i k : Fin 8} (hidle : (u.leg k).state = .idle) (c : ClearCause) (w : ClearFrom) :
    ((u.clearLeg i c w).leg k).state = .idle := by
  by_cases hbusy : (u.leg i).state = .idle
  · rw [State.clearLeg_idle _ hbusy]
    exact hidle
  · rw [State.clearLeg_leg _ hbusy]
    split
    · rfl
    · exact hidle

theorem State.unitMoved_legs (s : State) (a : Addr) : (∀ k, s.LegMoved a (s.unitMoved a) k)
    ∧ ∀ k, (s.leg k).localParty = a → ((s.unitMoved a).leg k).state = .idle := by
  have hfold (l : List (Fin 8)) : ∀ t : State, (∀ k, s.LegMoved a t k) → ∀ u : State,
      u = l.foldl (fun t i => if (t.leg i).localParty = a then t.clearLeg i .moved .node else t) t →
      (∀ k, s.LegMoved a u k) ∧ (∀ k, (t.leg k).state = .idle → (u.leg k).state = .idle)
        ∧ ∀ k ∈ l, (s.leg k).localParty = a → (u.leg k).state = .idle := by
    induction l with
    | nil =>
      rintro t h u rfl
      exact ⟨h, fun k hk => hk, fun k hk => nomatch hk⟩
    | cons i l ih =>
      intro t h u hu
      rw [List.foldl_cons] at hu
      by_cases hparty : (t.leg i).localParty = a
      · rw [if_pos hparty] at hu
        have hmoved : ∀ k, s.LegMoved a (t.clearLeg i .moved .node) k := fun k => by
          by_cases hbusy : (t.leg i).state = .idle
          · rw [State.clearLeg_idle _ hbusy]
            exact h k
          · exact State.LegMoved.clearLeg h hbusy hparty k
        have hdone : ((t.clearLeg i .moved .node).leg i).state = .idle := by
          by_cases hbusy : (t.leg i).state = .idle
          · exact State.clearLeg_stays_idle hbusy _ _
          · rw [State.clearLeg_leg _ hbusy, if_pos (.inl rfl)]
            rfl
        obtain ⟨hlegs, hstays, hall⟩ := ih _ hmoved u hu
        refine ⟨hlegs, fun k hk => hstays k (State.clearLeg_stays_idle hk _ _), fun k hk hka => ?_⟩
        rcases List.mem_cons.mp hk with rfl | hk
        · exact hstays k hdone
        · exact hall k hk hka
      · rw [if_neg hparty] at hu
        obtain ⟨hlegs, hstays, hall⟩ := ih t h u hu
        refine ⟨hlegs, hstays, fun k hk hka => ?_⟩
        rcases List.mem_cons.mp hk with rfl | hk
        · exact absurd ((h k).party.trans hka) hparty
        · exact hall k hk hka
  obtain ⟨hlegs, -, hall⟩ := hfold legIndices s (fun k => .inl rfl) _ rfl
  exact ⟨hlegs, fun k hk => hall k (mem_legIndices k) hk⟩

/-! ### The parts of O45 -/

/-- A creation that finds room (R52, R61). -/
theorem State.createEntry_room_parts {s : State} {a : Addr} (l : Location) (t : Option Addr)
    (hown : s.nodeAddr? ≠ some a) (hnew : s.entry? a = none) (hroom : s.table.entries.length < 128) :
    (s.createEntry a l t).entry? a = some (s.newEntry a l t)
    ∧ (∀ b, b ≠ a → (s.createEntry a l t).entry? b = s.entry? b)
    ∧ (s.createEntry a l t).table.entries.length = s.table.entries.length + 1
    ∧ (s.createEntry a l t).table.counters.stationsLearned = s.table.counters.stationsLearned + 1
    ∧ (s.createEntry a l t).table.counters.evictions = s.table.counters.evictions := by
  rw [State.createEntry_room l t hown hroom, State.insertNew_counters, State.insertNew_entry?_self l t hnew]
  refine ⟨rfl, fun b hb => State.insertNew_entry?_ne l t hb, ?_, rfl, rfl⟩
  rw [State.insertNew_entries, (insertEntry_perm _ _).length_eq, List.length_cons]

section
variable {s : State} {own : Addr} {e : Entry} (hordered : s.Ordered) (hown : s.nodeAddr? = some own)

theorem Location.code_eq (l : Location) : byteOf (previousLocationCode (some l)) = (match l with
    | .radioHere => 0
    | .fieldHere => 1
    | .viaOutbye => 2
    | .viaInbye => 3
    | .unknown => 4) := by
  cases l <;> rfl

include hown in
/-- The entry of an address rewritten, with the hand-offs of the change (R55). -/
theorem State.rewriteEntry_handed {x : Entry} (hx : x.address = e.address) (l : Location) (hl : x.location = l) :
    let t : State := { s with table := { s.table with
      entries := s.table.entries.map (fun y => if y.address = e.address then x else y) } }
    (l = .radioHere → e.location ≠ .radioHere →
      s.rewriteEntry e x = t.cameToRadio own x (byteOf (previousLocationCode (some e.location))))
    ∧ (l ≠ .radioHere → e.location = .radioHere → s.rewriteEntry e x = t.leftRadio e.address)
    ∧ ((l = .radioHere ↔ e.location = .radioHere) → s.rewriteEntry e x = t) := by
  intro t
  have ht : s.setEntries (replaceEntry x s.table.entries) = t := by
    rw [replaceEntry, hx]
    rfl
  obtain ⟨hcame, hleft, hsame⟩ := s.rewriteEntry_cases e x
  rw [ht, hl] at hcame hleft hsame
  refine ⟨fun hnew hold => ?_, fun hnew hold => ?_, hsame⟩
  · rw [hcame hnew hold]
    exact State.arrives_eq_cameToRadio (s := t) hown x _
  · rw [hleft hnew hold]
    rfl

include hordered in
/-- A new entry stands in its place (R51, R52, R55). -/
theorem State.insertNew_handed (hown : s.nodeAddr? = some own) {a : Addr} (hnew : s.entry? a = none) (l : Location)
    (attach : Option Addr) :
    let t : State := { s with table := { s.table with
      entries := s.table.entries.filter (fun y => decide (y.address.toNat < a.toNat)) ++ [s.newEntry a l attach]
        ++ s.table.entries.filter (fun y => decide (a.toNat < y.address.toNat))
      counters := { s.table.counters with stationsLearned := s.table.counters.stationsLearned + 1 } } }
    s.insertNew a l attach = if l = .radioHere then t.cameToRadio own (s.newEntry a l attach) 5 else t := by
  intro t
  have hplace := insertEntry_eq (e := s.newEntry a l attach) hordered (findEntry_eq_none.mp hnew)
  have ht : (s.setEntries (insertEntry (s.newEntry a l attach) s.table.entries)).countTable
      (fun k => { k with stationsLearned := k.stationsLearned + 1 }) = t := by
    rw [hplace]
    rfl
  have hcame : t.arrives (s.newEntry a l attach) none = t.cameToRadio own (s.newEntry a l attach) 5 :=
    State.arrives_eq_cameToRadio (s := t) hown _ none
  rw [← hcame, ← ht]
  rfl

/-- The entry that gives way is taken out and handed on, and then the new one comes in (R55, R57). -/
theorem State.evicted_eq (v : Entry) : s.evicted v
    = (let t : State := { s with table := { s.table with
        entries := s.table.entries.filter (fun y => y.address != v.address)
        counters := { s.table.counters with evictions := s.table.counters.evictions + 1 } } }
      if v.location = .radioHere then t.leftRadio v.address else t) := by
  unfold State.evicted State.dropEntry
  dsimp only
  split
  · rw [State.departs_countTable]
    rfl
  · rfl

end

theorem State.evicted_length {s : State} {v : Entry} (h : v ∈ s.table.entries) :
    (s.evicted v).table.entries.length < s.table.entries.length := by
  have hentries : (s.evicted v).table.entries = removeEntry v.address s.table.entries := s.dropEntry_entries v
  rw [hentries]
  exact List.length_filter_lt_length_iff_exists.mpr ⟨v, h, by simp⟩

theorem freshLocal_learnt (p : Parameters) (port : Port) (e : Entry) : freshLocal p (learntLocation port) e = true
    ↔ port ≠ .radio ∧ e.location = .radioHere ∧ e.age * 1000 < p.presence.ms := by
  rw [freshLocal_iff]
  cases port <;> simp [learntLocation]

/-- The legs after an ANNOUNCE of another node (R113): `t` is the state after the change of the entry. -/
theorem State.movedAway_parts (s : State) (a : Addr) (u t : State) (ht : t.calls = s.calls)
    (hu : u.calls = (t.unitMoved a).calls) :
    (∀ i, (s.leg i).localParty = a → (u.leg i).state = .idle)
    ∧ (∀ i, (s.leg i).localParty = a → (s.leg i).state ≠ .idle →
        (u.leg i).lastCause = some .moved ∧ i ∉ u.calls.startList)
    ∧ (∀ i, (s.leg i).localParty ≠ a →
        (∀ j, (s.leg j).localParty = a → (s.leg j).state ≠ .idle → (s.leg j).partner ≠ some i) → u.leg i = s.leg i)
    ∧ u.calls.counters = s.calls.counters ∧ u.calls.permits = s.calls.permits := by
  have hleg (i : Fin 8) : s.leg i = t.leg i := congrArg (fun c : Calls => c.legs[i]) ht.symm
  have hleg' (i : Fin 8) : u.leg i = (t.unitMoved a).leg i := congrArg (fun c : Calls => c.legs[i]) hu
  obtain ⟨hmoved, hidle⟩ := t.unitMoved_legs a
  obtain ⟨-, -, hpermits, hcounters⟩ := t.unitMoved_parts a
  simp only [hleg, hleg', hu, hpermits, hcounters, ht]
  refine ⟨hidle, fun i hi hbusy => ?_, fun i hi hpartner => ?_, trivial, trivial⟩
  · obtain hsame | ⟨-, hcause, hlist, -⟩ := hmoved i
    · exact absurd (hsame ▸ hidle i hi) hbusy
    · exact ⟨hcause, hlist⟩
  · obtain hsame | ⟨-, -, -, -, j, hj, hbusy, rfl | hp⟩ := hmoved i
    · exact hsame
    · exact absurd hj hi
    · exact absurd hp (hpartner j hj hbusy)

/-- The table and the evacuation after an ANNOUNCE are those after the change of its entry. -/
theorem State.learnFrame_announced_parts (s : State) (p : Port) {f : Frame} {attach : Addr}
    (h : announced f = some attach) :
    (s.learnFrame p f).table = (s.learnAnnounce f.src (learntLocation p) attach).table
    ∧ (s.learnFrame p f).evac = (s.learnAnnounce f.src (learntLocation p) attach).evac := by
  rw [s.learnFrame_announced p h]
  split
  · exact ⟨rfl, rfl⟩
  · obtain ⟨htable, hevac, -⟩ := (s.learnAnnounce f.src (learntLocation p) attach).unitMoved_parts f.src
    exact ⟨htable, hevac⟩

/-- Settles O45, part by part: the full table, a creation with room, a heard frame, the learn step's hand-offs, the
heard frame spelled out. -/
theorem fullTableEvictsOrFails : Obligations.FullTableEvictsOrFails := by
  refine ⟨fun s hordered hfull => ⟨s.fullTable hordered hfull, fun a l t hown hnone => ?_, fun hquiet hpins hqueue => ?_⟩,
    fun s a l t hordered => ⟨State.createEntry_own l t, fun hown hnew hroom => ?_⟩, fun s p f hordered => ?_,
    fun s own e l attach hordered hown => ?_, fun s p f => ?_⟩
  · rw [State.createEntry_fails l t hown hfull hnone]
    rfl
  · exact State.exists_removable hordered hfull hquiet hpins hqueue
  · exact State.createEntry_room_parts l t hown hnew hroom
  · intro u l watched arrived moved learned
    have hl : learntLocation p = l := by cases p <;> rfl
    obtain ⟨htable, hevac, hcalls⟩ := s.heard_parts p f
    have hmoved (e : Entry) (he : s.entry? f.src = some e) (attach : Option Addr)
        (hu : u.table = (s.rewriteEntry e { e with location := learntLocation p, age := 0, attach := attach }).table
          ∧ u.evac = (s.rewriteEntry e { e with location := learntLocation p, age := 0, attach := attach }).evac) :
        moved e attach := by
      have hparts := State.moved_parts hordered p he attach u hu
      rw [hl] at hparts
      exact hparts
    have hlearned (ht : u.table = (s.learn f.src (learntLocation p)).table)
        (hv : u.evac = (s.learn f.src (learntLocation p)).evac) : learned := by
      refine fun e he => ⟨fun hfresh => ?_, fun hnot => hmoved e he e.attach ?_⟩
      · rw [ht, hv, State.learn_fresh he ((freshLocal_learnt _ _ _).mpr hfresh)]
        exact ⟨rfl, rfl⟩
      · have hstale : ¬ freshLocal s.params (learntLocation p) e = true := by
          rw [freshLocal_learnt]
          rintro ⟨hp, hhere, hage⟩
          rcases hnot with h | h | h
          · exact hp h
          · exact h hhere
          · omega
        rw [ht, hv, State.learn_moves he hstale]
        exact ⟨rfl, rfl⟩
    have hordinary (h : announced f = none) :
        (s.entry? f.src = none → u.table = (s.createEntry f.src l none).table) ∧ learned ∧ u.calls = s.calls := by
      have hframe := s.learnFrame_ordinary p h
      rw [hframe] at htable hevac hcalls
      refine ⟨fun hnew => ?_, hlearned htable hevac, hcalls.trans (by simp)⟩
      rw [htable, State.learn_creates hnew, hl]
    clear_value l
    refine ⟨fun hown hnew => ?_, fun h => hordinary (announced_eq_none h), fun unit attach hkind hpayload =>
      ⟨fun hnot => hordinary ((announced_eq hkind hpayload).trans (if_neg hnot)), fun hunit hkinds hnode => ?_⟩⟩
    · obtain ⟨hsame, hsame'⟩ : (s.learnFrame p f).table = s.table ∧ (s.learnFrame p f).evac = s.evac := by
        cases hannounced : announced f with
        | none =>
          rw [s.learnFrame_ordinary p hannounced, State.learn_creates hnew, State.createEntry_own _ _ hown]
          exact ⟨rfl, rfl⟩
        | some n =>
          obtain ⟨ht, hv⟩ := s.learnFrame_announced_parts p hannounced
          rw [ht, hv, State.learnAnnounce_creates hnew, State.createEntry_own _ _ hown]
          exact ⟨rfl, rfl⟩
      exact ⟨htable.trans hsame, hevac.trans hsame'⟩
    · have hannounced := (announced_eq hkind hpayload).trans (if_pos ⟨hunit, hkinds, hnode⟩)
      obtain ⟨ht, hv⟩ := s.learnFrame_announced_parts p hannounced
      have hkept : (s.learnAnnounce f.src (learntLocation p) attach).calls = s.calls := by simp
      rw [ht] at htable
      rw [hv] at hevac
      rw [s.learnFrame_announced p hannounced] at hcalls
      refine ⟨fun hnew => ?_, fun hsame e he => ?_, fun e he hother => hmoved e he (some attach) ?_, fun hown => ?_,
        fun haway => ?_⟩
      · rw [htable, State.learnAnnounce_creates hnew, hl]
      · have hlearn := State.learnAnnounce_same he (hsame e he) (learntLocation p)
        rw [hlearn] at htable hevac
        exact hlearned htable hevac e he
      · rw [htable, hevac, State.learnAnnounce_moves he hother]
        exact ⟨rfl, rfl⟩
      · rw [hcalls, if_pos hown, hkept]
      · rw [if_neg haway] at hcalls
        exact s.movedAway_parts f.src u _ hkept hcalls
  · intro a code fresh moved
    have hmoved (x : Entry) (hx : x.address = e.address) (hl : x.location = l) : moved x (s.rewriteEntry e x) := by
      have hcode : byteOf (previousLocationCode (some e.location)) = code := Location.code_eq _
      have hhanded := State.rewriteEntry_handed hown hx l hl
      rw [hcode] at hhanded
      exact hhanded
    refine ⟨fun he => ⟨fun hfresh => ?_, fun hfresh => ?_, fun n => ⟨fun hn => ?_, fun hn => ?_⟩⟩, fun he => ?_,
      fun he hne hroom => ?_, fun b t hmem hnew hb hfull hremovable hgreatest => ?_⟩
    · exact State.learn_fresh he ((freshLocal_iff _ _ _).mpr hfresh)
    · rw [State.learn_moves he (mt (freshLocal_iff _ _ _).mp hfresh)]
      exact hmoved { e with location := l, age := 0 } rfl rfl
    · exact State.learnAnnounce_same he hn l
    · rw [State.learnAnnounce_moves he hn]
      exact hmoved { e with location := l, age := 0, attach := some n } rfl rfl
    · exact ⟨State.learn_creates he l, State.learnAnnounce_creates he l⟩
    · rw [State.createEntry_room l attach (fun h => hne (Option.some.inj (h.symm.trans hown))) hroom]
      exact State.insertNew_handed hordered hown he l attach
    · have hnot : s.nodeAddr? ≠ some b := fun h => hb (Option.some.inj (h.symm.trans hown))
      rw [State.createEntry_evicts l t hnot hordered hfull hmem hremovable hgreatest]
      intro v
      have hevicted : s.evicted e = if e.location = .radioHere then v.leftRadio a else v := State.evicted_eq e
      have hown' : (s.evicted e).nodeAddr? = s.nodeAddr? := Net.nodeAddr?_of_straps (by simp [State.evicted, State.countTable])
      rw [← hevicted, State.createEntry_room l t (by rw [hown']; exact hnot)
        ((State.evicted_length hmem).trans_eq hfull)]
  · intro l surfaced after
    have hl : learntLocation p = l := by cases p <;> rfl
    have hafter (t : State) : after t ↔ s.heard p f = (t.heardFrom f.src).surfaced f := Iff.rfl
    clear_value after l
    obtain ⟨hordinary, hannounce⟩ := s.heard_spelled p f l hl
    refine ⟨fun h => (hafter _).mpr (hordinary h), fun unit attach hkind hpayload => ?_⟩
    obtain ⟨hnot, hhere, haway⟩ := hannounce unit attach hkind hpayload
    exact ⟨fun h => (hafter _).mpr (hnot h), fun h hown => (hafter _).mpr (hhere h hown),
      fun h hown => (hafter _).mpr (haway h hown)⟩

end Sys2Proof.Machine
end

section

set_option Elab.async false

/-! PROOF. The kinds of a class, the payloads that fit a kind, and what local delivery does with a frame (R76, R87). -/

namespace Sys2Proof.Machine

/-! ### Kinds and payloads (R76) -/

theorem Frame.kind?_eq (f : Frame) : f.kind? = if f.kind = 0 then none else (kindsIn f.cls)[f.kind.toNat - 1]? := by
  have hcodes : ∀ (c : TrafficClass) (x : BitVec 5),
      FrameKind.ofCodes c x = if x = 0 then none else (kindsIn c)[x.toNat - 1]? := by
    intro c
    cases c with
    | alarm | voice | signal | air | telem | mgmt => decide
  exact hcodes f.cls f.kind

theorem airEntriesFit_iff (n : Nat) : ∀ p : List Byte, p.length = 7 * n →
    (airEntriesFit p = true
      ↔ ∀ i < n, (p.getD (7 * i + 5) 0).toNat < 4 ∧ (p.getD (7 * i + 6) 0).toNat < 4) := by
  induction n with
  | zero =>
    intro p hp
    obtain rfl : p = [] := by simpa using hp
    simp [airEntriesFit]
  | succ n ih =>
    intro p hp
    obtain ⟨a, b, c, d, e, g, st, rest, rfl⟩ : ∃ a b c d e g st rest, p = a :: b :: c :: d :: e :: g :: st :: rest := by
      match p, hp with
      | a :: b :: c :: d :: e :: g :: st :: rest, _ => exact ⟨a, b, c, d, e, g, st, rest, rfl⟩
    have hrest : rest.length = 7 * n := by
      simp only [List.length_cons] at hp
      omega
    have htail (i k : Nat) : (a :: b :: c :: d :: e :: g :: st :: rest).getD (7 * (i + 1) + k) 0
        = rest.getD (7 * i + k) 0 := by
      rw [show 7 * (i + 1) + k = 7 * i + k + 7 by omega]
      rfl
    rw [airEntriesFit, Bool.and_eq_true, Bool.and_eq_true, decide_eq_true_eq, decide_eq_true_eq, ih rest hrest,
      Nat.forall_lt_succ_left]
    simp only [htail]
    exact Iff.rfl

/-- The checks of R76, kind by kind. -/
theorem payloadFits_iff (k : FrameKind) (p : List Byte) : payloadFits k p = true ↔ k.takesPayload p := by
  cases k with
  | airReport =>
    have hentries (h : p.length = 3 + 7 * (p.getD 2 0).toNat) : airEntriesFit (p.drop 3) = true
        ↔ ∀ i < (p.getD 2 0).toNat, (p.getD (3 + 7 * i + 5) 0).toNat < 4 ∧ (p.getD (3 + 7 * i + 6) 0).toNat < 4 := by
      rw [airEntriesFit_iff (p.getD 2 0).toNat (p.drop 3) (by rw [List.length_drop]; omega)]
      simp only [List.getD_eq_getElem?_getD, List.getElem?_drop, Nat.add_assoc]
    simp only [payloadFits, FrameKind.takesPayload, fitsFixed, fitsList, Bool.and_eq_true, decide_eq_true_eq,
      beq_self_eq_true, List.all_cons, List.all_nil, true_and, and_true]
    constructor
    · rintro ⟨⟨⟨h2, hlength⟩, h0, h1⟩, hair⟩
      exact ⟨h2, hlength, h0, h1, (hentries hlength).mp hair⟩
    · rintro ⟨h3, hlength, h0, h1, hair⟩
      exact ⟨⟨⟨h3, hlength⟩, h0, h1⟩, (hentries hlength).mpr hair⟩
  | evacuateOrder | standDownOrder | musterReport =>
    simp only [payloadFits, FrameKind.takesPayload, fitsList, Bool.and_eq_true, decide_eq_true_eq]
    omega
  | _ =>
    simp [payloadFits, FrameKind.takesPayload, fitsFixed, and_assoc]

theorem Frame.fits_iff (f : Frame) : f.fits = true ↔ ∃ k, f.kind? = some k ∧ k.takesPayload f.payload := by
  unfold Frame.fits
  cases h : f.kind? with
  | none => simp
  | some k => simp [payloadFits_iff]

/-! ### The straps of a delivery -/

theorem State.restart_straps (s : State) : s.restart.net.straps = s.net.straps := by
  simp [State.restart, State.zeroCounters]

theorem State.restartDue_straps (s : State) : s.restartDue.net.straps = s.net.straps :=
  State.restartDue_keeps (P := fun t => t.net.straps = s.net.straps) (fun h => (State.restart_straps _).trans h)
    (fun _ h => h) (fun _ h => h) rfl

theorem State.restartRequest_straps (s : State) (rq : Request) :
    (s.restartRequest rq).1.net.straps = s.net.straps :=
  State.restartRequest_keeps (P := fun t => t.net.straps = s.net.straps)
    (fun h => (State.restartDue_straps _).trans h) (fun _ h => h) (fun _ hn h => hn.trans h) rq rfl

theorem handlerOf_straps (i : Instr) (s : State) : (handlerOf i s).1.net.straps = s.net.straps := by
  cases i with
  | restart rq => exact s.restartRequest_straps rq
  | loadRecordChannel | loadRecordPoll | loadRecordPin | loadRecordWatch | loadRecordPermit | loadRecordRoute
  | loadRecordPlan | loadRecordShed | loadRecordParameters | setCheck | selectPlan | resetTrip | testChannel | evacuate
  | standDown | closeSegment | openSegment | releaseSegment | cancelSos | clearFlags | ackAttention | clearCounters =>
    simp [handlerOf]
  | _ => rfl

theorem State.takeRequest_straps (s : State) (rq : Request) (isRestart : Bool) {h : Handler}
    (hh : ∀ t : State, (h t).1.net.straps = t.net.straps) :
    (s.takeRequest rq isRestart h).net.straps = s.net.straps := by
  unfold State.takeRequest State.carryOut
  split
  · rfl
  · split
    · dsimp only
      split
      · simp
      · simp [hh]
    · simp

/-- Nothing that a delivered frame brings about changes the straps. -/
theorem State.hand_straps (s : State) (p : Port) (f : Frame) (k : FrameKind) :
    (s.hand p f k).net.straps = s.net.straps := by
  have hentry : (s.entryFrame f).net.straps = s.net.straps := by
    unfold State.entryFrame
    repeat' split
    all_goals simp
  have hexit : (s.exitFrame f).net.straps = s.net.straps := by
    unfold State.exitFrame
    repeat' split
    all_goals simp
  have hbeacon : (s.beacon f).net.straps = s.net.straps := by
    unfold State.beacon
    split
    all_goals simp
  have hrequest : (s.requestFrame p f).net.straps = s.net.straps := by
    unfold State.requestFrame State.takeAsked
    split
    · dsimp only
      split
      · exact s.takeRequest_straps _ _ (handlerOf_straps _)
      · exact s.takeRequest_straps _ _ (fun _ => rfl)
    · rfl
  have hnotice : (s.zoneGradeNotice f).net.straps = s.net.straps := by simp
  have horder : (s.evacuateOrder f).net.straps = s.net.straps := by simp
  have hstandDown : (s.standDownOrder f).net.straps = s.net.straps := by simp
  have hack : (s.evacAck f).net.straps = s.net.straps := by simp
  have haddressed {g : State → State} (hg : (g s).net.straps = s.net.straps) :
      (s.ifAddressed g).net.straps = s.net.straps :=
    Keeps.ifAddressed (P := fun t => t.net.straps = s.net.straps) rfl hg
  cases k with
  | zoneGrade => exact haddressed hnotice
  | evacuateOrder => exact haddressed horder
  | standDownOrder => exact haddressed hstandDown
  | evacAck => exact haddressed hack
  | entryRequest => exact haddressed hentry
  | exitNotice => exact haddressed hexit
  | beacon => exact haddressed hbeacon
  | request => exact haddressed hrequest
  | sos => simp [State.hand]
  | sosCancel => simp [State.hand]
  | voice | announce | callSetup | callAlerting | callAnswer | callClear => rfl
  | _ => simp [State.hand, State.noOwner]

theorem State.deliver_nodeAddr? (s : State) (p : Port) (f : Frame) : (s.deliver p f).nodeAddr? = s.nodeAddr? := by
  refine Net.nodeAddr?_of_straps ?_
  unfold State.deliver
  repeat' split
  · simp
  · exact s.hand_straps p f _
  · simp

end Sys2Proof.Machine
end

section

set_option Elab.async false

/-! PROOF. The walk of a frame after it was heard: hop count, relay list, own returns, inspection, destination decision
and local delivery (R81 to R89). -/

namespace Sys2Proof.Machine

/-! ### Hop count, relay list and own returns (R81 to R84) -/

theorem relayHolds_iff (l : List RelayEntry) (a : Addr) (q : Byte) :
    relayHolds l a q = true ↔ ∃ x ∈ l, x.origin = a ∧ x.seq = q := by
  simp [relayHolds]

theorem relayAdd_of_new {l : List RelayEntry} {a : Addr} {q : Byte} (h : relayHolds l a q = false) :
    relayAdd l a q = (if l.length < 16 then l else l.drop 1) ++ [⟨a, q, 0⟩] := by
  rw [relayAdd, h]
  by_cases hlength : l.length < 16
  · rw [if_neg Bool.false_ne_true, if_pos hlength, if_neg (by omega)]
  · rw [if_neg Bool.false_ne_true, if_neg hlength, if_pos (by omega)]

theorem takesPayload_of_setupOf {p : List Byte} {c : Setup} (h : setupOf p = some c) :
    FrameKind.callSetup.takesPayload p := by
  unfold setupOf at h
  split at h
  next n k a b c d x =>
    split at h
    next q hq =>
      refine ⟨rfl, ?_⟩
      show x.toNat < 3
      unfold Priority.ofCode at hq
      split_ifs at hq
      all_goals omega
    · cases h
  · cases h

section

variable (s : State) (p : Port) (f : Frame)

theorem State.inspected_eq : s.inspected p f
    = if (s.inspect p f).2 then (s.inspect p f).1.dispose p f else (s.inspect p f).1 := by
  unfold State.inspected
  obtain ⟨t, passed⟩ := s.inspect p f
  cases passed with
  | true => rfl
  | false => rfl

/-- A frame whose payload does not fit its kind is no call frame to the leg table, nor is one of another kind (R96). -/
theorem State.inspect_of_unfit (h : ∀ k ∈ [FrameKind.voice, .callSetup, .callAlerting, .callAnswer, .callClear],
    f.kind? = some k → ¬ k.takesPayload f.payload) : s.inspect p f = (s, true) := by
  unfold State.inspect
  split
  next payload hkind =>
    cases hsetup : setupOf f.payload with
    | none => rfl
    | some c =>
      exact absurd (takesPayload_of_setupOf hsetup) (h .callSetup (by decide) hkind)
  next n k hkind hpayload => exact absurd (by simp [FrameKind.takesPayload, hpayload]) (h .callAlerting (by decide) hkind)
  next n k hkind hpayload => exact absurd (by simp [FrameKind.takesPayload, hpayload]) (h .callAnswer (by decide) hkind)
  next n k c hkind hpayload =>
    cases hcause : ClearCause.ofCode c.toNat with
    | none => rfl
    | some cause =>
      have hcode : c.toNat < 11 := (List.getElem?_eq_some_iff.mp hcause).1
      exact absurd (by simpa [FrameKind.takesPayload, hpayload]) (h .callClear (by decide) hkind)
  next n k x coded hkind hpayload =>
    refine if_neg fun hcoded => h .voice (by decide) hkind ?_
    simp only [FrameKind.takesPayload, hpayload, List.length_cons]
    omega
  · rfl

/-- The hop count's part of the walk leaves what the relay list and the own-return check read. -/
theorem State.hopped_eq (g : Frame) (e : State) (hg : g = { f with hop := hopAfter p f.hop })
    (he : e = if g.hop = 0 then s.countPort p (fun k => { k with hopExpired := k.hopExpired + 1 }) else s) :
    s.hopped p f = e.relayed p g ∧ e.net.relay = s.net.relay ∧ e.nodeAddr? = s.nodeAddr? := by
  subst hg
  refine ⟨by rw [he]; rfl, ?_, Net.nodeAddr?_of_straps ?_⟩
  · rw [he]
    split
    · cases p <;> rfl
    · rfl
  · rw [he]
    split
    · simp
    · rfl

end

/-! ### The destination decision (R86, R88, R89) -/

/-- One copy of a frame out of each of several ports. -/
def State.sentOut (s : State) (f : Frame) (ports : List Port) : State :=
  { s with net := ports.foldl (fun n q => n.offer s.supply.shedLevel q f) s.net }

/-- The backbone ports that a frame from port `p` can go out of. -/
def State.backbone (s : State) (p : Port) : List Port :=
  [Port.outbye, .inbye].filter (fun q => (s.net.port q).up && q != p)

/-- A frame for a station that only the backbone port `q` can lead to (R89). -/
def State.sentVia (s : State) (p : Port) (f : Frame) (q : Port) : State :=
  if f.hop = 0 then s
  else if p = q then s.countPort p (fun k => { k with hairpins := k.hairpins + 1 })
  else if (s.net.port q).up then s.sentOut f [q]
  else s.countPort q (fun k => { k with downDrops := k.downDrops + 1 })

/-- A frame for a station of an unknown location (R88). -/
def State.flooded (s : State) (p : Port) (f : Frame) : State :=
  if f.hop = 0 then s
  else if s.backbone p = [] then s.countPort p (fun k => { k with noRoute := k.noRoute + 1 })
  else s.sentOut f (s.backbone p)

section

variable (s : State) (p : Port) (f : Frame)

theorem State.floodPorts_eq : s.net.floodPorts (some p) = s.backbone p := by
  unfold Net.floodPorts State.backbone
  rw [List.filter_cons, List.filter_cons, List.filter_nil]
  have hne (q : Port) : (some p != some q) = (q != p) := by
    cases p <;> cases q <;> rfl
  rw [hne, hne]
  show _ = if (s.net.outbye.up && Port.outbye != p) = true then Port.outbye
    :: (if (s.net.inbye.up && Port.inbye != p) = true then [Port.inbye] else [])
    else (if (s.net.inbye.up && Port.inbye != p) = true then [Port.inbye] else [])
  cases s.net.outbye.up && Port.outbye != p with
  | true => rfl
  | false => rfl

theorem State.decide_flooded (h : f.hop ≠ 0) :
    ({ s with net := s.net.flood s.supply.shedLevel (some p) f } : State) = s.flooded p f := by
  unfold Net.flood State.flooded
  rw [s.floodPorts_eq, if_neg h]
  cases hports : s.backbone p with
  | nil => rfl
  | cons q l => rfl

theorem State.decide_sentVia (q : Port) (h : f.hop ≠ 0) :
    ({ s with net := s.net.sendVia s.supply.shedLevel (some p) q f } : State) = s.sentVia p f q := by
  unfold Net.sendVia State.sentVia
  rw [if_neg h]
  by_cases hq : p = q
  · subst hq
    rw [if_pos rfl, if_pos rfl]
    rfl
  · rw [if_neg hq, if_neg (by simpa using hq), Net.sendTo]
    split
    · rfl
    · rfl

/-- A frame for another station is not delivered here; what it goes out to is the destination decision. -/
theorem State.dispose_elsewhere (hown : s.nodeAddr? ≠ some f.dest) (hdest : f.dest ≠ broadcast) :
    s.dispose p f = { s with net := s.net.decide s.table.entries s.supply.shedLevel (some p) f } := by
  have hhere : s.forHere f = false := by simpa [State.forHere] using ⟨hdest, hown⟩
  rw [State.dispose, hhere]
  rfl

theorem State.dispose_unknown (hown : s.nodeAddr? ≠ some f.dest) (hdest : f.dest ≠ broadcast)
    (h : ∀ e, s.entry? f.dest = some e → e.location = .unknown) : s.dispose p f = s.flooded p f := by
  have hown' : s.net.nodeAddr? ≠ some f.dest := hown
  have hdecide : s.net.decide s.table.entries s.supply.shedLevel (some p) f
      = if f.hop = 0 then s.net else s.net.flood s.supply.shedLevel (some p) f := by
    unfold Net.decide
    rw [if_neg hown', if_neg hdest]
    split
    next e he => rw [h e he]
    · rfl
  rw [s.dispose_elsewhere p f hown hdest, hdecide]
  by_cases hhop : f.hop = 0
  · rw [if_pos hhop, State.flooded, if_pos hhop]
  · rw [if_neg hhop, s.decide_flooded p f hhop]

theorem State.dispose_via (hown : s.nodeAddr? ≠ some f.dest) (hdest : f.dest ≠ broadcast) {e : Entry}
    (he : s.entry? f.dest = some e) :
    (e.location = .viaOutbye → s.dispose p f = s.sentVia p f .outbye)
    ∧ (e.location = .viaInbye → s.dispose p f = s.sentVia p f .inbye)
    ∧ (e.location = .radioHere → s.dispose p f = if f.hop = 0 then s else s.sentOut f [.radio])
    ∧ (e.location = .fieldHere →
      s.dispose p f = s.countPort p (fun k => { k with fieldDiscards := k.fieldDiscards + 1 })) := by
  have hown' : s.net.nodeAddr? ≠ some f.dest := hown
  have he' : findEntry s.table.entries f.dest = some e := he
  rw [s.dispose_elsewhere p f hown hdest]
  unfold Net.decide
  rw [if_neg hown', if_neg hdest, he']
  have hvia (q : Port) : ({ s with net :=
      if f.hop = 0 then s.net else s.net.sendVia s.supply.shedLevel (some p) q f } : State) = s.sentVia p f q := by
    by_cases hhop : f.hop = 0
    · rw [if_pos hhop, State.sentVia, if_pos hhop]
    · rw [if_neg hhop, s.decide_sentVia p f q hhop]
  refine ⟨fun hl => ?_, fun hl => ?_, fun hl => ?_, fun hl => ?_⟩
  · simp only [hl]
    exact hvia .outbye
  · simp only [hl]
    exact hvia .inbye
  · simp only [hl]
    split
    · rfl
    · rfl
  · simp only [hl]
    rfl

theorem State.nodeAddr?_ne_broadcast : s.nodeAddr? ≠ some broadcast := by
  unfold State.nodeAddr? Net.nodeAddr?
  split
  next h =>
    intro heq
    have : (s.net.straps.setWidth 16).toNat = broadcast.toNat := by rw [Option.some.inj heq]
    rw [BitVec.toNat_setWidth, show broadcast.toNat = 65535 from rfl] at this
    omega
  · exact nofun

/-- A broadcast is delivered here, and then goes out of the ports that are open to it (R86 to R88). -/
theorem State.dispose_broadcast (hdest : f.dest = broadcast) (d : State) (hd : d = s.deliver p f)
    (ports : List Port) (hports : ports = d.backbone p
      ++ (if (f.cls = .alarm ∨ f.isKind .evacNotice = true) ∧ p ≠ .radio then [.radio] else [])) :
    (f.hop = 0 → s.dispose p f = d)
    ∧ (f.hop ≠ 0 → ports ≠ [] ∨ f.fits = true → s.dispose p f = d.sentOut f ports)
    ∧ (f.hop ≠ 0 → ports = [] → f.fits = false →
      s.dispose p f = d.countPort p (fun k => { k with noRoute := k.noRoute + 1 })) := by
  have hhere : s.forHere f = true := by simp [State.forHere, hdest]
  have hown : d.net.nodeAddr? ≠ some f.dest := hdest ▸ d.nodeAddr?_ne_broadcast
  have hradio : broadcastOnRadio (some p) f = true ↔ (f.cls = .alarm ∨ f.isKind .evacNotice = true) ∧ p ≠ .radio := by
    simp [broadcastOnRadio]
  have hall : d.net.floodPorts (some p) ++ (if broadcastOnRadio (some p) f then [Port.radio] else []) = ports := by
    rw [hports, d.floodPorts_eq, if_congr hradio rfl rfl]
  have hdecide : d.net.decide d.table.entries d.supply.shedLevel (some p) f = if f.hop = 0 then d.net
      else if ports.isEmpty && !f.fits then d.net.countArrival (some p) (fun k => { k with noRoute := k.noRoute + 1 })
      else d.net.offerAll d.supply.shedLevel ports f := by
    rw [Net.decide, if_neg hown, if_pos hdest, Net.sendBroadcast, hall]
  have hdispose : s.dispose p f
      = { d with net := d.net.decide d.table.entries d.supply.shedLevel (some p) f } := by
    rw [State.dispose, hhere, if_pos rfl, ← hd]
  rw [hdispose, hdecide]
  refine ⟨fun hhop => by rw [if_pos hhop], fun hhop hout => ?_, fun hhop hnone hfits => ?_⟩
  · have hgoes : (ports.isEmpty && !f.fits) = false := by
      obtain hne | hfits := hout
      · rw [List.isEmpty_eq_false_iff.mpr hne]
        rfl
      · rw [hfits, Bool.not_true, Bool.and_false]
    rw [if_neg hhop, hgoes]
    rfl
  · rw [if_neg hhop, hnone, hfits]
    rfl

end

/-! ### Local delivery (R76, R87) -/

section

variable (s : State) (p : Port) (f : Frame)

theorem State.dispose_here (h : s.nodeAddr? = some f.dest) : s.dispose p f = s.deliver p f := by
  have hhere : s.forHere f = true := by simp [State.forHere, h]
  have hown : (s.deliver p f).net.nodeAddr? = some f.dest := (s.deliver_nodeAddr? p f).trans h
  rw [State.dispose, hhere, if_pos rfl, Net.decide, if_pos hown]

theorem State.deliver_of_unknown (h : f.kind? = none) :
    s.deliver p f = s.countPort p (fun k => { k with unknownKinds := k.unknownKinds + 1 }) := by
  rw [State.deliver, h]

theorem State.deliver_of_unfit {k : FrameKind} (hk : f.kind? = some k) (h : ¬ k.takesPayload f.payload) :
    s.deliver p f = s.countPort p (fun k => { k with payloadErrors := k.payloadErrors + 1 }) := by
  rw [State.deliver, hk]
  exact if_neg (mt (payloadFits_iff k f.payload).mp h)

/-- Kinds that no block of a node owns: a local copy is discarded and counted (R87). -/
theorem State.hand_noOwner {k : FrameKind} (h : k ∈ [FrameKind.refugeBreach, .refugeAir, .grant, .wait, .refuseEntry,
    .withdraw, .proximity, .evacNotice, .musterReport, .airReport, .vehicleTelemetry, .unitTelemetry, .response,
    .nodeStatus, .locateReport]) : s.hand p f k = s.countPort p (fun k => { k with noOwner := k.noOwner + 1 }) := by
  cases k with
  | refugeBreach | refugeAir | grant | wait | refuseEntry | withdraw | proximity | evacNotice | musterReport | airReport
  | vehicleTelemetry | unitTelemetry | response | nodeStatus | locateReport => rfl
  | _ => exact absurd h (by decide)

/-- Kinds that the leg table or the learn step has already dealt with (R87). -/
theorem State.hand_dealtWith {k : FrameKind} (h : k ∈ [FrameKind.voice, .announce, .callSetup, .callAlerting,
    .callAnswer, .callClear]) : s.hand p f k = s := by
  cases k with
  | voice | announce | callSetup | callAlerting | callAnswer | callClear => rfl
  | _ => exact absurd h (by decide)

end

/-- Settles O47: the walk is taken apart at the relay list, the destination decision (`State.dispose_via`,
`State.dispose_broadcast`) and local delivery, each with its own lemmas. -/
theorem walkForwardsFrames : Obligations.WalkForwardsFrames := by
  refine ⟨fun s p f => ?_, fun s p f hown => ?_, fun s p f => ?_, fun s p f => ⟨s.inspected_eq p f, s.inspect_of_unfit p f⟩⟩
  · intro g e held
    obtain ⟨hhopped, hrelay, haddr⟩ := s.hopped_eq p f g e rfl rfl
    have hholds : relayHolds e.net.relay g.src g.seq = true ↔ held := by rw [hrelay]; exact relayHolds_iff ..
    have hrelayed : e.relayed p g = if f.cls = .alarm then
        if relayHolds e.net.relay g.src g.seq then
          e.countPort p (fun k => { k with duplicateAlarms := k.duplicateAlarms + 1 })
        else if e.nodeAddr? = some f.src then e.ownReturn p g
        else ({ e with net := { e.net with relay := relayAdd e.net.relay f.src f.seq } } : State).ownReturn p g
      else e.ownReturn p g := rfl
    have hreturns (h : s.nodeAddr? = some f.src) :
        e.ownReturn p g = e.countPort p (fun k => { k with ownReturns := k.ownReturns + 1 }) :=
      if_pos (haddr.trans h)
    refine ⟨fun halarm hheld => ?_, fun hnew hsrc => ?_, fun halarm hnew hsrc => ?_, fun hcls hsrc => ?_⟩
    · rw [hhopped, hrelayed, if_pos halarm, if_pos (hholds.mpr hheld)]
    · rw [hhopped, hrelayed]
      by_cases halarm : f.cls = .alarm
      · rw [if_pos halarm, if_neg (mt hholds.mp (hnew.resolve_left (not_not_intro halarm))), if_pos (haddr.trans hsrc),
          hreturns hsrc]
      · rw [if_neg halarm, hreturns hsrc]
    · have hnot : relayHolds e.net.relay f.src f.seq = false := Bool.eq_false_iff.mpr (mt hholds.mp hnew)
      rw [hhopped, hrelayed, if_pos halarm, if_neg (mt hholds.mp hnew), if_neg (haddr ▸ hsrc), relayAdd_of_new hnot, hrelay]
      exact if_neg (haddr ▸ hsrc)
    · rw [hhopped, hrelayed, if_neg hcls]
      exact if_neg (haddr ▸ hsrc)
  · refine ⟨fun hdest => ?_, fun hdest hnone => ?_, fun e hdest he => ?_⟩
    · obtain ⟨hhop, hout, hlost⟩ := s.dispose_broadcast p f hdest _ rfl _ rfl
      refine ⟨hhop, fun h ho => hout h (ho.imp_right f.fits_iff.mpr), fun h hn hd => hlost h hn ?_⟩
      exact Bool.eq_false_iff.mpr (mt f.fits_iff.mp hd)
    · exact s.dispose_unknown p f hown hdest (fun e he => by rw [hnone] at he; cases he)
    · obtain ⟨houtbye, hinbye, hradio, hfield⟩ := s.dispose_via p f hown hdest he
      refine ⟨hradio, hfield, houtbye, hinbye, fun hl => s.dispose_unknown p f hown hdest fun x hx => ?_⟩
      obtain rfl := Option.some.inj (hx.symm.trans he)
      exact hl
  · intro coded foreign beacon
    refine ⟨s.dispose_here p f, f.kind?_eq, fun h => s.deliver_of_unknown p f (f.kind?_eq.trans h), fun k hcoded => ?_⟩
    have hk : f.kind? = some k := f.kind?_eq.trans hcoded
    refine ⟨s.deliver_of_unfit p f hk, fun hfits => ?_⟩
    rw [State.deliver_of_fits hk ((payloadFits_iff k f.payload).mpr hfits)]
    refine ⟨s.hand_noOwner p f, s.hand_dealtWith p f, ?_⟩
    rintro rfl
    refine ⟨fun hno => ?_, fun hsome hsurface => ?_, fun hsome hsurface => ?_⟩
    · rw [State.hand, State.ifAddressed, hno]
    · rw [State.hand, State.ifAddressed_of_isSome hsome]
      exact if_pos hsurface
    · rw [State.hand, State.ifAddressed_of_isSome hsome]
      exact if_neg (hsurface ▸ Bool.false_ne_true)

end Sys2Proof.Machine
end

section

set_option Elab.async false

/-! PROOF. What a port sends next, and the header, the bytes and the way of a frame that the node originates (R72 to R74,
R91, R159 to R163). -/

namespace Sys2Proof.Machine

/-! ### The service choice (R162, R163) -/

section

variable {e : Egress} {banks : Banks} {shed : Nat} {p : Port} {via : Byte} {f : Frame} {rest : List Frame}

theorem Egress.choose_busy (h : e.sending.isSome = true) : e.choose banks shed p via = e := by
  obtain ⟨t, ht⟩ := Option.isSome_iff_exists.mp h
  rw [Egress.choose, ht]

theorem Egress.choose_response (hfree : e.sending = none) (h : e.ahead = some f) :
    e.choose banks shed p via = { e with ahead := none, sending := some ⟨f, f.wire p via, true⟩ } := by
  rw [Egress.choose, hfree, h]
  rfl

theorem Egress.choose_free (hfree : e.sending = none) (hahead : e.ahead = none) : e.choose banks shed p via
    = if e.queues.alarm.isEmpty then
        match planSearch banks shed e.queues 32 ⟨e.active, e.position, e.pendingBank⟩ with
        | some (c, x) =>
          Egress.serve { e with active := x.active, position := x.position, pendingBank := x.pending } p via c
        | none => e
      else e.serve p via .alarm := by
  rw [Egress.choose, hfree, hahead] <;> rfl

theorem Egress.serve_eq {c : TrafficClass} (h : e.queues.get c = f :: rest) : e.serve p via c
    = { e with queues := e.queues.set c rest, sending := some ⟨f, f.wire p via, false⟩ } := by
  rw [Egress.serve, h]
  rfl

theorem Egress.choose_alarm (hfree : e.sending = none) (hahead : e.ahead = none) (h : e.queues.alarm = f :: rest) :
    e.choose banks shed p via
      = { e with queues := { e.queues with alarm := rest }, sending := some ⟨f, f.wire p via, false⟩ } := by
  rw [Egress.choose_free hfree hahead, if_neg (by simp [h]), Egress.serve_eq (c := .alarm) h]
  rfl

theorem Egress.choose_planned {c : TrafficClass} {y : PlanPlace} (hfree : e.sending = none) (hahead : e.ahead = none)
    (halarm : e.queues.alarm = [])
    (hfound : planSearch banks shed e.queues 32 ⟨e.active, e.position, e.pendingBank⟩ = some (c, y))
    (h : e.queues.get c = f :: rest) : e.choose banks shed p via = { e with
      queues := e.queues.set c rest, active := y.active, position := y.position, pendingBank := y.pending
      sending := some ⟨f, f.wire p via, false⟩ } := by
  rw [Egress.choose_free hfree hahead, if_pos (by simp [halarm]), hfound]
  exact Egress.serve_eq (e := { e with active := y.active, position := y.position, pendingBank := y.pending }) h

end

theorem Net.viaByte_setPort (n : Net) (p : Port) (x : PortState) : (n.setPort p x).viaByte = n.viaByte :=
  Net.viaByte_of_straps (n.setPort_kept p x).1

/-- An UP port that has been rewritten makes its choice. -/
theorem Net.choose_setPort (n : Net) (shed : Nat) (p : Port) {x : PortState} (hup : x.up = true) :
    (n.setPort p x).choose shed p = n.setPort p { x with egress := x.egress.choose n.banks shed p n.viaByte } := by
  have hbanks : (n.setPort p x).banks = n.banks := by simp
  have hport : (n.setPort p x).port p = x := by simp
  rw [Net.choose_eq, hport, Net.setPort_setPort, hbanks, n.viaByte_setPort, PortState.chosen, if_pos hup]

/-! ### A frame has been sent, a frame is offered (R160, R162) -/

/-- A port that has just sent its frame, before its next choice. -/
def PortState.emptied (x : PortState) : PortState :=
  { x with
    counters := { x.counters with framesSent := x.counters.framesSent + 1 }
    egress := { x.egress with sending := none } }

theorem Net.count_setPort (n : Net) (p : Port) (x : PortState) (f : PortCounters → PortCounters) :
    (n.setPort p x).count p f = n.setPort p { x with counters := f x.counters } := by
  cases p <;> rfl

theorem State.frameGone_eq {s : State} {p : Port} {t : Transmission} (h : (s.net.port p).egress.sending = some t)
    (hrestart : t.restart = false) :
    s.frameGone p = { s with net := (s.net.setPort p (s.net.port p).emptied).choose s.supply.shedLevel p } := by
  have hcleared : (s.clearSending p).countPort p (fun k => { k with framesSent := k.framesSent + 1 })
      = { s with net := s.net.setPort p (s.net.port p).emptied } :=
    congrArg (fun n => ({ s with net := n } : State)) (s.net.count_setPort ..)
  rw [State.frameGone, h]
  dsimp only
  rw [hrestart, hcleared]
  rfl

theorem exec_frameSent_idle {s : State} {p : Port} (h : (s.net.port p).egress.sending = none) :
    exec (.frameSent p) s = .next { s with scratch := {} }.settled := by
  refine exec_settled ?_ rfl
  show ({ s with scratch := {} } : State).frameGone p = _
  rw [State.frameGone]
  dsimp only
  rw [h]

theorem exec_frameSent {s : State} {p : Port} {t : Transmission} (h : (s.net.port p).egress.sending = some t)
    (hrestart : t.restart = false) (hup : (s.net.port p).up = true) {e : Egress}
    (he : ({ (s.net.port p).egress with sending := none } : Egress).choose s.net.banks s.supply.shedLevel p s.net.viaByte = e) :
    exec (.frameSent p) s = .next ({ s with
      scratch := {}
      net := s.net.setPort p { s.net.port p with
        counters := { (s.net.port p).counters with framesSent := (s.net.port p).counters.framesSent + 1 }
        egress := e } } : State).settled := by
  refine exec_settled ?_ rfl
  show ({ s with scratch := {} } : State).frameGone p = _
  have hchosen : (s.net.setPort p (s.net.port p).emptied).choose s.supply.shedLevel p = s.net.setPort p
      { (s.net.port p).emptied with egress := e } := by
    rw [s.net.choose_setPort _ _ (x := (s.net.port p).emptied) hup, ← he]
    rfl
  rw [State.frameGone_eq (s := { s with scratch := {} }) h hrestart]
  dsimp only
  rw [hchosen]
  rfl

/-- Which frames a port drops at their queue: those of a full class that does not give up its oldest (R159, R160). -/
theorem Egress.takes_eq_false (e : Egress) (f : Frame) : e.takes f = false
    ↔ ((f.cls = .signal ∨ f.cls = .air) ∧ 8 ≤ (e.queues.get f.cls).length ∨ f.cls = .mgmt ∧ 4 ≤ (e.queues.get f.cls).length)
      ∧ (f.cls = .air → ∀ y ∈ e.queues.get f.cls, y.src ≠ f.src) := by
  rw [Egress.takes_eq_false_iff]
  cases hcls : f.cls with
  | alarm | voice | telem | signal | air | mgmt => simp [queueCapacity, dropsOldest, and_comm]

/-! ### The bytes of a frame (R72 to R74) -/

theorem byteOf_append {n m : Nat} (h : n + m = 8) (a : BitVec n) (b : BitVec m) :
    byteOf (a.toNat * 2 ^ m + b.toNat) = (a ++ b).cast h := by
  apply BitVec.eq_of_toNat_eq
  have hlt : a.toNat * 2 ^ m + b.toNat < 256 := by
    have ha := a.isLt
    have hb := b.isLt
    have hpow : 2 ^ n * 2 ^ m = 256 := by rw [← pow_add, h]; rfl
    nlinarith
  rw [byteOf, BitVec.toNat_ofNat, Nat.mod_eq_of_lt hlt, BitVec.toNat_cast, BitVec.toNat_append,
    ← Nat.shiftLeft_add_eq_or_of_lt b.isLt, Nat.shiftLeft_eq]

theorem Frame.wire_eq (f : Frame) (p : Port) (via : Byte) :
    f.wire p via = withCheck ([byteOf (f.cls.code.toNat * 32 + f.kind.toNat),
        byteOf ((if p = .radio then 0 else f.hop.toNat) * 8)]
      ++ wordBytes f.dest ++ wordBytes f.src ++ (if p = .radio then [via] else []) ++ [f.seq, byteOf f.payload.length]
      ++ f.payload) := by
  have hfirst : byteOf (f.cls.code.toNat * 32 + f.kind.toNat) = f.cls.code ++ f.kind :=
    (byteOf_append (n := 3) (m := 5) rfl _ _).trans (BitVec.cast_eq ..)
  have hhop : byteOf ((if p = .radio then 0 else f.hop.toNat) * 8)
      = (if p = .radio then (0 : BitVec 5) else f.hop) ++ (0 : BitVec 3) := by
    split
    · rfl
    · exact (byteOf_append (n := 5) (m := 3) rfl f.hop 0).trans (BitVec.cast_eq ..)
  rw [hfirst, hhop]
  rfl

/-! ### Frames that the node originates (R83, R91) -/

theorem codes_of_kindsIn {c : TrafficClass} {j : Nat} {k : FrameKind} (h : (kindsIn c)[j]? = some k) :
    k.codes = (c, BitVec.ofNat 5 (j + 1)) := by
  have hall : ∀ c : TrafficClass, ∀ j : Fin 15, ∀ k ∈ (kindsIn c)[j.val]?, k.codes = (c, BitVec.ofNat 5 (j.val + 1)) := by
    intro c
    cases c with
    | alarm | voice | signal | air | telem | mgmt => decide
  have hlength : (kindsIn c).length ≤ 15 := by
    cases c with
    | alarm | voice | signal | air | telem | mgmt => decide
  have hj : j < 15 := (List.getElem?_eq_some_iff.mp h).1.trans_le hlength
  exact hall c ⟨j, hj⟩ k h

theorem relayAdd_eq (l : List RelayEntry) (a : Addr) (q : Byte) : relayAdd l a q
    = if l.any (fun x => x.origin == a && x.seq == q) then l
      else (if l.length < 16 then l else l.drop 1) ++ [⟨a, q, 0⟩] := by
  cases h : relayHolds l a q with
  | true =>
    have hany : l.any (fun x => x.origin == a && x.seq == q) = true := h
    rw [relayAdd, if_pos h, if_pos hany]
  | false =>
    have hany : ¬ l.any (fun x => x.origin == a && x.seq == q) = true := Bool.eq_false_iff.mp h
    rw [relayAdd_of_new h, if_neg hany]

/-- The engine after a message of class `c` got the sequence `q` of the node's own address. -/
def Net.numbered (n : Net) (own : Addr) (c : TrafficClass) (q : Byte) : Net :=
  if c = .alarm then { n with
    alarmSeq := q
    relay := if n.relay.any (fun x => x.origin == own && x.seq == q) then n.relay
      else (if n.relay.length < 16 then n.relay else n.relay.drop 1) ++ [⟨own, q, 0⟩] }
  else { n with frameSeq := q }

/-- The frame of a message of the node's own (R91). -/
def Net.ownFrame (n : Net) (own : Addr) (c : TrafficClass) (j : Nat) (m : Message) : Frame :=
  ⟨c, BitVec.ofNat 5 (j + 1), 31, m.dest, own, (if c = .alarm then n.alarmSeq else n.frameSeq) + 1, m.payload⟩

theorem Net.header_eq (n : Net) (own : Addr) {m : Message} {c : TrafficClass} {j : Nat}
    (h : (kindsIn c)[j]? = some m.kind) :
    n.header own m = (n.ownFrame own c j m, n.numbered own c (n.ownFrame own c j m).seq) := by
  rw [Net.header, codes_of_kindsIn h]
  dsimp only
  by_cases hc : c = .alarm
  · rw [if_pos hc, Net.ownFrame, Net.numbered, if_pos hc, if_pos hc, relayAdd_eq]
  · rw [if_neg hc, Net.ownFrame, Net.numbered, if_neg hc, if_neg hc]

theorem Net.numbered_port (n : Net) (own : Addr) (c : TrafficClass) (q : Byte) (p : Port) :
    (n.numbered own c q).port p = n.port p := by
  unfold Net.numbered
  split
  · cases p <;> rfl
  · cases p <;> rfl

theorem Net.numbered_nodeAddr? (n : Net) (own : Addr) (c : TrafficClass) (q : Byte) :
    (n.numbered own c q).nodeAddr? = n.nodeAddr? := by
  unfold Net.numbered
  split
  · rfl
  · rfl

/-- The backbone ports that are UP. -/
def Net.upPorts (n : Net) : List Port := [Port.outbye, .inbye].filter (fun q => (n.port q).up)

theorem Net.floodPorts_none (n : Net) : n.floodPorts none = n.upPorts := by
  unfold Net.floodPorts Net.upPorts
  show _ = [Port.outbye, .inbye].filter (fun q => (n.port q).up)
  rw [List.filter_cons, List.filter_cons, List.filter_nil]
  show _ = if n.outbye.up = true then Port.outbye :: (if n.inbye.up = true then [Port.inbye] else [])
    else (if n.inbye.up = true then [Port.inbye] else [])
  cases n.outbye.up <;> cases n.inbye.up <;> rfl

section

variable (n : Net) (l : List Entry) (shed : Nat) {f : Frame} (hhop : f.hop ≠ 0)
include hhop

/-- A frame of the node's own that is broadcast (R86, R88): with no port to go out of, nothing is counted. -/
theorem Net.decide_own_broadcast (hown : n.nodeAddr? ≠ some f.dest) (hdest : f.dest = broadcast) :
    n.decide l shed none f
      = n.offerAll shed (n.upPorts ++ (if f.cls = .alarm ∨ f.isKind .evacNotice = true then [.radio] else [])) f := by
  have hradio : broadcastOnRadio none f = true ↔ f.cls = .alarm ∨ f.isKind .evacNotice = true := by
    simp [broadcastOnRadio]
  rw [Net.decide, if_neg hown, if_pos hdest, if_neg hhop, Net.sendBroadcast, n.floodPorts_none, if_congr hradio rfl rfl]
  generalize n.upPorts ++ _ = ports
  split
  next hnone =>
    rw [List.isEmpty_iff.mp (Bool.and_eq_true_iff.mp hnone).1]
    rfl
  · rfl

omit hhop in
theorem Net.flood_own : n.flood shed none f = n.offerAll shed n.upPorts f := by
  rw [Net.flood, n.floodPorts_none]
  split
  next hnone =>
    rw [List.isEmpty_iff.mp hnone]
    rfl
  · rfl

/-- A frame of the node's own for one station goes where the table has that station (R86, R88, R89). -/
theorem Net.decide_own (hown : n.nodeAddr? ≠ some f.dest) (hdest : f.dest ≠ broadcast) :
    n.decide l shed none f = match (findEntry l f.dest).map (·.location) with
      | some .radioHere => n.offer shed .radio f
      | some .fieldHere => n
      | some .viaOutbye => n.sendTo shed .outbye f
      | some .viaInbye => n.sendTo shed .inbye f
      | some .unknown => n.offerAll shed n.upPorts f
      | none => n.offerAll shed n.upPorts f := by
  rw [Net.decide, if_neg hown, if_neg hdest]
  cases findEntry l f.dest with
  | none => exact (if_neg hhop).trans (n.flood_own shed)
  | some e =>
    dsimp only [Option.map_some]
    cases e.location with
    | fieldHere => rfl
    | radioHere => exact if_neg hhop
    | viaOutbye => exact if_neg hhop
    | viaInbye => exact if_neg hhop
    | unknown => exact (if_neg hhop).trans (n.flood_own shed)

end

/-- What the engine does with a message of the node's own, by class and destination (R86, R91). -/
theorem State.originate_numbered {s : State} {m : Message} {own : Addr} {c : TrafficClass} {j : Nat}
    (hown : s.nodeAddr? = some own) (hkind : (kindsIn c)[j]? = some m.kind) (f : Frame) (n : Net)
    (hf : f = s.net.ownFrame own c j m) (hn : n = s.net.numbered own c f.seq) :
    n.nodeAddr? = some own ∧ (∀ q, n.port q = s.net.port q)
    ∧ s.originate m = { s with net := n.decide s.table.entries s.supply.shedLevel none f }
    ∧ ∀ q, s.originateTo q m = { s with net := n.sendTo s.supply.shedLevel q f } := by
  have hheader : s.net.header own m = (f, n) := by
    rw [s.net.header_eq own hkind, hn, hf]
  have haddr : n.nodeAddr? = some own := by rw [hn, Net.numbered_nodeAddr?]; exact hown
  have hnet : s.net.nodeAddr? = some own := hown
  refine ⟨haddr, fun q => by rw [hn, Net.numbered_port], ?_, fun q => ?_⟩
  · rw [State.originate, Net.originate, hnet]
    dsimp only
    rw [hheader]
  · rw [State.originateTo, Net.originateTo, hnet]
    dsimp only
    rw [hheader]

/-- Settles O50: the service choice case by case, and an originated frame by its header (`Net.header_eq`) and its
destination (`Net.decide_own`). -/
theorem frameSentMakesNextChoice : Obligations.FrameSentMakesNextChoice := by
  refine ⟨fun s p => ?_, fun n shed p f hup => ?_, fun e banks shed p via => ?_, fun f p via => ?_, fun s m => ⟨fun hno => ?_, ?_⟩⟩
  · intro x e sent out
    refine ⟨exec_frameSent_idle, fun t ht hrestart hup => ?_⟩
    refine ⟨fun f hf => exec_frameSent ht hrestart hup (Egress.choose_response rfl hf), fun hahead => ?_⟩
    refine ⟨fun f rest hq => exec_frameSent ht hrestart hup (Egress.choose_alarm rfl hahead hq), fun halarm => ?_⟩
    refine ⟨fun hnone => exec_frameSent ht hrestart hup ?_, fun c y f rest hfound hq =>
      exec_frameSent ht hrestart hup (Egress.choose_planned rfl hahead halarm hfound hq)⟩
    exact Egress.choose_of_fruitless (e := { e with sending := none }) rfl hahead halarm hnone p s.net.viaByte
  · intro x q full dropped put
    have htakes : x.egress.takes f = false ↔ dropped := x.egress.takes_eq_false f
    have hput : n.setEgress p (x.egress.enqueue f) = put (x.egress.enqueue f) := rfl
    refine ⟨fun hdropped => ?_, fun hkept => ?_⟩
    · rw [Net.offer, htakes.mpr hdropped]
      rfl
    · have htaken : x.egress.takes f = true := Bool.not_eq_false _ ▸ mt htakes.mp hkept
      rw [Net.offer, htaken, if_pos rfl, hput]
      exact n.choose_setPort shed p (x := { x with egress := x.egress.enqueue f }) hup
  · intro u out found
    refine ⟨Egress.choose_busy, fun hfree => ⟨fun f => Egress.choose_response hfree, fun f rest =>
      Egress.choose_alarm hfree, fun hahead halarm hnone => Egress.choose_of_fruitless hfree hahead halarm hnone p via,
      fun c y f rest => Egress.choose_planned hfree⟩⟩
  · intro hop header
    rw [f.wire_eq, withCheck]
  · have hnet : s.net.nodeAddr? = none := hno
    exact ⟨by rw [State.originate, Net.originate, hnet], fun q => by rw [State.originateTo, Net.originateTo, hnet]⟩
  · intro own c j hown hkind f young n up out via
    obtain ⟨haddr, hports, horiginate, hto⟩ := State.originate_numbered hown hkind f n rfl rfl
    have hdest : f.dest = m.dest := rfl
    have hhop : f.hop ≠ 0 := (by decide : (31 : BitVec 5) ≠ 0)
    have hup : n.upPorts = up := by
      refine List.filter_congr fun q _ => ?_
      rw [hports]
    have hvia (q : Port) : ({ s with net := n.sendTo s.supply.shedLevel q f } : State) = via q := by
      rw [Net.sendTo, hports]
      show _ = if (s.net.port q).up = true then _ else _
      split
      · rfl
      · rfl
    refine ⟨fun q => (hto q).trans (hvia q), fun hself => ?_, fun hbroadcast => ?_, fun hother hsingle => ?_⟩
    · rw [horiginate, Net.decide, if_pos (by rw [haddr, hdest, hself])]
      rfl
    · have hne : n.nodeAddr? ≠ some f.dest := by
        rw [haddr, hdest, hbroadcast, ← hown]
        exact s.nodeAddr?_ne_broadcast
      have hnotice : f.isKind .evacNotice = true ↔ m.kind = .evacNotice := by
        have hcodes := codes_of_kindsIn hkind
        rw [Frame.isKind, kind?_of_codes (k := m.kind) (by rw [hcodes]) (by rw [hcodes])]
        simp
      rw [horiginate, n.decide_own_broadcast _ _ hhop hne hbroadcast, hup, if_congr (or_congr Iff.rfl hnotice) rfl rfl]
      rfl
    · have hne : n.nodeAddr? ≠ some f.dest := by
        rw [haddr]
        exact fun h => hother (Option.some.inj h).symm
      rw [n.decide_own _ _ hhop hne hsingle, hup] at horiginate
      refine ⟨fun hnone => ?_, fun e he => ?_⟩
      · have hentry : findEntry s.table.entries f.dest = none := hnone
        rw [horiginate, hentry]
        rfl
      · have hentry : findEntry s.table.entries f.dest = some e := he
        rw [horiginate, hentry]
        refine ⟨fun hl => ?_, fun hl => ?_, fun hl => ?_, fun hl => ?_, fun hl => ?_⟩
        · rw [Option.map_some, hl]
          rfl
        · rw [Option.map_some, hl]
          rfl
        · rw [Option.map_some, hl]
          exact hvia .outbye
        · rw [Option.map_some, hl]
          exact hvia .inbye
        · rw [Option.map_some, hl]
          rfl

end Sys2Proof.Machine
end

section

set_option Elab.async false

/-! PROOF. A machine that has just restarted: the frames in its queues are its own notices (R93, R175). -/

namespace Sys2Proof.Machine

/-! ### A port that holds notices of the node's own alone -/

/-- A port's egress side on its active bank, with nothing pending, whose frames are of source `own`. -/
structure Egress.HoldsOwn (own : Option Addr) (k : Bank) (e : Egress) : Prop where
  active : e.active = k
  pending : e.pendingBank = none
  ahead : e.ahead = none
  queues : ∀ c, ∀ f ∈ e.queues.get c, own = some f.src
  sending : ∀ t ∈ e.sending, own = some t.frame.src ∧ t.restart = false

theorem planSearch_place {banks : Banks} {shed : Nat} {q : Queues} {c : TrafficClass} {y : PlanPlace} (fuel : Nat) :
    ∀ {x : PlanPlace}, x.pending = none → planSearch banks shed q fuel x = some (c, y) →
      y.active = x.active ∧ y.pending = none := by
  have hwrap {x : PlanPlace} (h : x.pending = none) : x.wrap.active = x.active ∧ x.wrap.pending = none := by
    rw [PlanPlace.wrap, h]
    exact ⟨rfl, rfl⟩
  have hadvance {x : PlanPlace} (h : x.pending = none) : x.advance.active = x.active ∧ x.advance.pending = none := by
    unfold PlanPlace.advance
    split
    · exact hwrap h
    · exact ⟨rfl, h⟩
  induction fuel with
  | zero => exact fun _ h => by cases h
  | succ fuel ih =>
    intro x hx h
    rw [planSearch] at h
    split at h
    · cases h
      exact hadvance hx
    · have hnext : ∀ z : PlanPlace, z.active = x.active ∧ z.pending = none →
          planSearch banks shed q fuel z = some (c, y) → y.active = x.active ∧ y.pending = none := by
        rintro z ⟨hactive, hpending⟩ hz
        obtain ⟨hy, hnone⟩ := ih hpending hz
        exact ⟨hy.trans hactive, hnone⟩
      split at h
      · exact hnext _ (hwrap hx) h
      · exact hnext _ (hadvance hx) h

section

variable {own : Option Addr} {k : Bank} {e : Egress} (h : e.HoldsOwn own k)
include h

theorem Egress.HoldsOwn.setQueue {c : TrafficClass} {l : List Frame} (hl : ∀ f ∈ l, own = some f.src) :
    (e.setQueue c l).HoldsOwn own k := by
  refine ⟨h.active, h.pending, h.ahead, fun d => ?_, h.sending⟩
  rw [Egress.setQueue, Queues.get_set]
  split
  · exact hl
  · exact h.queues d

theorem Egress.HoldsOwn.counted (x : EgressCounters) : ({ e with counters := x } : Egress).HoldsOwn own k :=
  ⟨h.active, h.pending, h.ahead, h.queues, h.sending⟩

theorem Egress.HoldsOwn.enqueue {f : Frame} (hf : own = some f.src) : (e.enqueue f).HoldsOwn own k := by
  have hqueue := h.queues f.cls
  have hpush {l : List Frame} (hl : ∀ x ∈ l, x ∈ e.queues.get f.cls) : ∀ x ∈ l ++ [f], own = some x.src := by
    intro x hx
    rcases List.mem_append.mp hx with hx | hx
    · exact hqueue x (hl x hx)
    · rwa [List.mem_singleton.mp hx]
  unfold Egress.enqueue
  dsimp only
  split
  · refine (h.setQueue fun x hx => ?_).counted _
    rcases mem_replaceSameSource hx with rfl | hx
    · exact hf
    · exact hqueue x hx
  · split
    · exact h.setQueue (hpush fun _ hx => hx)
    · split
      · exact (h.setQueue (hpush fun _ hx => List.mem_of_mem_drop hx)).counted _
      · exact h.counted _

theorem Egress.HoldsOwn.serve (p : Port) (via : Byte) (c : TrafficClass) : (e.serve p via c).HoldsOwn own k := by
  cases hq : e.queues.get c with
  | nil =>
    rw [Egress.serve, hq]
    exact h
  | cons f rest =>
    have hall := h.queues c
    rw [hq] at hall
    have hset := h.setQueue (c := c) (l := rest) fun x hx => hall x (List.mem_cons_of_mem _ hx)
    rw [Egress.serve_eq hq]
    refine ⟨hset.active, hset.pending, hset.ahead, hset.queues, fun t ht => ?_⟩
    cases ht
    exact ⟨hall f List.mem_cons_self, rfl⟩

theorem Egress.HoldsOwn.choose (banks : Banks) (shed : Nat) (p : Port) (via : Byte) :
    (e.choose banks shed p via).HoldsOwn own k := by
  by_cases hfree : e.sending = none
  · rw [Egress.choose_free hfree h.ahead]
    split
    · split
      next c y hfound =>
        obtain ⟨hactive, hpending⟩ := planSearch_place 32 h.pending hfound
        exact Egress.HoldsOwn.serve (e := { e with active := y.active, position := y.position, pendingBank := y.pending })
          ⟨hactive.trans h.active, hpending, h.ahead, h.queues, h.sending⟩ p via c
      · exact h
    · exact h.serve p via .alarm
  · rw [Egress.choose_busy (Option.isSome_iff_ne_none.mpr hfree)]
    exact h

end

/-! ### The engine -/

/-- The engine `m` is the engine `n` but for notices of the node's own, in queues, going out, and in the relay list. -/
structure Net.OwnSent (n m : Net) : Prop where
  straps : m.straps = n.straps
  banks : m.banks = n.banks
  tick : m.relayTick = n.relayTick
  up : ∀ p, (m.port p).up = (n.port p).up
  counters : ∀ p, (m.port p).counters = (n.port p).counters
  egress : ∀ p, (m.port p).egress.HoldsOwn n.nodeAddr? (n.port p).egress.active
  relay : ∀ e ∈ m.relay, n.nodeAddr? = some e.origin ∧ e.age = 0

section

variable {n m : Net} (h : n.OwnSent m)
include h

theorem Net.OwnSent.setEgress {p : Port} {e : Egress} (he : e.HoldsOwn n.nodeAddr? (n.port p).egress.active) :
    n.OwnSent (m.setEgress p e) := by
  obtain ⟨hstraps, hbanks, hrelay, htick, -, -, hports⟩ := m.setEgress_kept p e
  refine ⟨hstraps.trans h.straps, hbanks.trans h.banks, htick.trans h.tick, fun q => (hports q).1.trans (h.up q),
    fun q => (hports q).2.trans (h.counters q), fun q => ?_, hrelay ▸ h.relay⟩
  rw [Net.setEgress, Net.port_setPort]
  split
  next hq => exact hq ▸ he
  · exact h.egress q

theorem Net.OwnSent.choose (shed : Nat) (p : Port) : n.OwnSent (m.choose shed p) := by
  unfold Net.choose
  split
  · exact h.setEgress ((h.egress p).choose ..)
  · exact h

theorem Net.OwnSent.offer (shed : Nat) (p : Port) {f : Frame} (hf : n.nodeAddr? = some f.src) :
    n.OwnSent (m.offer shed p f) := by
  have hput := h.setEgress ((h.egress p).enqueue hf)
  unfold Net.offer
  dsimp only
  split
  · exact hput.choose shed p
  · exact hput

omit h in
theorem Net.OwnSent.offerAll (shed : Nat) (ports : List Port) {f : Frame} (hf : n.nodeAddr? = some f.src) :
    ∀ {m : Net}, n.OwnSent m → n.OwnSent (m.offerAll shed ports f) := by
  induction ports with
  | nil => exact fun h => h
  | cons p ports ih => exact fun h => ih (h.offer shed p hf)

theorem Net.OwnSent.nodeAddr? : m.nodeAddr? = n.nodeAddr? := Net.nodeAddr?_of_straps h.straps

theorem Net.OwnSent.header {own : Addr} (hown : n.nodeAddr? = some own) (x : Message) :
    n.OwnSent (m.header own x).2 ∧ (m.header own x).1.src = own ∧ (m.header own x).1.hop ≠ 0 := by
  have hadd (q : Byte) : ∀ e ∈ relayAdd m.relay own q, n.nodeAddr? = some e.origin ∧ e.age = 0 := by
    intro e he
    rw [relayAdd_eq] at he
    split at he
    · exact h.relay e he
    · rcases List.mem_append.mp he with he | he
      · split at he
        · exact h.relay e he
        · exact h.relay e (List.mem_of_mem_drop he)
      · rw [List.mem_singleton.mp he]
        exact ⟨hown, rfl⟩
  unfold Net.header
  dsimp only
  split
  · exact ⟨⟨h.straps, h.banks, h.tick, h.up, h.counters, h.egress, hadd _⟩, rfl, (by decide : (31 : BitVec 5) ≠ 0)⟩
  · exact ⟨⟨h.straps, h.banks, h.tick, h.up, h.counters, h.egress, h.relay⟩, rfl, (by decide : (31 : BitVec 5) ≠ 0)⟩

/-- A message of the node's own, sent over an empty station table, goes out of UP ports alone. -/
theorem Net.OwnSent.originate (shed : Nat) (x : Message) : n.OwnSent (m.originate [] shed x) := by
  unfold Net.originate
  split
  · exact h
  next own hown' =>
    have hown : n.nodeAddr? = some own := h.nodeAddr?.symm.trans hown'
    obtain ⟨hheader, hsrc, hhop⟩ := h.header hown x
    generalize m.header own x = y at hheader hsrc hhop
    have hf : n.nodeAddr? = some y.1.src := hsrc ▸ hown
    show n.OwnSent (y.2.decide [] shed none y.1)
    by_cases hself : y.2.nodeAddr? = some y.1.dest
    · rw [Net.decide, if_pos hself]
      exact hheader
    · by_cases hbroadcast : y.1.dest = broadcast
      · rw [y.2.decide_own_broadcast _ _ hhop hself hbroadcast]
        exact Net.OwnSent.offerAll shed _ hf hheader
      · rw [y.2.decide_own _ _ hhop hself hbroadcast]
        exact Net.OwnSent.offerAll shed _ hf hheader

end

/-- An engine without frames and relay entries. -/
theorem Net.OwnSent.refl {n : Net} (hpending : ∀ p, (n.port p).egress.pendingBank = none)
    (hports : ∀ p, (n.port p).egress.queues = {} ∧ (n.port p).egress.sending = none ∧ (n.port p).egress.ahead = none)
    (hrelay : n.relay = []) : n.OwnSent n := by
  refine ⟨rfl, rfl, rfl, fun _ => rfl, fun _ => rfl, fun p => ⟨rfl, hpending p, (hports p).2.2, fun c => ?_, fun t ht => ?_⟩, fun e he => ?_⟩
  · rw [(hports p).1, Queues.get_empty]
    exact fun _ hf => absurd hf List.not_mem_nil
  · rw [(hports p).2.1] at ht
    cases ht
  · rw [hrelay] at he
    cases he

end Sys2Proof.Machine
end

section

set_option Elab.async false

/-! PROOF. The grades of a machine that has just restarted: what a change of them brings (R29, R120, R139, R142) when
the station table, the leg table, the wait queue and the panels are empty. -/

namespace Sys2Proof.Machine

/-! ### Notices alone -/

/-- `t` is `w` but for notices of the node's own, counters and the flags of other groups than CALL and NODE. -/
structure State.NoticesOnly (w t : State) : Prop where
  table : t.table = w.table
  net : w.net.OwnSent t.net
  flags : ∀ g, g = .call ∨ g = .node → t.flags g = w.flags g

section

variable {w t : State} (h : w.NoticesOnly t)
include h

theorem State.NoticesOnly.unchanged {u : State} (htable : u.table = t.table) (hnet : u.net = t.net)
    (hattention : u.mgmt.attention = t.mgmt.attention) : w.NoticesOnly u :=
  ⟨htable.trans h.table, hnet ▸ h.net, fun g hg => (congrArg (fun a => a.get g) hattention).trans (h.flags g hg)⟩

theorem State.NoticesOnly.setFlag {f : Flag} (hcall : f.group ≠ .call) (hnode : f.group ≠ .node) :
    w.NoticesOnly (t.setFlag f) := by
  refine ⟨h.table, h.net, fun g hg => ?_⟩
  have hne : g ≠ f.group := by
    rintro rfl
    exact hg.elim hcall hnode
  rw [State.setFlag_flags_of_ne _ hne]
  exact h.flags g hg

end

section

variable {w : State} (hempty : w.table.entries = [])
include hempty

theorem State.NoticesOnly.originate {t : State} (h : w.NoticesOnly t) (m : Message) : w.NoticesOnly (t.originate m) := by
  have hentries : t.table.entries = [] := by rw [h.table, hempty]
  refine ⟨h.table, ?_, h.flags⟩
  rw [State.originate, hentries]
  exact h.net.originate _ m

theorem State.NoticesOnly.originateCounted {t : State} (h : w.NoticesOnly t) {count : State → State}
    (hcount : w.NoticesOnly (count t)) (m : Message) : w.NoticesOnly (t.originateCounted count m) := by
  unfold State.originateCounted
  split
  · exact h
  · exact State.NoticesOnly.originate hempty hcount m

variable {t : State} (h : w.NoticesOnly t)
include h

theorem State.NoticesOnly.sendWithdraw (v : Addr) : w.NoticesOnly (t.sendWithdraw v) := by
  unfold State.sendWithdraw
  split
  · exact h
  · refine State.NoticesOnly.originateCounted hempty h ?_ _
    exact State.NoticesOnly.unchanged (State.NoticesOnly.setFlag
      (t := { t with scratch := { t.scratch with withdrawn := v :: t.scratch.withdrawn } })
      (h.unchanged rfl rfl rfl) (by decide) (by decide)) rfl rfl rfl

theorem State.NoticesOnly.sendGrant (v : Addr) : w.NoticesOnly (t.sendGrant v) :=
  State.NoticesOnly.originateCounted hempty h (h.unchanged rfl rfl rfl) _

theorem State.NoticesOnly.gradeNotices (zone refuge : Bool) : w.NoticesOnly (t.gradeNotices zone refuge) := by
  have hfirst : w.NoticesOnly (if zone then t.originate (msgZoneGrade t.own t.air.zone t.causeChannel) else t) := by
    split
    · exact State.NoticesOnly.originate hempty h _
    · exact h
  unfold State.gradeNotices
  generalize (if zone then t.originate (msgZoneGrade t.own t.air.zone t.causeChannel) else t) = x at hfirst
  have hsecond : w.NoticesOnly (if refuge then x.originate (msgRefugeAir x.own x.air.refuge) else x) := by
    split
    · exact State.NoticesOnly.originate hempty hfirst _
    · exact hfirst
  dsimp only
  generalize (if refuge then x.originate (msgRefugeAir x.own x.air.refuge) else x) = y at hsecond
  split
  · exact (State.NoticesOnly.originate hempty hsecond _).unchanged rfl rfl rfl
  · exact hsecond

/-! ### The segment arbiter, with nobody waiting (R120, R129 to R131) -/

theorem State.NoticesOnly.segCloses (hqueue : t.seg.queue = []) : w.NoticesOnly t.segCloses := by
  unfold State.segCloses
  split
  · exact State.NoticesOnly.unchanged h (by simp [State.refuseAll, hqueue]) (by simp [State.refuseAll, hqueue])
      (by simp [State.refuseAll, hqueue])
  next v _ _ =>
    have hsent : w.NoticesOnly ((t.setSegState .draining).sendWithdraw v.vehicle) :=
      State.NoticesOnly.sendWithdraw hempty (State.NoticesOnly.unchanged (u := t.setSegState .draining) h rfl rfl rfl) _
    exact hsent.unchanged (by simp [State.refuseAll, hqueue]) (by simp [State.refuseAll, hqueue])
      (by simp [State.refuseAll, hqueue])
  · exact State.NoticesOnly.unchanged h (by simp [State.refuseAll, hqueue]) (by simp [State.refuseAll, hqueue])
      (by simp [State.refuseAll, hqueue])

theorem State.NoticesOnly.segOpens (hqueue : t.seg.queue = []) : w.NoticesOnly t.segOpens := by
  unfold State.segOpens
  split
  · rw [State.becomeFree_empty hqueue]
    exact h.unchanged rfl rfl rfl
  · exact State.NoticesOnly.sendGrant hempty
      (State.NoticesOnly.unchanged (u := (t.setSegState .held).startLease) h rfl rfl rfl) _
  · exact h

theorem State.NoticesOnly.segZone (hqueue : t.seg.queue = []) (old new : Grade) : w.NoticesOnly (t.segZone old new) := by
  have hcauses (c : Causes) : w.NoticesOnly (t.changeCauses c) := by
    have hset : w.NoticesOnly (t.setCauses c) := h.unchanged rfl rfl rfl
    unfold State.changeCauses
    dsimp only
    split
    · exact State.NoticesOnly.segCloses hempty hset hqueue
    · split
      · exact State.NoticesOnly.segOpens hempty hset hqueue
      · exact hset
  unfold State.segZone
  dsimp only
  split
  · split
    · exact State.NoticesOnly.sendWithdraw hempty (hcauses _) _
    · exact hcauses _
  · exact hcauses _

end

/-- The state of a segment whose cause set becomes not empty (R129). -/
def SegmentState.closing (x : SegmentState) (held : Bool) : SegmentState :=
  match x with
  | .free => .closed
  | .held => if held then .draining else .held
  | y => y

/-- The state of a segment whose cause set becomes empty, with nobody waiting (R131). -/
def SegmentState.opening (x : SegmentState) (held : Bool) : SegmentState :=
  match x with
  | .closed => .free
  | .draining => if held then .held else .draining
  | y => y

/-- The segment record after its causes were replaced, with nobody waiting (R120). -/
def Segment.recaused (g : Segment) (c : Causes) (lease : Timer) : Segment :=
  { g with
    causes := c
    state := if !g.causes.any && c.any then g.state.closing g.holder.isSome
      else if g.causes.any && !c.any then g.state.opening g.holder.isSome
      else g.state
    lease := if g.causes.any && !c.any && g.state == .draining && g.holder.isSome then lease else g.lease }

theorem State.sendWithdraw_seg (s : State) (v : Addr) : ∃ k, (s.sendWithdraw v).seg = { s.seg with counters := k } := by
  refine ⟨(s.sendWithdraw v).seg.counters, ?_⟩
  have h := s.sendWithdraw_frame v
  cases hg : (s.sendWithdraw v).seg
  simp only [hg] at h
  simp [h]

theorem State.sendGrant_seg (s : State) (v : Addr) : ∃ k, (s.sendGrant v).seg = { s.seg with counters := k } := by
  refine ⟨(s.sendGrant v).seg.counters, ?_⟩
  have h := s.sendGrant_frame v
  cases hg : (s.sendGrant v).seg
  simp only [hg] at h
  simp [h]

theorem Segment.restated (g : Segment) {x : SegmentState} (h : g.state = x) : g = { g with state := x } := by
  rw [← h]

section

variable {s : State} (hqueue : s.seg.queue = [])
include hqueue

theorem State.nobodyRefused : (s.refuseAll s.seg.queue).setSegQueue [] = s := by
  rw [hqueue]
  exact congrArg (fun q => ({ s with seg := { s.seg with queue := q } } : State)) hqueue.symm

theorem State.segCloses_seg : ∃ k, s.segCloses.seg
    = { s.seg with state := s.seg.state.closing s.seg.holder.isSome, counters := k } := by
  cases hstate : s.seg.state with
  | free =>
    refine ⟨s.seg.counters, ?_⟩
    simp only [State.segCloses, hstate]
    rw [State.nobodyRefused (s := s.setSegState .closed) hqueue]
    rfl
  | held =>
    cases hholder : s.seg.holder with
    | none =>
      refine ⟨s.seg.counters, ?_⟩
      simp only [State.segCloses, hstate, hholder]
      rw [State.nobodyRefused hqueue]
      have h := s.seg.restated hstate
      rw [hholder] at h
      exact h
    | some t =>
      obtain ⟨k, hk⟩ := (s.setSegState .draining).sendWithdraw_seg t.vehicle
      refine ⟨k, ?_⟩
      simp only [State.segCloses, hstate, hholder]
      rw [State.nobodyRefused (by rw [hk]; exact hqueue), hk]
      exact congrArg (fun x => ({ s.seg with state := .draining, holder := x, counters := k } : Segment)) hholder
  | draining | lost | closed =>
    refine ⟨s.seg.counters, ?_⟩
    simp only [State.segCloses, hstate]
    rw [State.nobodyRefused hqueue]
    exact s.seg.restated hstate

theorem State.segOpens_seg : ∃ k, s.segOpens.seg = { s.seg with
    state := s.seg.state.opening s.seg.holder.isSome
    lease := if s.seg.state == .draining && s.seg.holder.isSome then startTimer s.now s.params.lease.ms else s.seg.lease
    counters := k } := by
  cases hstate : s.seg.state with
  | closed =>
    refine ⟨s.seg.counters, ?_⟩
    simp only [State.segOpens, hstate]
    rw [State.becomeFree_empty hqueue]
    rfl
  | draining =>
    cases hholder : s.seg.holder with
    | none =>
      refine ⟨s.seg.counters, ?_⟩
      simp only [State.segOpens, hstate, hholder]
      have h := s.seg.restated hstate
      rw [hholder] at h
      exact h
    | some t =>
      obtain ⟨k, hk⟩ := ((s.setSegState .held).startLease).sendGrant_seg t.vehicle
      refine ⟨k, ?_⟩
      simp only [State.segOpens, hstate, hholder]
      rw [hk]
      exact congrArg (fun x => ({ s.seg with state := .held, holder := x, lease := startTimer s.now s.params.lease.ms,
                                             counters := k } : Segment)) hholder
  | free | held | lost =>
    refine ⟨s.seg.counters, ?_⟩
    simp only [State.segOpens, hstate]
    exact s.seg.restated hstate

end

theorem State.changeCauses_seg {s : State} (hqueue : s.seg.queue = []) (c : Causes) : ∃ k, (s.changeCauses c).seg
    = { s.seg.recaused c (startTimer s.now s.params.lease.ms) with counters := k } := by
  unfold State.changeCauses Segment.recaused
  dsimp only
  split
  next hcloses =>
    obtain ⟨k, hk⟩ := State.segCloses_seg (s := s.setCauses c) hqueue
    have hnot : s.seg.causes.any = false := by
      simpa using (Bool.and_eq_true_iff.mp hcloses).1
    refine ⟨k, hk.trans ?_⟩
    rw [hnot]
    rfl
  next hcloses =>
    split
    next hopens =>
      obtain ⟨k, hk⟩ := State.segOpens_seg (s := s.setCauses c) hqueue
      refine ⟨k, hk.trans ?_⟩
      rw [hopens]
      rfl
    next hopens =>
      refine ⟨s.seg.counters, ?_⟩
      rw [Bool.eq_false_iff.mpr hopens]
      rfl

theorem State.segZone_seg {s : State} (hqueue : s.seg.queue = []) (old new : Grade) : ∃ k, (s.segZone old new).seg
    = { s.seg.recaused { s.seg.causes with air := new.atLeast .alarm } (startTimer s.now s.params.lease.ms) with
        counters := k } := by
  obtain ⟨k, hk⟩ := State.changeCauses_seg hqueue { s.seg.causes with air := new.atLeast .alarm }
  unfold State.segZone
  dsimp only
  split
  · split
    · obtain ⟨k', hk'⟩ := State.sendWithdraw_seg (s.changeCauses { s.seg.causes with air := new.atLeast .alarm }) _
      exact ⟨k', by rw [hk', hk]⟩
    · exact ⟨k, hk⟩
  · exact ⟨k, hk⟩

/-! ### The evacuation controller, with nobody in the table and nothing tagged (R139, R142) -/

theorem State.testBreaches_bare {s : State} (hpanels : ∀ i, s.panel i = Panel.empty) : s.testBreaches = s := by
  have hnone (i : Fin 8) : s.testBreach i = s := by
    refine State.testBreach_of_not_due ?_
    rw [State.breachDue_eq, hpanels]
    simp [Panel.empty]
  have hfold (l : List (Fin 8)) : l.foldl State.testBreach s = s := by
    induction l with
    | nil => rfl
    | cons i l ih => rw [List.foldl_cons, hnone, ih]
  exact hfold pollIndices

section

variable {s : State} (hlist : s.calls.startList = []) (hpanels : ∀ i, s.panel i = Panel.empty)
  (hentries : s.table.entries = [])
include hlist hpanels hentries

/-- Entering EVACUATE with no call, no tag and nobody in the table. -/
theorem State.enterEvacuate_bare : s.enterEvacuate = s.entered.startRepeat.musterReport := by
  have hentered : s.entered.calls.startList = [] := by rw [s.entered_calls, hlist]
  have hpanel (i : Fin 8) : s.entered.panel i = Panel.empty := hpanels i
  have hlimits : s.entered.limitsChanged s.ceiling s.minimum .evacuating = s.entered := by
    refine State.limitsChanged_noVictim (State.limitVictim_eq_none (fun i hi => ?_) ?_)
    · rw [hentered] at hi
      cases hi
    · rw [hentered]
      exact Nat.zero_le _
  have htags (l : List (Fin 8)) : l.foldl (fun u i => u.applyTags (u.panel i).tags) s.entered = s.entered := by
    induction l with
    | nil => rfl
    | cons i l ih =>
      rw [List.foldl_cons, hpanel]
      exact ih
  have hround : s.entered.noticeRound = s.entered := by
    have hnobody : s.entered.unmustered = [] := by
      rw [State.unmustered_eq, show s.entered.table = s.table by simp [State.entered], hentries]
      rfl
    rw [State.noticeRound, hnobody]
    rfl
  have hbreaches : s.entered.startRepeat.testBreaches = s.entered.startRepeat := State.testBreaches_bare hpanel
  have hentry : s.enterEvacuate = ((pollIndices.foldl (fun u i => u.applyTags (u.panel i).tags)
      (s.entered.limitsChanged s.ceiling s.minimum .evacuating)).noticeRound.startRepeat).testBreaches.musterReport := rfl
  rw [hentry, hlimits, htags, hround, hbreaches]

/-- A zone grade handed to the controller. -/
theorem State.evacZone_bare : s.evacZone = if s.evac.state = .quiet ∧ s.triggered = true
    then s.entered.startRepeat.musterReport else s := by
  unfold State.evacZone State.testOwnGrade
  split
  · rw [State.enterEvacuate_bare hlist hpanels hentries]
    refine State.testBreaches_bare fun i => ?_
    rw [State.panel, show s.entered.startRepeat.musterReport.evac.panels = s.entered.startRepeat.evac.panels by simp]
    exact hpanels i
  · exact State.testBreaches_bare hpanels

end

theorem State.NoticesOnly.evacZone {w t : State} (hempty : w.table.entries = []) (h : w.NoticesOnly t)
    (hlist : t.calls.startList = []) (hpanels : ∀ i, t.panel i = Panel.empty) : w.NoticesOnly t.evacZone := by
  have hentries : t.table.entries = [] := by rw [h.table, hempty]
  have hentered : w.NoticesOnly t.entered := State.NoticesOnly.setFlag
    (t := (t.setEvacState .evacuate).countEvac (fun k => { k with evacEntries := k.evacEntries + 1 }))
    (h.unchanged rfl rfl rfl) (by decide) (by decide)
  have hrepeat : w.NoticesOnly { t.entered.startRepeat with
      scratch := { t.entered.startRepeat.scratch with mustered := true } } := hentered.unchanged rfl rfl rfl
  rw [State.evacZone_bare hlist hpanels hentries]
  split
  · exact State.NoticesOnly.originateCounted hempty hrepeat (hrepeat.unchanged rfl rfl rfl) _
  · exact h

/-! ### The grades worked out again -/

/-- A machine whose tables a restart has emptied. -/
structure State.Emptied (w : State) : Prop where
  entries : w.table.entries = []
  queue : w.seg.queue = []
  list : w.calls.startList = []
  panels : ∀ i, w.panel i = Panel.empty
  net : w.net.OwnSent w.net

/-- What working out the grades leaves of an emptied machine. -/
structure State.RegradedEmpty (w u : State) : Prop where
  notices : w.NoticesOnly u
  calls : u.calls = w.calls
  panels : u.evac.panels = w.evac.panels
  same : u.air.zone = w.air.zone → u.seg = w.seg ∧ u.evac = w.evac ∧ u.mgmt = w.mgmt
    ∧ (u.air.refuge = w.air.refuge → u.net = w.net)
  seg : u.air.zone ≠ w.air.zone → ∃ k, u.seg
    = { w.seg.recaused { w.seg.causes with air := u.air.zone.atLeast .alarm } (startTimer w.now w.params.lease.ms) with
        counters := k }
  evac : u.air.zone ≠ w.air.zone →
    (u.evac.state = .evacuate ↔ w.evac.state = .evacuate ∨ u.air.zone.atLeast w.params.trigger = true)

theorem State.Emptied.regrade {w : State} (h : w.Emptied) : w.RegradedEmpty w.regrade := by
  obtain ⟨hentries, hqueue, hlist, hpanels, hnet⟩ := h
  have hself : w.NoticesOnly w := ⟨rfl, hnet, fun _ _ => rfl⟩
  obtain ⟨g, hg⟩ : ∃ g, g = w.setGrades w.zoneNow w.refugeNow := ⟨_, rfl⟩
  have hgrades : w.NoticesOnly g := hself.unchanged (by rw [hg]; rfl) (by rw [hg]; rfl) (by rw [hg]; rfl)
  obtain ⟨n, hn⟩ : ∃ n, n = g.gradeNotices (w.zoneNow != w.air.zone) (w.refugeNow != w.air.refuge) := ⟨_, rfl⟩
  have hnotices : w.NoticesOnly n := hn ▸ State.NoticesOnly.gradeNotices hentries hgrades _ _
  have hsame : n.calls = w.calls ∧ n.seg = w.seg ∧ n.evac = w.evac ∧ n.mgmt = w.mgmt ∧ n.now = w.now
      ∧ n.air.zone = w.zoneNow ∧ n.air.refuge = w.refugeNow := by
    rw [hn, hg]
    simp [State.setGrades]
  obtain ⟨hcalls, hseg, hevac, hmgmt, hnow, hzone, hrefuge⟩ := hsame
  have hregrade : w.regrade = if w.zoneNow = w.air.zone then n else (n.segZone w.air.zone w.zoneNow).evacZone := by
    rw [hn, hg]
    rfl
  by_cases heq : w.zoneNow = w.air.zone
  · rw [hregrade, if_pos heq]
    refine ⟨hnotices, hcalls, by rw [hevac], fun _ => ⟨hseg, hevac, hmgmt, fun hr => ?_⟩, fun hne => ?_, fun hne => ?_⟩
    · have hquiet : (w.zoneNow != w.air.zone) = false ∧ (w.refugeNow != w.air.refuge) = false := by
        rw [hrefuge] at hr
        simp [heq, hr]
      rw [hn, hquiet.1, hquiet.2, hg]
      rfl
    · exact absurd (hzone.trans heq) hne
    · exact absurd (hzone.trans heq) hne
  · obtain ⟨x, hx⟩ : ∃ x, x = n.segZone w.air.zone w.zoneNow := ⟨_, rfl⟩
    have hxnotices : w.NoticesOnly x := hx ▸ State.NoticesOnly.segZone hentries hnotices (by rw [hseg, hqueue]) _ _
    obtain ⟨k, hk⟩ := State.segZone_seg (s := n) (by rw [hseg, hqueue]) w.air.zone w.zoneNow
    have hxsame : x.calls = w.calls ∧ x.evac = w.evac ∧ x.params = w.params ∧ x.air.zone = w.zoneNow := by
      rw [hx]
      simp [State.params, hcalls, hevac, hmgmt, hzone]
    obtain ⟨hxcalls, hxevac, hxparams, hxzone⟩ := hxsame
    have hxlist : x.calls.startList = [] := by rw [hxcalls, hlist]
    have hxpanels (i : Fin 8) : x.panel i = Panel.empty := by rw [State.panel, hxevac]; exact hpanels i
    have hbare := State.evacZone_bare hxlist hxpanels (by rw [hxnotices.table, hentries])
    have hparts : x.evacZone.calls = x.calls ∧ x.evacZone.evac.panels = x.evac.panels ∧ x.evacZone.seg = x.seg
        ∧ (x.evacZone.evac.state = .evacuate ↔ x.evac.state = .evacuate ∨ x.triggered = true) := by
      rw [hbare]
      split
      next hgoes =>
        simp [State.entered, State.startRepeat, State.setEvacState, hgoes.2]
      next hstays =>
        refine ⟨rfl, rfl, rfl, Or.inl, fun hor => hor.elim id fun ht => ?_⟩
        cases hstate : x.evac.state with
        | evacuate => rfl
        | quiet => exact absurd ⟨hstate, ht⟩ hstays
    obtain ⟨hucalls, hupanels, huseg, hustate⟩ := hparts
    have huzone : x.evacZone.air.zone = w.zoneNow := by simp [hxzone]
    rw [hregrade, if_neg heq, ← hx]
    refine ⟨State.NoticesOnly.evacZone hentries hxnotices hxlist hxpanels, hucalls.trans hxcalls,
      hupanels.trans (by rw [hxevac]), fun hz => absurd (huzone.symm.trans hz) heq, fun _ => ⟨k, ?_⟩, fun _ => ?_⟩
    · rw [huzone, huseg, hx, hk, hseg, hnow, show n.params = w.params by simp [State.params, hmgmt]]
    · rw [hustate, hxevac, State.triggered, hxzone, hxparams, huzone]

end Sys2Proof.Machine
end

section

set_option Elab.async false

/-! PROOF. What a RESTART leaves, block by block (R36, R50, R71, R93, R118, R137, R158, R175, R188, R203). -/

namespace Sys2Proof.Machine

/-! ### Before the channels start again -/

/-- Every block restarted but for the air evaluator. -/
def State.wiped (s : State) : State :=
  s.zeroCounters.restartMgmt.restartNet.restartTable.restartCalls.restartSegment.restartEvac.restartPoller.restartIntegrity.restartIsolation

/-- Every channel started again. -/
def State.channelsRestarted (s : State) : State :=
  channelIndices.foldl (fun s c => s.updateChannel c ((s.channel c).restart s.now)) s

theorem State.restart_eq (s : State) : s.restart = (s.wiped.channelsRestarted.regrade.startReportTimer).nextPoll := rfl

section

variable (s : State)

theorem State.wiped_net : s.wiped.net = { s.net with
    outbye := { up := s.net.outbye.up, egress := { active := s.net.outbye.egress.active } }
    inbye := { up := s.net.inbye.up, egress := { active := s.net.inbye.egress.active } }
    radio := { up := s.net.radio.up, egress := { active := s.net.radio.egress.active } }
    relay := [], relayTick := s.now + 1000 } := rfl

theorem State.wiped_table : s.wiped.table = { s.table with entries := [], ageTick := s.now + 1000, counters := {} } := rfl

theorem State.wiped_calls : s.wiped.calls
    = { s.calls with legs := Vector.replicate 8 Leg.cold, startList := [], counters := {} } := rfl

theorem State.wiped_seg : s.wiped.seg = { s.seg with
    queue := [], minerCount := 0, holderHere := false, counters := {}
    lease := if s.seg.state = .held ∨ s.seg.state = .draining then some (s.now + s.params.lease.ms) else none } := by
  have hrunning : (if s.seg.state = .held ∨ s.seg.state = .draining then some (s.now + s.params.lease.ms) else none)
      = if (s.seg.state == .held || s.seg.state == .draining) = true then startTimer s.now s.params.lease.ms else none :=
    if_congr (by simp) rfl rfl
  rw [hrunning]
  rfl

theorem State.wiped_evac : s.wiped.evac = { s.evac with
    sos := [], panels := Vector.replicate 8 Panel.empty, doorTick := s.now + 1000, counters := {} } := rfl

theorem State.wiped_rest : s.wiped.now = s.now ∧ s.wiped.air = s.air ∧ s.wiped.supply = { s.supply with counters := {} }
    ∧ s.wiped.params = s.params := by
  simp [State.wiped, State.zeroCounters, State.restartNet, State.restartPoller, State.restartEvac, State.restartCalls,
    State.restartTable, State.params]

theorem State.wiped_poller : s.wiped.poller = { records := mapTable (fun r => r.restart s.now) s.poller.records
                                                inFlight := none, replyTimer := none, sequence := 0, counters := {} } := by
  simp [State.wiped, State.zeroCounters, State.restartNet, State.restartPoller, State.restartEvac, State.restartCalls,
    State.restartTable]

theorem State.wiped_integ : s.wiped.integ = { state := if s.integ.state = .suspended then .checking else s.integ.state
                                              storedCheck := s.integ.storedCheck, lastCheck := none, position := 0
                                              runningCrc := 0xFFFF, scanTimer := some (s.now + 10)
                                              suspensionTimer := none, counters := {} } := by
  simp [State.wiped, State.restartIntegrity, State.beginScan, State.zeroCounters, State.restartNet, State.restartPoller,
    State.restartEvac, State.restartCalls, State.restartTable, startTimer]

/-- The machine with the flags cleared, as the management unit's restart finds it. -/
def State.unflagged (s : State) : State :=
  { s.zeroCounters with mgmt := { s.mgmt with attention := {}, restartPending := false, counters := {} } }

theorem State.wiped_mgmt : s.wiped.mgmt = { s.mgmt with
    attention := (s.unflagged.setFlag Flag.restarted).mgmt.attention, statusTimer := s.reportStarted s.params.status
    isolated := false, isolationTimer := s.isolationRestarted, restartPending := false, counters := {} } := by
  obtain ⟨y, hy⟩ : ∃ y, y =
    s.zeroCounters.restartMgmt.restartNet.restartTable.restartCalls.restartSegment.restartEvac.restartPoller.restartIntegrity :=
      ⟨_, rfl⟩
  have hmgmt : y.mgmt = { s.mgmt with
      attention := (s.unflagged.setFlag Flag.restarted).mgmt.attention, statusTimer := s.reportStarted s.params.status
      restartPending := false, counters := {} } := by
    rw [← State.reportStarted_eq, hy]
    simp only [State.restartIntegrity_frame, State.restartPoller, State.restartEvac, State.restartSegment_frame, State.restartCalls,
      State.restartTable, State.restartNet]
    rfl
  have htimer : y.isolationRestarted = s.isolationRestarted := by
    have hnow : y.now = s.now := by
      rw [hy]
      simp [State.zeroCounters, State.restartNet, State.restartPoller, State.restartEvac, State.restartCalls,
        State.restartTable]
    rw [State.isolationRestarted, State.params, hmgmt, hnow]
    rfl
  have hwiped : s.wiped = y.surfaceHeard := by
    rw [hy]
    rfl
  rw [hwiped, State.surfaceHeard_eq, htimer, hmgmt]

theorem State.wiped_flags : s.wiped.flags .node = ⟨0x20, !(s.params.masks.node.getLsbD 5)⟩
    ∧ ∀ g, g ≠ .node → s.wiped.flags g = {} := by
  have hflags (g : Group) : s.wiped.flags g = (s.unflagged.setFlag Flag.restarted).flags g := by
    rw [State.flags, s.wiped_mgmt]
    rfl
  refine ⟨?_, fun g hg => ?_⟩
  · have hmask : s.unflagged.flagMasked Flag.restarted = s.params.masks.node.getLsbD 5 :=
      State.flagMasked_eq_getLsbD (by decide)
    have hnone : s.unflagged.flags .node = {} := rfl
    have hset : s.unflagged.flagSet Flag.restarted = false := by
      rw [State.flagSet_eq_getLsbD (by decide)]
      show (s.unflagged.flags .node).flags.getLsbD 5 = false
      rw [hnone]
      rfl
    rw [hflags, State.setFlag, hmask, hset]
    refine (State.flags_setFlagGroup_same s.unflagged .node _).trans ?_
    show FlagGroup.mk ((s.unflagged.flags .node).flags ||| flagBit 5) ((s.unflagged.flags .node).summary
      || !false && !s.params.masks.node.getLsbD 5) = _
    rw [hnone]
    rfl
  · rw [hflags, State.setFlag_flags_of_ne _ hg]
    cases g <;> rfl

end

/-! ### The channels (R36) -/

/-- A channel's restart touches its own record and the flags of group AIR. -/
theorem State.updateChannel_flags (s : State) (c : Fin 16) (x : Channel) {g : Group} (hg : g ≠ .air) :
    (s.updateChannel c x).flags g = s.flags g := by
  have hset (t : State) (f : Flag) (hf : f.group = .air) (b : Prop) [Decidable b] :
      (if b then t.setFlag f else t).flags g = t.flags g := by
    split
    · exact State.setFlag_flags_of_ne t (hf ▸ hg)
    · rfl
  unfold State.updateChannel
  dsimp only
  rw [hset _ _ rfl, hset _ _ rfl, hset _ _ rfl]
  rfl

/-- What has become of the channels when those of a list have started again. -/
structure State.ChannelsStarted (w : State) (l : List (Fin 16)) (t : State) : Prop where
  channel : ∀ c, t.channel c = if c ∈ l then ((w.channel c).restart w.now).refresh (w.deviceSilent c) else w.channel c
  silent : ∀ c, t.deviceSilent c = w.deviceSilent c
  now : t.now = w.now
  flags : ∀ g, g ≠ .air → t.flags g = w.flags g

theorem State.ChannelsStarted.next {w t : State} {l : List (Fin 16)} {c : Fin 16} (h : w.ChannelsStarted l t)
    (hc : c ∉ l) : w.ChannelsStarted (l ++ [c]) (t.updateChannel c ((t.channel c).restart t.now)) := by
  refine ⟨fun d => ?_, fun d => ?_, ?_, fun g hg => ?_⟩
  · rw [State.updateChannel_channel, h.channel c, if_neg hc, h.silent, h.now]
    by_cases hd : c = d
    · subst hd
      rw [if_pos rfl, if_pos (by simp)]
    · rw [if_neg hd, h.channel d]
      exact if_congr (by simp [Ne.symm hd]) rfl rfl
  · rw [State.updateChannel_deviceSilent, h.silent]
  · rw [← h.now]
    simp
  · rw [State.updateChannel_flags _ _ _ hg, h.flags g hg]

theorem State.channelsRestarted_started (w : State) : w.ChannelsStarted channelIndices w.channelsRestarted := by
  have hfold : ∀ (r l : List (Fin 16)) {t : State}, (l ++ r).Nodup → w.ChannelsStarted l t →
      w.ChannelsStarted (l ++ r) (r.foldl (fun s c => s.updateChannel c ((s.channel c).restart s.now)) t) := by
    intro r
    induction r with
    | nil =>
      intro l t _ h
      rwa [List.append_nil]
    | cons c r ih =>
      intro l t hnodup h
      have hc : c ∉ l := fun hc => (List.nodup_append.mp hnodup).2.2 c hc c List.mem_cons_self rfl
      have hmoved : l ++ c :: r = (l ++ [c]) ++ r := by simp
      rw [hmoved] at hnodup ⊢
      exact ih (l ++ [c]) hnodup (h.next hc)
  exact hfold channelIndices [] (by decide) ⟨fun c => by simp, fun _ => rfl, rfl, fun _ _ => rfl⟩

/-- The channels of a machine that has just restarted, before its grades are worked out. -/
theorem State.wiped_channel (s : State) (c : Fin 16) :
    s.wiped.channelsRestarted.channel c = ((s.channel c).restart s.now).refresh false := by
  obtain ⟨hnow, hair, -⟩ := s.wiped_rest
  have hsilent : s.wiped.deviceSilent c = false := by
    rw [State.deviceSilent, State.pollRecord, s.wiped_poller]
    show ((mapTable (fun r : PollRecord => r.restart s.now) s.poller.records)[pollOf c].state == PollState.silent) = false
    rw [getElem_mapTable]
    rfl
  have hchannel : s.wiped.channel c = s.channel c := by rw [State.channel, hair]; rfl
  rw [s.wiped.channelsRestarted_started.channel, if_pos (mem_channelIndices c), hsilent, hchannel, hnow]

/-! ### The poller (R50) -/

section

variable {s u : State}
  (hpoller : u.poller = { records := mapTable (fun r => r.restart s.now) s.poller.records
                          inFlight := none, replyTimer := none, sequence := 0, counters := {} })
include hpoller

theorem State.restarted_pollRecord (i : Fin 8) : u.pollRecord i = (s.pollRecord i).restart s.now := by
  rw [State.pollRecord, hpoller]
  exact getElem_mapTable ..

theorem State.restarted_dueTime {i : Fin 8} {d : Nat} :
    (u.pollRecord i).dueTime = some d ↔ (s.pollRecord i).config.enabled = true ∧ s.now = d := by
  rw [State.restarted_pollRecord hpoller, PollRecord.dueTime_eq_some]
  show (s.pollRecord i).config.enabled = true ∧ (if (s.pollRecord i).config.enabled = true then some s.now else none) = some d ↔ _
  refine and_congr_right fun h => ?_
  rw [if_pos h, Option.some.injEq]

omit hpoller in
theorem State.sendPoll_poller (i : Fin 8) : (u.sendPoll i).poller = { (u.sendPoll i).poller with
    inFlight := some ⟨i, (u.pollRecord i).config.address, u.poller.sequence + 1,
      pollWire (u.pollRecord i).config.address (u.poller.sequence + 1)⟩
    replyTimer := some (u.now + 50), sequence := u.poller.sequence + 1
    counters := { u.poller.counters with pollsSent := u.poller.counters.pollsSent + 1 } } := rfl

/-- With no enabled record there is nothing to poll. -/
theorem State.PollerRestarted.idle (hnone : ∀ i, (s.pollRecord i).config.enabled = false) : s.PollerRestarted u := by
  have hrecord := State.restarted_pollRecord hpoller
  refine ⟨fun i => ?_, fun i hi => ?_, fun _ => ?_, fun i hi => ?_⟩
  · rw [hrecord]
    rfl
  · rw [hrecord]
    exact if_neg (by rw [hi]; decide)
  · rw [hpoller]
  · rw [hnone] at hi
    cases hi

/-- The lowest enabled record is polled first. -/
theorem State.PollerRestarted.polled (hnow : u.now = s.now) {i : Fin 8} (hi : (s.pollRecord i).config.enabled = true)
    (hleast : ∀ j, (s.pollRecord j).config.enabled = true → i ≤ j) : s.PollerRestarted (u.sendPoll i) := by
  have hrecord := State.restarted_pollRecord hpoller
  have hsent (j : Fin 8) : (u.sendPoll i).pollRecord j
      = if i = j then { (s.pollRecord i).restart s.now with due := some (s.now + (s.pollRecord i).config.interval.ms) }
        else (s.pollRecord j).restart s.now := by
    have hset : (u.sendPoll i).pollRecord j = (u.setPollRecord i { u.pollRecord i with
      due := some (u.now + (u.pollRecord i).config.interval.ms) }).pollRecord j := rfl
    rw [hset, State.pollRecord_setPollRecord, hrecord, hrecord, hnow]
    rfl
  refine ⟨fun j => ?_, fun j hj => ?_, fun hnone => ?_, fun j hj hbefore => ?_⟩
  · rw [hsent]
    split
    next h => subst h; rfl
    · rfl
  · have hne : i ≠ j := by
      rintro rfl
      rw [hi] at hj
      cases hj
    rw [hsent, if_neg hne]
    exact if_neg (by rw [hj]; decide)
  · rw [hnone] at hi
    cases hi
  · have hij : j = i := by
      by_contra hne
      have hle := hleast j hj
      have hlt : i.val < j.val := lt_of_le_of_ne hle fun h => hne (Fin.ext h.symm)
      rw [hbefore i hlt] at hi
      cases hi
    subst hij
    refine ⟨?_, ?_, fun k hk hkenabled => ?_⟩
    · have hsequence : u.poller.sequence = 0 ∧ u.poller.counters = {} := by rw [hpoller]; exact ⟨rfl, rfl⟩
      obtain ⟨hzero, hcounters⟩ := hsequence
      rw [State.sendPoll_poller, hrecord, hnow, hzero, hcounters]
      rfl
    · rw [hsent, if_pos rfl]
    · rw [hsent, if_neg (Ne.symm hk)]
      exact if_pos hkenabled

/-- The first choice of a restarted poller. -/
theorem State.restarted_nextPoll (hnow : u.now = s.now) : s.PollerRestarted u.nextPoll := by
  have hfree : u.poller.inFlight = none := by rw [hpoller]
  rw [State.nextPoll, hfree]
  dsimp only
  cases hdue : u.earliestDue with
  | none =>
    refine State.PollerRestarted.idle hpoller fun i => ?_
    by_contra henabled
    have hsome := (State.restarted_dueTime hpoller).mpr ⟨Bool.not_eq_false _ ▸ henabled, rfl⟩
    rw [State.earliestDue_eq_none hdue i] at hsome
    cases hsome
  | some x =>
    obtain ⟨i, t⟩ := x
    obtain ⟨hi, hleast⟩ := State.earliestDue_eq_some hdue
    obtain ⟨henabled, ht⟩ := (State.restarted_dueTime hpoller).mp hi
    dsimp only
    rw [if_pos (by rw [← ht, hnow])]
    refine State.PollerRestarted.polled hpoller hnow henabled fun j hj => ?_
    obtain hlt | ⟨-, hle⟩ := hleast j s.now ((State.restarted_dueTime hpoller).mpr ⟨hj, rfl⟩)
    · omega
    · exact hle

end

end Sys2Proof.Machine
end

section

set_option Elab.async false

/-! PROOF. RESTART: what it leaves (R200, R203 and each chapter's restart rule). -/

namespace Sys2Proof.Machine

/-- A restarting machine whose grades are still to be worked out. -/
def State.begun (s : State) : State := s.wiped.channelsRestarted

section

variable (s : State)

theorem State.channelsRestarted_blocks : s.channelsRestarted.now = s.now ∧ s.channelsRestarted.net = s.net
    ∧ s.channelsRestarted.poller = s.poller ∧ s.channelsRestarted.air.zone = s.air.zone
    ∧ s.channelsRestarted.air.refuge = s.air.refuge ∧ s.channelsRestarted.table = s.table
    ∧ s.channelsRestarted.calls = s.calls ∧ s.channelsRestarted.seg = s.seg ∧ s.channelsRestarted.evac = s.evac
    ∧ s.channelsRestarted.supply = s.supply ∧ s.channelsRestarted.integ = s.integ
    ∧ s.channelsRestarted.params = s.params
    ∧ s.channelsRestarted.mgmt = { s.mgmt with attention := s.channelsRestarted.mgmt.attention } := by
  have h := s.restartChannels_frame
  rw [← State.channelsRestarted] at h
  generalize s.channelsRestarted = t at h ⊢
  obtain ⟨-, hnow, -, -, hnet, hpoller, hzone, hrefuge, -, -, htable, hcalls, hseg, hevac, hsupply, hinteg, hparameters,
    hstatus, hisolated, htimer, hrestart, hcounters⟩ := h
  exact ⟨hnow, hnet, hpoller, hzone, hrefuge, htable, hcalls, hseg, hevac, hsupply, hinteg, hparameters,
    Mgmt.eq_of_rest hparameters hstatus hisolated htimer hrestart hcounters⟩

theorem State.begun_blocks : s.begun.now = s.now ∧ s.begun.net = s.wiped.net ∧ s.begun.poller = s.wiped.poller
    ∧ s.begun.air.zone = s.air.zone ∧ s.begun.air.refuge = s.air.refuge ∧ s.begun.table = s.wiped.table
    ∧ s.begun.calls = s.wiped.calls ∧ s.begun.seg = s.wiped.seg ∧ s.begun.evac = s.wiped.evac
    ∧ s.begun.supply = s.wiped.supply ∧ s.begun.integ = s.wiped.integ ∧ s.begun.params = s.params
    ∧ s.begun.mgmt = { s.wiped.mgmt with attention := s.begun.mgmt.attention } := by
  obtain ⟨hnow, hair, -, hparams⟩ := s.wiped_rest
  rw [← hnow, ← hparams, ← hair, State.begun]
  exact s.wiped.channelsRestarted_blocks

theorem State.begun_flags {g : Group} (hg : g ≠ .air) : s.begun.flags g = s.wiped.flags g :=
  s.wiped.channelsRestarted_started.flags g hg

theorem State.begun_emptied : s.begun.Emptied := by
  obtain ⟨-, hnet, -, -, -, htable, hcalls, hseg, hevac, -⟩ := s.begun_blocks
  refine ⟨by rw [htable, s.wiped_table], by rw [hseg, s.wiped_seg], by rw [hcalls, s.wiped_calls], fun i => ?_, ?_⟩
  · rw [State.panel, hevac, s.wiped_evac]
    exact getElem_replicate_fin ..
  · rw [hnet, s.wiped_net]
    refine Net.OwnSent.refl (fun p => ?_) (fun p => ?_) rfl
    · cases p <;> rfl
    · cases p <;> exact ⟨rfl, rfl, rfl⟩

theorem State.restart_blocks : s.restart.now = s.now ∧ s.restart.net = s.begun.regrade.net
    ∧ s.restart.table = s.begun.regrade.table ∧ s.restart.calls = s.begun.regrade.calls
    ∧ s.restart.seg = s.begun.regrade.seg ∧ s.restart.evac = s.begun.regrade.evac
    ∧ s.restart.supply = s.begun.supply ∧ s.restart.integ = s.begun.integ ∧ s.restart.mgmt = s.begun.regrade.mgmt
    ∧ s.restart.air.zone = s.begun.regrade.air.zone ∧ s.restart.air.refuge = s.begun.regrade.air.refuge
    ∧ (∀ c, s.restart.channel c = s.begun.regrade.channel c)
    ∧ s.restart.air.reportTimer = s.begun.regrade.reportStarted s.begun.regrade.params.airReport := by
  obtain ⟨x, hx⟩ : ∃ x, x = s.begun := ⟨_, rfl⟩
  have hnow : x.now = s.now := hx ▸ s.begun_blocks.1
  have hrestart : s.restart = x.regrade.startReportTimer.nextPoll := by
    rw [hx]
    rfl
  rw [hrestart, ← hx]
  have hsupply : x.regrade.supply = x.supply ∧ x.regrade.integ = x.integ ∧ x.regrade.now = x.now := by simp
  obtain ⟨hsupply, hinteg, hnow'⟩ := hsupply
  rw [← hnow, ← hsupply, ← hinteg, ← hnow']
  generalize x.regrade = y
  have hnet : y.startReportTimer.net = y.net := rfl
  have htimer : y.startReportTimer.air.reportTimer = y.reportStarted y.params.airReport := State.reportStarted_eq ..
  simp only [State.nextPoll_frame, State.startReportTimer_frame, hnet, htimer, State.channel, implies_true, and_self]

/-! ### Ports, relay list, poller and channels -/

theorem State.netRestarted_iff (u : State) : s.NetRestarted u ↔ s.wiped.net.OwnSent u.net
    ∧ (u.air.zone = s.air.zone → u.air.refuge = s.air.refuge → u.net = s.wiped.net) := by
  have hcleared (p : Port) : s.wiped.net.port p = { up := (s.net.port p).up, egress := { active := (s.net.port p).egress.active } } := by
    rw [s.wiped_net]
    cases p <;> rfl
  have haddr : s.wiped.net.nodeAddr? = s.nodeAddr? := Net.nodeAddr?_of_straps (by rw [s.wiped_net])
  constructor
  · rintro ⟨hstraps, hbanks, htick, hports, hrelay, hsame⟩
    refine ⟨⟨by rw [hstraps, s.wiped_net], by rw [hbanks, s.wiped_net], by rw [htick, s.wiped_net], fun p => ?_, fun p => ?_,
      fun p => ?_, fun e he => haddr ▸ hrelay e he⟩, fun hz hr => (hsame hz hr).trans s.wiped_net.symm⟩
    · rw [hcleared, (hports p).1]
    · rw [hcleared, (hports p).2.1]
    · obtain ⟨-, -, hactive, hpending, hahead, hqueues, hsending⟩ := hports p
      rw [hcleared, haddr]
      exact ⟨hactive, hpending, hahead, hqueues, hsending⟩
  · rintro ⟨⟨hstraps, hbanks, htick, hup, hcounters, hegress, hrelay⟩, hsame⟩
    rw [s.wiped_net] at hstraps hbanks htick
    refine ⟨hstraps, hbanks, htick, fun p => ?_, fun e he => haddr ▸ hrelay e he,
      fun hz hr => (hsame hz hr).trans s.wiped_net⟩
    obtain ⟨hactive, hpending, hahead, hqueues, hsending⟩ := hegress p
    rw [haddr] at hqueues hsending
    exact ⟨(hup p).trans (by rw [hcleared]), (hcounters p).trans (by rw [hcleared]), hactive.trans (by rw [hcleared]), hpending,
      hahead, hqueues, hsending⟩

theorem State.restart_net : s.NetRestarted s.restart := by
  obtain ⟨-, hnet, -, hzone, hrefuge, -⟩ := s.begun_blocks
  obtain ⟨-, hrnet, -, -, -, -, -, -, -, hrzone, hrrefuge, -⟩ := s.restart_blocks
  have hempty := s.begun_emptied.regrade
  have hown := hempty.notices.net
  rw [← hrnet, hnet] at hown
  refine (s.netRestarted_iff _).mpr ⟨hown, fun hz hr => ?_⟩
  obtain ⟨-, -, -, hsame⟩ := hempty.same (by rw [hzone, ← hz, hrzone])
  rw [hrnet, hsame (by rw [hrefuge, ← hr, hrrefuge]), hnet]

theorem State.restart_poller : s.PollerRestarted s.restart := by
  obtain ⟨hnow, -, hpoller, -⟩ := s.begun_blocks
  refine State.restarted_nextPoll (u := s.begun.regrade.startReportTimer) ?_ ?_
  · simp [hpoller, s.wiped_poller]
  · simp [hnow]

theorem State.restart_channel (c : Fin 16) : s.restart.channel c = ((s.channel c).restart s.now).refresh false := by
  obtain ⟨-, -, -, -, -, -, -, -, -, -, -, hchannel, -⟩ := s.restart_blocks
  rw [hchannel, State.regrade_eq_regraded, State.regraded_channel]
  exact s.wiped_channel c

theorem State.restart_air : s.AirRestarted s.restart := by
  obtain ⟨hnow, -, -, -, -, -, -, -, -, hsupply, -, hparams, -⟩ := s.begun_blocks
  obtain ⟨-, -, -, -, -, -, -, hinteg, -, hzone, hrefuge, hchannel, htimer⟩ := s.restart_blocks
  have hregrade := s.begun.regrade_eq_regraded
  rw [hregrade] at hzone hrefuge hchannel
  have hgrades : s.restart.zoneNow = s.begun.regraded.zoneNow ∧ s.restart.refugeNow = s.begun.regraded.refugeNow := by
    refine ⟨State.zoneNow_of_eq (fun c => by rw [hchannel]) ?_, State.scopeGrade_of_eq (fun c => by rw [hchannel]) _⟩
    rw [hinteg, ← hregrade]
    simp
  refine ⟨fun c => ?_, ?_, ?_, ?_⟩
  · rw [s.restart_channel, Channel.restart]
    by_cases henabled : (s.channel c).record.enabled = true
    · rw [if_pos henabled]
      simp [Channel.refresh, Channel.stateNow, henabled, EntryState.clear, startTimer]
    · rw [if_neg henabled]
      simp [Channel.refresh, Channel.stateNow, henabled]
  · rw [hgrades.1, hzone]
    exact s.begun.regraded_zone
  · rw [hgrades.2, hrefuge]
    exact s.begun.regraded_refuge
  · have hsame : s.begun.regrade.now = s.now ∧ s.begun.regrade.params = s.params
        ∧ s.begun.regrade.supply.shedLevel = s.supply.shedLevel := by
      obtain ⟨-, -, hwiped, -⟩ := s.wiped_rest
      refine ⟨by simp [hnow], ?_, by simp [hsupply, hwiped]⟩
      rw [← hparams]
      simp [State.params]
    obtain ⟨h1, h2, h3⟩ := hsame
    rw [htimer, State.reportStarted, State.reportStarted, h1, h2, h3]

end

/-! ### Segment and evacuation controller -/

/-- A sound segment whose queue is empty, after its causes were replaced (R120, R129, R131). -/
theorem Segment.recaused_sound {g : Segment} (hfree : g.state = .free → g.causes.any = false)
    (hheld : g.state = .held → g.holder.isSome = true ∧ g.causes.any = false)
    (hdraining : g.state = .draining → g.holder.isSome = true ∧ g.causes.any = true)
    (hclosed : g.state = .closed → g.causes.any = true) (c : Causes) (lease : Timer)
    (hlease : g.lease = if g.state = .held ∨ g.state = .draining then lease else none) :
    (g.recaused c lease).state = (if c.any then (match g.state with
        | .free => .closed
        | .held => .draining
        | x => x)
      else match g.state with
        | .closed => .free
        | .draining => .held
        | x => x)
    ∧ (g.recaused c lease).lease = if (g.recaused c lease).state = .held ∨ (g.recaused c lease).state = .draining
        then lease else none := by
  unfold Segment.recaused
  rw [hlease]
  cases hc : c.any with
  | true =>
    cases hstate : g.state with
    | free => simp [hfree hstate, SegmentState.closing]
    | held => simp [hheld hstate, SegmentState.closing]
    | draining => simp [hdraining hstate]
    | closed => simp [hclosed hstate]
    | lost => cases g.causes.any <;> simp [SegmentState.closing]
  | false =>
    cases hstate : g.state with
    | free => simp [hfree hstate]
    | held => simp [hheld hstate]
    | draining => simp [hdraining hstate, SegmentState.opening]
    | closed => simp [hclosed hstate, SegmentState.opening]
    | lost => cases g.causes.any <;> simp [SegmentState.opening]

/-- What the segment record is after a restart, from what it was before the grades were worked out. -/
theorem State.segmentRestarted_of {s u : State} {g : Segment} (hg : g = { s.seg with
      queue := [], minerCount := 0, holderHere := false, counters := {}
      lease := if s.seg.state = .held ∨ s.seg.state = .draining then some (s.now + s.params.lease.ms) else none })
    (hsame : u.air.zone = s.air.zone → u.seg = g)
    (hchanged : u.air.zone ≠ s.air.zone → ∃ k, u.seg = { g.recaused
      { g.causes with air := u.air.zone.atLeast .alarm } (some (s.now + s.params.lease.ms)) with counters := k }) :
    s.SegmentRestarted u := by
  have hshape : ∃ k, u.seg = { g.recaused { g.causes with air := u.seg.causes.air }
      (some (s.now + s.params.lease.ms)) with counters := k } := by
    by_cases hz : u.air.zone = s.air.zone
    · refine ⟨g.counters, ?_⟩
      rw [hsame hz]
      simp [Segment.recaused]
    · obtain ⟨k, hk⟩ := hchanged hz
      have hair : u.seg.causes.air = u.air.zone.atLeast .alarm := by rw [hk]; rfl
      exact ⟨k, by rw [hair]; exact hk⟩
  obtain ⟨k, hk⟩ := hshape
  obtain ⟨c, hc⟩ : ∃ c : Causes, c = { g.causes with air := u.seg.causes.air } := ⟨_, rfl⟩
  rw [← hc] at hk
  have hcauses : u.seg.causes = c := by rw [hk]; rfl
  refine ⟨?_, ?_, ?_, ?_, ?_, fun hz => (hsame hz).trans hg, fun hsound => ⟨?_, ?_⟩⟩
  · rw [hk]
    exact congrArg (·.holder) hg
  · rw [hk]
    exact congrArg (·.queue) hg
  · rw [hk]
    exact congrArg (·.minerCount) hg
  · rw [hk]
    exact congrArg (·.holderHere) hg
  · rw [hcauses, hc, hg]
  · by_cases hz : u.air.zone = s.air.zone
    · obtain ⟨-, -, -, -, -, -, -, -, -, hbefore⟩ := hsound
      rw [hsame hz, hz, hg]
      exact hbefore
    · obtain ⟨k, hk⟩ := hchanged hz
      rw [hk]
      exact Iff.rfl
  · obtain ⟨hfree, hheld, hdraining, -, hclosed, -⟩ := hsound
    have hstates := Segment.recaused_sound (g := g) (by rw [hg]; exact fun h => (hfree h).2.1) (by rw [hg]; exact hheld)
      (by rw [hg]; exact fun h => ⟨(hdraining h).1, (hdraining h).2.1⟩) (by rw [hg]; exact fun h => (hclosed h).2.1) c
      (some (s.now + s.params.lease.ms)) (by rw [hg])
    have hstate : u.seg.state = (g.recaused c (some (s.now + s.params.lease.ms))).state := by rw [hk]
    have hlease : u.seg.lease = (g.recaused c (some (s.now + s.params.lease.ms))).lease := by rw [hk]
    have hgstate : g.state = s.seg.state := by rw [hg]
    rw [hstate, hlease, hcauses, ← hgstate]
    exact hstates

section

variable (s : State)

theorem State.restart_seg : s.SegmentRestarted s.restart := by
  obtain ⟨hnow, -, -, hzone, -, -, -, hseg, -, -, -, hparams, -⟩ := s.begun_blocks
  obtain ⟨-, -, -, -, hrseg, -, -, -, -, hrzone, -⟩ := s.restart_blocks
  have hempty := s.begun_emptied.regrade
  refine State.segmentRestarted_of (hseg.trans s.wiped_seg) (fun hz => ?_) fun hz => ?_
  · exact hrseg.trans (hempty.same (by rw [← hrzone, hz, hzone])).1
  · obtain ⟨k, hk⟩ := hempty.seg (by rw [← hrzone, hzone]; exact hz)
    refine ⟨k, ?_⟩
    rw [hrseg, hk, hrzone, hnow, hparams]
    rfl

theorem State.restart_evac : s.EvacuationRestarted s.restart := by
  obtain ⟨-, -, -, hzone, -, -, -, -, hevac, -, -, hparams, -⟩ := s.begun_blocks
  obtain ⟨-, -, -, -, -, hrevac, -, -, hrmgmt, hrzone, -⟩ := s.restart_blocks
  have hempty := s.begun_emptied.regrade
  rw [s.wiped_evac] at hevac
  have hkept : s.begun.regrade.evac.sos = s.begun.evac.sos ∧ s.begun.regrade.evac.routes = s.begun.evac.routes
      ∧ s.begun.regrade.evac.lines = s.begun.evac.lines ∧ s.begun.regrade.evac.doorTick = s.begun.evac.doorTick := by
    simp
  obtain ⟨hsos, hroutes, hlines, htick⟩ := hkept
  rw [hevac] at hsos hroutes hlines htick
  refine ⟨by rw [hrevac, hsos], fun i => ?_, by rw [hrevac, hroutes], by rw [hrevac, hlines], by rw [hrevac, htick],
    fun hz => ?_, fun hz => ?_⟩
  · rw [State.panel, hrevac, hempty.panels, hevac]
    exact getElem_replicate_fin ..
  · obtain ⟨-, hsame, hmgmt, -⟩ := hempty.same (by rw [← hrzone, hz, hzone])
    have hflags {g : Group} (hair : g ≠ .air) (hnode : g ≠ .node) : s.restart.flags g = {} := by
      rw [← s.wiped_flags.2 g hnode, ← s.begun_flags hair, State.flags, State.flags, hrmgmt, hmgmt]
    rw [hrevac, hsame, hevac]
    exact ⟨rfl, rfl, rfl, hflags (by decide) (by decide), hflags (by decide) (by decide)⟩
  · have hiff := hempty.evac (by rw [← hrzone, hzone]; exact hz)
    rw [hrevac, hiff, hevac, hrzone, hparams]

end

/-- What a RESTART leaves (R200, R203). -/
theorem State.restart_restartedFrom (s : State) : s.RestartedFrom s.restart := by
  obtain ⟨hnow, -, -, hzone, -, htable, hcalls, -, -, hsupply, hinteg, -, hmgmt⟩ := s.begun_blocks
  obtain ⟨hrnow, -, hrtable, hrcalls, -, -, hrsupply, hrinteg, hrmgmt, -⟩ := s.restart_blocks
  have hempty := s.begun_emptied.regrade
  have hucalls : s.restart.calls = { s.calls with legs := Vector.replicate 8 Leg.cold, startList := [], counters := {} } := by
    rw [hrcalls, hempty.calls, hcalls, s.wiped_calls]
  have hkept : s.begun.regrade.mgmt = { s.begun.mgmt with attention := s.begun.regrade.mgmt.attention } :=
    Mgmt.eq_of_rest (by simp) (by simp) (by simp) (by simp) (by simp) (by simp)
  have hflags {g : Group} (hg : g = .call ∨ g = .node) : s.restart.flags g = s.wiped.flags g := by
    have hair : g ≠ .air := by rintro rfl; simp at hg
    rw [← s.begun_flags hair, ← hempty.notices.flags g hg, State.flags, State.flags, hrmgmt]
  refine ⟨hrnow, s.restart_net, ?_, fun i => ?_, ?_, ?_, ?_, s.restart_seg, s.restart_evac, s.restart_poller, s.restart_air,
    ?_, ?_, ?_, ?_, ?_⟩
  · rw [hrtable, hempty.notices.table, htable, s.wiped_table]
  · rw [State.leg, hucalls]
    exact getElem_replicate_fin ..
  · rw [hucalls]
  · rw [hucalls]
  · rw [hucalls]
  · rw [hrsupply, hsupply, s.wiped_rest.2.2.1]
  · rw [hrinteg, hinteg, s.wiped_integ]
  · rw [hrmgmt, hkept, hmgmt, s.wiped_mgmt]
  · rw [hflags (.inr rfl), s.wiped_flags.1]
  · rw [hflags (.inl rfl), s.wiped_flags.2 _ (by decide)]

end Sys2Proof.Machine
end

section

set_option Elab.async false

/-! PROOF. RESTART as a request, after its response, and on a link that is lost (R90, R161, R200). -/

namespace Sys2Proof.Machine

/-! ### The machine in which a restart begins -/

/-- Two machines that a restart leaves alike: the event's marks, the management unit but for PARAMETERS, the ports'
counters and what is queued on them may differ. -/
structure State.RestartsAs (s t : State) : Prop where
  now : t.now = s.now
  straps : t.net.straps = s.net.straps
  banks : t.net.banks = s.net.banks
  alarmSeq : t.net.alarmSeq = s.net.alarmSeq
  frameSeq : t.net.frameSeq = s.net.frameSeq
  port : ∀ p, (t.net.port p).up = (s.net.port p).up ∧ (t.net.port p).egress.active = (s.net.port p).egress.active
  table : t.table = s.table
  permits : t.calls.permits = s.calls.permits
  seg : t.seg = s.seg
  evac : t.evac = s.evac
  poller : t.poller = s.poller
  air : t.air = s.air
  supply : t.supply = s.supply
  integ : t.integ = s.integ
  params : t.params = s.params

section

variable {s t u : State} (h : s.RestartsAs t)
include h

theorem State.RestartsAs.net (hu : t.NetRestarted u) : s.NetRestarted u := by
  obtain ⟨hnow, hstraps, hbanks, halarm, hframe, hport, -, -, -, -, -, hair, -⟩ := h
  have haddr : t.nodeAddr? = s.nodeAddr? := Net.nodeAddr?_of_straps hstraps
  obtain ⟨hustraps, hubanks, htick, huport, hrelay, hsame⟩ := hu
  rw [haddr] at hrelay
  refine ⟨hustraps.trans hstraps, hubanks.trans hbanks, htick.trans (by rw [hnow]), fun p => ?_, hrelay, fun hz hr => ?_⟩
  · obtain ⟨hup, hcounters, hactive, hpending, hahead, hqueues, hsending⟩ := huport p
    rw [haddr] at hqueues hsending
    exact ⟨hup.trans (hport p).1, hcounters, hactive.trans (hport p).2, hpending, hahead, hqueues, hsending⟩
  · rw [hsame (by rw [hair]; exact hz) (by rw [hair]; exact hr)]
    dsimp only
    have hcleared (p : Port) : ({ up := (t.net.port p).up, egress := { active := (t.net.port p).egress.active } } : PortState)
        = { up := (s.net.port p).up, egress := { active := (s.net.port p).egress.active } } := by
      rw [(hport p).1, (hport p).2]
    have houtbye := hcleared .outbye
    have hinbye := hcleared .inbye
    have hradio := hcleared .radio
    simp only [Net.port] at houtbye hinbye hradio
    rw [houtbye, hinbye, hradio, hstraps, hbanks, halarm, hframe, hnow]

theorem State.RestartsAs.segment (hu : t.SegmentRestarted u) : s.SegmentRestarted u := by
  unfold State.SegmentRestarted State.SegmentSound at hu ⊢
  rwa [h.seg, h.air, h.now, h.params] at hu

theorem State.RestartsAs.evacuation (hu : t.EvacuationRestarted u) : s.EvacuationRestarted u := by
  unfold State.EvacuationRestarted at hu ⊢
  rwa [h.evac, h.air, h.params, h.now] at hu

theorem State.RestartsAs.polls (hu : t.PollerRestarted u) : s.PollerRestarted u := by
  have hrecord (i : Fin 8) : t.pollRecord i = s.pollRecord i := by rw [State.pollRecord, h.poller]; rfl
  unfold State.PollerRestarted at hu ⊢
  simp only [hrecord, h.now] at hu
  exact hu

theorem State.RestartsAs.reportStarted (x : TimerSetting) : t.reportStarted x = s.reportStarted x := by
  rw [State.reportStarted, State.reportStarted, h.now, h.supply]

theorem State.RestartsAs.channels (hu : t.AirRestarted u) : s.AirRestarted u := by
  have hchannel (c : Fin 16) : t.channel c = s.channel c := by rw [State.channel, h.air]; rfl
  unfold State.AirRestarted at hu ⊢
  simp only [hchannel, h.now, h.params, h.reportStarted] at hu
  exact hu

theorem State.RestartsAs.restartedFrom (hu : t.RestartedFrom u) : s.RestartedFrom u := by
  obtain ⟨hnow, hnet, htable, hlegs, hlist, hpermits, hcounters, hseg, hevac, hpoller, hair, hsupply, hinteg, hmgmt, hnode,
    hcall⟩ := hu
  have hisolation : t.isolationRestarted = s.isolationRestarted := by
    rw [State.isolationRestarted, State.isolationRestarted, h.now, h.params]
  have hparameters : t.mgmt.parameters = s.mgmt.parameters := h.params
  refine ⟨hnow.trans h.now, h.net hnet, ?_, hlegs, hlist, hpermits.trans h.permits, hcounters, h.segment hseg,
    h.evacuation hevac, h.polls hpoller, h.channels hair, ?_, ?_, ?_, ?_, hcall⟩
  · rw [htable, h.table, h.now]
  · rw [hsupply, h.supply]
  · rw [hinteg, h.integ, h.now]
  · refine hmgmt.trans ?_
    rw [hisolation, h.params, h.reportStarted]
    dsimp only
    rw [hparameters]
  · rw [hnode, h.params]

end

/-! ### A choice with nothing queued (R162) -/

theorem planSearch_of_empty {banks : Banks} {shed : Nat} (fuel : Nat) : ∀ x : PlanPlace, planSearch banks shed {} fuel x = none := by
  have hnothing (e : PlanEntry) : servable shed {} e = none := by
    unfold servable
    split
    · rw [Queues.get_empty]
      rfl
    · rfl
  induction fuel with
  | zero => exact fun _ => rfl
  | succ fuel ih =>
    intro x
    rw [planSearch, hnothing]
    exact ih _

theorem Egress.choose_empty {e : Egress} (hqueues : e.queues = {}) (hsending : e.sending = none) (hahead : e.ahead = none)
    (banks : Banks) (shed : Nat) (p : Port) (via : Byte) : e.choose banks shed p via = e :=
  Egress.choose_of_fruitless hsending hahead (by rw [hqueues]) (by rw [hqueues]; exact planSearch_of_empty ..) p via

theorem Net.choose_empty {n : Net} {p : Port} (hqueues : (n.port p).egress.queues = {})
    (hsending : (n.port p).egress.sending = none) (hahead : (n.port p).egress.ahead = none) (shed : Nat) :
    n.choose shed p = n := by
  unfold Net.choose Net.setEgress
  split
  · rw [Egress.choose_empty hqueues hsending hahead]
    exact n.setPort_port p
  · rfl

/-- The choice of a port after a restart sends a notice of the node's own or nothing. -/
theorem State.RestartedFrom.choosePort {s u : State} (h : s.RestartedFrom u) (p : Port) : s.RestartedFrom (u.choosePort p) := by
  obtain ⟨hnow, hnet, hrest⟩ := h
  obtain ⟨hown, hsame⟩ := (s.netRestarted_iff u).mp hnet
  refine ⟨hnow, (s.netRestarted_iff _).mpr ⟨hown.choose _ p, fun hz hr => ?_⟩, hrest⟩
  have hempty : (s.wiped.net.port p).egress.queues = {} ∧ (s.wiped.net.port p).egress.sending = none
      ∧ (s.wiped.net.port p).egress.ahead = none := by
    rw [s.wiped_net]
    cases p <;> exact ⟨rfl, rfl, rfl⟩
  obtain ⟨hqueues, hsending, hahead⟩ := hempty
  show u.net.choose u.supply.shedLevel p = _
  rw [hsame hz hr, Net.choose_empty hqueues hsending hahead]

/-! ### RESTART as a request (R189, R200) -/

/-- A surface request of a node with an address, that no pending restart holds up. -/
theorem exec_request {i : Instr} {rq : Request} {s : State} (hi : i.request? = some rq) (hown : s.nodeAddr?.isSome = true)
    (hsurface : isSurface rq.source = true) (hfree : s.mgmt.restartPending = true → isRestartCommand i = true) :
    exec i s = .next (((handlerOf i s.asTaken).1.answer rq (handlerOf i s.asTaken).2).concluded s.tally) := by
  obtain ⟨own, hown⟩ := Option.isSome_iff_exists.mp hown
  have hheard : (if isSurface rq.source then ({ s with scratch := {} } : State).surfaceHeard else { s with scratch := {} })
      = ({ s with scratch := {} } : State).surfaceHeard := if_pos hsurface
  have hown' : ({ s with scratch := {} } : State).surfaceHeard.nodeAddr? = some own := hown
  have hcounted : ({ s with scratch := {} } : State).surfaceHeard.countMgmt
      (fun k => { k with requestsTaken := k.requestsTaken + 1 }) = s.asTaken := rfl
  have hgoes : (s.asTaken.mgmt.restartPending && !isRestartCommand i) = false := by
    show (s.mgmt.restartPending && !isRestartCommand i) = false
    cases hp : s.mgmt.restartPending with
    | false => rfl
    | true => rw [hfree hp]; rfl
  refine exec_concluded ?_
  rw [workOf, hi]
  dsimp only
  rw [requestWork, hheard, State.takeRequest, hown']
  dsimp only
  rw [if_pos hsurface, State.carryOut, hcounted, hgoes]
  rfl

theorem State.refused_answer {s : State} (rq : Request) {c : Cause} (hc : c ≠ .none) :
    s.answer rq (.refused c) = s.answerRefused rq c := by
  simp [State.answer, State.respond, hc, State.answerRefused, State.countMgmt, msgResponse]

/-- The frame that answers an accepted RESTART. -/
def restartResponse (rq : Request) (own : Addr) (seq : Byte) : Frame := ⟨.mgmt, 2, 31, rq.source, own, seq, [rq.tag, 0, 0]⟩

theorem State.sendRestartResponse_eq {s : State} {own : Addr} (hown : s.nodeAddr? = some own) (rq : Request)
    (n : Net) (hn : n = { s.net with frameSeq := s.net.frameSeq + 1 }) :
    s.sendRestartResponse rq = if (n.port rq.port).up then { s with
        mgmt := { s.mgmt with restartPending := true }
        net := (n.setEgress rq.port { (n.port rq.port).egress with
          ahead := some (restartResponse rq own (s.net.frameSeq + 1)) }).choose s.supply.shedLevel rq.port }
      else ({ s with
        mgmt := { s.mgmt with restartPending := true }
        net := n.count rq.port (fun k => { k with downDrops := k.downDrops + 1 }) } : State).restartDue := by
  have hheader : s.net.header s.own (msgResponse rq.source rq.tag .none []) = (restartResponse rq own (s.net.frameSeq + 1), n) := by
    rw [State.own_of_nodeAddr? hown, hn]
    rfl
  have hmarked : ({ s with mgmt := { s.mgmt with restartPending := true } } : State).own = s.own := rfl
  unfold State.sendRestartResponse
  simp only [hmarked, hheader]

theorem State.restartDue_quiet {s : State} (h : s.evac.state = .quiet) : s.restartDue = s.restart := by
  rw [State.restartDue, h]

theorem State.restartDue_evacuate {s : State} (h : s.evac.state = .evacuate) : s.restartDue = { s with mgmt := { s.mgmt with
    restartPending := false
    counters := { s.mgmt.counters with restartsAbandoned := s.mgmt.counters.restartsAbandoned + 1 } } } := by
  rw [State.restartDue, h]
  rfl

end Sys2Proof.Machine
end

section

set_option Elab.async false

/-! PROOF. RESTART is refused, answered first, carried out or abandoned (R200); links that are lost and restored
(R66, R90, R161, R164). -/

namespace Sys2Proof.Machine

/-! ### RESTART (R200) -/

section

variable {s : State} {rq : Request} {own : Addr} (hown : s.nodeAddr? = some own) (hsurface : isSurface rq.source = true)
include hown hsurface

theorem exec_restart : exec (.restart rq) s = .next
    (((s.asTaken.restartRequest rq).1.answer rq (s.asTaken.restartRequest rq).2).concluded s.tally) :=
  exec_request (i := .restart rq) rfl (by rw [hown]; rfl) hsurface fun _ => rfl

theorem exec_restart_refused {c : Cause} (hc : c ≠ .none) (h : s.asTaken.restartRequest rq = (s.asTaken, .refused c)) :
    exec (.restart rq) s = .next (s.asTaken.answerRefused rq c).settled := by
  rw [exec_restart hown hsurface, h, State.refused_answer rq hc, State.concluded_eq_settled]
  exact .inl (State.tally_of_entries rfl)

variable (hstate : s.evac.state = .quiet) (hfree : s.mgmt.restartPending = false)
include hstate hfree

omit hown hsurface in
theorem State.restartRequest_taken : s.asTaken.restartRequest rq = (s.asTaken.sendRestartResponse rq, .later) := by
  have hquiet : ¬ s.asTaken.evac.state = .evacuate := by
    show ¬ s.evac.state = .evacuate
    rw [hstate]
    decide
  have hnot : ¬ s.asTaken.mgmt.restartPending = true := by
    show ¬ s.mgmt.restartPending = true
    rw [hfree]
    decide
  rw [State.restartRequest, if_neg hquiet, if_neg hnot]

theorem exec_restart_taken : exec (.restart rq) s = .next ((s.asTaken.sendRestartResponse rq).concluded s.tally) := by
  rw [exec_restart hown hsurface, State.restartRequest_taken hstate hfree]
  rfl

end

/-- A free port sends the response to a RESTART at once; a busy one holds it ahead of its queues (R200). -/
theorem Net.choose_restart {n : Net} {p : Port} {f : Frame} (shed : Nat) (hup : (n.port p).up = true) :
    (n.setEgress p { (n.port p).egress with ahead := some f }).choose shed p = n.setPort p { n.port p with
      egress := { (n.port p).egress with
        ahead := if (n.port p).egress.sending = none then none else some f
        sending := if (n.port p).egress.sending = none then some ⟨f, f.wire p n.viaByte, true⟩
          else (n.port p).egress.sending } } := by
  rw [Net.setEgress, n.choose_setPort shed p (x := { n.port p with egress := { (n.port p).egress with ahead := some f } }) hup]
  by_cases hfree : (n.port p).egress.sending = none
  · rw [if_pos hfree, if_pos hfree]
    dsimp only
    rw [Egress.choose_response (e := { (n.port p).egress with ahead := some f }) hfree rfl]
  · rw [if_neg hfree, if_neg hfree]
    dsimp only
    rw [Egress.choose_busy (e := { (n.port p).egress with ahead := some f }) (Option.isSome_iff_ne_none.mpr hfree)]

theorem Net.viaByte_of_nodeAddr? {n : Net} {own : Addr} (h : n.nodeAddr? = some own) : n.viaByte = n.straps := by
  rw [Net.viaByte, h]

/-- A frame that answered a RESTART has been sent (R200). -/
theorem State.frameGone_restart {s : State} {p : Port} {t : Transmission} (h : (s.net.port p).egress.sending = some t)
    (hrestart : t.restart = true) :
    s.frameGone p = ({ s with net := s.net.setPort p (s.net.port p).emptied } : State).restartDue.choosePort p := by
  have hcleared : (s.clearSending p).countPort p (fun k => { k with framesSent := k.framesSent + 1 })
      = { s with net := s.net.setPort p (s.net.port p).emptied } :=
    congrArg (fun n => ({ s with net := n } : State)) (s.net.count_setPort ..)
  rw [State.frameGone, h]
  dsimp only
  rw [hrestart, hcleared]
  rfl

/-- Only the ports' contents, the management unit and the event's marks are not as they were. -/
theorem State.restartsAs_net (s : State) {n : Net} {m : Mgmt} (hm : m.parameters = s.mgmt.parameters)
    (hstraps : n.straps = s.net.straps) (hbanks : n.banks = s.net.banks) (halarm : n.alarmSeq = s.net.alarmSeq)
    (hframe : n.frameSeq = s.net.frameSeq)
    (hports : ∀ p, (n.port p).up = (s.net.port p).up ∧ (n.port p).egress.active = (s.net.port p).egress.active)
    (c : Scratch) : s.RestartsAs { s with net := n, mgmt := m, scratch := c } :=
  ⟨rfl, hstraps, hbanks, halarm, hframe, hports, rfl, rfl, rfl, rfl, rfl, rfl, rfl, rfl, hm⟩

theorem State.restartsAs_count (s : State) (p : Port) (f : PortCounters → PortCounters) {m : Mgmt}
    (hm : m.parameters = s.mgmt.parameters) (c : Scratch) :
    s.RestartsAs { s with net := s.net.count p f, mgmt := m, scratch := c } := by
  obtain ⟨hstraps, hbanks, -, -, halarm, hframe, hports⟩ := s.net.count_kept p f
  exact s.restartsAs_net hm hstraps hbanks halarm hframe (fun q => ⟨(hports q).1, by rw [(hports q).2]⟩) c

theorem State.restartsAs_emptied (s : State) (p : Port) (c : Scratch) :
    s.RestartsAs { s with net := s.net.setPort p (s.net.port p).emptied, mgmt := s.mgmt, scratch := c } := by
  obtain ⟨hstraps, hbanks, -, -, halarm, hframe⟩ := s.net.setPort_kept p (s.net.port p).emptied
  refine s.restartsAs_net rfl hstraps hbanks halarm hframe (fun q => ?_) c
  rw [Net.port_setPort]
  split
  next hq => exact hq ▸ ⟨rfl, rfl⟩
  · exact ⟨rfl, rfl⟩

/-- The engine after the node has given a frame that is no alarm its sequence. -/
def Net.counted (n : Net) : Net := { n with frameSeq := n.frameSeq + 1 }

theorem Net.counted_port (n : Net) (p : Port) : n.counted.port p = n.port p := by
  cases p <;> rfl

section

variable {s : State} {rq : Request} {own : Addr} (hown : s.nodeAddr? = some own) (hsurface : isSurface rq.source = true)
  (hstate : s.evac.state = .quiet) (hfree : s.mgmt.restartPending = false)
include hown hsurface hstate hfree

/-- An accepted RESTART on a port that is UP (R200). -/
theorem exec_restart_up (hup : (s.net.port rq.port).up = true) : exec (.restart rq) s = .next ({ s.asTaken with
    mgmt := { s.asTaken.mgmt with restartPending := true }
    net := s.net.counted.setPort rq.port { s.net.port rq.port with egress := { (s.net.port rq.port).egress with
      ahead := if (s.net.port rq.port).egress.sending = none then none
        else some (restartResponse rq own (s.net.frameSeq + 1))
      sending := if (s.net.port rq.port).egress.sending = none
        then some ⟨restartResponse rq own (s.net.frameSeq + 1),
          (restartResponse rq own (s.net.frameSeq + 1)).wire rq.port s.net.straps, true⟩
        else (s.net.port rq.port).egress.sending } } } : State).settled := by
  have hport := s.net.counted_port rq.port
  have hvia : s.net.counted.viaByte = s.net.straps := Net.viaByte_of_nodeAddr? (n := s.net.counted) hown
  have hsent := State.sendRestartResponse_eq (s := s.asTaken) hown rq s.net.counted rfl
  have hchosen := Net.choose_restart (n := s.net.counted) (p := rq.port)
    (f := restartResponse rq own (s.asTaken.net.frameSeq + 1)) s.asTaken.supply.shedLevel (hport ▸ hup)
  rw [hchosen, hport, if_pos hup, hvia] at hsent
  rw [exec_restart_taken hown hsurface hstate hfree, hsent, State.concluded_eq_settled]
  · rfl
  · exact .inl (State.tally_of_entries rfl)

/-- An accepted RESTART on a DOWN port drops its response and is carried out at once (R200). -/
theorem exec_restart_down (hdown : (s.net.port rq.port).up = false) : ∃ u : State,
    exec (.restart rq) s = .next (u.concluded s.tally) ∧ ({ s with net := s.net.counted } : State).RestartedFrom u := by
  obtain ⟨x, hx⟩ : ∃ x : State, x = { s.asTaken with
    mgmt := { s.asTaken.mgmt with restartPending := true }
    net := s.net.counted.count rq.port (fun k => { k with downDrops := k.downDrops + 1 }) } := ⟨_, rfl⟩
  have hsent := State.sendRestartResponse_eq (s := s.asTaken) hown rq s.net.counted rfl
  rw [s.net.counted_port, hdown, if_neg Bool.false_ne_true, ← hx] at hsent
  have hquiet : x.evac.state = .quiet := by rw [hx]; exact hstate
  rw [State.restartDue_quiet hquiet] at hsent
  refine ⟨x.restart, by rw [exec_restart_taken hown hsurface hstate hfree, hsent], ?_⟩
  have hlike : ({ s with net := s.net.counted } : State).RestartsAs x := by
    rw [hx]
    exact State.restartsAs_count { s with net := s.net.counted } rq.port _
      (m := { s.asTaken.mgmt with restartPending := true }) rfl {}
  exact hlike.restartedFrom x.restart_restartedFrom

end

section

variable {s : State} {p : Port} {t : Transmission} (ht : (s.net.port p).egress.sending = some t) (hrestart : t.restart = true)
include ht hrestart

theorem exec_frameSent_restarts (hstate : s.evac.state = .quiet) : ∃ u : State,
    exec (.frameSent p) s = .next (u.concluded s.tally) ∧ s.RestartedFrom u := by
  obtain ⟨x, hx⟩ : ∃ x : State, x = { s with
    net := s.net.setPort p (s.net.port p).emptied, mgmt := s.mgmt, scratch := {} } := ⟨_, rfl⟩
  have hgone : ({ s with scratch := {} } : State).frameGone p = x.restartDue.choosePort p := by
    rw [State.frameGone_restart (s := { s with scratch := {} }) ht hrestart, hx]
  have hquiet : x.evac.state = .quiet := by rw [hx]; exact hstate
  rw [State.restartDue_quiet hquiet] at hgone
  refine ⟨_, exec_concluded hgone, State.RestartedFrom.choosePort ?_ p⟩
  have hlike : s.RestartsAs x := hx ▸ s.restartsAs_emptied p {}
  exact hlike.restartedFrom x.restart_restartedFrom

theorem exec_frameSent_abandons (hstate : s.evac.state = .evacuate) : exec (.frameSent p) s = .next ({ s with
    scratch := {}
    net := (s.net.setPort p (s.net.port p).emptied).choose s.supply.shedLevel p
    mgmt := { s.mgmt with
      restartPending := false
      counters := { s.mgmt.counters with
        restartsAbandoned := s.mgmt.counters.restartsAbandoned + 1 } } } : State).settled := by
  refine exec_settled ((State.frameGone_restart (s := { s with scratch := {} }) ht hrestart).trans ?_) rfl
  rw [State.restartDue_evacuate (s := { s with scratch := {}, net := s.net.setPort p (s.net.port p).emptied }) hstate]
  rfl

end

/-- Settles O39: what a restart leaves is `State.restart_restartedFrom`, of the machine as the restart finds it. -/
theorem restartAnswersThenRestarts : Obligations.RestartAnswersThenRestarts := by
  refine ⟨fun s rq own hown hsurface => ?_, fun s p t ht hrestart => ⟨exec_frameSent_restarts ht hrestart,
    exec_frameSent_abandons ht hrestart⟩⟩
  intro taken response
  have hquiet (hstate : s.evac.state = .quiet) : ¬ s.asTaken.evac.state = .evacuate := by
    show ¬ s.evac.state = .evacuate
    rw [hstate]
    decide
  exact ⟨fun hstate => exec_restart_refused hown hsurface (by decide) (if_pos hstate),
    fun hstate hpending => exec_restart_refused hown hsurface (by decide) ((if_neg (hquiet hstate)).trans (if_pos hpending)),
    fun hstate hfree => ⟨exec_restart_up hown hsurface hstate hfree, exec_restart_down hown hsurface hstate hfree⟩⟩

end Sys2Proof.Machine
end

section

set_option Elab.async false

/-! PROOF. Links that are lost and restored (R66, R90, R161, R164, R200). -/

namespace Sys2Proof.Machine

/-! ### A link that is lost -/

theorem Egress.flush_eq (e : Egress) : e.flush = { e with
    queues := {}, sending := none, ahead := none
    active := e.pendingBank.getD e.active, position := 0, pendingBank := none
    counters := { e.counters with
      flushed := e.counters.flushed + BitVec.ofNat 32 (e.queues.total + (if e.sending = none then 0 else 1)) } } := by
  have hcount : (if e.sending.isSome = true then 1 else 0) = if e.sending = none then 0 else 1 := by
    cases e.sending with
    | none => rfl
    | some t => rfl
  rw [← hcount]
  rfl

theorem Egress.holdsRestart_iff (e : Egress) :
    e.holdsRestart = true ↔ e.ahead ≠ none ∨ ∃ t, e.sending = some t ∧ t.restart = true := by
  rw [Egress.holdsRestart, Bool.or_eq_true, Option.isSome_iff_ne_none]
  refine or_congr_right ?_
  cases e.sending with
  | none => simp
  | some t => simp

/-- A backbone port that has lost its signal: flushed and wrapped, the routes over it forgotten (R66, R90, R161). -/
def State.portLost (s : State) (b : Backbone) : State :=
  ({ s with
    scratch := {}
    table := { s.table with entries := s.table.entries.map (fun e =>
      if e.location = (match b with
        | .outbye => .viaOutbye
        | .inbye => .viaInbye) then { e with location := .unknown } else e) }
    net := s.net.setPort b.port { s.net.port b.port with
      up := false
      counters := { (s.net.port b.port).counters with linkChanges := (s.net.port b.port).counters.linkChanges + 1 }
      egress := (s.net.port b.port).egress.flush } } : State).setFlag Flag.linkChange

/-- A port that has been rewritten and whose counters then move on. -/
theorem Net.count_setPort_setEgress (n : Net) (p : Port) (e : Egress) (up : Bool) (f : PortCounters → PortCounters) :
    ((n.setEgress p e).setPort p { (n.setEgress p e).port p with up := up }).count p f
      = n.setPort p { n.port p with up := up, counters := f (n.port p).counters, egress := e } := by
  rw [Net.setEgress, Net.port_setPort, if_pos rfl, Net.setPort_setPort, Net.count_setPort]

theorem State.lost_eq (s : State) (b : Backbone) :
    (({ s with scratch := {}, net := s.net.setEgress b.port (s.net.port b.port).egress.flush } : State).linkChanged
      b false).forgetVia b = s.portLost b := by
  have hnet := s.net.count_setPort_setEgress b.port (s.net.port b.port).egress.flush false
    (fun k => { k with linkChanges := k.linkChanges + 1 })
  unfold State.linkChanged State.countPort State.forgetVia State.setEntries State.portLost State.setFlag State.setFlagGroup
  dsimp only
  rw [hnet]
  cases b with
  | outbye => rfl
  | inbye => rfl

/-- The tally does not see an entry move from a place that is not here to UNKNOWN. -/
theorem tallyOf_forgotten (l : List Entry) {x : Location} (hx : (x == .radioHere) = false) :
    tallyOf (l.map (fun e => if e.location = x then { e with location := .unknown } else e)) = tallyOf l := by
  have hpart (e : Entry) : (if e.location = x then { e with location := .unknown } else e).address = e.address
      ∧ (if e.location = x then { e with location := .unknown } else e).mark = e.mark
      ∧ ((if e.location = x then { e with location := .unknown } else e).location == .radioHere)
        = (e.location == .radioHere) := by
    split
    next h => exact ⟨rfl, rfl, by rw [h, hx]; rfl⟩
    · exact ⟨rfl, rfl, rfl⟩
  simp only [tallyOf, List.countP_map, Function.comp_def, hpart]

theorem State.portLost_tally (s : State) (b : Backbone) : (s.portLost b).tally = s.tally := by
  cases b with
  | outbye => exact tallyOf_forgotten _ rfl
  | inbye => exact tallyOf_forgotten _ rfl

section

variable {s : State} {b : Backbone}

theorem exec_linkDown_idle (h : (s.net.port b.port).up = false) : exec (.linkDown b) s = .next { s with scratch := {} }.settled :=
  exec_settled (if_neg (by rw [show ({ s with scratch := {} } : State).net = s.net from rfl, h]; decide)) rfl

variable (hup : (s.net.port b.port).up = true)
include hup

theorem State.goDown_eq : ({ s with scratch := {} } : State).goDown b
    = if (s.net.port b.port).egress.holdsRestart then
        ((s.portLost b).countPort b.port (fun k => { k with downDrops := k.downDrops + 1 })).restartDue
      else s.portLost b := by
  rw [← s.lost_eq b]
  exact if_pos hup

theorem exec_linkDown (h : (s.net.port b.port).egress.holdsRestart = false) :
    exec (.linkDown b) s = .next (s.portLost b).settled := by
  have hgone := State.goDown_eq hup
  rw [h, if_neg Bool.false_ne_true] at hgone
  refine (exec_concluded (i := .linkDown b) (s := s) hgone).trans ?_
  rw [State.concluded_eq_settled (.inl (s.portLost_tally b))]

variable (hwaits : (s.net.port b.port).egress.holdsRestart = true)
include hwaits

theorem exec_linkDown_restarts (hstate : s.evac.state = .quiet) : ∃ u : State,
    exec (.linkDown b) s = .next (u.concluded s.tally) ∧ (s.portLost b).RestartedFrom u := by
  obtain ⟨y, hy⟩ : ∃ y, y = s.portLost b := ⟨_, rfl⟩
  have hgone := State.goDown_eq hup
  have hevac : y.evac.state = .quiet := by
    rw [hy]
    exact hstate
  rw [hwaits, if_pos rfl, ← hy] at hgone
  obtain ⟨x, hx⟩ : ∃ x, x = y.countPort b.port (fun k => { k with downDrops := k.downDrops + 1 }) := ⟨_, rfl⟩
  have hquiet : x.evac.state = .quiet := by rw [hx]; exact hevac
  have hlike : y.RestartsAs x := by
    rw [hx]
    exact y.restartsAs_count b.port _ (m := y.mgmt) rfl y.scratch
  rw [← hx, State.restartDue_quiet hquiet] at hgone
  rw [← hy]
  exact ⟨x.restart, exec_concluded hgone, hlike.restartedFrom x.restart_restartedFrom⟩

theorem exec_linkDown_abandons (hstate : s.evac.state = .evacuate) : exec (.linkDown b) s
    = .next ((({ s.portLost b with mgmt := { (s.portLost b).mgmt with
        restartPending := false
        counters := { (s.portLost b).mgmt.counters with
          restartsAbandoned := (s.portLost b).mgmt.counters.restartsAbandoned + 1 } } } : State).countPort b.port
            (fun k => { k with downDrops := k.downDrops + 1 })).concluded s.tally) := by
  obtain ⟨y, hy⟩ : ∃ y, y = s.portLost b := ⟨_, rfl⟩
  have hgone := State.goDown_eq hup
  have hevac : y.evac.state = .evacuate := by
    rw [hy]
    exact hstate
  rw [hwaits, if_pos rfl, ← hy, State.restartDue_evacuate (s := y.countPort b.port _) hevac] at hgone
  rw [← hy]
  exact exec_concluded hgone

end

/-! ### A link that is restored -/

theorem exec_linkUp_idle {s : State} {b : Backbone} (h : (s.net.port b.port).up = true) :
    exec (.linkUp b) s = .next { s with scratch := {} }.settled :=
  exec_settled (if_pos h) rfl

/-- A port that comes UP with nothing queued is free at its place (R90, R162). -/
theorem exec_linkUp {s : State} {b : Backbone} (h : (s.net.port b.port).up = false)
    (hqueues : (s.net.port b.port).egress.queues = {}) (hsending : (s.net.port b.port).egress.sending = none)
    (hahead : (s.net.port b.port).egress.ahead = none) : exec (.linkUp b) s = .next (({ s with
      scratch := {}
      net := s.net.setPort b.port { s.net.port b.port with
        up := true
        counters := { (s.net.port b.port).counters with
          linkChanges := (s.net.port b.port).counters.linkChanges + 1 } } } : State).setFlag Flag.linkChange).settled := by
  obtain ⟨y, hy⟩ : ∃ y, y = ({ s with
      scratch := {}
      net := s.net.setPort b.port { s.net.port b.port with
        up := true
        counters := { (s.net.port b.port).counters with
          linkChanges := (s.net.port b.port).counters.linkChanges + 1 } } } : State).setFlag Flag.linkChange := ⟨_, rfl⟩
  have hchanged : ({ s with scratch := {} } : State).linkChanged b true = y := by
    have hnet := s.net.count_setPort b.port { s.net.port b.port with up := true }
      (fun k => { k with linkChanges := k.linkChanges + 1 })
    rw [hy]
    unfold State.linkChanged State.countPort State.setFlag State.setFlagGroup
    dsimp only
    rw [hnet]
    rfl
  have hport : y.net.port b.port = { s.net.port b.port with
      up := true
      counters := { (s.net.port b.port).counters with linkChanges := (s.net.port b.port).counters.linkChanges + 1 } } := by
    rw [hy]
    exact (Net.port_setPort ..).trans (if_pos rfl)
  have hchosen : y.choosePort b.port = y := by
    have hnet := Net.choose_empty (n := y.net) (p := b.port) (by rw [hport, hqueues]) (by rw [hport, hsending])
      (by rw [hport, hahead]) y.supply.shedLevel
    rw [State.choosePort, hnet]
  have hgoes : ({ s with scratch := {} } : State).goUp b = y := by
    rw [State.goUp, show (({ s with scratch := {} } : State).net.port b.port).up = false from h, if_neg Bool.false_ne_true,
      hchanged, hchosen]
  rw [← hy]
  exact exec_settled hgoes (by rw [hy]; rfl)

/-- Settles O51: a lost link is `State.goDown_eq`, with the restart that its flush may bring; a restored one has nothing to
choose from (`Net.choose_empty`). -/
theorem linkReportsChangePort : Obligations.LinkReportsChangePort := by
  intro s b p x e down waits
  have hdown : down = s.portLost b := by
    unfold State.portLost
    rw [Egress.flush_eq] <;> cases b <;> rfl
  have hwaits : e.holdsRestart = true ↔ waits := e.holdsRestart_iff
  rw [hdown]
  exact ⟨exec_linkDown_idle, fun hup hno => exec_linkDown hup (Bool.eq_false_iff.mpr (mt hwaits.mp hno)),
    fun hup hw => exec_linkDown_restarts hup (hwaits.mpr hw), fun hup hw => exec_linkDown_abandons hup (hwaits.mpr hw),
    exec_linkUp_idle, exec_linkUp⟩

end Sys2Proof.Machine
end

section

set_option Elab.async false

/-! PROOF. The judging of a request before it acts, and the bytes that spell it (R87, R91, R189 to R193, R200). -/

namespace Sys2Proof.Machine

/-! ### A request row (R91, R185, R189, R200) -/

/-- The state in which a request is judged: its frame, when a surface station's, has ended isolation (R185). -/
def State.judging (s : State) (rq : Request) : State :=
  { s with
    scratch := {}
    mgmt := if isSurface rq.source then { s.mgmt with isolated := false, isolationTimer := s.isolationRestarted } else s.mgmt }

section

variable {i : Instr} {rq : Request} {s : State}

theorem State.judging_eq (s : State) (rq : Request) :
    (if isSurface rq.source then ({ s with scratch := {} } : State).surfaceHeard else { s with scratch := {} })
      = s.judging rq := by
  unfold State.judging
  split
  · exact State.surfaceHeard_eq _
  · rfl

theorem requestWork_eq (hi : i.request? = some rq) :
    workOf i { s with scratch := {} } = (s.judging rq).takeRequest rq (isRestartCommand i) (handlerOf i) := by
  rw [workOf, hi]
  dsimp only
  rw [requestWork, s.judging_eq]

theorem State.takeRequest_addressless (h : s.nodeAddr? = none) (isRestart : Bool) (f : Handler) :
    s.takeRequest rq isRestart f = s := by
  rw [State.takeRequest, h]

theorem State.takeRequest_foreign (hown : s.nodeAddr?.isSome = true) (h : isSurface rq.source = false) (isRestart : Bool)
    (f : Handler) : s.takeRequest rq isRestart f = s.countMgmt (fun k => { k with foreignMgmt := k.foreignMgmt + 1 }) := by
  obtain ⟨own, hown⟩ := Option.isSome_iff_exists.mp hown
  rw [State.takeRequest, hown]
  exact if_neg (Bool.eq_false_iff.mp h)

theorem State.takeRequest_surface (hown : s.nodeAddr?.isSome = true) (h : isSurface rq.source = true) (isRestart : Bool)
    (f : Handler) : s.takeRequest rq isRestart f = s.carryOut rq isRestart f := by
  obtain ⟨own, hown⟩ := Option.isSome_iff_exists.mp hown
  rw [State.takeRequest, hown]
  exact if_pos h

theorem isRestartCommand_of_ne (h : ∀ q, i ≠ .restart q) : isRestartCommand i = false := by
  cases i with
  | restart q => exact absurd rfl (h q)
  | _ => rfl

theorem exec_request_addressless (hi : i.request? = some rq) (hown : s.nodeAddr? = none) :
    exec i s = .next (s.judging rq).settled :=
  exec_settled ((requestWork_eq hi).trans (State.takeRequest_addressless (s := s.judging rq) hown _ _)) rfl

theorem exec_request_foreign (hi : i.request? = some rq) (hown : s.nodeAddr?.isSome = true)
    (hsource : isSurface rq.source = false) : exec i s = .next
      ((s.judging rq).countMgmt (fun k => { k with foreignMgmt := k.foreignMgmt + 1 })).settled :=
  exec_settled ((requestWork_eq hi).trans (State.takeRequest_foreign (s := s.judging rq) hown hsource _ _)) rfl

theorem exec_request_busy (hi : i.request? = some rq) (hown : s.nodeAddr?.isSome = true)
    (hsource : isSurface rq.source = true) (hpending : s.mgmt.restartPending = true) (hne : ∀ q, i ≠ .restart q) :
    exec i s = .next (((s.judging rq).countMgmt
      (fun k => { k with requestsTaken := k.requestsTaken + 1 })).answerRefused rq .busy).settled := by
  have hkept : (s.judging rq).mgmt.restartPending = true := by
    rw [State.judging]
    dsimp only
    split <;> exact hpending
  have hgoes : (s.judging rq).carryOut rq (isRestartCommand i) (handlerOf i) = ((s.judging rq).countMgmt
      (fun k => { k with requestsTaken := k.requestsTaken + 1 })).answerRefused rq .busy := by
    rw [State.carryOut, isRestartCommand_of_ne hne]
    refine (if_pos ?_).trans (State.refused_answer rq (by decide))
    simpa using hkept
  refine exec_settled ((requestWork_eq hi).trans ((State.takeRequest_surface (s := s.judging rq) hown hsource _ _).trans hgoes)) ?_
  simp [State.answerRefused, State.countMgmt, State.judging]

end

/-! ### The bytes of a request (section 10.2) -/

/-- What a REQUEST's bytes ask is a command's own handling: the command itself, or the refusal that its handler gives. -/
def Asked.Spells (a : Asked) (i : Instr) : Prop :=
  a = .command i ∨ ∃ c, a = .refused c ∧ isRestartCommand i = false ∧ ∀ s, handlerOf i s = (s, .refused c)

theorem State.takeAsked_of_spells {a : Asked} {i : Instr} (h : a.Spells i) (s : State) (rq : Request) :
    s.takeAsked rq a = s.takeRequest rq (isRestartCommand i) (handlerOf i) := by
  rcases h with rfl | ⟨c, rfl, hrestart, hhandler⟩
  · rfl
  · rw [hrestart, show handlerOf i = fun s => (s, .refused c) from funext hhandler]
    rfl

/-- A command's bytes fit a REQUEST and are read as the command. -/
def Spelt (rq : Request) (i : Instr) : Prop :=
  ∃ code args, requestBytes i = code :: args ∧ 1 ≤ code.toNat ∧ code.toNat ≤ 16 ∧ args.length ≤ 118
    ∧ (askedOf rq code.toNat args).Spells i

/-- The READ RECORD commands in the order of their tables' codes (R191). -/
def readTables (rq : Request) (x : Word) : List Instr :=
  [.readRecordChannel rq x, .readRecordPoll rq x, .readRecordPoller rq x, .readRecordStation rq x,
    .readRecordStationSummary rq x, .readRecordPin rq x, .readRecordWatch rq x, .readRecordPort rq x,
    .readRecordLeg rq x, .readRecordCalls rq x, .readRecordPermit rq x, .readRecordSegment rq x,
    .readRecordPanel rq x, .readRecordEvacuation rq x, .readRecordRoute rq x, .readRecordOutputs rq x,
    .readRecordPlan rq x, .readRecordEgress rq x, .readRecordShed rq x, .readRecordSupply rq x,
    .readRecordIntegrity rq x, .readRecordParameters rq x, .readRecordFlags rq x, .readRecordManagement rq x]

section

variable {rq : Request} {i : Instr} {t a b : Byte} {x : Word} {rest : List Byte}

theorem readRequest_of_table (h : (readTables rq (wordOf a b))[t.toNat]? = some i) :
    readRequest rq [t, a, b] = .command i := by
  have hlength : ¬ [t, a, b].length ≠ 3 := fun h => h rfl
  unfold readRequest
  rw [if_neg hlength, show byteAt [t, a, b] 0 = t from rfl, show wordAt [t, a, b] 1 = wordOf a b from rfl]
  unfold readTables at h
  rw [h]

theorem readRequest_of_noTable (h : 24 ≤ t.toNat) : readRequest rq [t, a, b] = .refused .badTable := by
  have hlength : ¬ [t, a, b].length ≠ 3 := fun h => h rfl
  have hnone : (readTables rq (wordOf a b))[t.toNat]? = none := List.getElem?_eq_none h
  unfold readRequest
  rw [if_neg hlength, show byteAt [t, a, b] 0 = t from rfl, show wordAt [t, a, b] 1 = wordOf a b from rfl]
  unfold readTables at hnone
  rw [hnone]

theorem readRequest_of_badLength {args : List Byte} (h : args.length ≠ 3) : readRequest rq args = .refused .badValue :=
  if_pos h

theorem loadRequest_of_short {args : List Byte} (h : args.length < 3) : loadRequest rq args = .refused .badValue :=
  if_pos h

theorem loadRequest_of_noTable (h : loadShape t.toNat (wordOf a b) = none) :
    loadRequest rq (t :: a :: b :: rest) = .refused .badTable := by
  have hlength : ¬ (t :: a :: b :: rest).length < 3 := by simp
  unfold loadRequest
  dsimp only
  rw [if_neg hlength, show byteAt (t :: a :: b :: rest) 0 = t from rfl,
    show wordAt (t :: a :: b :: rest) 1 = wordOf a b from rfl, h]

theorem loadRequest_of_badIndex {n : Nat} (h : loadShape t.toNat (wordOf a b) = some (n, false)) :
    loadRequest rq (t :: a :: b :: rest) = .refused .badIndex := by
  have hlength : ¬ (t :: a :: b :: rest).length < 3 := by simp
  unfold loadRequest
  dsimp only
  rw [if_neg hlength, show byteAt (t :: a :: b :: rest) 0 = t from rfl,
    show wordAt (t :: a :: b :: rest) 1 = wordOf a b from rfl, h]
  rfl

theorem loadRequest_of_table {n : Nat} (h : loadShape t.toNat (wordOf a b) = some (n, true)) :
    loadRequest rq (t :: a :: b :: rest) = if rest.length = n then .command (loadCommand rq t.toNat (wordOf a b) rest)
      else .refused .badValue := by
  have hlength : ¬ (t :: a :: b :: rest).length < 3 := by simp
  have hiff : (t :: a :: b :: rest).length = 3 + n ↔ rest.length = n := by
    simp only [List.length_cons]
    omega
  unfold loadRequest
  dsimp only
  rw [if_neg hlength, show byteAt (t :: a :: b :: rest) 0 = t from rfl,
    show wordAt (t :: a :: b :: rest) 1 = wordOf a b from rfl, h]
  exact (if_neg Bool.true_eq_false.mp).trans (if_congr hiff rfl rfl)

/-- A read's bytes are read as the read of their table. -/
theorem spelt_of_read (t : Byte) (hbytes : requestBytes i = [1, t] ++ wordBytes x)
    (h : (readTables rq x)[t.toNat]? = some i) : Spelt rq i := by
  refine ⟨1, t :: wordBytes x, hbytes, by decide, by decide, (by decide : 3 ≤ 118), .inl ?_⟩
  refine readRequest_of_table ?_
  rwa [wordOf_highByte_lowByte]

/-- A load's bytes are read as the load of their table, whose own handler refuses an index outside the table. -/
theorem spelt_of_load (t : Byte) (n : Nat) (inRange : Bool) (hbytes : requestBytes i = [2, t] ++ wordBytes x ++ rest)
    (hshape : loadShape t.toNat x = some (n, inRange)) (hlength : rest.length = n) (hn : n ≤ 115)
    (hcommand : loadCommand rq t.toNat x rest = i) (hrestart : isRestartCommand i = false)
    (hbad : inRange = false → ∀ s, handlerOf i s = (s, .refused .badIndex)) : Spelt rq i := by
  have hargs : (t :: (wordBytes x ++ rest)).length ≤ 118 := by
    rw [List.length_cons, List.length_append, hlength]
    exact Nat.add_le_add_right (Nat.add_le_add_left hn 2) 1
  refine ⟨2, t :: (wordBytes x ++ rest), by rw [hbytes]; rfl, by decide, by decide, hargs, ?_⟩
  rw [← wordOf_highByte_lowByte x] at hshape
  show (loadRequest rq (t :: _ :: _ :: rest)).Spells i
  cases inRange with
  | false => exact .inr ⟨.badIndex, loadRequest_of_badIndex hshape, hrestart, hbad rfl⟩
  | true =>
    refine .inl ?_
    rw [loadRequest_of_table hshape, if_pos hlength, wordOf_highByte_lowByte, hcommand]

/-- The bytes of a request without a table are read as the request. -/
theorem spelt_of_command (code : Byte) {args : List Byte} (hbytes : requestBytes i = code :: args) (hlow : 1 ≤ code.toNat)
    (hhigh : code.toNat ≤ 16) (hlength : args.length ≤ 118) (h : askedOf rq code.toNat args = .command i) : Spelt rq i :=
  ⟨code, args, hbytes, hlow, hhigh, hlength, .inl h⟩

end

/-! ### The fields of a load are read back from their bytes (R192, R193) -/

theorem wordAt_wordBytes (w : Word) (l : List Byte) : wordAt (wordBytes w ++ l) 0 = w := wordOf_highByte_lowByte w

theorem wordAt_wordBytes_add (w : Word) (l : List Byte) (i : Nat) : wordAt (wordBytes w ++ l) (i + 2) = wordAt l i := rfl

theorem wordAt_cons_succ (x : Byte) (l : List Byte) (i : Nat) : wordAt (x :: l) (i + 1) = wordAt l i := rfl

theorem channelFieldsOf_channelBytes (f : ChannelFields) : channelFieldsOf (channelBytes f) = f := by
  simp only [channelFieldsOf, channelBytes, entryFieldsAt, entryBytes, List.flatMap_cons, List.flatMap_nil,
    List.append_assoc, List.append_nil, wordAt_wordBytes, wordAt_wordBytes_add]
  exact congrArg (fun x => { f with stale := x }) (wordOf_highByte_lowByte f.stale)

theorem bits56At_maskBytes (x : BitVec 56) (l : List Byte) : bits56At (maskBytes 7 x ++ l) 0 = x := by
  show (x >>> 48).setWidth 8 ++ (x >>> 40).setWidth 8 ++ (x >>> 32).setWidth 8 ++ (x >>> 24).setWidth 8
    ++ (x >>> 16).setWidth 8 ++ (x >>> 8).setWidth 8 ++ (x >>> 0).setWidth 8 = x
  refine BitVec.eq_of_getLsbD_eq fun i hi => ?_
  have hbit {k : Nat} (hk : k ≤ i) (hlt : i - k < 8) : ((x >>> k).setWidth 8).getLsbD (i - k) = x.getLsbD i := by
    rw [BitVec.getLsbD_setWidth, BitVec.getLsbD_ushiftRight, Nat.add_sub_cancel' hk, decide_eq_true hlt, Bool.true_and]
  simp only [BitVec.getLsbD_append, Nat.sub_sub]
  repeat' split
  all_goals exact hbit (by omega) (by omega)

theorem parameterFieldsOf_parameterBytes (f : ParameterFields) : parameterFieldsOf (parameterBytes f) = f := by
  exact congrArg₂ (fun control mask => { f with control := control, airMask := mask })
    (wordOf_highByte_lowByte f.control) (bits56At_maskBytes f.airMask [f.callMask, f.truckMask, f.refugeMask, f.nodeMask])

/-- The four words of a record are read back from their bytes. -/
theorem fourWords (a b c d : Word) : wordAt ([a, b, c, d].flatMap wordBytes) 0 = a
    ∧ wordAt ([a, b, c, d].flatMap wordBytes) 2 = b ∧ wordAt ([a, b, c, d].flatMap wordBytes) 4 = c
    ∧ wordAt ([a, b, c, d].flatMap wordBytes) 6 = d :=
  ⟨wordOf_highByte_lowByte a, wordOf_highByte_lowByte b, wordOf_highByte_lowByte c, wordOf_highByte_lowByte d⟩

theorem threeWords (a b c : Word) : wordAt ([a, b, c].flatMap wordBytes) 0 = a
    ∧ wordAt ([a, b, c].flatMap wordBytes) 2 = b ∧ wordAt ([a, b, c].flatMap wordBytes) 4 = c :=
  ⟨wordOf_highByte_lowByte a, wordOf_highByte_lowByte b, wordOf_highByte_lowByte c⟩

theorem State.loadPlan_of_noIndex {s : State} {x : Word} (v : Byte) (h : planIndex x = none) :
    s.loadPlan x v = (s, .refused .badIndex) := by
  rw [State.loadPlan, h]

theorem State.clearFlags_of_badGroup {s : State} {g : Byte} (h : 4 < g.toNat) (x : BitVec 56) :
    s.clearFlags g x = (s, .refused .badIndex) := by
  rw [State.clearFlags, Group.ofCode_of_lt h]

/-- The flag set of a group but AIR fits one byte. -/
theorem setWidth_setWidth_of_lt {x : BitVec 56} (h : x.toNat < 256) : ((x >>> (8 * 0)).setWidth 8).setWidth 56 = x := by
  refine BitVec.eq_of_toNat_eq ?_
  simp only [BitVec.toNat_setWidth, BitVec.toNat_ushiftRight, Nat.mul_zero, Nat.shiftRight_zero]
  omega

theorem clearFlagsRequest_of_group {rq : Request} {g : Byte} {k : Group} (h : Group.ofCode g.toNat = some k)
    (rest : List Byte) : clearFlagsRequest rq (g :: rest) = if rest.length = k.bytes then
      .command (.clearFlags rq g (if k = .air then bits56At rest 0 else (byteAt rest 0).setWidth 56))
      else .refused .badValue := by
  have hiff : (g :: rest).length = 1 + k.bytes ↔ rest.length = k.bytes := by
    rw [List.length_cons]
    omega
  rw [clearFlagsRequest, show byteAt (g :: rest) 0 = g from rfl, h]
  exact if_congr hiff rfl rfl

theorem Group.ofCode_pos {g : Byte} (hlow : 1 ≤ g.toNat) (hhigh : g.toNat ≤ 4) :
    ∃ k, Group.ofCode g.toNat = some k ∧ k ≠ .air ∧ k.bytes = 1 := by
  have h : g.toNat = 1 ∨ g.toNat = 2 ∨ g.toNat = 3 ∨ g.toNat = 4 := by omega
  rcases h with h | h | h | h <;> rw [h]
  · exact ⟨.call, rfl, by decide, rfl⟩
  · exact ⟨.truck, rfl, by decide, rfl⟩
  · exact ⟨.refuge, rfl, by decide, rfl⟩
  · exact ⟨.node, rfl, by decide, rfl⟩

theorem Group.ofCode_bytes {g : Byte} (h : g.toNat ≤ 4) :
    ∃ k, Group.ofCode g.toNat = some k ∧ k.bytes = if g = 0 then 7 else 1 := by
  by_cases hzero : g = 0
  · subst hzero
    exact ⟨.air, rfl, rfl⟩
  · obtain ⟨k, hk, -, hbytes⟩ := Group.ofCode_pos (Nat.one_le_iff_ne_zero.mpr fun e => hzero (BitVec.eq_of_toNat_eq e)) h
    exact ⟨k, hk, by rw [hbytes, if_neg hzero]⟩

theorem clearFlagsRequest_of_badLength {rq : Request} {g : Byte} {rest : List Byte} (h : g.toNat ≤ 4)
    (hlength : rest.length ≠ if g = 0 then 7 else 1) : clearFlagsRequest rq (g :: rest) = .refused .badValue := by
  obtain ⟨k, hk, hbytes⟩ := Group.ofCode_bytes h
  rw [clearFlagsRequest_of_group hk, hbytes]
  exact if_neg hlength

theorem clearFlagsRequest_of_badGroup {rq : Request} {g : Byte} (h : 4 < g.toNat) (rest : List Byte) :
    clearFlagsRequest rq (g :: rest) = .refused .badIndex := by
  rw [clearFlagsRequest, show byteAt (g :: rest) 0 = g from rfl, Group.ofCode_of_lt h]
  rfl

/-- A CLEAR FLAGS is spelt where its flag set fits its group (R196). -/
theorem spelt_clearFlags (rq : Request) {g : Byte} {x : BitVec 56} (h : 1 ≤ g.toNat → g.toNat ≤ 4 → x.toNat < 256) :
    Spelt rq (.clearFlags rq g x) := by
  refine ⟨13, g :: maskBytes (if g = 0 then 7 else 1) x, rfl, by decide, by decide, ?_, ?_⟩
  · rw [List.length_cons, maskBytes, List.length_map, List.length_range]
    split <;> decide
  show (clearFlagsRequest rq (g :: maskBytes (if g = 0 then 7 else 1) x)).Spells (.clearFlags rq g x)
  by_cases hzero : g = 0
  · subst hzero
    refine .inl ?_
    rw [clearFlagsRequest_of_group (k := .air) rfl, if_pos rfl]
    refine (if_pos rfl).trans ?_
    have hbits := bits56At_maskBytes x []
    rw [List.append_nil] at hbits
    rw [if_pos rfl, hbits]
  · have hlow : 1 ≤ g.toNat := Nat.one_le_iff_ne_zero.mpr fun e => hzero (BitVec.eq_of_toNat_eq e)
    rw [if_neg hzero]
    by_cases hhigh : g.toNat ≤ 4
    · obtain ⟨k, hk, hair, hbytes⟩ := Group.ofCode_pos hlow hhigh
      refine .inl ?_
      rw [clearFlagsRequest_of_group hk, hbytes]
      refine (if_pos rfl).trans ?_
      rw [if_neg hair]
      exact congrArg (fun y => Asked.command (.clearFlags rq g y)) (setWidth_setWidth_of_lt (h hlow hhigh))
    · exact .inr ⟨.badIndex, clearFlagsRequest_of_badGroup (by omega) _, rfl,
        fun s => State.clearFlags_of_badGroup (by omega) x⟩

/-- Every request's bytes fit a REQUEST and are read as the request (section 10.2). -/
theorem spelt_of_request {i : Instr} {rq : Request} (hi : i.request? = some rq)
    (hflags : ∀ q g x, i = .clearFlags q g x → 1 ≤ g.toNat → g.toNat ≤ 4 → x.toNat < 256) : Spelt rq i := by
  cases i with
  | coldStart | frameReceived | frameSent | linkDown | linkUp | lineMessageReceived | replyTimerExpiry | recordDue
  | staleTimerExpiry | airReportTimerExpiry | ageTick | relayAgeTick | setupTimerExpiry | leaseTimerExpiry
  | repeatTimerExpiry | doorTick | supplySample | scanStep | suspensionTimerExpiry | isolationTimerExpiry
  | statusTimerExpiry | outputCadenceToggle => cases hi
  | readRecordChannel | readRecordPoll | readRecordPoller | readRecordStation | readRecordStationSummary | readRecordPin
  | readRecordWatch | readRecordPort | readRecordLeg | readRecordCalls | readRecordPermit | readRecordSegment
  | readRecordPanel | readRecordEvacuation | readRecordRoute | readRecordOutputs | readRecordPlan | readRecordEgress
  | readRecordShed | readRecordSupply | readRecordIntegrity | readRecordParameters | readRecordFlags
  | readRecordManagement =>
    cases hi
    exact spelt_of_read _ rfl rfl
  | loadRecordChannel q x f =>
    cases hi
    refine spelt_of_load 0 40 (decide (x.toNat < 16)) rfl rfl rfl (by decide) ?_ rfl
      (fun h s => State.loadChannel_of_badIndex (Nat.not_lt.mp (of_decide_eq_false h)))
    exact congrArg (Instr.loadRecordChannel rq x) (channelFieldsOf_channelBytes f)
  | loadRecordPoll q x f =>
    cases hi
    refine spelt_of_load (rest := [f.enabled] ++ wordBytes f.address ++ [f.kind, f.interval]) 1 5 (decide (x.toNat < 8)) rfl
      rfl rfl (by decide) ?_ rfl (fun h s => State.loadPoll_of_badIndex (Nat.not_lt.mp (of_decide_eq_false h)))
    exact congrArg (fun y => Instr.loadRecordPoll rq x { f with address := y }) (wordOf_highByte_lowByte f.address)
  | loadRecordPin q x f =>
    cases hi
    refine spelt_of_load 5 6 (decide (x.toNat < 4)) rfl rfl rfl (by decide) ?_ rfl
      (fun h s => State.loadPin_of_badIndex f (Nat.not_lt.mp (of_decide_eq_false h)))
    obtain ⟨h0, h1, h2⟩ := threeWords f.valid f.base f.mask
    show Instr.loadRecordPin rq x ⟨wordAt _ 0, wordAt _ 2, wordAt _ 4⟩ = _
    rw [h0, h1, h2]
  | loadRecordWatch q x f =>
    cases hi
    refine spelt_of_load (rest := [f.enabled] ++ wordBytes f.address) 6 3 (decide (x.toNat < 4)) rfl rfl rfl (by decide) ?_ rfl
      (fun h s => State.loadWatch_of_badIndex (Nat.not_lt.mp (of_decide_eq_false h)) f)
    exact congrArg (fun y => Instr.loadRecordWatch rq x { f with address := y }) (wordOf_highByte_lowByte f.address)
  | loadRecordPermit q x f =>
    cases hi
    refine spelt_of_load 10 8 (decide (x.toNat < 4)) rfl rfl rfl (by decide) ?_ rfl
      (fun h s => State.loadPermit_of_badIndex f (Nat.not_lt.mp (of_decide_eq_false h)))
    obtain ⟨h0, h1, h2, h3⟩ := fourWords f.low f.high f.miner f.vehicle
    show Instr.loadRecordPermit rq x ⟨wordAt _ 0, wordAt _ 2, wordAt _ 4, wordAt _ 6⟩ = _
    rw [h0, h1, h2, h3]
  | loadRecordRoute q x f =>
    cases hi
    refine spelt_of_load 14 8 (decide (x.toNat < 11)) rfl rfl rfl (by decide) ?_ rfl
      (fun h s => State.loadRoute_of_badIndex f (Nat.not_lt.mp (of_decide_eq_false h)))
    obtain ⟨h0, h1, h2, h3⟩ := fourWords f.siren f.strobe f.faultLine f.aux
    show Instr.loadRecordRoute rq x ⟨wordAt _ 0, wordAt _ 2, wordAt _ 4, wordAt _ 6⟩ = _
    rw [h0, h1, h2, h3]
  | loadRecordPlan q x v =>
    cases hi
    exact spelt_of_load 16 1 (planIndex x).isSome rfl rfl rfl (by decide) rfl rfl
      (fun h s => State.loadPlan_of_noIndex v (Option.isSome_eq_false_iff.mp h |> Option.isNone_iff_eq_none.mp))
  | loadRecordShed q x f =>
    cases hi
    refine spelt_of_load 18 8 (decide (x.toNat < 4)) rfl rfl rfl (by decide) ?_ rfl
      (fun h s => State.loadShed_of_badIndex (Nat.not_lt.mp (of_decide_eq_false h)))
    obtain ⟨h0, h1, h2, h3⟩ := fourWords f.enabled f.input f.gate f.level
    show Instr.loadRecordShed rq x ⟨wordAt _ 0, wordAt _ 2, wordAt _ 4, wordAt _ 6⟩ = _
    rw [h0, h1, h2, h3]
  | loadRecordParameters q x f =>
    cases hi
    refine spelt_of_load 21 24 true rfl rfl rfl (by decide) ?_ rfl (fun h => absurd h (by decide))
    exact congrArg (Instr.loadRecordParameters rq x) (parameterFieldsOf_parameterBytes f)
  | clearFlags q g x =>
    cases hi
    exact spelt_clearFlags rq (hflags rq g x rfl)
  | setCheck q v =>
    cases hi
    exact spelt_of_command 3 rfl (by decide) (by decide) (by decide : 2 ≤ 118)
      (congrArg (fun y => Asked.command (.setCheck rq y)) (wordOf_highByte_lowByte v))
  | cancelSos q u =>
    cases hi
    exact spelt_of_command 12 rfl (by decide) (by decide) (by decide : 2 ≤ 118)
      (congrArg (fun y => Asked.command (.cancelSos rq y)) (wordOf_highByte_lowByte u))
  | testChannel q c v n =>
    cases hi
    exact spelt_of_command 6 rfl (by decide) (by decide) (by decide : 4 ≤ 118)
      (congrArg (fun y => Asked.command (.testChannel rq c y n)) (wordOf_highByte_lowByte v))
  | selectPlan q b =>
    cases hi
    exact spelt_of_command 4 rfl (by decide) (by decide) (by decide : 1 ≤ 118) rfl
  | resetTrip q c =>
    cases hi
    exact spelt_of_command 5 rfl (by decide) (by decide) (by decide : 1 ≤ 118) rfl
  | ackAttention q g =>
    cases hi
    exact spelt_of_command 14 rfl (by decide) (by decide) (by decide : 1 ≤ 118) rfl
  | evacuate | standDown | closeSegment | openSegment | releaseSegment | clearCounters | restart =>
    cases hi
    exact spelt_of_command _ rfl (by decide) (by decide) (by decide : 0 ≤ 118) rfl

/-! ### A delivered REQUEST (R87, R189, R190) -/

section

variable {s : State} {p : Port} {f : Frame} {tag code : Byte} {args : List Byte}

theorem request_kind? (hcls : f.cls = .mgmt) (hkind : f.kind = 1) : f.kind? = some .request :=
  kind?_of_codes (k := .request) hcls hkind

variable (hk : f.kind? = some .request) (hpayload : f.payload = tag :: code :: args)
include hk hpayload

theorem State.deliver_request_unfit (hcode : code = 0 ∨ 16 < code.toNat) :
    s.deliver p f = s.countPort p (fun k => { k with payloadErrors := k.payloadErrors + 1 }) := by
  refine State.deliver_of_unfit s p f hk ?_
  rw [hpayload]
  rintro ⟨-, -, hlow, hhigh⟩
  rcases hcode with rfl | h
  · exact absurd hlow (by decide : ¬ 1 ≤ (0 : Byte).toNat)
  · exact absurd hhigh (Nat.not_le.mpr h)

variable (hlow : 1 ≤ code.toNat) (hhigh : code.toNat ≤ 16) (hlength : args.length ≤ 118)
include hlow hhigh hlength

/-- A REQUEST that fits its kind is read by its request code, in a node with an address. -/
theorem State.deliver_request : s.deliver p f
    = s.ifAddressed (fun s => s.takeAsked ⟨tag, f.src, p⟩ (askedOf ⟨tag, f.src, p⟩ code.toNat args)) := by
  have hfits : payloadFits .request f.payload = true := by
    rw [payloadFits_iff, hpayload]
    refine ⟨?_, ?_, hlow, hhigh⟩
    · simp
    · simp only [List.length_cons]
      omega
  have hread (t : State) : t.requestFrame p f
      = t.takeAsked ⟨tag, f.src, p⟩ (askedOf ⟨tag, f.src, p⟩ code.toNat args) := by
    rw [State.requestFrame, hpayload]
  rw [State.deliver_of_fits hk hfits]
  exact congrArg s.ifAddressed (funext hread)

theorem State.deliver_request_refused (hsource : isSurface f.src = true) (hown : s.nodeAddr?.isSome = true)
    (hfree : s.mgmt.restartPending = false) {c : Cause} (hc : c ≠ .none)
    (h : askedOf ⟨tag, f.src, p⟩ code.toNat args = .refused c) : s.deliver p f = ({ s with mgmt := { s.mgmt with
      counters := { s.mgmt.counters with requestsTaken := s.mgmt.counters.requestsTaken + 1 } } } :
        State).answerRefused ⟨tag, f.src, p⟩ c := by
  have hgoes : s.carryOut ⟨tag, f.src, p⟩ false (fun s => (s, .refused c)) = ({ s with mgmt := { s.mgmt with
      counters := { s.mgmt.counters with requestsTaken := s.mgmt.counters.requestsTaken + 1 } } } :
        State).answer ⟨tag, f.src, p⟩ (.refused c) := by
    rw [State.carryOut]
    refine if_neg ?_
    show ¬ (s.mgmt.restartPending && !false) = true
    rw [hfree]
    decide
  rw [State.deliver_request hk hpayload hlow hhigh hlength, State.ifAddressed_of_isSome hown, h, State.takeAsked,
    State.takeRequest_surface hown hsource, hgoes, State.refused_answer _ hc]

end

/-- A request's frame does in the walk what its row does (assumption 4). -/
theorem exec_request_delivered {i : Instr} {rq : Request} {s : State} {f : Frame} (hi : i.request? = some rq)
    (hk : f.kind? = some .request) (hsrc : f.src = rq.source) (hpayload : f.payload = rq.tag :: requestBytes i)
    (hspelt : Spelt rq i) : exec i s = .next (((s.judging rq).deliver rq.port f).concluded s.tally) := by
  obtain ⟨code, args, hbytes, hlow, hhigh, hlength, hspells⟩ := hspelt
  have hdelivered : (s.judging rq).deliver rq.port f
      = (s.judging rq).takeRequest rq (isRestartCommand i) (handlerOf i) := by
    rw [hbytes] at hpayload
    rw [State.deliver_request hk hpayload hlow hhigh hlength, hsrc]
    unfold State.ifAddressed
    split
    · exact State.takeAsked_of_spells hspells _ rq
    next hnone => exact (State.takeRequest_addressless hnone _ _).symm
  exact exec_concluded ((requestWork_eq hi).trans hdelivered.symm)

/-! ### The refusals of a REQUEST's bytes (R191, section 10.2) -/

section

variable {rq : Request} {code : Byte} {args : List Byte}

theorem withLength_of_ne {n : Nat} {i : Instr} (h : args.length ≠ n) : withLength n args i = .refused .badValue := if_neg h

/-- The lengths of the arguments that have no table, a group or a form of their own. -/
theorem askedOf_badLength {n : Nat} (h : (code.toNat, n) ∈ [(3, 2), (4, 1), (5, 1), (6, 4), (7, 0), (8, 0), (9, 0), (10, 0),
    (11, 0), (12, 2), (14, 1), (15, 0), (16, 0)]) (hlength : args.length ≠ n) :
    askedOf rq code.toNat args = .refused .badValue := by
  simp only [List.mem_cons, Prod.mk.injEq, List.not_mem_nil, or_false] at h
  rcases h with ⟨hc, rfl⟩ | ⟨hc, rfl⟩ | ⟨hc, rfl⟩ | ⟨hc, rfl⟩ | ⟨hc, rfl⟩ | ⟨hc, rfl⟩ | ⟨hc, rfl⟩ | ⟨hc, rfl⟩ | ⟨hc, rfl⟩
    | ⟨hc, rfl⟩ | ⟨hc, rfl⟩ | ⟨hc, rfl⟩ | ⟨hc, rfl⟩ <;> rw [hc] <;> exact withLength_of_ne hlength

variable {a b table : Byte} {rest : List Byte}

theorem loadShape_of_noTable (x : Word) (h : table ≠ 16) (hnone : ∀ e ∈ ([(0, 40, 16), (1, 5, 8), (5, 6, 4), (6, 3, 4),
    (10, 8, 4), (14, 8, 11), (18, 8, 4), (21, 24, 65536)] : List (Nat × Nat × Nat)), e.1 ≠ table.toNat) :
    loadShape table.toNat x = none := by
  have hplan : table.toNat ≠ 16 := fun e => h (BitVec.eq_of_toNat_eq e)
  simp only [List.forall_mem_cons, List.not_mem_nil, false_implies, implies_true, and_true] at hnone
  obtain ⟨h0, h1, h5, h6, h10, h14, h18, h21⟩ := hnone
  unfold loadShape
  rw [if_neg h0.symm, if_neg h1.symm, if_neg h5.symm, if_neg h6.symm, if_neg h10.symm, if_neg h14.symm, if_neg hplan,
    if_neg h18.symm, if_neg h21.symm]

theorem loadShape_of_table {fields indices : Nat} (x : Word) (h : (table.toNat, fields, indices) ∈ ([(0, 40, 16),
    (1, 5, 8), (5, 6, 4), (6, 3, 4), (10, 8, 4), (14, 8, 11), (18, 8, 4), (21, 24, 65536)] : List (Nat × Nat × Nat))) :
    loadShape table.toNat x = some (fields, decide (x.toNat < indices)) := by
  simp only [List.mem_cons, Prod.mk.injEq, List.not_mem_nil, or_false] at h
  rcases h with ⟨ht, rfl, rfl⟩ | ⟨ht, rfl, rfl⟩ | ⟨ht, rfl, rfl⟩ | ⟨ht, rfl, rfl⟩ | ⟨ht, rfl, rfl⟩ | ⟨ht, rfl, rfl⟩
    | ⟨ht, rfl, rfl⟩ | ⟨ht, rfl, rfl⟩ <;> rw [ht]
  case' inr.inr.inr.inr.inr.inr.inr => rw [decide_eq_true x.isLt]
  all_goals rfl

theorem loadShape_of_plan (h : table = 16) (x : Word) : loadShape table.toNat x = some (1, (planIndex x).isSome) := by
  subst h
  rfl

theorem planIndex_wordOf_isSome : (planIndex (wordOf a b)).isSome = true ↔ a.toNat < 2 ∧ b.toNat < 32 := by
  have hb := b.isLt
  have hhigh := toNat_highByte (wordOf a b)
  have hlow := toNat_lowByte (wordOf a b)
  rw [highByte_wordOf] at hhigh
  rw [lowByte_wordOf, BitVec.toNat_setWidth_of_le (by decide)] at hlow
  have hx : (wordOf a b).toNat = 256 * a.toNat + b.toNat := by omega
  constructor
  · intro h
    by_contra hbad
    rw [planIndex_of_bad (by omega)] at h
    exact absurd h (by decide)
  · rintro ⟨ha, hb⟩
    have hbank : a.toNat = 0 ∨ a.toNat = 1 := by omega
    rcases hbank with h | h
    · rw [planIndex_of_eq (b := .zero) (i := ⟨b.toNat, hb⟩) (by rw [hx, h]; rfl)]
      rfl
    · rw [planIndex_of_eq (b := .one) (i := ⟨b.toNat, hb⟩) (by rw [hx, h]; rfl)]
      rfl

end

/-- Settles O24: a request row is judged by `State.takeRequest`, a REQUEST spells its row (`spelt_of_request`), and bytes
that spell none are refused by `askedOf`. -/
theorem requestsJudgedBeforeTheyAct : Obligations.RequestsJudgedBeforeTheyAct := by
  refine ⟨fun i rq s hi => ⟨fun hown hsource => ?_, fun hown hsource => ?_, fun hown hsource => ?_,
    fun hown hsource hpending hne => ?_⟩, fun i rq s f hi hcls hkind hsrc hpayload hflags => ?_,
    fun s p f tag code args hcls hkind hpayload hlength => ⟨fun hcode => ?_, fun hsource hown hfree => ?_⟩⟩
  · have hstate : s.judging rq = { s with scratch := {} } := by rw [State.judging, hsource]; rfl
    rw [exec_request_addressless hi hown, hstate]
  · have hstate : s.judging rq = { s with
        scratch := {}, mgmt := { s.mgmt with isolated := false, isolationTimer := s.isolationRestarted } } := by
      rw [State.judging, hsource]; rfl
    rw [exec_request_addressless hi hown, hstate]
  · have hstate : s.judging rq = { s with scratch := {} } := by rw [State.judging, hsource]; rfl
    rw [exec_request_foreign hi hown hsource, hstate]
    rfl
  · have hstate : s.judging rq = { s with
        scratch := {}, mgmt := { s.mgmt with isolated := false, isolationTimer := s.isolationRestarted } } := by
      rw [State.judging, hsource]; rfl
    rw [exec_request_busy hi hown hsource hpending hne, hstate]
    rfl
  · exact exec_request_delivered hi (request_kind? hcls hkind) hsrc hpayload (spelt_of_request hi hflags)
  · exact State.deliver_request_unfit (request_kind? hcls hkind) hpayload hcode
  · have hrefused {c : Cause} (hc : c ≠ .none) (hlow : 1 ≤ code.toNat) (hhigh : code.toNat ≤ 16)
        (h : askedOf ⟨tag, f.src, p⟩ code.toNat args = .refused c) :=
      State.deliver_request_refused (s := s) (p := p) (request_kind? hcls hkind) hpayload hlow hhigh hlength hsource hown
        hfree hc h
    have hcoded {k : Byte} (hk : 1 ≤ k.toNat ∧ k.toNat ≤ 16) {c : Cause} (hne : c ≠ .none) (hc : code = k)
        (h : askedOf ⟨tag, f.src, p⟩ k.toNat args = .refused c) :=
      hrefused hne (by rw [hc]; exact hk.1) (by rw [hc]; exact hk.2) (by rw [hc]; exact h)
    have hread {c : Cause} := hcoded (k := 1) (by decide) (c := c)
    have hload {c : Cause} := hcoded (k := 2) (by decide) (c := c)
    have hflags {c : Cause} := hcoded (k := 13) (by decide) (c := c)
    refine ⟨fun hcode hshort => ?_, fun table a b rest hargs => ⟨fun hc hrest => ?_, fun hc hrest htable => ?_,
      fun hc hplan hnone => ?_, fun fields indices hc hmem => ⟨fun hindex => ?_, fun hindex hrest => ?_⟩,
      fun hc htable => ⟨fun hindex => ?_, fun ha hb hrest => ?_⟩⟩, fun n hmem hne => ?_,
      fun hc => ⟨fun hnil => ?_, fun g rest hargs => ⟨fun hg => ?_, fun hg hrest => ?_⟩⟩⟩
    · rcases hcode with hc | hc
      · exact hread (by decide) hc (readRequest_of_badLength (by omega))
      · exact hload (by decide) hc (loadRequest_of_short hshort)
    · refine hread (by decide) hc (readRequest_of_badLength ?_)
      rw [hargs]
      exact fun h => hrest (List.length_eq_zero_iff.mp (Nat.succ_injective (Nat.succ_injective (Nat.succ_injective h))))
    · refine hread (by decide) hc ?_
      rw [hargs, hrest]
      exact readRequest_of_noTable htable
    · refine hload (by decide) hc ?_
      rw [hargs]
      exact loadRequest_of_noTable (loadShape_of_noTable _ hplan hnone)
    · refine hload (by decide) hc ?_
      rw [hargs]
      refine loadRequest_of_badIndex (n := fields) ?_
      rw [loadShape_of_table _ hmem, decide_eq_false (Nat.not_lt.mpr hindex)]
    · refine hload (by decide) hc ?_
      rw [hargs]
      refine (loadRequest_of_table (n := fields) ?_).trans (if_neg hrest)
      rw [loadShape_of_table _ hmem, decide_eq_true hindex]
    · refine hload (by decide) hc ?_
      rw [hargs]
      refine loadRequest_of_badIndex (n := 1) ?_
      rw [loadShape_of_plan htable, Bool.eq_false_iff.mpr (mt planIndex_wordOf_isSome.mp hindex)]
    · refine hload (by decide) hc ?_
      rw [hargs]
      refine (loadRequest_of_table (n := 1) ?_).trans (if_neg hrest)
      rw [loadShape_of_plan htable, planIndex_wordOf_isSome.mpr ⟨ha, hb⟩]
    · have hbounds : 1 ≤ code.toNat ∧ code.toNat ≤ 16 := by
        simp only [List.mem_cons, Prod.mk.injEq, List.not_mem_nil, or_false] at hmem
        omega
      exact hrefused (by decide) hbounds.1 hbounds.2 (askedOf_badLength hmem hne)
    · refine hflags (by decide) hc ?_
      rw [hnil]
      rfl
    · refine hflags (by decide) hc ?_
      rw [hargs]
      exact clearFlagsRequest_of_badGroup hg rest
    · refine hflags (by decide) hc ?_
      rw [hargs]
      exact clearFlagsRequest_of_badLength hg hrest

end Sys2Proof.Machine
end

section

set_option Elab.async false

/-! PROOF. Call setups: the room for a leg, originating and terminating setups and glares (R100 to R105, R111, R112). -/

namespace Sys2Proof.Machine

/-! ### The lowest leg that qualifies -/

/-- The first leg with a property is the lowest-indexed one. -/
theorem find?_legIndices {p : Fin 8 → Bool} {i : Fin 8} (hi : p i = true) (hbefore : ∀ j, j.val < i.val → p j = false) :
    legIndices.find? p = some i := by
  rw [List.find?_eq_some_iff_getElem]
  have hget : ∀ k : Fin 8, legIndices[k.val]'k.isLt = k := by decide
  refine ⟨hi, i.val, i.isLt, hget i, fun j hj => ?_⟩
  have hj8 : j < 8 := hj.trans i.isLt
  have hfalse : p (legIndices[j]'hj8) = false := by
    rw [show legIndices[j]'hj8 = ⟨j, hj8⟩ from hget ⟨j, hj8⟩]
    exact hbefore ⟨j, hj8⟩ hj
  exact (congrArg not hfalse).trans rfl

section

variable {s : State} {i : Fin 8} {p : Leg → Bool}

/-- The lowest IDLE leg. -/
def State.LowestIdle (s : State) (i : Fin 8) : Prop :=
  (s.leg i).state = .idle ∧ ∀ j, j.val < i.val → (s.leg j).state ≠ .idle

theorem State.idleLeg_of_lowest (h : s.LowestIdle i) : s.idleLeg = some i :=
  find?_legIndices (beq_iff_eq.mpr h.1) fun j hj => beq_eq_false_iff_ne.mpr (h.2 j hj)

theorem State.findLeg_eq_none (h : ∀ i, (s.leg i).state ≠ .idle → p (s.leg i) = false) : s.findLeg p = none := by
  refine List.find?_eq_none.mpr fun i _ => ?_
  rw [Bool.and_eq_true, bne_iff_ne]
  rintro ⟨hbusy, hp⟩
  rw [h i hbusy] at hp
  cases hp

/-- The one leg that qualifies is found. -/
theorem State.findLeg_of_only (hbusy : (s.leg i).state ≠ .idle) (hp : p (s.leg i) = true)
    (honly : ∀ j, (s.leg j).state ≠ .idle → p (s.leg j) = true → j = i) : s.findLeg p = some i := by
  refine find?_legIndices ?_ fun j hj => ?_
  · rw [hp, Bool.and_true]
    exact bne_iff_ne.mpr hbusy
  · rw [Bool.eq_false_iff, Ne, Bool.and_eq_true, bne_iff_ne]
    rintro ⟨hb, hq⟩
    exact absurd (congrArg Fin.val (honly j hb hq)) (Nat.ne_of_lt hj)

/-! ### Room for a leg (R101, R102, R105) -/

theorem foldr_min_eq {f : Fin 8 → Nat} {l : List (Fin 8)} (hi : i ∈ l) (hbound : f i ≤ 2) (hleast : ∀ k ∈ l, f i ≤ f k) :
    l.foldr (fun i n => min (f i) n) 2 = f i := by
  refine Nat.le_antisymm (foldr_min_le f l hi) ?_
  clear hi
  induction l with
  | nil => exact hbound
  | cons k l ih =>
    rw [List.foldr_cons]
    exact Nat.le_min.mpr ⟨hleast k List.mem_cons_self, ih fun j hj => hleast j (List.mem_cons_of_mem k hj)⟩

/-- The newest of the weakest counting legs, by its place in the start list (R102). -/
theorem State.weakestLeg_of_place {older newer : List (Fin 8)} (hlist : s.calls.startList = older ++ i :: newer)
    (holder : ∀ j ∈ older, (s.leg i).priority.code ≤ (s.leg j).priority.code)
    (hnewer : ∀ j ∈ newer, (s.leg i).priority.code < (s.leg j).priority.code) : s.weakestLeg = some i := by
  have hlowest : s.lowestPriority = (s.leg i).priority.code := by
    refine foldr_min_eq (f := fun k => (s.leg k).priority.code) (by simp [hlist]) (Priority.code_le _) fun k hk => ?_
    rw [hlist, List.mem_append, List.mem_cons] at hk
    rcases hk with hk | rfl | hk
    · exact holder k hk
    · exact le_rfl
    · exact (hnewer k hk).le
  refine List.find?_eq_some_iff_append.mpr ⟨?_, newer.reverse, older.reverse, by simp [hlist], fun j hj => ?_⟩
  · rw [hlowest]
    exact beq_self_eq_true _
  · rw [hlowest]
    have hne := hnewer j (List.mem_reverse.mp hj)
    simpa using hne.ne'

theorem State.weakestLeg_mem (h : s.weakestLeg = some i) : i ∈ s.calls.startList :=
  List.mem_reverse.mp (List.mem_of_find?_eq_some h)

variable {prio : Priority}

theorem State.findRoom_restricted (h : prio.code < s.minimum.code) : s.findRoom prio = (s, .inr .restricted) := if_pos h

theorem State.findRoom_lowest (hminimum : s.minimum.code ≤ prio.code) (hroom : s.countingLegs < s.ceiling)
    (h : s.LowestIdle i) : s.findRoom prio = (s, .inl i) := by
  have hallocate : s.allocate prio = (s, some i) := (if_pos hroom).trans (by rw [State.idleLeg_of_lowest h])
  rw [State.findRoom, if_neg (Nat.not_lt.mpr hminimum), hallocate]

theorem State.findRoom_busy (hminimum : s.minimum.code ≤ prio.code) (hfull : s.ceiling ≤ s.countingLegs)
    (h : ∀ i ∈ s.calls.startList, prio.code ≤ (s.leg i).priority.code) : s.findRoom prio = (s, .inr .nodeBusy) := by
  have hallocate : s.allocate prio = (s, none) := by
    rw [State.allocate, if_neg (Nat.not_lt.mpr hfull)]
    split
    next v hv => exact if_neg (Nat.not_lt.mpr (h v (State.weakestLeg_mem hv)))
    · rfl
  rw [State.findRoom, if_neg (Nat.not_lt.mpr hminimum), hallocate]

/-- A leg has been preempted (R102). -/
def State.preempted (s : State) (v : Fin 8) : State :=
  ((s.clearLeg v .preempted .node).setFlag Flag.preempted).countCalls (fun k => { k with preemptions := k.preemptions + 1 })

theorem State.findRoom_preempts {v : Fin 8} (hminimum : s.minimum.code ≤ prio.code) (hfull : s.ceiling ≤ s.countingLegs)
    (hv : s.weakestLeg = some v) (hweaker : (s.leg v).priority.code < prio.code) (h : (s.preempted v).LowestIdle i) :
    s.findRoom prio = (s.preempted v, .inl i) := by
  have hallocate : s.allocate prio = (s.preempted v, some i) := by
    rw [State.allocate, if_neg (Nat.not_lt.mpr hfull), hv]
    refine (if_pos hweaker).trans ?_
    exact congrArg (fun o => (s.preempted v, o)) (State.idleLeg_of_lowest h)
  rw [State.findRoom, if_neg (Nat.not_lt.mpr hminimum), hallocate]

/-- What a setup does is decided by the room that it finds. -/
theorem State.findsRoom_of {refused : ClearCause → State × Bool} {accepted : State → Fin 8 → State × Bool} {r : State × Bool}
    (hrefused : ∀ c, s.findRoom prio = (s, .inr c) → r = refused c)
    (haccepted : ∀ t i, s.findRoom prio = (t, .inl i) → r = accepted t i) : s.FindsRoom prio refused accepted r := by
  refine ⟨fun h => hrefused _ (State.findRoom_restricted h), fun hminimum => ⟨fun i hroom hi => ?_, fun hfull hall => ?_,
    fun older v newer hfull hlist hweaker holder hnewer => ?_⟩⟩
  · exact haccepted _ _ (State.findRoom_lowest hminimum hroom hi)
  · exact hrefused _ (State.findRoom_busy hminimum hfull hall)
  · intro t i hi
    exact haccepted _ _ (State.findRoom_preempts hminimum hfull (State.weakestLeg_of_place hlist holder hnewer) hweaker hi)

end

/-! ### Legs taken and setups refused (R102 to R105) -/

theorem State.takeLeg_eq (s : State) (i : Fin 8) (x : LegState) (d : LegDirection) (c : Setup) : s.takeLeg i x d c
    = s.withLegTaken i (c.legFor d x (if x = .active then none else some (s.now + s.params.setup.ms))) := by
  cases d with
  | orig => rfl
  | term => rfl

theorem State.refuseSetup_eq (s : State) (c : Setup) (cause : ClearCause) : s.refuseSetup c cause = s.setupRefused c cause := rfl

theorem Setup.clamped_callee (c : Setup) : c.clamped.callee = c.callee := by
  unfold Setup.clamped
  split <;> rfl

theorem Setup.clamped_caller (c : Setup) : c.clamped.caller = c.caller := by
  unfold Setup.clamped
  split <;> rfl

theorem Setup.clamped_eq (c : Setup) : c.clamped
    = { c with priority := if c.priority = .emergency ∧ isSurface c.callee = false then .urgent else c.priority } := by
  unfold Setup.clamped
  split <;> rfl

theorem calleeGood_iff (c : Setup) : calleeGood c = true
    ↔ (isMiner c.callee = true ∨ isVehicle c.callee = true ∨ isSurface c.callee = true) ∧ c.callee ≠ c.caller := by
  simp [calleeGood, isUnit, or_assoc]

theorem State.permitted_iff (s : State) (caller callee : Addr) : s.permitted caller callee = true
    ↔ ∃ i : Fin 4, s.calls.permits[i].low.toNat ≤ callee.toNat ∧ callee.toNat ≤ s.calls.permits[i].high.toNat
      ∧ (isMiner caller = true ∧ s.calls.permits[i].miner = true ∨ isVehicle caller = true ∧ s.calls.permits[i].vehicle = true) := by
  rw [State.permitted, List.any_eq_true]
  constructor
  · rintro ⟨r, hr, hpermits⟩
    obtain ⟨i, hi, rfl⟩ := Vector.getElem_of_mem (Vector.mem_toList_iff.mp hr)
    exact ⟨⟨i, hi⟩, by simpa [PermitRange.permits, and_assoc] using hpermits⟩
  · rintro ⟨i, hi⟩
    exact ⟨s.calls.permits[i], Vector.mem_toList_iff.mpr (Vector.getElem_mem i.isLt), by
      simpa [PermitRange.permits, and_assoc] using hi⟩

/-! ### An originating setup (R101, R103) -/

section

variable {s : State} {c : Setup} {won : Bool}

theorem State.originating_badCallee (h : calleeGood c = false) :
    s.originating c won = s.setupRefused c.clamped .notPermitted := by
  have hclamped : calleeGood c.clamped = false := by
    rw [calleeGood, c.clamped_callee, c.clamped_caller]
    exact h
  unfold State.originating
  dsimp only
  rw [hclamped]
  rfl

/-- A setup that passes the callee's checks (R101). -/
def State.Allowed (s : State) (c : Setup) : Prop :=
  c.priority = .emergency ∨ s.permitted c.caller c.callee = true

theorem State.originating_notPermitted (hgood : calleeGood c = true) (h : ¬ s.Allowed c.clamped) :
    s.originating c won = s.setupRefused c.clamped .notPermitted := by
  have hclamped : calleeGood c.clamped = true := by
    rw [calleeGood, c.clamped_callee, c.clamped_caller]
    exact hgood
  have hno : c.clamped.priority ≠ .emergency ∧ s.permitted c.clamped.caller c.clamped.callee = false := by
    rw [State.Allowed, not_or, Bool.not_eq_true] at h
    exact h
  unfold State.originating
  dsimp only
  rw [hclamped, if_pos hno]
  rfl

/-- A setup that is allowed looks for room. -/
theorem State.originating_allowed (hgood : calleeGood c = true) (h : s.Allowed c.clamped) :
    (∀ t x, s.findRoom c.clamped.priority = (t, .inr x) → s.originating c won = t.setupRefused c.clamped x)
    ∧ (∀ t i, s.findRoom c.clamped.priority = (t, .inl i) → s.originating c won = t.acceptOriginating i c.clamped won) := by
  have hclamped : calleeGood c.clamped = true := by
    rw [calleeGood, c.clamped_callee, c.clamped_caller]
    exact hgood
  have hyes : ¬ (c.clamped.priority ≠ .emergency ∧ s.permitted c.clamped.caller c.clamped.callee = false) := by
    rintro ⟨hp, hno⟩
    rcases h with h | h
    · exact hp h
    · rw [h] at hno
      cases hno
  constructor <;>
  · intro t x hroom
    unfold State.originating
    dsimp only
    rw [hclamped, if_neg hyes, hroom]
    rfl

end

section

variable {t : State} {i : Fin 8} {c : Setup} {won : Bool}

/-- The leg of a unit here that calls, taken for its setup (R103). -/
def State.callerTaken (t : State) (i : Fin 8) (c : Setup) : State :=
  t.withLegTaken i (c.legFor .orig .originating (some (t.now + t.params.setup.ms)))

theorem State.acceptOriginating_away (h : ¬ (isUnit c.callee = true ∧ t.attachedHere c.callee = true)) :
    t.acceptOriginating i c won = (t.callerTaken i c).originate ⟨.callSetup, c.callee, c.callId.bytes
      ++ wordBytes c.caller ++ wordBytes c.callee ++ [byteOf c.priority.code]⟩ := by
  unfold State.acceptOriginating
  dsimp only
  rw [State.takeLeg_eq]
  exact if_neg fun hboth => h (Bool.and_eq_true_iff.mp hboth)

theorem State.acceptOriginating_full (h : isUnit c.callee = true ∧ t.attachedHere c.callee = true) {v : State} {x : ClearCause}
    (hroom : (t.callerTaken i c).findRoom c.priority = (v, .inr x)) :
    t.acceptOriginating i c won = v.clearLeg i x .node := by
  unfold State.acceptOriginating
  dsimp only
  rw [State.takeLeg_eq, show (if LegState.originating = .active then none else some (t.now + t.params.setup.ms))
    = some (t.now + t.params.setup.ms) from rfl, ← State.callerTaken, hroom]
  exact if_pos (Bool.and_eq_true_iff.mpr h)

/-- The callee's leg taken and paired with the caller's (R103). -/
def State.calleePaired (v : State) (i j : Fin 8) (c : Setup) : State :=
  (v.withLegTaken j (c.legFor .term .ringing (some (v.now + v.params.setup.ms)))).pairLegs i j

theorem State.acceptOriginating_here (h : isUnit c.callee = true ∧ t.attachedHere c.callee = true) {v : State} {j : Fin 8}
    (hroom : (t.callerTaken i c).findRoom c.priority = (v, .inl j)) (w : State) (hw : w = v.calleePaired i j c) :
    t.acceptOriginating i c won = if won then
        ((((w.setLeg i (w.leg i).activate).setLeg j ((w.setLeg i (w.leg i).activate).leg j).activate).originate
          ⟨.callAnswer, c.caller, c.callId.bytes⟩).originate ⟨.callAnswer, c.callee, c.callId.bytes⟩)
      else
        (w.originate ⟨.callAlerting, c.caller, c.callId.bytes⟩).originate ⟨.callSetup, c.callee, c.callId.bytes
          ++ wordBytes c.caller ++ wordBytes c.callee ++ [byteOf c.priority.code]⟩ := by
  unfold State.acceptOriginating
  dsimp only
  rw [State.takeLeg_eq, show (if LegState.originating = .active then none else some (t.now + t.params.setup.ms))
    = some (t.now + t.params.setup.ms) from rfl, ← State.callerTaken, hroom]
  refine (if_pos (Bool.and_eq_true_iff.mpr h)).trans ?_
  dsimp only
  rw [State.takeLeg_eq, show (if LegState.ringing = .active then none else some (v.now + v.params.setup.ms))
    = some (v.now + v.params.setup.ms) from rfl, ← State.calleePaired, ← hw]
  rfl

/-! ### Legs without a voice sequence -/

theorem Leg.activate_of_silent {l : Leg} (h : l.lastVoice = none) : l.activate = { l with state := .active, setupTimer := none } := by
  rw [Leg.activate, ← h]

/-- The search for room changes no leg's voice sequence. -/
theorem State.findRoom_lastVoice (s : State) (p : Priority) (k : Fin 8) :
    ((s.findRoom p).1.leg k).lastVoice = (s.leg k).lastVoice := by
  have hclear (v : Fin 8) : ((s.preempted v).leg k).lastVoice = (s.leg k).lastVoice := by
    have hleg : (s.preempted v).leg k = (s.clearLeg v .preempted .node).leg k := by simp [State.preempted, State.leg]
    rw [hleg]
    by_cases hbusy : (s.leg v).state = .idle
    · rw [s.clearLeg_idle hbusy]
    · rw [s.clearLeg_leg hbusy]
      split <;> rfl
  have hallocate : ((s.allocate p).1.leg k).lastVoice = (s.leg k).lastVoice := by
    unfold State.allocate
    repeat' split
    · rfl
    · exact hclear _
    · rfl
    · rfl
  unfold State.findRoom
  repeat' split
  · rfl
  next u v h => rw [h] at hallocate; exact hallocate
  next u h => rw [h] at hallocate; exact hallocate

theorem State.withLegTaken_leg (s : State) (i : Fin 8) (l : Leg) (k : Fin 8) :
    (s.withLegTaken i l).leg k = if i = k then l else s.leg k :=
  s.leg_setLeg i k l

theorem State.pairLegs_lastVoice (s : State) (i j k : Fin 8) : ((s.pairLegs i j).leg k).lastVoice = (s.leg k).lastVoice := by
  unfold State.pairLegs
  dsimp only
  by_cases hj : j = k
  · rw [State.leg_setLeg, if_pos hj, ← hj]
    by_cases hi : i = j
    · rw [State.leg_setLeg, if_pos hi, ← hi]
    · rw [State.leg_setLeg, if_neg hi]
  · rw [State.leg_setLeg, if_neg hj]
    by_cases hi : i = k
    · rw [State.leg_setLeg, if_pos hi, ← hi]
    · rw [State.leg_setLeg, if_neg hi]

/-- The legs of a call between two units here have passed no voice yet. -/
theorem State.calleePaired_lastVoice {v : State} {j : Fin 8} (hroom : (t.callerTaken i c).findRoom c.priority = (v, .inl j)) :
    ((v.calleePaired i j c).leg i).lastVoice = none ∧ ((v.calleePaired i j c).leg j).lastVoice = none := by
  have hi : (v.leg i).lastVoice = none := by
    have h := (t.callerTaken i c).findRoom_lastVoice c.priority i
    rw [hroom] at h
    refine h.trans ?_
    rw [State.callerTaken, State.withLegTaken_leg, if_pos rfl]
    rfl
  refine ⟨(State.pairLegs_lastVoice _ _ _ _).trans ?_, (State.pairLegs_lastVoice _ _ _ _).trans ?_⟩
  · rw [State.withLegTaken_leg]
    split
    · rfl
    · exact hi
  · rw [State.withLegTaken_leg, if_pos rfl]
    rfl

end

/-! ### A setup's frame (R100, R105) -/

section

variable {s : State} {p : Port} {f : Frame} {c : Setup}

theorem setupOf_bytes (h : f.payload = c.callId.bytes ++ wordBytes c.caller ++ wordBytes c.callee ++ [byteOf c.priority.code]) :
    setupOf f.payload = some c := by
  have hcode : Priority.ofCode (byteOf c.priority.code).toNat = some c.priority := by cases c.priority <;> rfl
  have hbytes : f.payload = [c.callId.node, c.callId.serial, c.caller.extractLsb' 8 8, c.caller.extractLsb' 0 8,
    c.callee.extractLsb' 8 8, c.callee.extractLsb' 0 8, byteOf c.priority.code] := h
  rw [hbytes, setupOf]
  simp only [hcode, wordOf_highByte_lowByte]

theorem State.inspect_setup (hkind : f.kind? = some .callSetup) (h : setupOf f.payload = some c) :
    s.inspect p f = if p = .radio then (s.setupFromRadio f c, false) else s.setupFromBackbone f c := by
  unfold State.inspect
  rw [hkind]
  simp only [h]

/-- A setup on the radio is its own unit's, through this node (R100). -/
def State.OwnSetup (s : State) (f : Frame) (c : Setup) : Prop :=
  (isMiner f.src = true ∨ isVehicle f.src = true) ∧ c.caller = f.src ∧ s.nodeAddr? = some (c.callId.node.setWidth 16)

theorem State.ownSetup_iff : (isUnit f.src && c.caller == f.src && s.nodeAddr? == some (c.callId.node.setWidth 16)) = true
    ↔ s.OwnSetup f c := by
  simp [State.OwnSetup, isUnit, and_assoc]

theorem State.setupFromRadio_stray (h : ¬ s.OwnSetup f c) : s.setupFromRadio f c = s.straySignal :=
  if_neg (mt State.ownSetup_iff.mp h)

/-- A leg holds the setup's call id at the originating side. -/
def Leg.holdsOrig (l : Leg) (c : Setup) : Bool := l.direction == .orig && l.callId == c.callId

/-- A leg is in a glare with a setup at the originating side (R112). -/
def Leg.glaresOrig (l : Leg) (c : Setup) : Bool :=
  l.direction == .term && l.state == .ringing && l.localParty == c.caller && l.remoteParty == c.callee

theorem Leg.holdsOrig_iff {l : Leg} : l.holdsOrig c = true ↔ l.direction = .orig ∧ l.callId = c.callId := by
  simp [Leg.holdsOrig]

theorem Leg.glaresOrig_iff {l : Leg} : l.glaresOrig c = true ↔ l.direction = .term ∧ l.state = .ringing
    ∧ l.localParty = c.caller ∧ l.remoteParty = c.callee := by
  simp [Leg.glaresOrig, and_assoc]

theorem State.setupFromRadio_own (h : s.OwnSetup f c) : s.setupFromRadio f c
    = match s.findLeg (fun l => l.holdsOrig c) with
      | some i => if (s.leg i).localParty = c.caller then s.straySignal else s.refuseSetup c .idInUse
      | none =>
        match s.findLeg (fun l => l.glaresOrig c) with
        | some i => s.glareOriginating i c
        | none => s.originating c false :=
  (if_pos (State.ownSetup_iff.mpr h)).trans rfl

/-- A leg holds the setup's call at the terminating side. -/
def Leg.holdsTerm (l : Leg) (c : Setup) : Bool := l.direction == .term && l.callId == c.callId && l.localParty == c.callee

/-- A leg is in a glare with a setup at the terminating side (R111). -/
def Leg.glaresTerm (l : Leg) (c : Setup) : Bool :=
  l.direction == .orig && l.state == .originating && l.localParty == c.callee && l.remoteParty == c.caller

theorem Leg.holdsTerm_iff {l : Leg} :
    l.holdsTerm c = true ↔ l.direction = .term ∧ l.callId = c.callId ∧ l.localParty = c.callee := by
  simp [Leg.holdsTerm, and_assoc]

theorem Leg.glaresTerm_iff {l : Leg} : l.glaresTerm c = true ↔ l.direction = .orig ∧ l.state = .originating
    ∧ l.localParty = c.callee ∧ l.remoteParty = c.caller := by
  simp [Leg.glaresTerm, and_assoc]

/-- A setup from the backbone is for a unit attached here (R105). -/
def State.SetupHere (s : State) (f : Frame) (c : Setup) : Prop :=
  f.dest = c.callee ∧ isUnit c.callee = true ∧ s.attachedHere c.callee = true

theorem State.setupHere_iff : (f.dest == c.callee && isUnit c.callee && s.attachedHere c.callee) = true ↔ s.SetupHere f c := by
  simp [State.SetupHere, and_assoc]

theorem State.setupFromBackbone_away (h : ¬ s.SetupHere f c) : s.setupFromBackbone f c = (s, true) :=
  if_neg (mt State.setupHere_iff.mp h)

theorem State.setupFromBackbone_here (h : s.SetupHere f c) : s.setupFromBackbone f c
    = match s.findLeg (fun l => l.holdsTerm c) with
      | some _ => (s.straySignal, false)
      | none =>
        match s.findLeg (fun l => l.glaresTerm c) with
        | some i => s.glareTerminating i c
        | none => s.terminating c false :=
  (if_pos (State.setupHere_iff.mpr h)).trans rfl

/-! ### Glares (R111, R112) -/

theorem State.glareOriginating_lost {i : Fin 8} (h : c.caller.toNat ≤ c.callee.toNat) :
    s.glareOriginating i c = (s.clearLeg i .glare .node).originating c true :=
  if_neg (Nat.not_lt.mpr h)

theorem State.glareOriginating_survives {i : Fin 8} (h : c.callee.toNat < c.caller.toNat)
    (hpartner : ∀ j, (s.leg i).partner = some j → (s.leg j).state ≠ .originating) :
    s.glareOriginating i c = (s.setLeg i (s.leg i).activate).answerBoth c.callee c.caller (s.leg i).callId := by
  unfold State.glareOriginating
  rw [if_pos h]
  dsimp only
  cases hp : (s.leg i).partner with
  | none => rfl
  | some j =>
    dsimp only
    rw [if_neg (hpartner j hp)]

theorem State.glareOriginating_pair {i j : Fin 8} (h : c.callee.toNat < c.caller.toNat) (hpartner : (s.leg i).partner = some j)
    (hj : (s.leg j).state = .originating) : s.glareOriginating i c
      = ((s.setLeg i (s.leg i).activate).setLeg j ((s.setLeg i (s.leg i).activate).leg j).activate).answerBoth
          c.callee c.caller (s.leg i).callId := by
  unfold State.glareOriginating
  rw [if_pos h]
  dsimp only
  rw [hpartner]
  dsimp only
  rw [if_pos hj]

/-! ### A terminating setup (R105) -/

theorem State.findRoom_now {s t : State} {q : Priority} {x : Fin 8 ⊕ ClearCause} (h : s.findRoom q = (t, x)) :
    t.now = s.now ∧ t.params = s.params := by
  have hnow : (s.findRoom q).1.now = s.now := by simp
  have hparams : (s.findRoom q).1.params = s.params := by simp [State.params]
  rw [h] at hnow hparams
  exact ⟨hnow, hparams⟩

theorem State.terminating_refused {t : State} {x : ClearCause} {active : Bool} (h : s.findRoom c.priority = (t, .inr x)) :
    s.terminating c active = (t.setupRefused c x, false) := by
  rw [State.terminating, h]
  rfl

theorem State.terminating_rings {t : State} {i : Fin 8} (h : s.findRoom c.priority = (t, .inl i)) :
    s.terminating c false = ((t.withLegTaken i (c.legFor .term .ringing (some (s.now + s.params.setup.ms)))).originate
      ⟨.callAlerting, c.caller, c.callId.bytes⟩, true) := by
  obtain ⟨hnow, hparams⟩ := State.findRoom_now h
  rw [State.terminating, h, ← hnow, ← hparams]
  dsimp only
  rw [State.takeLeg_eq]
  rfl

theorem State.terminating_won {t : State} {i : Fin 8} (h : s.findRoom c.priority = (t, .inl i)) :
    s.terminating c true = ((t.withLegTaken i (c.legFor .term .active none)).answerBoth c.callee c.caller c.callId, false) := by
  rw [State.terminating, h]
  dsimp only
  rw [State.takeLeg_eq]
  rfl

end

/-! ### The clauses -/

/-- What an originating setup finds, in one (R101, R102). -/
theorem State.originating_findsRoom (s : State) {c : Setup} {won : Bool} (hgood : calleeGood c = true)
    (h : s.Allowed c.clamped) : s.FindsRoom c.clamped.priority (fun cause => (s.setupRefused c.clamped cause, false))
      (fun t i => (t.acceptOriginating i c.clamped won, false)) (s.originating c won, false) := by
  obtain ⟨hrefused, haccepted⟩ := State.originating_allowed (won := won) hgood h
  exact State.findsRoom_of (fun x hx => congrArg (·, false) (hrefused s x hx))
    (fun t i hi => congrArg (·, false) (haccepted t i hi))

/-- What a callee who is here finds (R103). -/
theorem State.acceptOriginating_findsRoom {t : State} {i : Fin 8} {c : Setup} {won : Bool}
    (h : isUnit c.callee = true ∧ t.attachedHere c.callee = true) : (t.callerTaken i c).FindsRoom c.priority
      (fun cause => ((t.callerTaken i c).clearLeg i cause .node, false))
      (fun v j => (if won then
          let v := v.withLegTaken j (c.legFor .term .ringing (some (t.now + t.params.setup.ms)))
          let v := v.setLeg i { v.leg i with partner := some j }
          let w := v.setLeg j { v.leg j with partner := some i }
          let w := w.setLeg i { w.leg i with state := .active, setupTimer := none }
          (((w.setLeg j { w.leg j with state := .active, setupTimer := none }).originate
            ⟨.callAnswer, c.caller, c.callId.bytes⟩).originate ⟨.callAnswer, c.callee, c.callId.bytes⟩)
        else
          let v := v.withLegTaken j (c.legFor .term .ringing (some (t.now + t.params.setup.ms)))
          let v := v.setLeg i { v.leg i with partner := some j }
          let w := v.setLeg j { v.leg j with partner := some i }
          (w.originate ⟨.callAlerting, c.caller, c.callId.bytes⟩).originate
            ⟨.callSetup, c.callee, c.callId.bytes ++ wordBytes c.caller ++ wordBytes c.callee
              ++ [byteOf c.priority.code]⟩, false))
      (t.acceptOriginating i c won, false) := by
  refine State.findsRoom_of (fun x hx => congrArg (·, false) (State.acceptOriginating_full h hx)) fun v j hroom => ?_
  obtain ⟨hnow, hparams⟩ := State.findRoom_now hroom
  obtain ⟨w, hw⟩ : ∃ w, w = v.calleePaired i j c := ⟨_, rfl⟩
  have htimer : (t.now + t.params.setup.ms) = v.now + v.params.setup.ms := by
    rw [hnow, hparams]
    rfl
  obtain ⟨hi, hj⟩ := State.calleePaired_lastVoice hroom
  rw [← hw] at hi hj
  have hj' : ((w.setLeg i { w.leg i with state := .active, setupTimer := none }).leg j).lastVoice = none := by
    rw [State.leg_setLeg]
    split
    · exact hi
    · exact hj
  rw [State.acceptOriginating_here h hroom w hw, htimer, Leg.activate_of_silent hi, Leg.activate_of_silent hj', hw]
  rfl

/-- Settles O52: every search for a leg is `State.findsRoom_of`; the legs that hold a setup's call or are in a glare with it are
found by `State.findLeg_of_only`. -/
theorem originatingSetupChecked : Obligations.OriginatingSetupChecked := by
  refine ⟨fun s c => ?_, fun s asked won => ?_, fun t i c won => ?_, fun s f c hkind hpayload => ?_,
    fun s p f c hp hkind hpayload => ?_⟩
  · intro callee q permitted refused
    have hclamped : c.clamped = { c with priority := q } := c.clamped_eq
    have hrefused (cause : ClearCause) : s.setupRefused c.clamped cause = refused cause := by rw [hclamped]; rfl
    have hallowed : s.Allowed c.clamped ↔ q = .emergency ∨ permitted := by
      rw [hclamped]
      exact or_congr_right (s.permitted_iff c.caller c.callee)
    refine ⟨fun h => ?_, fun hcallee hne => ?_⟩
    · rw [State.originating_badCallee (Bool.eq_false_iff.mpr fun hgood => ?_), hrefused]
      obtain ⟨hcallee, hne⟩ := (calleeGood_iff c).mp hgood
      exact h.elim (fun hno => hno hcallee) hne
    have hgood : calleeGood c = true := (calleeGood_iff c).mpr ⟨hcallee, hne⟩
    refine ⟨fun hq hno => ?_, fun hyes => ?_⟩
    · rw [State.originating_notPermitted hgood fun h => (hallowed.mp h).elim hq hno, hrefused]
    obtain ⟨hrestricted, hroom⟩ := s.originating_findsRoom (won := false) hgood (hallowed.mpr hyes)
    have hpriority : c.clamped.priority = q := by rw [hclamped]
    rw [hpriority] at hrestricted hroom
    refine ⟨fun hlow => ?_, fun hlow => ?_⟩
    · exact (congrArg Prod.fst (hrestricted hlow)).trans (hrefused _)
    obtain ⟨hlowest, hbusy, -⟩ := hroom hlow
    refine ⟨fun hfull hall => (congrArg Prod.fst (hbusy hfull hall)).trans (hrefused _), fun i hbelow hidle hbefore haway => ?_⟩
    refine (congrArg Prod.fst (hlowest i hbelow ⟨hidle, hbefore⟩)).trans ?_
    rw [hclamped]
    refine State.acceptOriginating_away (c := { c with priority := q }) ?_
    rintro ⟨hunit, hattached⟩
    rcases haway with h | h
    · exact Bool.false_ne_true (h.symm.trans hunit)
    · exact Bool.false_ne_true (h.symm.trans hattached)
  · intro c hcallee hne hpermitted
    have hclamped : asked.clamped = c := rfl
    have hgood : calleeGood asked = true := by
      rw [calleeGood, ← asked.clamped_callee, ← asked.clamped_caller, hclamped]
      exact (calleeGood_iff c).mpr ⟨hcallee, hne⟩
    have hallowed : s.Allowed asked.clamped := hpermitted.imp_right (s.permitted_iff c.caller c.callee).mpr
    exact s.originating_findsRoom hgood hallowed
  · exact ⟨fun h => State.acceptOriginating_away h, fun h => State.acceptOriginating_findsRoom h⟩
  · intro stray good holds glare answered told
    have hsetup := setupOf_bytes hpayload
    have hinspect : s.inspect .radio f = (s.setupFromRadio f c, false) := (State.inspect_setup hkind hsetup).trans (if_pos rfl)
    have hholds (i : Fin 8) : holds i ↔ (s.leg i).state ≠ .idle ∧ (s.leg i).holdsOrig c = true :=
      and_congr_right fun _ => Leg.holdsOrig_iff.symm
    have hglare (i : Fin 8) : glare i ↔ (s.leg i).glaresOrig c = true := Leg.glaresOrig_iff.symm
    have hring {i : Fin 8} (h : glare i) : (s.leg i).state ≠ .idle := by
      rw [h.2.1]
      decide
    have hnone (h : ∀ i, ¬ holds i) : s.findLeg (fun l => l.holdsOrig c) = none :=
      State.findLeg_eq_none fun i hbusy => Bool.eq_false_iff.mpr fun hp => h i ((hholds i).mpr ⟨hbusy, hp⟩)
    rw [hinspect]
    refine ⟨fun h => ?_, fun hgood i hi honly => ?_, fun hgood hno hnoGlare => ?_, fun hgood hno i honly => ?_⟩
    · rw [State.setupFromRadio_stray h]
      rfl
    · obtain ⟨hbusy, hp⟩ := (hholds i).mp hi
      rw [State.setupFromRadio_own hgood, State.findLeg_of_only hbusy hp fun j hb hq => honly j ((hholds j).mpr ⟨hb, hq⟩)]
      exact ⟨fun h => congrArg (·, false) (if_pos h), fun h => congrArg (·, false) (if_neg h)⟩
    · rw [State.setupFromRadio_own hgood, hnone hno,
        State.findLeg_eq_none fun i _ => Bool.eq_false_iff.mpr (mt (hglare i).mpr (hnoGlare i))]
    · have hi := (honly i).mpr rfl
      rw [State.setupFromRadio_own hgood, hnone hno, State.findLeg_of_only (hring hi) ((hglare i).mp hi)
        fun j _ hq => (honly j).mp ((hglare j).mpr hq)]
      refine ⟨fun hlt => ⟨fun hpartner => ?_, fun j hpartner hj => ?_⟩, fun hle => ?_⟩
      · exact congrArg (·, false) (State.glareOriginating_survives hlt hpartner)
      · exact congrArg (·, false) (State.glareOriginating_pair hlt hpartner hj)
      · exact congrArg (·, false) (State.glareOriginating_lost hle)
  · intro stray here held glare told
    have hsetup := setupOf_bytes hpayload
    have hinspect : s.inspect p f = s.setupFromBackbone f c := (State.inspect_setup hkind hsetup).trans (if_neg hp)
    have hheld (i : Fin 8) : ((s.leg i).state ≠ .idle ∧ (s.leg i).direction = .term ∧ (s.leg i).callId = c.callId
        ∧ (s.leg i).localParty = c.callee) ↔ (s.leg i).state ≠ .idle ∧ (s.leg i).holdsTerm c = true :=
      and_congr_right fun _ => Leg.holdsTerm_iff.symm
    have hglare (i : Fin 8) : glare i ↔ (s.leg i).glaresTerm c = true := Leg.glaresTerm_iff.symm
    have hring {i : Fin 8} (h : glare i) : (s.leg i).state ≠ .idle := by
      rw [h.2.1]
      decide
    have hnone (h : ¬ held) : s.findLeg (fun l => l.holdsTerm c) = none :=
      State.findLeg_eq_none fun i hbusy => Bool.eq_false_iff.mpr fun hq => h ⟨i, (hheld i).mpr ⟨hbusy, hq⟩⟩
    rw [hinspect]
    refine ⟨State.setupFromBackbone_away, fun hhere hh => ?_, fun hhere hno hnoGlare => ?_, fun hhere hno i honly => ?_⟩
    · rw [State.setupFromBackbone_here hhere]
      cases hfind : s.findLeg (fun l => l.holdsTerm c) with
      | some i => rfl
      | none =>
        obtain ⟨i, hi⟩ := hh
        obtain ⟨hbusy, hq⟩ := (hheld i).mp hi
        refine absurd ?_ (List.find?_eq_none.mp hfind i (mem_legIndices i))
        rw [Bool.and_eq_true]
        exact ⟨bne_iff_ne.mpr hbusy, hq⟩
    · rw [State.setupFromBackbone_here hhere, hnone hno,
        State.findLeg_eq_none fun i _ => Bool.eq_false_iff.mpr (mt (hglare i).mpr (hnoGlare i))]
      exact State.findsRoom_of (fun x hx => State.terminating_refused hx) (fun t i hi => State.terminating_rings hi)
    · have hi := (honly i).mpr rfl
      rw [State.setupFromBackbone_here hhere, hnone hno, State.findLeg_of_only (hring hi) ((hglare i).mp hi)
        fun j _ hq => (honly j).mp ((hglare j).mpr hq)]
      refine ⟨fun hlt => if_pos hlt, fun hle => ?_⟩
      intro v
      have hlost : s.glareTerminating i c = v.terminating c true := if_neg (Nat.not_lt.mpr hle)
      show v.FindsRoom _ _ _ (s.glareTerminating i c)
      rw [hlost]
      exact State.findsRoom_of (fun x hx => State.terminating_refused hx) (fun t i hi => State.terminating_won hi)

end Sys2Proof.Machine
end
